-- ==== Sys2Proof/Syntax.lean ====
section
/-! DEFINITION. The commands the block takes: one constructor of Instr for each row of spec/opcode_table.json, with the operands that come from outside. -/
namespace Sys2Proof

/-- A CXL.mem read as it arrives at a port (04_cxl_host_ports.md R137, R141, R151, R153; 05 R188). -/
structure HostRead where
  /-- head that carries it (R130) -/
  head : Nat
  /-- LD index within the head (MULTI-HEADED, R137) -/
  ld : Nat
  /-- source PBR ID (G-FAM, R141) -/
  pbr : Nat
  /-- host physical address of the line -/
  addr : Nat
  tag : Nat
  /-- asks for a cacheable copy (R151) -/
  cacheable : Bool
  /-- asks for an exclusive copy (R153) -/
  excl : Bool
deriving DecidableEq, Repr

/-- A CXL.mem store (RwD) as it arrives at a port (04_cxl_host_ports.md R152, R157, R162; 05 R191). -/
structure HostStore where
  head : Nat
  ld : Nat
  pbr : Nat
  addr : Nat
  tag : Nat
  data : Line
  /-- bytes written -/
  mask : BitVec 64
  /-- the Poison bit of the RwD (R162) -/
  poison : Bool
deriving DecidableEq, Repr

/-- A holder's answer to a BISnp (04_cxl_host_ports.md R152, R153, R155). -/
structure BiRsp where
  /-- LD number (MULTI-HEADED) or host ID (G-FAM) of the holder -/
  holder : Nat
  /-- line number of the snoop -/
  line : Nat
  /-- a write-back of the line follows (05 R201) -/
  dirty : Bool
  /-- a BIConflict in place of the answer, which still follows (R155) -/
  conflict : Bool
deriving DecidableEq, Repr

/-- What one link training attempt reached (04_cxl_host_ports.md R131, R132). -/
structure LinkTrained where
  /-- the attempt trained at all -/
  ok : Bool
  /-- 1 8 GT/s, 2 16 GT/s, 3 32 GT/s, 4 64 GT/s -/
  speed : Nat
  /-- lanes -/
  width : Nat
deriving DecidableEq, Repr

/-- A decoder as its owner programs it (04_cxl_host_ports.md R144). -/
structure DecoderCfg where
  base : Nat
  size : Nat
  /-- interleave ways: 1, 2, 4, 8 or 16 -/
  ways : Nat
  /-- interleave granularity in bytes: 256 to 16384 -/
  gran : Nat
  /-- DPA base -/
  dpa : Nat
deriving DecidableEq, Repr

/-- One store of a line that a resync page or a mirror packet carries. -/
structure LineStore where
  data : Line
  mask : BitVec 64
deriving DecidableEq, Repr

/-- A claim frame as the voted bus carried it (12_twin_operation_and_claims.md, Claim frame; R464 to R466). -/
structure ClaimFrame where
  /-- the sender's claim number -/
  claim : BitVec 64
  sets : BitVec 64
  act : BitVec 3
  /-- the CRC field -/
  crc : BitVec 16
  /-- lanes that read against the voted value in this frame (R473) -/
  bad : BitVec 3
deriving DecidableEq, Repr

/-- How a frame this unit sent ended (R467, R468). -/
inductive FrameEnd where
  /-- ACK sampled dominant -/
  | acked
  /-- ACK sampled recessive -/
  | unacked
  /-- a dominant value was read on a recessive bit of CLAIM (R467) -/
  | lost
deriving DecidableEq, Repr

/-- KIND of a claim frame (12, Claim frame). -/
inductive ClaimKind where
  | renew | claim | release
deriving DecidableEq, Repr

/-- The lanes of CLM_A to CLM_C and what they showed while a frame was sent (R473). -/
structure SentFrame where
  kind : ClaimKind
  ending : FrameEnd
  /-- lanes that read against the voted value -/
  bad : BitVec 3
  /-- lanes that stayed recessive through a dominant bit this unit drove -/
  recessive : BitVec 3
deriving DecidableEq, Repr

/-- The UT header (13_umond_transport.md R499); reserved fields read 0. -/
structure UtHdr where
  ver : Nat
  op : Nat
  retx : Bool
  poison : Bool
  complete : Bool
  cls : Nat
  path : Nat
  srcNode : Nat
  srcCtx : Nat
  dstNode : Nat
  dstCtx : Nat
  msn : Nat
  pkt : Nat
  npktM1 : Nat
  berth : Nat
  code : Nat
  gen : Nat
  offset : Nat
  len : Nat
  ackFloor : Nat
  txTime : Nat
  echoTime : Nat
  residence : Nat
  pmask : BitVec 64
deriving DecidableEq, Repr

/-- A UT packet as a frame brought it to a link (13 R494, R499). -/
structure UtPkt where
  link : Nat
  hdr : UtHdr
  payload : List Byte
  /-- FCS and UDP checksum passed, and the frame was UDP to UTE_NET.PORT at an address of the link (R494) -/
  frameOk : Bool
  /-- the trailer's CRC-32C -/
  trailer : BitVec 32
  /-- bytes of its receive buffer's share already taken on this port, as the port found it (R528) -/
  bufFull : Bool
deriving DecidableEq, Repr

/-- Carriers of command packets with the tag stream each names (14_command_packets.md R543). -/
inductive Carrier where
  /-- mailbox of an LD -/
  | mailbox (ld : Nat)
  /-- MCTP, source EID -/
  | mctp (eid : Nat)
  /-- UT context 0, source node and context -/
  | ut (node ctx : Nat)
deriving DecidableEq, Repr

/-- A command packet as its carrier delivers it (14_command_packets.md R540). The OPCODE of a row's packet is the row's;
only COMMAND_UNKNOWN_OPCODE names another. -/
structure Cmd where
  carrier : Carrier
  /-- bytes the carrier delivered -/
  byteCount : Nat
  ver : BitVec 8
  flags : BitVec 8
  tag : BitVec 32
  token : BitVec 64
  len : Nat
  /-- header bytes 0x14 to 0x1B -/
  reserved : BitVec 64
  crc : BitVec 32
  payload : List Byte
deriving DecidableEq, Repr

/-- Event logs of an LD (04_cxl_host_ports.md, event logs; R166). -/
inductive EvLog where
  | informational | warning | failure | fatal | dynCap
deriving DecidableEq, Repr

/-- How a flash codeword read ended (08_flash_tier.md R284 to R287). -/
inductive CodewordResult where
  /-- the hard decode passed -/
  | hard
  /-- a soft decode passed after this many retries -/
  | soft (retries : Nat)
  /-- every retry failed; whether the page was rebuilt from its stripe -/
  | failed (rebuilt : Bool)
deriving DecidableEq, Repr

/-- The 20 bytes PK_MISO returned, or none when the front-end did not answer (11_energy_pack_and_power_loss.md R407, R408). -/
structure Frame where
  bytes : Option (List Byte)
deriving DecidableEq, Repr

/-- A heartbeat frame of TWIN_HB: its 8b/10b-decoded bytes, and whether every code group was valid (12 R457). -/
structure HbFrame where
  bytes : List Byte
  codesOk : Bool
deriving DecidableEq, Repr

/-- Where an uncorrectable error lies in a Stevedore (15_control_complex.md R591). -/
inductive CoreUe where
  /-- cache entry of this index -/
  | entry (i : Nat)
  /-- a side-buffer line -/
  | side (line : Nat)
  | localMem
deriving DecidableEq, Repr

/-- The DIMM population found at start-up, the same in every slot (09_dram_and_stacked_memory.md R315, R316, R319). -/
structure DimmPop where
  /-- DIMMs per channel, 1 or 2 -/
  dpc : Nat
  /-- package ranks per DIMM, 1 or 2 -/
  pr : Nat
  /-- 3DS height, 1, 2 or 4 -/
  height : Nat
  /-- BL16 bursts per row per subchannel, 64 or 128 -/
  ncb : Nat
  rowBits : Nat
  /-- bytes of one DIMM -/
  bytes : Nat
  /-- 32 Gb devices -/
  dense : Bool
  /-- SPD minima in ps: CL, tRCD, tRP, tRFCsb (R318) -/
  clPs : Nat
  rcdPs : Nat
  rpPs : Nat
  rfcsbPs : Nat
  /-- thresholds RAAIMT and RAAMMT of the DIMMs (R332) -/
  raaimt : Nat
  raammt : Nat
deriving DecidableEq, Repr

/-- The flash population found at start-up (08_flash_tier.md R271, R272). -/
structure FlashPop where
  /-- packages on each of the 32 channels (R271) -/
  onChannel : List Nat
  /-- raw bytes of one package -/
  pkgBytes : Nat
  /-- bits per cell of the NAND profile (R270) -/
  bpc : Nat
  /-- sectors in one block, from the profile geometry (R277) -/
  blockSectors : Nat
  /-- CE of a package and LUNs of a CE, of its geometry (R269) -/
  ces : Nat
  luns : Nat
  /-- blocks in one die -/
  dieBlocks : Nat
  /-- rated erase count -/
  rated : Nat
  /-- read-disturb threshold -/
  disturb : Nat
  /-- the maxima that the profile states, in µs: tR and tPROG in native and in SLC mode, suspend latency (R270) -/
  readUs : Nat
  readSlcUs : Nat
  progUs : Nat
  progSlcUs : Nat
  suspendUs : Nat
  /-- channels whose packages' parameter pages match the profile (R270) -/
  matching : BitVec 32
deriving DecidableEq, Repr
/-- Packages in all. -/
def FlashPop.packages (p : FlashPop) : Nat := p.onChannel.sum
/-- Dies in one package. -/
def FlashPop.pkgDies (p : FlashPop) : Nat := p.ces * p.luns

/-- Whose read meets an uncorrectable error: SOURCE of the error log (10_integrity_and_check_units.md R391). Those of patrol scrub and of
staging have rows of their own. -/
inductive UeReader where
  | demand
  /-- the flusher, or the save engine -/
  | flush
  | move
  /-- a check unit -/
  | check
deriving DecidableEq, Repr
/-- A read of a line that meets an uncorrectable error (R375). -/
structure UeRead where
  line : Nat
  reader : UeReader
deriving DecidableEq, Repr

/-- What start-up finds at the pins and in the populations (17_clocks_reset_and_startup.md R641, R644). -/
structure StartEnv where
  dimms : DimmPop
  flash : FlashPop
  /-- the population breaks R317 -/
  dimmBad : Bool
  /-- ONFI channels that trained, bit c -/
  onfi : BitVec 32
  /-- DIMMs that are there and trained: bit 2c + d for DIMM d of channel c -/
  ddr : BitVec 24
  /-- HBM channels that trained -/
  hbm : BitVec 16
  /-- end of each step 0 to 4 in µs from the start point -/
  ends : List Nat
deriving DecidableEq, Repr

/-- Samples of the main island's sensors (18_settings_cells_and_recorder.md R680): junction temperature in 0.1 °C, rails in mV. -/
structure RecSample where
  tj : Int
  rails : List Int
deriving DecidableEq, Repr

/-- IDE mode asked for a link's CXL.mem stream (04_cxl_host_ports.md R158 to R160). -/
inductive IdeReq where
  | off | containment | skid
deriving DecidableEq, Repr

/-- What an SRAM word that patrol scrub finds uncorrectable is part of (10_integrity_and_check_units.md R367). -/
inductive SramUe where
  /-- the Landing-queue entry at this place of the queue -/
  | landing (index : Nat)
  /-- the page-state word of a page in the Yard -/
  | psWord (page : Nat)
  /-- the record of a UT context in the Yard -/
  | utCtx (ctx : Nat)
  /-- the parked packet at this place of the Shed -/
  | shed (index : Nat)
  /-- an entry of another queue that belongs to a read of a line, or word `word` of a store to it -/
  | read (line : Nat)
  | store (line word : Nat)
  /-- a word that holds nothing in use -/
  | unused
deriving DecidableEq, Repr

/-- What patrol scrub finds in the next line or word of a store (10_integrity_and_check_units.md R389, R390). -/
inductive ScrubFound where
  | clean
  /-- corrected; the failing x4 device of a DRAM line, 0xFF for none -/
  | corrected (device : Nat)
  /-- uncorrectable; the steps of R375 or R261 whose copies fail too -/
  | uncorrectable (bad : List Nat)
  | sram (w : SramUe)
deriving DecidableEq, Repr
/-- A read of patrol scrub: the store, tier 0 to 4, and what the read finds. -/
structure ScrubRead where
  tier : Nat
  found : ScrubFound
deriving DecidableEq, Repr

/-- A standard mailbox command: its opcode and its input payload (04_cxl_host_ports.md R134). -/
structure MboxCommand where
  code : Nat
  payload : List Byte
deriving DecidableEq, Repr

/-- A command of the block: one row of the table. -/
inductive Instr where
  /-- HOST_READ (R188) -/
  | hostRead (r : HostRead)
  /-- HOST_STORE_L (R191) -/
  | hostStoreL (st : HostStore)
  /-- HOST_STORE_M (R195) -/
  | hostStoreM (st : HostStore)
  /-- HOST_STORE_V (R192) -/
  | hostStoreV (st : HostStore)
  /-- HELD_STORE_ADMIT (R72) -/
  | heldStoreAdmit
  /-- INGRESS_STORE_RESUME (R60) -/
  | ingressStoreResume
  /-- LANDING_DRAIN (R58) -/
  | landingDrain (line : Nat)
  /-- BIRSP_RECEIVED (R152) -/
  | birspReceived (b : BiRsp)
  /-- BISNP_TIMEOUT (R156) -/
  | bisnpTimeout (line : Nat) (holder : Nat)
  /-- HOST_WRITEBACK (R157) -/
  | hostWriteback (st : HostStore)
  /-- GPF_PHASE2_REQUEST (R78) -/
  | gpfPhase2Request (head : Nat)
  /-- GPF_PHASE2_COMPLETE (R78) -/
  | gpfPhase2Complete (head : Nat)
  /-- VIRAL_RECEIVED (R174) -/
  | viralReceived (head : Nat)
  /-- IDE_MAC_FAILURE (R160) -/
  | ideMacFailure (head : Nat)
  /-- CXL_LINK_DOWN (R171) -/
  | cxlLinkDown (head : Nat)
  /-- CXL_LINK_TRAIN_ATTEMPT (R131) -/
  | cxlLinkTrainAttempt (head : Nat) (t : LinkTrained)
  /-- PERST_ASSERT (R173) -/
  | perstAssert (port : Nat)
  /-- FUNCTION_LEVEL_RESET (R173) -/
  | functionLevelReset (ld : Nat)
  /-- GFAM_HOST_BIND (R141) -/
  | gfamHostBind (host : Nat) (pbr : Nat) (group : Nat)
  /-- HOST_DC_ADD_RESPONSE (R148) -/
  | hostDcAddResponse (ld : Nat) (region : Nat) (accept : Bool)
  /-- HOST_DC_RELEASE (R148) -/
  | hostDcRelease (ld : Nat) (region : Nat)
  /-- DC_OFFER_TIMEOUT (R149) -/
  | dcOfferTimeout (region : Nat)
  /-- GET_POISON_LIST (R164) -/
  | getPoisonList (ld : Nat)
  /-- INJECT_POISON (R163) -/
  | injectPoison (ld : Nat) (dla : Nat)
  /-- CLEAR_POISON (R163) -/
  | clearPoison (ld : Nat) (dla : Nat) (data : Line)
  /-- GET_EVENT_RECORDS (R166) -/
  | getEventRecords (ld : Nat) (log : EvLog) (count : Nat)
  /-- GET_HEALTH_INFO (R729) -/
  | getHealthInfo (ld : Nat)
  /-- GET_PARMOS_REPLY (R544) -/
  | getParmosReply (ld : Nat)
  /-- MAILBOX_UNSUPPORTED_OPCODE (R134): a standard opcode without a row of its own -/
  | mailboxUnsupportedOpcode (ld : Nat) (opcode : MboxCommand)
  /-- GET_FW_INFO (R561) -/
  | getFwInfo (ld : Nat)
  /-- TRANSFER_FW (R561) -/
  | transferFw (ld : Nat) (offset : Nat) (data : List Byte) (end_ : Bool)
  /-- ACTIVATE_FW (R561) -/
  | activateFw (ld : Nat) (slot : Nat) (online : Bool)
  /-- FLUSHER_TAKE_PAGE (R71) -/
  | flusherTakePage
  /-- FLUSH_DURABLE (R61) -/
  | flushDurable (page : Nat) (sector : Nat)
  /-- FLASH_PROGRAM_FAIL (R291) -/
  | flashProgramFail (page : Nat) (block : Nat)
  /-- WRITE_THROUGH_DURABLE (R82) -/
  | writeThroughDurable (page : Nat) (sector : Nat)
  /-- PADDOCK_LIMIT_UPDATE (R65) -/
  | paddockLimitUpdate
  /-- REGION_CREATE (R98) -/
  | regionCreate (c : Cmd)
  /-- REGION_SET_FLAGS (R121) -/
  | regionSetFlags (c : Cmd)
  /-- REGION_DELETE (R98) -/
  | regionDelete (c : Cmd)
  /-- REGION_DC_RELEASE (R98) -/
  | regionDcRelease (c : Cmd)
  /-- REGION_QUERY (R558) -/
  | regionQuery (c : Cmd)
  /-- RETYPE_DONE (R98) -/
  | retypeDone (region : Nat)
  /-- REGION_DRAIN_DONE (R98) -/
  | regionDrainDone (region : Nat)
  /-- HEAT_DECAY_SWEEP (R110) -/
  | heatDecaySweep
  /-- PROMOTION_SWEEP (R113) -/
  | promotionSweep
  /-- DRAM_EVICTION (R113) -/
  | dramEviction
  /-- V_PAGE_SPILL (R113) -/
  | vPageSpill (page : Nat)
  /-- PAGE_MOVE_DONE (R116) -/
  | pageMoveDone (page : Nat)
  /-- FLASH_FETCH_DONE (R113) -/
  | flashFetchDone (page : Nat)
  /-- PAGE_STATE_FETCH_DONE (R184) -/
  | pageStateFetchDone (page : Nat) (quay : Bool)
  /-- TIDE_TABLE_CREATE (R241) -/
  | tideTableCreate (c : Cmd)
  /-- TIDE_ENTRY_ADD (R239) -/
  | tideEntryAdd (c : Cmd)
  /-- TIDE_TABLE_OPEN (R241) -/
  | tideTableOpen (c : Cmd)
  /-- TIDE_TABLE_CLOSE (R241) -/
  | tideTableClose (c : Cmd)
  /-- TIDE_SHARER_JOIN (R242) -/
  | tideSharerJoin (c : Cmd)
  /-- TIDE_SHARER_LEAVE (R243) -/
  | tideSharerLeave (c : Cmd)
  /-- TIDE_STEP_SET (R246) -/
  | tideStepSet (c : Cmd)
  /-- SHARER_IDLE_TIMEOUT (R242) -/
  | sharerIdleTimeout (h : Nat)
  /-- STAGING_BEGIN (R248) -/
  | stagingBegin
  /-- STAGING_COPY_DONE (R250) -/
  | stagingCopyDone (page : Nat)
  /-- STAGED_COPY_FREE (R255) -/
  | stagedCopyFree (page : Nat)
  /-- STAGED_UE_RECOVERY (R261) -/
  | stagedUeRecovery (page : Nat) (line : Nat) (bad : List Nat)
  /-- FLASH_READ_DONE (R284) -/
  | flashReadDone (page : Nat) (outcome : CodewordResult)
  /-- STRIPE_CLOSE_TIMEOUT (R289) -/
  | stripeCloseTimeout (stripe : Nat)
  /-- GARBAGE_COLLECT (R293) -/
  | garbageCollect (block : Nat)
  /-- STATIC_WEAR_LEVEL (R295) -/
  | staticWearLevel (block : Nat)
  /-- READ_DISTURB_RELOCATE (R296) -/
  | readDisturbRelocate (block : Nat)
  /-- RETENTION_SCRUB (R297) -/
  | retentionScrub (block : Nat) (weak : Bool)
  /-- DIE_RETIRE (R299) -/
  | dieRetire (ch : Nat) (die : Nat)
  /-- FLASH_CHANNEL_LOSS (R285) -/
  | flashChannelLoss (ch : Nat)
  /-- BACKGROUND_RESTORE (R308) -/
  | backgroundRestore
  /-- MAP_LOAD (R309) -/
  | mapLoad
  /-- FOLD_EXTENT (R310) -/
  | foldExtent
  /-- SAME_BANK_REFRESH (R331) -/
  | sameBankRefresh (ch : Nat) (rank : Nat)
  /-- REFRESH_MANAGEMENT (R332) -/
  | refreshManagement (ch : Nat) (bank : Nat)
  /-- DIMM_THERMAL_READ (R330) -/
  | dimmThermalRead (ch : Nat) (slot : Nat) (temp : Int)
  /-- RETRAIN_PAUSE (R335) -/
  | retrainPause (ch : Nat)
  /-- ROW_IDLE_CLOSE (R323) -/
  | rowIdleClose (ch : Nat) (bank : Nat)
  /-- PANIC_MAX_EXPIRY (R328) -/
  | panicMaxExpiry (ch : Nat) (port : Nat)
  /-- DRAM_ACCESS_DONE (R186) -/
  | dramAccessDone (addr : Nat)
  /-- QUAY_ACCESS_DONE (R187) -/
  | quayAccessDone (addr : Nat)
  /-- DRAM_FREQ_SET (R339) -/
  | dramFreqSet (c : Cmd)
  /-- FREQ_CHANGE_DONE (R342) -/
  | freqChangeDone
  /-- DIMM_LOSS (R348) -/
  | dimmLoss (ch : Nat) (slot : Nat)
  /-- DIMM_REHOME_PAGE (R380) -/
  | dimmRehomePage (page : Nat)
  /-- QUAY_CHANNEL_LOSS (R357) -/
  | quayChannelLoss (ch : Nat)
  /-- QUAY_REFRESH (R355) -/
  | quayRefresh
  /-- HBM_THERMAL_READ (R355) -/
  | hbmThermalRead (temp : Int)
  /-- D_CLEAR_PASS (R347) -/
  | dClearPass
  /-- OUTSIDE_MASK_DIMM_RETURN (R346) -/
  | outsideMaskDimmReturn
  /-- CORRECTED_WRITEBACK (R362) -/
  | correctedWriteback (line : Nat)
  /-- UE_RECOVERY (R375) -/
  | ueRecovery (read : UeRead)
  /-- UE_RECOVERY_RESOLVED (R378) -/
  | ueRecoveryResolved (line : Nat) (bad : List Nat)
  /-- MERGE_IDLE_DRAIN (R364) -/
  | mergeIdleDrain (group : Nat) (word : Nat)
  /-- PATROL_SCRUB (R389) -/
  | patrolScrub (tier : ScrubRead)
  /-- POISON_LIST_REBUILD (R374) -/
  | poisonListRebuild
  /-- PAGE_RETIRE (R385) -/
  | pageRetire (c : Cmd)
  /-- RANK_SPARE (R387) -/
  | rankSpare (c : Cmd)
  /-- EVACUATION_DONE (R388) -/
  | evacuationDone
  /-- CHECK_START (R397) -/
  | checkStart (c : Cmd)
  /-- CHECK_STATUS (R403) -/
  | checkStatus (c : Cmd)
  /-- CHECK_STOP (R401) -/
  | checkStop (c : Cmd)
  /-- CHK_CTRL_START (R405) -/
  | chkCtrlStart (unit : Nat)
  /-- CHK_CTRL_STOP (R401) -/
  | chkCtrlStop (unit : Nat)
  /-- CHECK_SCAN_LINE (R399) -/
  | checkScanLine (unit : Nat)
  /-- FRONT_END_FRAME_READ (R407) -/
  | frontEndFrameRead (frame : Frame)
  /-- PK_ALERT (R407) -/
  | pkAlert (frame : Frame)
  /-- ENERGY_MODEL_UPDATE (R412) -/
  | energyModelUpdate
  /-- REST_CORRECTION (R413) -/
  | restCorrection
  /-- HEALTH_FADE (R414) -/
  | healthFade
  /-- CHARGE_CURRENT_LOOP (R419) -/
  | chargeCurrentLoop
  /-- CHARGE_VOLTAGE_LOOP (R419) -/
  | chargeVoltageLoop
  /-- HEATER_LOOP (R420) -/
  | heaterLoop
  /-- PACK_PROFILE_SET (R410) -/
  | packProfileSet (c : Cmd)
  /-- PACK_REHEARSE (R426) -/
  | packRehearse (c : Cmd)
  /-- REHEARSAL_START (R425) -/
  | rehearsalStart
  /-- REHEARSAL_POSTPONE (R425) -/
  | rehearsalPostpone
  /-- REHEARSAL_RETRY (R425) -/
  | rehearsalRetry
  /-- REH_TRANSFER_TIMEOUT (R423) -/
  | rehTransferTimeout
  /-- REH_PHASE_A_END (R423) -/
  | rehPhaseAEnd
  /-- REH_PHASE_B_END (R424) -/
  | rehPhaseBEnd
  /-- REHEARSAL_BLOCK_ERASE (R423) -/
  | rehearsalBlockErase
  /-- PFAIL_QUALIFIED (R430) -/
  | pfailQualified
  /-- RIDE_POWER_RETURN (R430) -/
  | ridePowerReturn
  /-- RIDE_EXPIRY (R430) -/
  | rideExpiry
  /-- SAVE_COMMIT (R434) -/
  | saveCommit
  /-- VAON_SAMPLE (R437) -/
  | vaonSample (mv : Nat)
  /-- EPC_C_SAVE_WRITE (R440) -/
  | epcCSaveWrite (value : Word32)
  /-- EPC_P_RUN_WRITE (R440) -/
  | epcPRunWrite (value : Word32)
  /-- REH_START_WRITE (R426) -/
  | rehStartWrite
  /-- EPOCH_MARK_TIMER (R452) -/
  | epochMarkTimer
  /-- RESYNC_PAGE_SEND (R455) -/
  | resyncPageSend
  /-- HEARTBEAT_SEND (R456) -/
  | heartbeatSend
  /-- TWIN_HB_FRAME (R457) -/
  | twinHbFrame (f : HbFrame)
  /-- HB_PATH_LOSS (R458) -/
  | hbPathLoss (side : Bool)
  /-- TWIN_LOST (R458) -/
  | twinLost
  /-- CLAIM_FRAME_RENEW (R468) -/
  | claimFrameRenew (f : ClaimFrame)
  /-- CLAIM_FRAME_CLAIM (R469) -/
  | claimFrameClaim (f : ClaimFrame)
  /-- CLAIM_FRAME_RELEASE (R468) -/
  | claimFrameRelease (f : ClaimFrame)
  /-- CLAIM_FRAME_SENT (R468) -/
  | claimFrameSent (f : SentFrame)
  /-- EPOCH_WRITE_DONE (R668) -/
  | epochWriteDone
  /-- LEASE_RENEW_TIMER (R470) -/
  | leaseRenewTimer
  /-- LEASE_LAPSE_HOLDER (R470) -/
  | leaseLapseHolder
  /-- LEASE_LAPSE_OBSERVER (R470) -/
  | leaseLapseObserver
  /-- LANE_STUCK_DOMINANT (R473) -/
  | laneStuckDominant (lane : Nat)
  /-- JOIN_WAIT_EXPIRY (R475) -/
  | joinWaitExpiry
  /-- TWIN_GRANT (R485) -/
  | twinGrant (c : Cmd)
  /-- TWIN_HANDOVER (R479) -/
  | twinHandover (c : Cmd)
  /-- HANDOVER_RELEASE (R479) -/
  | handoverRelease
  /-- TAKEOVER (R481) -/
  | takeover
  /-- FWD_WAIT_EXPIRY (R480) -/
  | fwdWaitExpiry (tag : Nat)
  /-- SF_SWEEP_PAGE (R482) -/
  | sfSweepPage (page : Nat)
  /-- UT_WRITE (R515) -/
  | utWrite (p : UtPkt)
  /-- UT_READ (R757) -/
  | utRead (p : UtPkt)
  /-- UT_READ_RESP (R523) -/
  | utReadResp (p : UtPkt)
  /-- UT_FADD (R518) -/
  | utFadd (p : UtPkt)
  /-- UT_CAS (R518) -/
  | utCas (p : UtPkt)
  /-- UT_ATOMIC_RESP (R518) -/
  | utAtomicResp (p : UtPkt)
  /-- UT_FLUSH (R520) -/
  | utFlush (p : UtPkt)
  /-- UT_FLUSH_ANSWER (R520) -/
  | utFlushAnswer (ctx : Nat)
  /-- UT_ACK (R523) -/
  | utAck (p : UtPkt)
  /-- UT_NACK (R523) -/
  | utNack (p : UtPkt)
  /-- UT_PROBE (R502) -/
  | utProbe (p : UtPkt)
  /-- UT_MIRROR (R530) -/
  | utMirror (p : UtPkt)
  /-- MIRROR_ACK_SEND (R75) -/
  | mirrorAckSend
  /-- UT_MIRROR_ACK (R449) -/
  | utMirrorAck (p : UtPkt)
  /-- EPOCH_MARK (R532) -/
  | epochMark (p : UtPkt)
  /-- PAGE_NOTICE (R532) -/
  | pageNotice (p : UtPkt)
  /-- REGION_NOTICE (R532) -/
  | regionNotice (p : UtPkt)
  /-- RESYNC_PAGE (R532) -/
  | resyncPage (p : UtPkt)
  /-- KEPT_LIST (R532) -/
  | keptList (p : UtPkt)
  /-- STALE_CLEAR (R532) -/
  | staleClear (p : UtPkt)
  /-- REH_JOIN (R532) -/
  | rehJoin (p : UtPkt)
  /-- REH_RESULT (R532) -/
  | rehResult (p : UtPkt)
  /-- UT_FWD_REQ (R533) -/
  | utFwdReq (p : UtPkt)
  /-- UT_FWD_RESP (R533) -/
  | utFwdResp (p : UtPkt)
  /-- UT_HEARTBEAT (R458) -/
  | utHeartbeat (p : UtPkt)
  /-- UT_CMD (R758) -/
  | utCmd (p : UtPkt)
  /-- CONTEXT_FETCH_DONE (R526) -/
  | contextFetchDone (ctx : Nat)
  /-- SQ_TAIL_WRITE (R504) -/
  | sqTailWrite (agent : Nat) (ctx : Nat) (value : Word32)
  /-- CQ_HEAD_WRITE (R504) -/
  | cqHeadWrite (agent : Nat) (ctx : Nat) (value : Word32)
  /-- LEASE_DOORBELL_WRITE (R504) -/
  | leaseDoorbellWrite (agent : Nat) (ctx : Nat) (value : Word32)
  /-- DOORBELL_APERTURE_STORE (R695) -/
  | doorbellApertureStore (st : HostStore)
  /-- DESC_WRITE (R506) -/
  | descWrite (ctx : Nat)
  /-- DESC_READ (R506) -/
  | descRead (ctx : Nat)
  /-- DESC_FADD (R506) -/
  | descFadd (ctx : Nat)
  /-- DESC_CAS (R506) -/
  | descCas (ctx : Nat)
  /-- DESC_FLUSH (R520) -/
  | descFlush (ctx : Nat)
  /-- DESC_WAIT (R508) -/
  | descWait (ctx : Nat)
  /-- WAIT_SLOT_RETRY (R508) -/
  | waitSlotRetry
  /-- PACKET_SEND (R525) -/
  | packetSend (ctx : Nat) (msn : Nat) (pkt : Nat)
  /-- MIRROR_PACKET_SEND (R194) -/
  | mirrorPacketSend
  /-- RETX_TIMEOUT (R522) -/
  | retxTimeout (ctx : Nat) (msn : Nat) (pkt : Nat)
  /-- MESSAGE_LIFE_EXPIRY (R522) -/
  | messageLifeExpiry (ctx : Nat) (msn : Nat)
  /-- RETRY_RESEND (R523) -/
  | retryResend (ctx : Nat) (msn : Nat) (pkt : Nat)
  /-- PATH_PROBE_TIMER (R524) -/
  | pathProbeTimer
  /-- ETH_LINK_DOWN (R524) -/
  | ethLinkDown (link : Nat)
  /-- ETH_LINK_UP (R539) -/
  | ethLinkUp (link : Nat)
  /-- MCT_HOLD_EXPIRY (R516) -/
  | mctHoldExpiry (ctx : Nat) (node : Nat) (srcCtx : Nat) (msn : Nat)
  /-- BERTH_LEASE_SWEEP (R511) -/
  | berthLeaseSweep
  /-- SLOW_PATH_PACKET (R492) -/
  | slowPathPacket (link : Nat) (bytes : Nat)
  /-- UT_CTX_OPEN (R502) -/
  | utCtxOpen (c : Cmd)
  /-- UT_CTX_CLOSE (R558) -/
  | utCtxClose (c : Cmd)
  /-- UT_BERTH_OPEN (R510) -/
  | utBerthOpen (c : Cmd)
  /-- UT_BERTH_CLOSE (R510) -/
  | utBerthClose (c : Cmd)
  /-- UT_BERTH_RENEW (R510) -/
  | utBerthRenew (c : Cmd)
  /-- UT_DEST_SET (R496) -/
  | utDestSet (c : Cmd)
  /-- COMMAND_UNKNOWN_OPCODE (R541) -/
  | commandUnknownOpcode (op : Nat) (c : Cmd)
  /-- MCTP_SET_ENDPOINT_ID (R543) -/
  | mctpSetEndpointId (eid : Nat)
  /-- MCTP_GET_ENDPOINT_ID (R543) -/
  | mctpGetEndpointId
  /-- MCTP_GET_VERSION_SUPPORT (R543) -/
  | mctpGetVersionSupport
  /-- MCTP_GET_MESSAGE_TYPE_SUPPORT (R543) -/
  | mctpGetMessageTypeSupport
  /-- ERR_LOG_READ (R558) -/
  | errLogRead (c : Cmd)
  /-- FLASH_SCRUB_NOW (R558) -/
  | flashScrubNow (c : Cmd)
  /-- MEM_CHANNEL_SET (R350) -/
  | memChannelSet (c : Cmd)
  /-- SETTINGS_READ (R558) -/
  | settingsRead (c : Cmd)
  /-- SETTINGS_WRITE (R558) -/
  | settingsWrite (c : Cmd)
  /-- KEY_SET_AT_REST (R283) -/
  | keySetAtRest (c : Cmd)
  /-- REC_INFO (R558) -/
  | recInfo (c : Cmd)
  /-- REC_READ (R558) -/
  | recRead (c : Cmd)
  /-- LOOPBACK_SET (R734) -/
  | loopbackSet (c : Cmd)
  /-- LOOPBACK_STATUS (R558) -/
  | loopbackStatus (c : Cmd)
  /-- FW_INFO (R558) -/
  | fwInfo (c : Cmd)
  /-- FW_WRITE (R560) -/
  | fwWrite (c : Cmd)
  /-- FW_VERIFY (R559) -/
  | fwVerify (c : Cmd)
  /-- FW_ACTIVATE (R560) -/
  | fwActivate (c : Cmd)
  /-- POWER_STATE_SET (R631) -/
  | powerStateSet (c : Cmd)
  /-- STANDBY_ENTRY_DONE (R632) -/
  | standbyEntryDone
  /-- HOST_L1_EXIT (R631) -/
  | hostL1Exit (head : Nat)
  /-- STANDBY_EXIT_DONE (R633) -/
  | standbyExitDone
  /-- AON_DRAIN_COMPLETE (R634) -/
  | aonDrainComplete
  /-- CORE_LOAD (R573) -/
  | coreLoad (core : Nat) (addr : Nat) (size : Nat)
  /-- CORE_STORE (R573) -/
  | coreStore (core : Nat) (addr : Nat) (data : List Byte)
  /-- STORE_BUFFER_ISSUE (R575) -/
  | storeBufferIssue (core : Nat)
  /-- PREFETCH_FILL (R576) -/
  | prefetchFill (core : Nat)
  /-- CACHE_PREFETCH (R576) -/
  | cachePrefetch (core : Nat)
  /-- CACHE_ZERO_LINE (R577) -/
  | cacheZeroLine (core : Nat)
  /-- CACHE_LOCK (R579) -/
  | cacheLock (core : Nat)
  /-- CACHE_UNLOCK (R579) -/
  | cacheUnlock (core : Nat)
  /-- CACHE_WRITEOUT (R580) -/
  | cacheWriteout (core : Nat)
  /-- CACHE_INVAL (R581) -/
  | cacheInval (core : Nat)
  /-- CACHE_DISABLE (R582) -/
  | cacheDisable (core : Nat)
  /-- INTERRUPT_ENTRY (R612) -/
  | interruptEntry (core : Nat)
  /-- INTERRUPT_RETURN (R612) -/
  | interruptReturn (core : Nat)
  /-- LANE_DISAGREE (R586) -/
  | laneDisagree (lane : Nat)
  /-- RESYNC_JOIN (R586) -/
  | resyncJoin
  /-- LANE_INJECT (R596) -/
  | laneInject (lanes : BitVec 3)
  /-- NO_MAJORITY (R589) -/
  | noMajority
  /-- HM_RESTART_DONE (R590) -/
  | hmRestartDone
  /-- STEVEDORE_UE (R591) -/
  | stevedoreUe (core : Nat) (where_ : CoreUe)
  /-- STEVEDORE_RELOAD_DONE (R591) -/
  | stevedoreReloadDone (core : Nat)
  /-- CORE_TIMER_FIRE (R593) -/
  | coreTimerFire (core : Nat) (timer : Nat)
  /-- WATCHDOG_KICK (R594) -/
  | watchdogKick (core : Nat) (value : Word32)
  /-- WATCHDOG_FIRE (R594) -/
  | watchdogFire (core : Nat)
  /-- SOURCE_EDGE (R601) -/
  | sourceEdge (src : Nat)
  /-- ICU_CLAIM (R608) -/
  | icuClaim (core : Nat)
  /-- ICU_COMPLETE (R609) -/
  | icuComplete (core : Nat) (src : Nat)
  /-- ICU_PEND_SET (R622) -/
  | icuPendSet (src : Nat)
  /-- ICU_PEND_CLR (R622) -/
  | icuPendClr (src : Nat)
  /-- ICU_SRC_CFG_WRITE (R601) -/
  | icuSrcCfgWrite (src : Nat) (value : Word32)
  /-- AON_WATCH_FIRE (R615) -/
  | aonWatchFire (src : Nat)
  /-- REF_CLOCK_LOSS (R628) -/
  | refClockLoss
  /-- REF_CLOCK_RESTORED (R628) -/
  | refClockRestored
  /-- REF_LOSS_RESET_SAVE (R628) -/
  | refLossResetSave
  /-- XTAL_STOP (R629) -/
  | xtalStop
  /-- XTAL_RECOVER (R629) -/
  | xtalRecover
  /-- VAON_POWER_ON (R635) -/
  | vaonPowerOn
  /-- AON_RST_ASSERT (R635) -/
  | aonRstAssert
  /-- PWR_GOOD_RISE (R635) -/
  | pwrGoodRise
  /-- PWR_GOOD_FALL (R640) -/
  | pwrGoodFall
  /-- RAIL_UNDERVOLTAGE (R719) -/
  | railUndervoltage
  /-- SYS_RST_QUALIFIED (R638) -/
  | sysRstQualified
  /-- START_UP (R641) -/
  | startUp (e : StartEnv)
  /-- STARTUP_STEP_TIMEOUT (R644) -/
  | startupStepTimeout
  /-- SET_WORD_WRITE (R658) -/
  | setWordWrite (agent : Nat) (word : Nat) (value : Word32)
  /-- SETTINGS_WRITE_DONE (R658) -/
  | settingsWriteDone (word : Nat)
  /-- GROUP_WRITE_STAGE_DONE (R662) -/
  | groupWriteStageDone
  /-- OPERATING_HOURS_TICK (R672) -/
  | operatingHoursTick
  /-- RECORDER_TRANSFER (R680) -/
  | recorderTransfer (x : RecSample)
  /-- RECORDER_ARM (R671) -/
  | recorderArm
  /-- REGISTER_WRITE (R696) -/
  | registerWrite (agent : Nat) (off : Nat) (data : List Byte)
  /-- LOOPBACK_GO_WRITE (R734) -/
  | loopbackGoWrite (agent : Nat)
  /-- LOOPBACK_START (R736) -/
  | loopbackStart (slot : Nat)
  /-- TAP_RESET (R745) -/
  | tapReset
  /-- JTAG_IDCODE (R745) -/
  | jtagIdcode
  /-- JTAG_BYPASS (R745) -/
  | jtagBypass
  /-- JTAG_SAMPLE_PRELOAD (R745) -/
  | jtagSamplePreload (bits : Nat)
  /-- JTAG_EXTEST (R746) -/
  | jtagExtest
  /-- JTAG_EXTEST_PULSE (R746) -/
  | jtagExtestPulse
  /-- JTAG_EXTEST_TRAIN (R746) -/
  | jtagExtestTrain
  /-- JTAG_HIGHZ (R746) -/
  | jtagHighz
  /-- JTAG_CLAMP (R746) -/
  | jtagClamp
  /-- JTAG_SCAN (R746) -/
  | jtagScan
  /-- JTAG_MBIST (R746) -/
  | jtagMbist
  /-- JTAG_HBM1500 (R746) -/
  | jtagHbm1500
  /-- DBG_ACCESS (R752) -/
  | dbgAccess (write : Bool) (off : Nat) (size : Nat) (data : List Byte)
  /-- SYS_RST_RELEASE (R638) -/
  | sysRstRelease
  /-- PFAIL_RISE (R646) -/
  | pfailRise
  /-- PERST_RELEASE (R643) -/
  | perstRelease (port : Nat)
  /-- AON_RST_RELEASE (R720) -/
  | aonRstRelease
  /-- TWIN_HB_ALIGNMENT_ACQUIRE (R457) -/
  | twinHbAlignmentAcquire
  /-- TWIN_HB_ALIGNMENT_LOSS (R457) -/
  | twinHbAlignmentLoss
  /-- READ_SNAPSHOT (R697) -/
  | readSnapshot (agent : Nat) (off : Nat) (size : Nat)
  /-- SET_EVENT_INTERRUPT_POLICY (R618) -/
  | setEventInterruptPolicy (ld : Nat) (log : EvLog) (vector : Option Nat)
  /-- CLEAR_EVENT_RECORDS (R166) -/
  | clearEventRecords (ld : Nat) (log : EvLog) (handles : List Nat)
  /-- IDE_KM (R158) -/
  | ideKm (head : Nat) (mem : IdeReq) (io : Bool)
  /-- GFD_DECODER_COMMIT (R144) -/
  | gfdDecoderCommit (head : Nat) (index : Nat) (d : DecoderCfg)
  /-- GFAM_HOST_UNBIND (R242) -/
  | gfamHostUnbind (host : Nat)
  /-- MIRROR_FETCH_TIMEOUT (R264) -/
  | mirrorFetchTimeout (page : Nat)
  /-- SHARED_REHEARSAL_PHASE_A (R428) -/
  | sharedRehearsalPhaseA
  /-- ONFI_CHANNEL_TRAINED (R739) -/
  | onfiChannelTrained (ch : Nat)
  /-- FACTORY_BAD_BLOCK_READ (R650) -/
  | factoryBadBlockRead (block : Nat) (bad : Bool)
deriving DecidableEq, Repr

end Sys2Proof
end

