-- ==== Sys2Proof/Machine/Crc.lean ====
section
/-! DEFINITION. The cyclic redundancy checks (10_integrity_and_check_units.md R396, R397), used by check units, packets, frames and digests. -/
namespace Sys2Proof.Machine

/-- A CRC of the table of R396; the register is held in unreflected order (R397). -/
structure CrcKind where
  width : Nat
  poly : Nat
  init : Nat
  refl : Bool
  xorOut : Nat
deriving DecidableEq, Repr

/-- R396: POLY 0 to 3; other values do not occur in the 2-bit field. -/
def crcKind : Nat → CrcKind
  | 0 => ⟨32, 0x1EDC6F41, 0xFFFFFFFF, true, 0xFFFFFFFF⟩
  | 1 => ⟨32, 0x04C11DB7, 0xFFFFFFFF, true, 0xFFFFFFFF⟩
  | 2 => ⟨64, 0x42F0E1EBA9EA3693, 0, false, 0⟩
  | _ => ⟨16, 0x8BB7, 0, false, 0⟩

/-- One bit into the register. -/
def CrcKind.stepBit (k : CrcKind) (v : Nat) (b : Bool) : Nat :=
  let s := (2 * v) % 2 ^ k.width
  if v.testBit (k.width - 1) != b then s ^^^ k.poly else s

/-- One byte into the register, least significant bit first where the input is reflected. -/
def CrcKind.stepByte (k : CrcKind) (v : Nat) (b : Byte) : Nat :=
  (List.range 8).foldl (fun a i => k.stepBit a (b.getLsbD (if k.refl then i else 7 - i))) v

/-- The running register after some bytes. -/
def CrcKind.run (k : CrcKind) (v : Nat) (bs : List Byte) : Nat := bs.foldl k.stepByte v

/-- A number's low `w` bits in reverse order. -/
def revBits : Nat → Nat → Nat
  | 0, _ => 0
  | w + 1, v => 2 ^ w * (v % 2) + revBits w (v / 2)

/-- RESULT from VALUE (R397). -/
def CrcKind.result (k : CrcKind) (v : Nat) : Nat := (if k.refl then revBits k.width v else v) ^^^ k.xorOut

/-- The CRC of a string of bytes. -/
def crcOf (poly : Nat) (bs : List Byte) : Nat := (crcKind poly).result ((crcKind poly).run (crcKind poly).init bs)

end Sys2Proof.Machine
end

