-- ==== Sys2Proof/Config.lean ====
section
/-! DEFINITION. What one device fixes, and the values the spec leaves open: opaque constants that no proof can see into. -/
namespace Sys2Proof.Config

/-- A value the spec leaves open, one for each index of `State.fresh` (log 1). -/
opaque free : Nat → Nat
/-- A phase term of a clock crossing, 0 or 1 cycle of the receiving domain (00_scope.md R8; log 3). -/
opaque phase : Nat → Bool
/-- GEN_DEVICE_ID.GRADE, fused: 0 QM-6400, 1 QM-6400-X (19_register_space.md R706; log 5). -/
opaque grade : BitVec 4
/-- GEN_SERIAL, fused (19_register_space.md R706; log 5). -/
opaque serial : Word64
/-- Node of the twin, which no rule names (13_umond_transport.md R530; log 31). -/
opaque twinNode : Nat
/-- Does a staged firmware image verify (14_command_packets.md R559; log 32)? -/
opaque imageOk : List (Nat × Byte) → Bool
/-- Version of a firmware image (14_command_packets.md R559; log 32). -/
opaque imageVersion : List (Nat × Byte) → Nat
/-- Byte of the boot ROM, whose content no rule gives (15_control_complex.md R568; log 34). -/
opaque bootRom : Nat → Byte

/-- The 512-bit XTS key that the KDF of SP 800-108 derives from the 256-bit master key, for a region index and RGEN; the label and the lengths
that it feeds no rule gives (08_flash_tier.md R283; log 88). -/
opaque xtsKey : Nat → Nat → Nat → Nat
/-- AES-XTS-256 encryption of one data unit under a key and a tweak (08_flash_tier.md R282; log 88). -/
opaque xtsEncrypt : Nat → Nat → List Byte → List Byte
/-- The LZ4 block of a page; which of the blocks that decompress to it the compressors make no rule gives (08_flash_tier.md R280; log 88). -/
opaque lz4Block : List Byte → List Byte
/-- Effects of a mailbox opcode in the Command Effects Log, which no rule gives (04_cxl_host_ports.md R134; log 98). -/
opaque celEffects : Nat → BitVec 16
/-- The MSI-X vector of mailbox interrupts in the Mailbox capability of an LD, which no rule gives (16_interrupts_and_events.md R618; log 101). -/
opaque mailboxVector : BitVec 2
/-- Word `i` of the DIMM population record in the settings cells, from the items of a population; the layout no rule gives
(18_settings_cells_and_recorder.md R655; log 102). -/
opaque dimmWord : List Nat → Nat → Word32
/-- CORE cycles for which a per-bank refresh holds a bank of the Quay, which no rule gives (09_dram_and_stacked_memory.md R355; log 99). -/
opaque quayRefreshTime : Nat
/-- Obdon's manufacturer code in IDCODE, which no rule gives (21_test_loopback_and_debug.md R745; log 37). -/
opaque obdonCode : BitVec 11

end Sys2Proof.Config
end

