-- ==== Sys2Proof/Machine/RegMap.lean ====
section
/-! DEFINITION. The register map: every register of spec/ with its place, width, island, settings word and fields, written from the field tables of the chapters (19_register_space.md R688, R705, R709). -/
namespace Sys2Proof.Machine

/-- Register access types (00_scope.md R14). -/
inductive Access where
  | ro | rw | w1c | w1s | wo | rc | rwp | ros
deriving DecidableEq, Repr

/-- One field of a register: bits, access type, power-on value (R15; 0 where the table gives no number). -/
structure FieldSpec where
  hi : Nat
  lo : Nat
  acc : Access
  reset : Nat
deriving DecidableEq, Repr

/-- One row of a register map: instance (i, j) lies at base + s1 × i + s2 × j. -/
structure RegSpec where
  name : String
  base : Nat
  s1 : Nat
  n1 : Nat
  s2 : Nat
  n2 : Nat
  /-- width in bits -/
  bits : Nat
  /-- in the AON island (R636, R688) -/
  aon : Bool
  /-- a view of typed state, not stored in `regs` -/
  view : Bool
  /-- first settings word (R656, R705) -/
  word : Option Nat
  fields : List FieldSpec
deriving DecidableEq, Repr

/-- The place of one field: the BAR0 offset of its register and its bits. -/
structure Fld where
  off : Nat
  hi : Nat
  lo : Nat
deriving DecidableEq, Repr

/-- Rows of the register map (GEN_DEVICE_ID to GEN_NOC_STALL). -/
def regTable0 : List RegSpec :=
  [⟨"GEN_DEVICE_ID", 0x0, 0x0, 1, 0x0, 1, 32, false, false, none, [⟨31, 16, .ro, 0x6400⟩, ⟨11, 8, .ro, 0x0⟩, ⟨7, 0, .ro, 0xB0⟩]⟩,
   ⟨"GEN_LD_INFO", 0x4, 0x0, 1, 0x0, 1, 32, false, true, none, [⟨31, 31, .ro, 0x0⟩, ⟨27, 24, .ro, 0x0⟩, ⟨21, 16, .ro, 0x0⟩, ⟨11, 8, .ro, 0x0⟩, ⟨2, 1, .ro, 0x0⟩, ⟨0, 0, .ro, 0x0⟩]⟩,
   ⟨"GEN_SERIAL", 0x8, 0x0, 1, 0x0, 1, 64, false, false, none, [⟨63, 0, .ro, 0x0⟩]⟩,
   ⟨"GEN_FW_VERSION", 0x10, 0x0, 1, 0x0, 1, 32, false, false, none, [⟨31, 0, .ro, 0x0⟩]⟩,
   ⟨"GEN_SCRATCH", 0x14, 0x0, 1, 0x0, 1, 32, false, true, none, [⟨31, 0, .rw, 0x0⟩]⟩,
   ⟨"GEN_IGN_LAST", 0x18, 0x0, 1, 0x0, 1, 64, false, false, none, [⟨63, 63, .w1c, 0x0⟩, ⟨57, 56, .ro, 0x0⟩, ⟨47, 40, .ro, 0x0⟩, ⟨25, 0, .ro, 0x0⟩]⟩,
   ⟨"GEN_IGN_WR_CNT", 0x20, 0x0, 1, 0x0, 1, 32, false, false, none, [⟨31, 0, .rw, 0x0⟩]⟩,
   ⟨"GEN_CNT_STATUS", 0x24, 0x0, 1, 0x0, 1, 32, false, false, none, [⟨0, 0, .w1c, 0x0⟩]⟩,
   ⟨"GEN_ASSET", 0x40, 0x0, 1, 0x0, 1, 32, false, false, some 0x0, [⟨31, 0, .rwp, 0x0⟩]⟩,
   ⟨"GEN_NOC_WEIGHT", 0x800, 0x0, 1, 0x0, 1, 32, false, false, some 0x1, [⟨19, 16, .rwp, 0x8⟩, ⟨15, 12, .rwp, 0x4⟩, ⟨11, 8, .rwp, 0x8⟩, ⟨7, 4, .rwp, 0x2⟩, ⟨3, 0, .rwp, 0x1⟩]⟩,
   ⟨"GEN_NOC_STATUS", 0x804, 0x0, 1, 0x0, 1, 32, false, false, none, [⟨13, 8, .w1c, 0x0⟩, ⟨5, 0, .ro, 0x0⟩]⟩,
   ⟨"GEN_NOC_STALL", 0x810, 0x4, 6, 0x0, 1, 32, false, false, none, [⟨31, 0, .rw, 0x0⟩]⟩]

/-- Rows of the register map (CMD_STATUS to RGN_PDK_LIMIT). -/
def regTable1 : List RegSpec :=
  [⟨"CMD_STATUS", 0x10000, 0x0, 1, 0x0, 1, 32, false, false, none, [⟨10, 10, .ro, 0x0⟩, ⟨9, 9, .ro, 0x0⟩, ⟨8, 8, .ro, 0x0⟩, ⟨6, 0, .ro, 0x0⟩]⟩,
   ⟨"CMD_DC_OFFER_TIMEOUT", 0x10004, 0x0, 1, 0x0, 1, 32, false, false, some 0x20, [⟨15, 0, .rwp, 0x3C⟩]⟩,
   ⟨"CMD_MGMT_LD", 0x10008, 0x0, 1, 0x0, 1, 64, false, false, some 0x21, [⟨63, 0, .rwp, 0x1⟩]⟩,
   ⟨"CMD_MCTP", 0x10010, 0x0, 1, 0x0, 1, 32, false, false, some 0x23, [⟨8, 8, .rwp, 0x0⟩, ⟨6, 0, .rwp, 0x1D⟩]⟩,
   ⟨"CMD_LAST_ERR", 0x10014, 0x0, 1, 0x0, 1, 32, false, false, none, [⟨31, 16, .ro, 0x0⟩, ⟨15, 14, .ro, 0x0⟩, ⟨7, 0, .ro, 0x0⟩]⟩,
   ⟨"CMD_CRC_ERR_CNT", 0x10018, 0x0, 1, 0x0, 1, 32, false, false, none, [⟨31, 0, .rw, 0x0⟩]⟩,
   ⟨"CMD_REFUSED_CNT", 0x1001C, 0x0, 1, 0x0, 1, 32, false, false, none, [⟨31, 0, .rw, 0x0⟩]⟩,
   ⟨"CMD_CNT_STATUS", 0x10020, 0x0, 1, 0x0, 1, 32, false, false, none, [⟨1, 1, .w1c, 0x0⟩, ⟨0, 0, .w1c, 0x0⟩]⟩,
   ⟨"RGN_PDK_STATUS", 0x2F000, 0x0, 1, 0x0, 1, 32, false, false, none, [⟨10, 10, .w1c, 0x0⟩, ⟨9, 9, .w1c, 0x0⟩, ⟨8, 8, .w1c, 0x0⟩, ⟨5, 5, .ro, 0x1⟩, ⟨4, 4, .ro, 0x0⟩, ⟨1, 0, .ro, 0x0⟩]⟩,
   ⟨"RGN_PDK_BYTES", 0x2F008, 0x0, 1, 0x0, 1, 64, false, false, none, [⟨63, 0, .ro, 0x0⟩]⟩,
   ⟨"RGN_PDK_M_BYTES", 0x2F010, 0x0, 1, 0x0, 1, 64, false, false, none, [⟨63, 0, .ro, 0x0⟩]⟩,
   ⟨"RGN_PDK_LIMIT", 0x2F018, 0x0, 1, 0x0, 1, 64, false, false, none, [⟨63, 0, .ro, 0x0⟩]⟩]

/-- Rows of the register map (RGN_PDK_TWIN_LIMIT to RGN_USE_FLASH). -/
def regTable2 : List RegSpec :=
  [⟨"RGN_PDK_TWIN_LIMIT", 0x2F020, 0x0, 1, 0x0, 1, 64, false, false, none, [⟨63, 0, .ro, 0x0⟩]⟩,
   ⟨"RGN_PDK_PEAK", 0x2F028, 0x0, 1, 0x0, 1, 64, false, false, none, [⟨63, 0, .rw, 0x0⟩]⟩,
   ⟨"RGN_FLUSH_CTRL", 0x2F030, 0x0, 1, 0x0, 1, 32, false, false, some 0x40, [⟨23, 8, .rwp, 0x40⟩, ⟨7, 0, .rwp, 0x32⟩]⟩,
   ⟨"RGN_STRETCH_CNT", 0x2F034, 0x0, 1, 0x0, 1, 32, false, false, none, [⟨31, 0, .rw, 0x0⟩]⟩,
   ⟨"RGN_STRETCH_MAX", 0x2F038, 0x0, 1, 0x0, 1, 32, false, false, none, [⟨31, 0, .rw, 0x0⟩]⟩,
   ⟨"RGN_GPF_CNT", 0x2F03C, 0x0, 1, 0x0, 1, 32, false, false, none, [⟨31, 0, .rw, 0x0⟩]⟩,
   ⟨"RGN_CAP_QUAY", 0x2F040, 0x0, 1, 0x0, 1, 64, false, false, none, [⟨63, 0, .ro, 0x0⟩]⟩,
   ⟨"RGN_CAP_DRAM", 0x2F048, 0x0, 1, 0x0, 1, 64, false, false, none, [⟨63, 0, .ro, 0x0⟩]⟩,
   ⟨"RGN_CAP_FLASH", 0x2F050, 0x0, 1, 0x0, 1, 64, false, false, none, [⟨63, 0, .ro, 0x0⟩]⟩,
   ⟨"RGN_USE_QUAY", 0x2F058, 0x0, 1, 0x0, 1, 64, false, false, none, [⟨63, 0, .ro, 0x0⟩]⟩,
   ⟨"RGN_USE_DRAM", 0x2F060, 0x0, 1, 0x0, 1, 64, false, false, none, [⟨63, 0, .ro, 0x0⟩]⟩,
   ⟨"RGN_USE_FLASH", 0x2F068, 0x0, 1, 0x0, 1, 64, false, false, none, [⟨63, 0, .ro, 0x0⟩]⟩]

/-- Rows of the register map (RGN_CAP_CTRL to TIDE_UE_CNT). -/
def regTable3 : List RegSpec :=
  [⟨"RGN_CAP_CTRL", 0x2F070, 0x0, 1, 0x0, 1, 32, false, false, some 0x41, [⟨5, 0, .rwp, 0x10⟩]⟩,
   ⟨"RGN_PLACE_CTRL", 0x2F074, 0x0, 1, 0x0, 1, 32, false, false, some 0x42, [⟨27, 24, .rwp, 0xC⟩, ⟨23, 16, .rwp, 0x64⟩, ⟨15, 8, .rwp, 0x5A⟩, ⟨7, 0, .rwp, 0x50⟩]⟩,
   ⟨"RGN_TBL_STATUS", 0x2F078, 0x0, 1, 0x0, 1, 32, false, false, none, [⟨18, 18, .w1c, 0x0⟩, ⟨17, 17, .w1c, 0x0⟩, ⟨16, 16, .w1c, 0x0⟩, ⟨13, 13, .ro, 0x0⟩, ⟨12, 0, .ro, 0x0⟩]⟩,
   ⟨"RGN_UNMAPPED_CNT", 0x2F07C, 0x0, 1, 0x0, 1, 32, false, false, none, [⟨31, 0, .rw, 0x0⟩]⟩,
   ⟨"RGN_PROMOTE_CNT", 0x2F080, 0x0, 1, 0x0, 1, 32, false, false, none, [⟨31, 0, .rw, 0x0⟩]⟩,
   ⟨"RGN_DEMOTE_CNT", 0x2F084, 0x0, 1, 0x0, 1, 32, false, false, none, [⟨31, 0, .rw, 0x0⟩]⟩,
   ⟨"RGN_ENTRY", 0x30000, 0x10, 4096, 0x0, 1, 128, false, true, none, [⟨127, 0, .ro, 0x0⟩]⟩,
   ⟨"TIDE_CTRL", 0x40000, 0x0, 1, 0x0, 1, 32, false, false, some 0x80, [⟨15, 8, .rwp, 0x14⟩, ⟨6, 0, .rwp, 0x20⟩]⟩,
   ⟨"TIDE_STATUS", 0x40004, 0x0, 1, 0x0, 1, 32, false, false, none, [⟨22, 16, .ro, 0x0⟩, ⟨12, 0, .ro, 0x0⟩]⟩,
   ⟨"TIDE_STAGED_BYTES", 0x40008, 0x0, 1, 0x0, 1, 64, false, false, none, [⟨63, 0, .ro, 0x0⟩]⟩,
   ⟨"TIDE_LATE_CNT", 0x40010, 0x0, 1, 0x0, 1, 32, false, false, none, [⟨31, 0, .rw, 0x0⟩]⟩,
   ⟨"TIDE_UE_CNT", 0x40014, 0x0, 1, 0x0, 1, 32, false, false, none, [⟨31, 0, .rw, 0x0⟩]⟩]

/-- Rows of the register map (TIDE_POISON_CNT to CXP_LNK_CFG). -/
def regTable4 : List RegSpec :=
  [⟨"TIDE_POISON_CNT", 0x40018, 0x0, 1, 0x0, 1, 32, false, false, none, [⟨31, 0, .rw, 0x0⟩]⟩,
   ⟨"TIDE_CNT_STATUS", 0x4001C, 0x0, 1, 0x0, 1, 32, false, false, none, [⟨2, 2, .w1c, 0x0⟩, ⟨1, 1, .w1c, 0x0⟩, ⟨0, 0, .w1c, 0x0⟩]⟩,
   ⟨"TIDE_TBL_CFG", 0x41000, 0x20, 64, 0x0, 1, 32, false, true, none, [⟨31, 30, .ro, 0x0⟩, ⟨29, 28, .ro, 0x0⟩, ⟨25, 25, .rw, 0x0⟩, ⟨24, 24, .rw, 0x0⟩, ⟨19, 14, .ro, 0x0⟩, ⟨13, 8, .ro, 0x0⟩, ⟨5, 0, .ro, 0x0⟩]⟩,
   ⟨"TIDE_TBL_RANGE", 0x41004, 0x20, 64, 0x0, 1, 32, false, true, none, [⟨28, 16, .ro, 0x0⟩, ⟨12, 0, .ro, 0x0⟩]⟩,
   ⟨"TIDE_TBL_QUOTA", 0x41008, 0x20, 64, 0x0, 1, 32, false, true, none, [⟨22, 0, .ro, 0x0⟩]⟩,
   ⟨"TIDE_TBL_USED", 0x4100C, 0x20, 64, 0x0, 1, 32, false, true, none, [⟨22, 0, .ro, 0x0⟩]⟩,
   ⟨"TIDE_TBL_STATUS", 0x41010, 0x20, 64, 0x0, 1, 32, false, true, none, [⟨28, 16, .ro, 0x0⟩, ⟨11, 11, .w1c, 0x0⟩, ⟨10, 0, .ro, 0x0⟩]⟩,
   ⟨"TIDE_TBL_LATE_CNT", 0x41014, 0x20, 64, 0x0, 1, 32, false, true, none, [⟨31, 0, .rw, 0x0⟩]⟩,
   ⟨"TIDE_SHR", 0x48000, 0x8, 4096, 0x0, 1, 64, false, true, none, [⟨63, 32, .ro, 0x0⟩, ⟨31, 30, .ro, 0x0⟩, ⟨29, 24, .ro, 0x0⟩, ⟨16, 16, .ro, 0x0⟩, ⟨15, 0, .ro, 0x0⟩]⟩,
   ⟨"TIDE_ENTRY", 0x50000, 0x10, 8192, 0x0, 1, 128, false, true, none, [⟨127, 0, .ro, 0x0⟩]⟩,
   ⟨"CXP_LNK_STATUS", 0x81000, 0x4000, 4, 0x400, 4, 32, false, false, none, [⟨23, 23, .w1c, 0x0⟩, ⟨22, 22, .w1c, 0x0⟩, ⟨21, 21, .w1c, 0x0⟩, ⟨20, 20, .w1c, 0x0⟩, ⟨19, 16, .ro, 0x0⟩, ⟨15, 15, .ro, 0x0⟩, ⟨14, 14, .ro, 0x0⟩, ⟨13, 13, .ro, 0x0⟩, ⟨12, 12, .ro, 0x0⟩, ⟨10, 6, .ro, 0x0⟩, ⟨5, 3, .ro, 0x0⟩, ⟨2, 0, .ro, 0x0⟩]⟩,
   ⟨"CXP_LNK_CFG", 0x81004, 0x4000, 4, 0x400, 4, 32, false, false, some 0xA0, [⟨7, 4, .rwp, 0x0⟩, ⟨3, 2, .rwp, 0x0⟩, ⟨0, 0, .rwp, 0x1⟩]⟩]

/-- Rows of the register map (CXP_LNK_ERR_CNT to CXP_GFAM_HOST). -/
def regTable5 : List RegSpec :=
  [⟨"CXP_LNK_ERR_CNT", 0x81008, 0x4000, 4, 0x400, 4, 32, false, false, none, [⟨31, 0, .rw, 0x0⟩]⟩,
   ⟨"CXP_LNK_DOWN_CNT", 0x8100C, 0x4000, 4, 0x400, 4, 32, false, false, none, [⟨31, 0, .rw, 0x0⟩]⟩,
   ⟨"CXP_LNK_POISON_CNT", 0x81010, 0x4000, 4, 0x400, 4, 32, false, false, none, [⟨31, 0, .rw, 0x0⟩]⟩,
   ⟨"CXP_LNK_DISCARD_CNT", 0x81014, 0x4000, 4, 0x400, 4, 32, false, false, none, [⟨31, 0, .rw, 0x0⟩]⟩,
   ⟨"CXP_PORT_CFG", 0x82000, 0x4000, 4, 0x0, 1, 32, false, false, some 0xB0, [⟨1, 0, .rwp, 0x0⟩]⟩,
   ⟨"CXP_MODE", 0x83000, 0x0, 1, 0x0, 1, 32, false, false, some 0xB4, [⟨2, 1, .rwp, 0x0⟩, ⟨0, 0, .rwp, 0x0⟩]⟩,
   ⟨"CXP_SF_STATUS", 0x83004, 0x0, 1, 0x0, 1, 32, false, false, none, [⟨25, 0, .ro, 0x0⟩]⟩,
   ⟨"CXP_BI_CTRL", 0x83008, 0x0, 1, 0x0, 1, 32, false, false, some 0xB5, [⟨7, 0, .rwp, 0xA⟩]⟩,
   ⟨"CXP_BI_TIMEOUT_CNT", 0x8300C, 0x0, 1, 0x0, 1, 32, false, false, none, [⟨31, 0, .rw, 0x0⟩]⟩,
   ⟨"CXP_SF_EVICT_CNT", 0x83010, 0x0, 1, 0x0, 1, 32, false, false, none, [⟨31, 0, .rw, 0x0⟩]⟩,
   ⟨"CXP_CNT_STATUS", 0x83014, 0x0, 1, 0x0, 1, 32, false, false, none, [⟨1, 1, .w1c, 0x0⟩, ⟨0, 0, .w1c, 0x0⟩]⟩,
   ⟨"CXP_GFAM_HOST", 0x87000, 0x4, 1024, 0x0, 1, 32, false, false, none, [⟨31, 31, .ro, 0x0⟩, ⟨27, 16, .ro, 0x0⟩, ⟨5, 0, .ro, 0x0⟩]⟩]

/-- Rows of the register map (UTE_CFG to UTE_STALE_CNT). -/
def regTable6 : List RegSpec :=
  [⟨"UTE_CFG", 0x100000, 0x0, 1, 0x0, 1, 32, false, false, some 0xE0, [⟨27, 16, .rwp, 0x0⟩, ⟨15, 15, .rwp, 0x0⟩, ⟨9, 9, .rwp, 0x0⟩, ⟨8, 8, .rwp, 0x0⟩, ⟨4, 4, .rwp, 0x0⟩]⟩,
   ⟨"UTE_STATUS", 0x100004, 0x0, 1, 0x0, 1, 32, false, false, none, [⟨27, 16, .ro, 0x0⟩, ⟨12, 0, .ro, 0x0⟩]⟩,
   ⟨"UTE_NET", 0x100008, 0x0, 1, 0x0, 1, 32, false, false, some 0xE1, [⟨31, 16, .rwp, 0x0⟩, ⟨15, 0, .rwp, 0xBE7A⟩]⟩,
   ⟨"UTE_SPORT", 0x10000C, 0x0, 1, 0x0, 1, 32, false, false, some 0xE2, [⟨15, 0, .rwp, 0xC000⟩]⟩,
   ⟨"UTE_CC_CTRL", 0x100010, 0x0, 1, 0x0, 1, 32, false, false, some 0xE3, [⟨31, 24, .rwp, 0x20⟩, ⟨23, 16, .rwp, 0x8⟩, ⟨15, 8, .rwp, 0x4⟩, ⟨7, 0, .rwp, 0x10⟩]⟩,
   ⟨"UTE_RETX_CTRL", 0x100014, 0x0, 1, 0x0, 1, 32, false, false, some 0xE4, [⟨31, 16, .rwp, 0x40⟩, ⟨3, 0, .rwp, 0x7⟩]⟩,
   ⟨"UTE_TIMER", 0x100018, 0x0, 1, 0x0, 1, 32, false, false, some 0xE5, [⟨31, 24, .rwp, 0x40⟩, ⟨23, 16, .rwp, 0x20⟩, ⟨15, 0, .rwp, 0x64⟩]⟩,
   ⟨"UTE_SHED_CTRL", 0x10001C, 0x0, 1, 0x0, 1, 32, false, false, some 0xE6, [⟨15, 0, .rwp, 0x14⟩]⟩,
   ⟨"UTE_TWIN_W", 0x100020, 0x0, 1, 0x0, 1, 32, false, false, none, [⟨15, 0, .ro, 0xFFFF⟩]⟩,
   ⟨"UTE_RETX_CNT", 0x100030, 0x0, 1, 0x0, 1, 32, false, false, none, [⟨31, 0, .rw, 0x0⟩]⟩,
   ⟨"UTE_NACK_TX_CNT", 0x100034, 0x0, 1, 0x0, 1, 32, false, false, none, [⟨31, 0, .rw, 0x0⟩]⟩,
   ⟨"UTE_STALE_CNT", 0x100038, 0x0, 1, 0x0, 1, 32, false, false, none, [⟨31, 0, .rw, 0x0⟩]⟩]

/-- Rows of the register map (UTE_CTX_MISS_CNT to DMC_TSET). -/
def regTable7 : List RegSpec :=
  [⟨"UTE_CTX_MISS_CNT", 0x10003C, 0x0, 1, 0x0, 1, 32, false, false, none, [⟨31, 0, .rw, 0x0⟩]⟩,
   ⟨"UTE_DROP_CNT", 0x100040, 0x0, 1, 0x0, 1, 32, false, false, none, [⟨31, 0, .rw, 0x0⟩]⟩,
   ⟨"UTE_DB_REJECT_CNT", 0x100044, 0x0, 1, 0x0, 1, 32, false, false, none, [⟨31, 0, .rw, 0x0⟩]⟩,
   ⟨"UTE_MSG_FAIL_CNT", 0x100048, 0x0, 1, 0x0, 1, 32, false, false, none, [⟨31, 0, .rw, 0x0⟩]⟩,
   ⟨"UTE_CNT_STATUS", 0x10004C, 0x0, 1, 0x0, 1, 32, false, false, none, [⟨6, 0, .w1c, 0x0⟩]⟩,
   ⟨"UTE_LINK_STATUS", 0x100100, 0x40, 4, 0x0, 1, 32, false, false, none, [⟨2, 0, .ro, 0x0⟩]⟩,
   ⟨"UTE_LINK_IP4", 0x100104, 0x40, 4, 0x0, 1, 32, false, false, some 0xE7, [⟨31, 0, .rwp, 0x0⟩]⟩,
   ⟨"UTE_LINK_IP6", 0x100110, 0x40, 4, 0x0, 1, 128, false, false, some 0xEB, [⟨127, 0, .rwp, 0x0⟩]⟩,
   ⟨"UTE_CTX_STATUS", 0x110000, 0x4, 65536, 0x0, 1, 32, false, true, none, [⟨31, 30, .ro, 0x0⟩, ⟨29, 29, .ro, 0x0⟩, ⟨28, 28, .ro, 0x0⟩, ⟨27, 27, .w1c, 0x0⟩, ⟨23, 16, .ro, 0x0⟩, ⟨8, 0, .ro, 0x0⟩]⟩,
   ⟨"DMC_STATUS", 0x200000, 0x4000, 12, 0x0, 1, 32, false, false, none, [⟨9, 9, .ro, 0x0⟩, ⟨8, 8, .ro, 0x0⟩, ⟨5, 4, .ro, 0x0⟩, ⟨3, 3, .w1c, 0x0⟩, ⟨2, 0, .ro, 0x0⟩]⟩,
   ⟨"DMC_CFG", 0x200004, 0x4000, 12, 0x0, 1, 32, false, false, none, [⟨20, 16, .ro, 0x0⟩, ⟨12, 12, .ro, 0x0⟩, ⟨9, 8, .ro, 0x0⟩, ⟨5, 5, .ro, 0x0⟩, ⟨4, 4, .ro, 0x0⟩, ⟨0, 0, .ro, 0x0⟩]⟩,
   ⟨"DMC_TSET", 0x200008, 0x4000, 12, 0x4, 3, 32, false, false, none, [⟨31, 24, .ro, 0x0⟩, ⟨23, 16, .ro, 0x0⟩, ⟨15, 8, .ro, 0x0⟩, ⟨7, 0, .ro, 0x0⟩]⟩]

/-- Rows of the register map (DMC_PANIC_CNT to HBC_CH_STATUS). -/
def regTable8 : List RegSpec :=
  [⟨"DMC_PANIC_CNT", 0x200020, 0x4000, 12, 0x0, 1, 32, false, false, none, [⟨31, 0, .rw, 0x0⟩]⟩,
   ⟨"DMC_RFM_CNT", 0x200024, 0x4000, 12, 0x0, 1, 32, false, false, none, [⟨31, 0, .rw, 0x0⟩]⟩,
   ⟨"DMC_RETRAIN_CNT", 0x200028, 0x4000, 12, 0x0, 1, 32, false, false, none, [⟨31, 0, .rw, 0x0⟩]⟩,
   ⟨"DMC_CNT_STATUS", 0x20002C, 0x4000, 12, 0x0, 1, 32, false, false, none, [⟨2, 2, .w1c, 0x0⟩, ⟨1, 1, .w1c, 0x0⟩, ⟨0, 0, .w1c, 0x0⟩]⟩,
   ⟨"DMC_FREQ", 0x203000, 0x0, 1, 0x0, 1, 32, false, false, none, [⟨8, 8, .ro, 0x0⟩, ⟨1, 0, .ro, 0x0⟩]⟩,
   ⟨"DMC_WQ_WMARK", 0x203004, 0x0, 1, 0x0, 1, 32, false, false, some 0x120, [⟨13, 8, .rwp, 0x30⟩, ⟨5, 0, .rwp, 0x10⟩]⟩,
   ⟨"DMC_PANIC_CTRL", 0x203008, 0x0, 1, 0x0, 1, 32, false, false, some 0x121, [⟨31, 16, .rwp, 0x3E8⟩, ⟨15, 0, .rwp, 0xC8⟩]⟩,
   ⟨"DMC_PAGE_CTRL", 0x20300C, 0x0, 1, 0x0, 1, 32, false, false, some 0x122, [⟨7, 0, .rwp, 0x40⟩]⟩,
   ⟨"DMC_RET_CTRL", 0x203010, 0x0, 1, 0x0, 1, 32, false, false, some 0x123, [⟨23, 0, .rwp, 0xFFFFFF⟩]⟩,
   ⟨"HBC_STATUS", 0x300000, 0x0, 1, 0x0, 1, 32, false, false, none, [⟨16, 16, .ro, 0x0⟩, ⟨15, 0, .ro, 0x0⟩]⟩,
   ⟨"HBC_LAYOUT", 0x300004, 0x0, 1, 0x0, 1, 32, false, false, none, [⟨6, 0, .ro, 0x0⟩]⟩,
   ⟨"HBC_CH_STATUS", 0x300100, 0x4, 16, 0x0, 1, 32, false, false, none, [⟨7, 4, .ro, 0x0⟩, ⟨2, 0, .ro, 0x0⟩]⟩]

/-- Rows of the register map (FTC_CFG to FTC_REBUILD_CNT). -/
def regTable9 : List RegSpec :=
  [⟨"FTC_CFG", 0x340000, 0x0, 1, 0x0, 1, 32, false, false, some 0x180, [⟨23, 16, .rwp, 0xC⟩, ⟨9, 8, .rwp, 0x0⟩, ⟨7, 0, .rwp, 0x1E⟩]⟩,
   ⟨"FTC_LOFT_CTRL", 0x340004, 0x0, 1, 0x0, 1, 32, false, false, some 0x181, [⟨6, 0, .rwp, 0x10⟩]⟩,
   ⟨"FTC_STATUS", 0x340008, 0x0, 1, 0x0, 1, 32, false, false, none, [⟨31, 28, .ro, 0x0⟩, ⟨27, 27, .ro, 0x0⟩, ⟨26, 26, .ro, 0x0⟩, ⟨25, 25, .ro, 0x0⟩, ⟨24, 24, .ro, 0x0⟩, ⟨23, 23, .ro, 0x0⟩, ⟨22, 22, .ro, 0x0⟩, ⟨21, 21, .ro, 0x0⟩, ⟨16, 6, .ro, 0x0⟩, ⟨5, 0, .ro, 0x0⟩]⟩,
   ⟨"FTC_GC_CTRL", 0x34000C, 0x0, 1, 0x0, 1, 32, false, false, some 0x182, [⟨23, 16, .rwp, 0x6⟩, ⟨15, 8, .rwp, 0x3⟩, ⟨7, 0, .rwp, 0x1⟩]⟩,
   ⟨"FTC_MEDIA_CTRL", 0x340010, 0x0, 1, 0x0, 1, 32, false, false, some 0x183, [⟨31, 24, .rwp, 0x7⟩, ⟨15, 0, .rwp, 0xC8⟩]⟩,
   ⟨"FTC_WEAR", 0x340014, 0x0, 1, 0x0, 1, 32, false, false, none, [⟨31, 16, .ro, 0x0⟩, ⟨15, 0, .ro, 0x0⟩]⟩,
   ⟨"FTC_RAW", 0x340018, 0x0, 1, 0x0, 1, 64, false, false, none, [⟨63, 0, .ro, 0x0⟩]⟩,
   ⟨"FTC_U", 0x340020, 0x0, 1, 0x0, 1, 64, false, false, none, [⟨63, 0, .ro, 0x0⟩]⟩,
   ⟨"FTC_DRAM_RSV", 0x340028, 0x0, 1, 0x0, 1, 64, false, false, none, [⟨63, 0, .ro, 0x0⟩]⟩,
   ⟨"FTC_FREE", 0x340030, 0x0, 1, 0x0, 1, 64, false, false, none, [⟨63, 0, .ro, 0x0⟩]⟩,
   ⟨"FTC_RETRY_CNT", 0x340040, 0x0, 1, 0x0, 1, 32, false, false, none, [⟨31, 0, .rw, 0x0⟩]⟩,
   ⟨"FTC_REBUILD_CNT", 0x340044, 0x0, 1, 0x0, 1, 32, false, false, none, [⟨31, 0, .rw, 0x0⟩]⟩]

/-- Rows of the register map (FTC_BADBLK_CNT to INT_RETIRE_CNT). -/
def regTable10 : List RegSpec :=
  [⟨"FTC_BADBLK_CNT", 0x340048, 0x0, 1, 0x0, 1, 32, false, false, none, [⟨31, 0, .rw, 0x0⟩]⟩,
   ⟨"FTC_RELOC_CNT", 0x34004C, 0x0, 1, 0x0, 1, 32, false, false, none, [⟨31, 0, .rw, 0x0⟩]⟩,
   ⟨"FTC_CNT_STATUS", 0x340050, 0x0, 1, 0x0, 1, 32, false, false, none, [⟨3, 3, .w1c, 0x0⟩, ⟨2, 2, .w1c, 0x0⟩, ⟨1, 1, .w1c, 0x0⟩, ⟨0, 0, .w1c, 0x0⟩]⟩,
   ⟨"FTC_CH_STATUS", 0x340100, 0x4, 32, 0x0, 1, 32, false, false, none, [⟨21, 16, .ro, 0x0⟩, ⟨15, 8, .ro, 0x0⟩, ⟨3, 2, .ro, 0x0⟩, ⟨1, 0, .ro, 0x0⟩]⟩,
   ⟨"INT_STATUS", 0x400000, 0x0, 1, 0x0, 1, 32, false, false, none, [⟨16, 16, .ro, 0x0⟩, ⟨15, 12, .ro, 0x0⟩, ⟨11, 8, .ro, 0x0⟩, ⟨0, 0, .ro, 0x0⟩]⟩,
   ⟨"INT_SCRUB_CTRL", 0x400004, 0x0, 1, 0x0, 1, 32, false, false, some 0x1E0, [⟨31, 24, .rwp, 0x18⟩, ⟨23, 16, .rwp, 0x6⟩, ⟨15, 8, .rwp, 0x1⟩, ⟨7, 0, .rwp, 0x18⟩]⟩,
   ⟨"INT_LOG_CTRL", 0x400008, 0x0, 1, 0x0, 1, 32, false, false, some 0x1E1, [⟨8, 8, .rwp, 0x1⟩, ⟨7, 0, .rwp, 0xA⟩]⟩,
   ⟨"INT_LOG_STATUS", 0x40000C, 0x0, 1, 0x0, 1, 32, false, false, none, [⟨27, 16, .ro, 0x0⟩, ⟨15, 15, .ro, 0x0⟩, ⟨12, 0, .ro, 0x0⟩]⟩,
   ⟨"INT_CE_CNT", 0x400010, 0x4, 4, 0x0, 1, 32, false, false, none, [⟨31, 0, .rw, 0x0⟩]⟩,
   ⟨"INT_UE_CNT", 0x400020, 0x4, 4, 0x0, 1, 32, false, false, none, [⟨31, 0, .rw, 0x0⟩]⟩,
   ⟨"INT_POISON_CNT", 0x400030, 0x0, 1, 0x0, 1, 32, false, false, none, [⟨31, 0, .rw, 0x0⟩]⟩,
   ⟨"INT_RETIRE_CNT", 0x400034, 0x0, 1, 0x0, 1, 32, false, false, none, [⟨31, 0, .rw, 0x0⟩]⟩]

/-- Rows of the register map (INT_CNT_STATUS to INT_CHK_RESULT). -/
def regTable11 : List RegSpec :=
  [⟨"INT_CNT_STATUS", 0x400038, 0x0, 1, 0x0, 1, 32, false, false, none, [⟨10, 10, .w1c, 0x0⟩, ⟨9, 9, .w1c, 0x0⟩, ⟨8, 8, .w1c, 0x0⟩, ⟨7, 4, .w1c, 0x0⟩, ⟨3, 0, .w1c, 0x0⟩]⟩,
   ⟨"INT_POISON_LIST", 0x40003C, 0x0, 1, 0x0, 1, 32, false, false, none, [⟨17, 17, .ro, 0x0⟩, ⟨16, 0, .ro, 0x0⟩]⟩,
   ⟨"INT_LOG_DROP_CNT", 0x400040, 0x0, 1, 0x0, 1, 32, false, false, none, [⟨31, 0, .rw, 0x0⟩]⟩,
   ⟨"INT_CHK_RATE", 0x400044, 0x0, 1, 0x0, 1, 32, false, false, some 0x1E2, [⟨7, 0, .rwp, 0x10⟩]⟩,
   ⟨"INT_SPARE_CTRL", 0x400048, 0x0, 1, 0x0, 1, 32, false, false, some 0x1E3, [⟨7, 0, .rwp, 0x4⟩]⟩,
   ⟨"INT_CHK_CTRL", 0x400100, 0x40, 4, 0x0, 1, 32, false, false, none, [⟨31, 31, .w1s, 0x0⟩, ⟨30, 30, .w1s, 0x0⟩, ⟨25, 24, .rw, 0x0⟩, ⟨16, 16, .ro, 0x0⟩, ⟨15, 0, .ro, 0x0⟩]⟩,
   ⟨"INT_CHK_STATUS", 0x400104, 0x40, 4, 0x0, 1, 32, false, false, none, [⟨2, 0, .ro, 0x0⟩]⟩,
   ⟨"INT_CHK_START", 0x400108, 0x40, 4, 0x0, 1, 64, false, false, none, [⟨63, 0, .rw, 0x0⟩]⟩,
   ⟨"INT_CHK_LEN", 0x400110, 0x40, 4, 0x0, 1, 64, false, false, none, [⟨63, 0, .rw, 0x0⟩]⟩,
   ⟨"INT_CHK_CUR", 0x400118, 0x40, 4, 0x0, 1, 64, false, false, none, [⟨63, 0, .ro, 0x0⟩]⟩,
   ⟨"INT_CHK_VALUE", 0x400120, 0x40, 4, 0x0, 1, 64, false, false, none, [⟨63, 0, .rw, 0x0⟩]⟩,
   ⟨"INT_CHK_RESULT", 0x400128, 0x40, 4, 0x0, 1, 64, false, false, none, [⟨63, 0, .ro, 0x0⟩]⟩]

/-- Rows of the register map (INT_LOG_ENTRY to EPC_DRIVE). -/
def regTable12 : List RegSpec :=
  [⟨"INT_LOG_ENTRY", 0x401000, 0x20, 4096, 0x0, 1, 256, false, true, none, [⟨255, 0, .ro, 0x0⟩]⟩,
   ⟨"EPC_STATUS", 0x440000, 0x0, 1, 0x0, 1, 32, true, false, none, [⟨18, 16, .ro, 0x0⟩, ⟨15, 14, .ro, 0x0⟩, ⟨10, 10, .ro, 0x0⟩, ⟨9, 9, .w1c, 0x0⟩, ⟨8, 8, .w1c, 0x0⟩, ⟨7, 7, .w1c, 0x0⟩, ⟨6, 6, .w1c, 0x0⟩, ⟨5, 5, .ro, 0x0⟩, ⟨4, 4, .ro, 0x0⟩, ⟨3, 3, .ro, 0x0⟩, ⟨1, 1, .ro, 0x0⟩, ⟨0, 0, .ro, 0x0⟩]⟩,
   ⟨"EPC_CFG", 0x440004, 0x0, 1, 0x0, 1, 32, true, false, some 0x200, [⟨23, 16, .rwp, 0x64⟩, ⟨15, 1, .rwp, 0x64⟩, ⟨0, 0, .rwp, 0x0⟩]⟩,
   ⟨"EPC_REH_CTRL", 0x440008, 0x0, 1, 0x0, 1, 32, true, false, some 0x201, [⟨31, 31, .w1s, 0x0⟩, ⟨7, 0, .rwp, 0x7⟩]⟩,
   ⟨"EPC_E_USE", 0x44000C, 0x0, 1, 0x0, 1, 32, true, false, none, [⟨31, 0, .ro, 0x0⟩]⟩,
   ⟨"EPC_C_SAVE", 0x440010, 0x0, 1, 0x0, 1, 32, true, false, some 0x202, [⟨15, 0, .rwp, 0x0⟩]⟩,
   ⟨"EPC_E_FIX", 0x440014, 0x0, 1, 0x0, 1, 32, true, false, none, [⟨31, 0, .ro, 0x0⟩]⟩,
   ⟨"EPC_P_RUN", 0x440018, 0x0, 1, 0x0, 1, 32, true, false, some 0x203, [⟨15, 0, .rwp, 0x0⟩]⟩,
   ⟨"EPC_MODEL", 0x44001C, 0x0, 1, 0x0, 1, 32, true, false, none, [⟨25, 16, .ro, 0x0⟩, ⟨9, 0, .ro, 0x0⟩]⟩,
   ⟨"EPC_PACK_VI", 0x440020, 0x0, 1, 0x0, 1, 32, true, false, none, [⟨31, 16, .ro, 0x0⟩, ⟨15, 0, .ro, 0x0⟩]⟩,
   ⟨"EPC_PACK_T", 0x440024, 0x0, 1, 0x0, 1, 32, true, false, none, [⟨31, 16, .ro, 0x0⟩, ⟨15, 0, .ro, 0x0⟩]⟩,
   ⟨"EPC_DRIVE", 0x440028, 0x0, 1, 0x0, 1, 32, true, false, none, [⟨21, 21, .ro, 0x0⟩, ⟨20, 20, .ro, 0x0⟩, ⟨19, 10, .ro, 0x0⟩, ⟨9, 0, .ro, 0x0⟩]⟩]

/-- Rows of the register map (EPC_VAON to TWN_RSET_STALE). -/
def regTable13 : List RegSpec :=
  [⟨"EPC_VAON", 0x44002C, 0x0, 1, 0x0, 1, 32, true, false, none, [⟨31, 16, .rw, 0xFFFF⟩, ⟨15, 0, .ro, 0x0⟩]⟩,
   ⟨"EPC_REH_LAST", 0x440030, 0x0, 1, 0x0, 1, 32, true, false, none, [⟨31, 16, .ro, 0x0⟩, ⟨15, 12, .ro, 0x0⟩]⟩,
   ⟨"EPC_SAVE_CNT", 0x440034, 0x0, 1, 0x0, 1, 32, true, false, none, [⟨31, 0, .rw, 0x0⟩]⟩,
   ⟨"EPC_FE_ERR_CNT", 0x440038, 0x0, 1, 0x0, 1, 32, true, false, none, [⟨31, 0, .rw, 0x0⟩]⟩,
   ⟨"EPC_CNT_STATUS", 0x44003C, 0x0, 1, 0x0, 1, 32, true, false, none, [⟨1, 1, .w1c, 0x0⟩, ⟨0, 0, .w1c, 0x0⟩]⟩,
   ⟨"EPC_PROFILE", 0x440100, 0x4, 32, 0x0, 1, 32, true, false, some 0x204, [⟨31, 0, .ro, 0x0⟩]⟩,
   ⟨"TWN_CFG", 0x480000, 0x0, 1, 0x0, 1, 32, false, false, some 0x280, [⟨31, 24, .rwp, 0x32⟩, ⟨23, 16, .rwp, 0xA⟩, ⟨1, 1, .rwp, 0x0⟩, ⟨0, 0, .rwp, 0x0⟩]⟩,
   ⟨"TWN_STATUS", 0x480004, 0x0, 1, 0x0, 1, 32, false, false, none, [⟨12, 12, .ro, 0x0⟩, ⟨11, 11, .ro, 0x0⟩, ⟨10, 10, .ro, 0x0⟩, ⟨9, 9, .ro, 0x0⟩, ⟨8, 8, .ro, 0x0⟩, ⟨7, 7, .ro, 0x0⟩, ⟨6, 4, .ro, 0x0⟩, ⟨3, 3, .ro, 0x0⟩, ⟨2, 2, .ro, 0x0⟩, ⟨1, 0, .ro, 0x0⟩]⟩,
   ⟨"TWN_RSET_KIND", 0x480008, 0x0, 1, 0x0, 1, 64, false, false, some 0x281, [⟨63, 0, .rwp, 0x0⟩]⟩,
   ⟨"TWN_RSET_HOME", 0x480010, 0x0, 1, 0x0, 1, 64, false, false, some 0x283, [⟨63, 0, .rwp, 0x0⟩]⟩,
   ⟨"TWN_RSET_OWN", 0x480018, 0x0, 1, 0x0, 1, 64, false, false, none, [⟨63, 0, .ro, 0x0⟩]⟩,
   ⟨"TWN_RSET_STALE", 0x480020, 0x0, 1, 0x0, 1, 64, false, false, none, [⟨63, 0, .ro, 0x0⟩]⟩]

/-- Rows of the register map (TWN_CLAIM_NUM to ICU_STATUS). -/
def regTable14 : List RegSpec :=
  [⟨"TWN_CLAIM_NUM", 0x480028, 0x0, 1, 0x0, 1, 64, false, false, none, [⟨63, 0, .ro, 0x0⟩]⟩,
   ⟨"TWN_CLAIM_EPOCH", 0x480030, 0x0, 1, 0x0, 1, 32, false, false, some 0x285, [⟨31, 0, .ro, 0x0⟩]⟩,
   ⟨"TWN_LANE_STATUS", 0x480034, 0x0, 1, 0x0, 1, 32, false, false, none, [⟨6, 4, .w1c, 0x0⟩, ⟨2, 0, .ro, 0x0⟩]⟩,
   ⟨"TWN_RESYNC_CTRL", 0x480038, 0x0, 1, 0x0, 1, 32, false, false, some 0x286, [⟨7, 0, .rwp, 0x14⟩]⟩,
   ⟨"TWN_RESYNC_PAGES", 0x480040, 0x0, 1, 0x0, 1, 64, false, false, none, [⟨63, 0, .ro, 0x0⟩]⟩,
   ⟨"TWN_FAILOVER_CNT", 0x480048, 0x0, 1, 0x0, 1, 32, false, false, none, [⟨31, 0, .rw, 0x0⟩]⟩,
   ⟨"TWN_DIGEST_ERR_CNT", 0x48004C, 0x0, 1, 0x0, 1, 32, false, false, none, [⟨31, 0, .rw, 0x0⟩]⟩,
   ⟨"TWN_CLM_ERR_CNT", 0x480050, 0x0, 1, 0x0, 1, 32, false, false, none, [⟨31, 0, .rw, 0x0⟩]⟩,
   ⟨"TWN_FWD_FAIL_CNT", 0x480054, 0x0, 1, 0x0, 1, 32, false, false, none, [⟨31, 0, .rw, 0x0⟩]⟩,
   ⟨"TWN_HB_LOSS_CNT", 0x480058, 0x0, 1, 0x0, 1, 32, false, false, none, [⟨31, 0, .rw, 0x0⟩]⟩,
   ⟨"TWN_CNT_STATUS", 0x48005C, 0x0, 1, 0x0, 1, 32, false, false, none, [⟨4, 4, .w1c, 0x0⟩, ⟨3, 3, .w1c, 0x0⟩, ⟨2, 2, .w1c, 0x0⟩, ⟨1, 1, .w1c, 0x0⟩, ⟨0, 0, .w1c, 0x0⟩]⟩,
   ⟨"ICU_STATUS", 0x4C0000, 0x0, 1, 0x0, 1, 32, false, true, none, [⟨13, 10, .ro, 0x0⟩, ⟨9, 0, .ro, 0x0⟩]⟩]

/-- Rows of the register map (ICU_PEND_SET to ICU_AON_SEL). -/
def regTable15 : List RegSpec :=
  [⟨"ICU_PEND_SET", 0x4C0004, 0x0, 1, 0x0, 1, 32, false, true, none, [⟨9, 0, .wo, 0x0⟩]⟩,
   ⟨"ICU_PEND_CLR", 0x4C0008, 0x0, 1, 0x0, 1, 32, false, true, none, [⟨9, 0, .wo, 0x0⟩]⟩,
   ⟨"ICU_ZERO_CLAIM_CNT", 0x4C000C, 0x0, 1, 0x0, 1, 32, false, false, none, [⟨31, 0, .rw, 0x0⟩]⟩,
   ⟨"ICU_BAD_COMPLETE_CNT", 0x4C0010, 0x0, 1, 0x0, 1, 32, false, false, none, [⟨31, 0, .rw, 0x0⟩]⟩,
   ⟨"ICU_CNT_STATUS", 0x4C0014, 0x0, 1, 0x0, 1, 32, false, false, none, [⟨1, 1, .w1c, 0x0⟩, ⟨0, 0, .w1c, 0x0⟩]⟩,
   ⟨"ICU_PEND", 0x4C0080, 0x4, 32, 0x0, 1, 32, false, true, none, [⟨31, 0, .ro, 0x0⟩]⟩,
   ⟨"ICU_ACTIVE", 0x4C0100, 0x4, 32, 0x0, 1, 32, false, true, none, [⟨31, 0, .ro, 0x0⟩]⟩,
   ⟨"ICU_TGT_CTRL", 0x4C0200, 0x10, 9, 0x0, 1, 32, false, true, none, [⟨8, 8, .rw, 0x0⟩, ⟨3, 0, .rw, 0x0⟩]⟩,
   ⟨"ICU_TGT_STATUS", 0x4C0204, 0x10, 9, 0x0, 1, 32, false, true, none, [⟨25, 16, .ro, 0x0⟩, ⟨11, 8, .ro, 0x0⟩, ⟨7, 4, .ro, 0x0⟩, ⟨0, 0, .ro, 0x0⟩]⟩,
   ⟨"ICU_CLAIM", 0x4C0208, 0x10, 9, 0x0, 1, 32, false, true, none, [⟨9, 0, .rc, 0x0⟩]⟩,
   ⟨"ICU_COMPLETE", 0x4C020C, 0x10, 9, 0x0, 1, 32, false, true, none, [⟨9, 0, .wo, 0x0⟩]⟩,
   ⟨"ICU_AON_SEL", 0x4C0400, 0x4, 32, 0x0, 1, 32, true, false, some 0x2A0, [⟨31, 31, .rwp, 0x0⟩, ⟨30, 30, .rwp, 0x0⟩, ⟨9, 0, .rwp, 0x0⟩]⟩]

/-- Rows of the register map (ICU_AON_STATUS to CCX_CACHE_CTRL). -/
def regTable16 : List RegSpec :=
  [⟨"ICU_AON_STATUS", 0x4C0480, 0x0, 1, 0x0, 1, 32, true, false, none, [⟨31, 0, .ro, 0x0⟩]⟩,
   ⟨"ICU_HOST_UTVEC", 0x4C0500, 0x4, 64, 0x0, 1, 32, false, false, none, [⟨15, 15, .rw, 0x0⟩, ⟨1, 0, .rw, 0x0⟩]⟩,
   ⟨"ICU_SRC_CFG", 0x4C1000, 0x4, 1024, 0x0, 1, 32, false, true, none, [⟨31, 31, .rw, 0x0⟩, ⟨30, 30, .ro, 0x0⟩, ⟨29, 29, .ro, 0x0⟩, ⟨24, 16, .rw, 0x0⟩, ⟨3, 0, .rw, 0x0⟩]⟩,
   ⟨"CCX_HM_STATUS", 0x500000, 0x0, 1, 0x0, 1, 32, false, false, none, [⟨18, 16, .ro, 0x0⟩, ⟨14, 12, .ro, 0x7⟩, ⟨10, 8, .w1c, 0x0⟩, ⟨4, 4, .w1c, 0x0⟩, ⟨3, 2, .ro, 0x0⟩, ⟨0, 0, .ro, 0x0⟩]⟩,
   ⟨"CCX_HM_CTRL", 0x500004, 0x0, 1, 0x0, 1, 32, false, false, some 0x2E0, [⟨10, 8, .w1s, 0x0⟩, ⟨7, 0, .rwp, 0x3⟩]⟩,
   ⟨"CCX_HM_RESYNC_CNT", 0x500008, 0x0, 1, 0x0, 1, 32, false, false, none, [⟨31, 0, .rw, 0x0⟩]⟩,
   ⟨"CCX_HM_RESTART_CNT", 0x50000C, 0x0, 1, 0x0, 1, 32, false, false, none, [⟨31, 0, .rw, 0x0⟩]⟩,
   ⟨"CCX_CNT_STATUS", 0x500010, 0x0, 1, 0x0, 1, 32, false, false, none, [⟨1, 1, .w1c, 0x0⟩, ⟨0, 0, .w1c, 0x0⟩]⟩,
   ⟨"CCX_TIME", 0x500018, 0x0, 1, 0x0, 1, 64, false, false, none, [⟨63, 0, .ro, 0x0⟩]⟩,
   ⟨"CCX_CORE_STATUS", 0x501000, 0x100, 9, 0x0, 1, 32, false, false, none, [⟨17, 17, .w1c, 0x0⟩, ⟨16, 16, .w1c, 0x0⟩, ⟨1, 0, .ro, 0x0⟩]⟩,
   ⟨"CCX_CORE_CLASS", 0x501004, 0x100, 9, 0x0, 1, 32, false, false, none, [⟨2, 0, .rw, 0x5⟩]⟩,
   ⟨"CCX_CACHE_CTRL", 0x501008, 0x100, 9, 0x0, 1, 32, false, false, none, [⟨1, 1, .rw, 0x1⟩, ⟨0, 0, .rw, 0x0⟩]⟩]

/-- Rows of the register map (CCX_CACHE_STATUS to CLK_SYS_RST_CNT). -/
def regTable17 : List RegSpec :=
  [⟨"CCX_CACHE_STATUS", 0x50100C, 0x100, 9, 0x0, 1, 32, false, false, none, [⟨23, 18, .ro, 0x0⟩, ⟨17, 17, .w1c, 0x0⟩, ⟨16, 16, .w1c, 0x0⟩, ⟨15, 15, .w1c, 0x0⟩, ⟨11, 6, .ro, 0x0⟩, ⟨5, 0, .ro, 0x0⟩]⟩,
   ⟨"CCX_CACHE_OP", 0x501010, 0x100, 9, 0x0, 1, 32, false, false, none, [⟨31, 31, .ro, 0x0⟩, ⟨3, 0, .wo, 0x0⟩]⟩,
   ⟨"CCX_CACHE_OPADDR", 0x501018, 0x100, 9, 0x0, 1, 64, false, false, none, [⟨63, 0, .rw, 0x0⟩]⟩,
   ⟨"CCX_CACHE_OPLEN", 0x501020, 0x100, 9, 0x0, 1, 64, false, false, none, [⟨63, 0, .rw, 0x0⟩]⟩,
   ⟨"CCX_TMR0_CMP", 0x501028, 0x100, 9, 0x0, 1, 64, false, false, none, [⟨63, 0, .rw, 0x0⟩]⟩,
   ⟨"CCX_TMR1_CMP", 0x501030, 0x100, 9, 0x0, 1, 64, false, false, none, [⟨63, 0, .rw, 0x0⟩]⟩,
   ⟨"CCX_TMR_CTRL", 0x501038, 0x100, 9, 0x0, 1, 32, false, false, none, [⟨1, 1, .rw, 0x0⟩, ⟨0, 0, .rw, 0x0⟩]⟩,
   ⟨"CCX_WDOG", 0x50103C, 0x100, 9, 0x0, 1, 32, false, false, none, [⟨31, 31, .rw, 0x0⟩, ⟨23, 0, .rw, 0x2710⟩]⟩,
   ⟨"CLK_STATUS", 0x540000, 0x0, 1, 0x0, 1, 32, false, false, none, [⟨19, 19, .ro, 0x0⟩, ⟨18, 16, .ro, 0x0⟩, ⟨8, 8, .ro, 0x0⟩, ⟨7, 7, .ro, 0x0⟩, ⟨6, 6, .ro, 0x0⟩, ⟨5, 5, .ro, 0x0⟩, ⟨1, 0, .ro, 0x0⟩]⟩,
   ⟨"CLK_RESET_CAUSE", 0x540004, 0x0, 1, 0x0, 1, 32, true, false, none, [⟨3, 0, .ros, 0x0⟩]⟩,
   ⟨"CLK_REF_LOSS_CNT", 0x540008, 0x0, 1, 0x0, 1, 32, true, false, none, [⟨31, 0, .rw, 0x0⟩]⟩,
   ⟨"CLK_SYS_RST_CNT", 0x54000C, 0x0, 1, 0x0, 1, 32, true, false, none, [⟨31, 0, .rw, 0x0⟩]⟩]

/-- Rows of the register map (CLK_CNT_STATUS to TST_LB_CTRL). -/
def regTable18 : List RegSpec :=
  [⟨"CLK_CNT_STATUS", 0x540010, 0x0, 1, 0x0, 1, 32, true, false, none, [⟨1, 1, .w1c, 0x0⟩, ⟨0, 0, .w1c, 0x0⟩]⟩,
   ⟨"CLK_STEP_END", 0x540020, 0x4, 6, 0x0, 1, 32, false, false, none, [⟨31, 0, .ro, 0x0⟩]⟩,
   ⟨"SET_WORD", 0x580000, 0x4, 4096, 0x0, 1, 32, true, true, none, [⟨31, 0, .rwp, 0x0⟩]⟩,
   ⟨"SET_WCNT", 0x584000, 0x4, 4096, 0x0, 1, 32, true, true, none, [⟨31, 31, .ro, 0x0⟩, ⟨30, 30, .ro, 0x0⟩, ⟨23, 0, .ro, 0x0⟩]⟩,
   ⟨"SET_STATUS", 0x588000, 0x0, 1, 0x0, 1, 32, true, false, none, [⟨16, 16, .w1c, 0x0⟩, ⟨15, 15, .ro, 0x0⟩, ⟨12, 0, .ro, 0x0⟩]⟩,
   ⟨"SET_DENIED_CNT", 0x588004, 0x0, 1, 0x0, 1, 32, true, false, none, [⟨31, 0, .rw, 0x0⟩]⟩,
   ⟨"REC_STATUS", 0x5C0000, 0x0, 1, 0x0, 1, 32, true, false, none, [⟨31, 31, .ro, 0x0⟩, ⟨30, 30, .ro, 0x0⟩, ⟨29, 29, .ro, 0x0⟩, ⟨26, 18, .ro, 0x0⟩, ⟨17, 9, .ro, 0x0⟩, ⟨8, 0, .ro, 0x0⟩]⟩,
   ⟨"REC_HOURS", 0x5C0004, 0x0, 1, 0x0, 1, 32, true, false, none, [⟨31, 0, .ro, 0x0⟩]⟩,
   ⟨"REC_CYCLES", 0x5C0008, 0x0, 1, 0x0, 1, 32, true, false, none, [⟨31, 0, .ro, 0x0⟩]⟩,
   ⟨"REC_OPEN_HOURS", 0x5C000C, 0x0, 1, 0x0, 1, 32, true, false, none, [⟨31, 0, .ro, 0x0⟩]⟩,
   ⟨"TST_STATUS", 0x600000, 0x0, 1, 0x0, 1, 32, false, false, none, [⟨14, 8, .ro, 0x0⟩, ⟨3, 3, .ro, 0x0⟩, ⟨2, 2, .ro, 0x0⟩, ⟨1, 1, .w1c, 0x0⟩, ⟨0, 0, .ro, 0x0⟩]⟩,
   ⟨"TST_LB_CTRL", 0x600004, 0x0, 1, 0x0, 1, 32, false, false, none, [⟨31, 31, .w1s, 0x0⟩, ⟨26, 24, .rw, 0x0⟩, ⟨22, 16, .rw, 0x0⟩, ⟨10, 8, .rw, 0x0⟩, ⟨7, 0, .ro, 0x0⟩]⟩]

/-- Rows of the register map (TST_PROD to TST_LB_SLOT). -/
def regTable19 : List RegSpec :=
  [⟨"TST_PROD", 0x600008, 0x0, 1, 0x0, 1, 32, false, false, none, [⟨31, 31, .w1s, 0x0⟩, ⟨0, 0, .ro, 0x0⟩]⟩,
   ⟨"TST_LB_SLOT", 0x601000, 0x10, 81, 0x0, 1, 128, false, true, none, [⟨127, 64, .ro, 0x0⟩, ⟨63, 32, .rw, 0x0⟩, ⟨31, 31, .w1c, 0x0⟩, ⟨26, 24, .ro, 0x0⟩, ⟨18, 16, .ro, 0x0⟩, ⟨15, 8, .ro, 0x0⟩, ⟨7, 0, .ro, 0x0⟩]⟩]

/-- The whole register map (19_register_space.md R709). -/
def regTable : List RegSpec :=
  regTable0 ++
  regTable1 ++
  regTable2 ++
  regTable3 ++
  regTable4 ++
  regTable5 ++
  regTable6 ++
  regTable7 ++
  regTable8 ++
  regTable9 ++
  regTable10 ++
  regTable11 ++
  regTable12 ++
  regTable13 ++
  regTable14 ++
  regTable15 ++
  regTable16 ++
  regTable17 ++
  regTable18 ++
  regTable19

end Sys2Proof.Machine
end

