-- ==== Sys2Proof/Machine/Fields.lean ====
section
/-! DEFINITION. The name of every stored register field, REGISTER_FIELD for REGISTER.FIELD of the chapters' field tables (00_scope.md R13). -/
namespace Sys2Proof.Machine.F

def GEN_DEVICE_ID_PART : Fld := ⟨0x0, 31, 16⟩
def GEN_DEVICE_ID_GRADE : Fld := ⟨0x0, 11, 8⟩
def GEN_DEVICE_ID_REV : Fld := ⟨0x0, 7, 0⟩
def GEN_SERIAL_SERIAL : Fld := ⟨0x8, 63, 0⟩
def GEN_FW_VERSION_VERSION : Fld := ⟨0x10, 31, 0⟩
def GEN_IGN_LAST_VALID : Fld := ⟨0x18, 63, 63⟩
def GEN_IGN_LAST_CAUSE : Fld := ⟨0x18, 57, 56⟩
def GEN_IGN_LAST_AGENT : Fld := ⟨0x18, 47, 40⟩
def GEN_IGN_LAST_OFFSET : Fld := ⟨0x18, 25, 0⟩
def GEN_IGN_WR_CNT_VALUE : Fld := ⟨0x20, 31, 0⟩
def GEN_CNT_STATUS_IGN_SAT : Fld := ⟨0x24, 0, 0⟩
def GEN_ASSET_TAG : Fld := ⟨0x40, 31, 0⟩
def GEN_NOC_WEIGHT_W0 : Fld := ⟨0x800, 19, 16⟩
def GEN_NOC_WEIGHT_W2 : Fld := ⟨0x800, 15, 12⟩
def GEN_NOC_WEIGHT_W3 : Fld := ⟨0x800, 11, 8⟩
def GEN_NOC_WEIGHT_W4 : Fld := ⟨0x800, 7, 4⟩
def GEN_NOC_WEIGHT_W5 : Fld := ⟨0x800, 3, 0⟩
def GEN_NOC_STATUS_STALL_SAT : Fld := ⟨0x804, 13, 8⟩
def GEN_NOC_STATUS_WAITING : Fld := ⟨0x804, 5, 0⟩
def GEN_NOC_STALL_VALUE (i : Nat) : Fld := ⟨0x810 + 0x4 * i, 31, 0⟩
def CMD_STATUS_FW_NEXT : Fld := ⟨0x10000, 10, 10⟩
def CMD_STATUS_FW_VERIFIED : Fld := ⟨0x10000, 9, 9⟩
def CMD_STATUS_FW_ACTIVE : Fld := ⟨0x10000, 8, 8⟩
def CMD_STATUS_IN_HANDLING : Fld := ⟨0x10000, 6, 0⟩
def CMD_DC_OFFER_TIMEOUT_SECONDS : Fld := ⟨0x10004, 15, 0⟩
def CMD_MGMT_LD_MASK : Fld := ⟨0x10008, 63, 0⟩
def CMD_MCTP_I3C : Fld := ⟨0x10010, 8, 8⟩
def CMD_MCTP_ADDR : Fld := ⟨0x10010, 6, 0⟩
def CMD_LAST_ERR_OPCODE : Fld := ⟨0x10014, 31, 16⟩
def CMD_LAST_ERR_CARRIER : Fld := ⟨0x10014, 15, 14⟩
def CMD_LAST_ERR_STATUS : Fld := ⟨0x10014, 7, 0⟩
def CMD_CRC_ERR_CNT_VALUE : Fld := ⟨0x10018, 31, 0⟩
def CMD_REFUSED_CNT_VALUE : Fld := ⟨0x1001C, 31, 0⟩
def CMD_CNT_STATUS_REFUSED_SAT : Fld := ⟨0x10020, 1, 1⟩
def CMD_CNT_STATUS_CRC_SAT : Fld := ⟨0x10020, 0, 0⟩
def RGN_PDK_STATUS_GPF_SAT : Fld := ⟨0x2F000, 10, 10⟩
def RGN_PDK_STATUS_STRETCH_SAT : Fld := ⟨0x2F000, 9, 9⟩
def RGN_PDK_STATUS_OVER : Fld := ⟨0x2F000, 8, 8⟩
def RGN_PDK_STATUS_M_WT : Fld := ⟨0x2F000, 5, 5⟩
def RGN_PDK_STATUS_TWIN_LIM_VALID : Fld := ⟨0x2F000, 4, 4⟩
def RGN_PDK_STATUS_REGIME : Fld := ⟨0x2F000, 1, 0⟩
def RGN_PDK_BYTES_VALUE : Fld := ⟨0x2F008, 63, 0⟩
def RGN_PDK_M_BYTES_VALUE : Fld := ⟨0x2F010, 63, 0⟩
def RGN_PDK_LIMIT_VALUE : Fld := ⟨0x2F018, 63, 0⟩
def RGN_PDK_TWIN_LIMIT_VALUE : Fld := ⟨0x2F020, 63, 0⟩
def RGN_PDK_PEAK_PEAK : Fld := ⟨0x2F028, 63, 0⟩
def RGN_FLUSH_CTRL_AGE : Fld := ⟨0x2F030, 23, 8⟩
def RGN_FLUSH_CTRL_TARGET : Fld := ⟨0x2F030, 7, 0⟩
def RGN_STRETCH_CNT_VALUE : Fld := ⟨0x2F034, 31, 0⟩
def RGN_STRETCH_MAX_VALUE : Fld := ⟨0x2F038, 31, 0⟩
def RGN_GPF_CNT_VALUE : Fld := ⟨0x2F03C, 31, 0⟩
def RGN_CAP_QUAY_VALUE : Fld := ⟨0x2F040, 63, 0⟩
def RGN_CAP_DRAM_VALUE : Fld := ⟨0x2F048, 63, 0⟩
def RGN_CAP_FLASH_VALUE : Fld := ⟨0x2F050, 63, 0⟩
def RGN_USE_QUAY_VALUE : Fld := ⟨0x2F058, 63, 0⟩
def RGN_USE_DRAM_VALUE : Fld := ⟨0x2F060, 63, 0⟩
def RGN_USE_FLASH_VALUE : Fld := ⟨0x2F068, 63, 0⟩
def RGN_CAP_CTRL_CMP_FACTOR : Fld := ⟨0x2F070, 5, 0⟩
def RGN_PLACE_CTRL_PROMOTE : Fld := ⟨0x2F074, 27, 24⟩
def RGN_PLACE_CTRL_DECAY : Fld := ⟨0x2F074, 23, 16⟩
def RGN_PLACE_CTRL_DRAM_HI : Fld := ⟨0x2F074, 15, 8⟩
def RGN_PLACE_CTRL_DRAM_LO : Fld := ⟨0x2F074, 7, 0⟩
def RGN_TBL_STATUS_DEMOTE_SAT : Fld := ⟨0x2F078, 18, 18⟩
def RGN_TBL_STATUS_PROMOTE_SAT : Fld := ⟨0x2F078, 17, 17⟩
def RGN_TBL_STATUS_UNMAPPED_SAT : Fld := ⟨0x2F078, 16, 16⟩
def RGN_TBL_STATUS_OVERCOMMIT : Fld := ⟨0x2F078, 13, 13⟩
def RGN_TBL_STATUS_IN_USE : Fld := ⟨0x2F078, 12, 0⟩
def RGN_UNMAPPED_CNT_VALUE : Fld := ⟨0x2F07C, 31, 0⟩
def RGN_PROMOTE_CNT_VALUE : Fld := ⟨0x2F080, 31, 0⟩
def RGN_DEMOTE_CNT_VALUE : Fld := ⟨0x2F084, 31, 0⟩
def TIDE_CTRL_IDLE : Fld := ⟨0x40000, 15, 8⟩
def TIDE_CTRL_STAGE_SIZE : Fld := ⟨0x40000, 6, 0⟩
def TIDE_STATUS_LIVE : Fld := ⟨0x40004, 22, 16⟩
def TIDE_STATUS_ACTIVE : Fld := ⟨0x40004, 12, 0⟩
def TIDE_STAGED_BYTES_VALUE : Fld := ⟨0x40008, 63, 0⟩
def TIDE_LATE_CNT_VALUE : Fld := ⟨0x40010, 31, 0⟩
def TIDE_UE_CNT_VALUE : Fld := ⟨0x40014, 31, 0⟩
def TIDE_POISON_CNT_VALUE : Fld := ⟨0x40018, 31, 0⟩
def TIDE_CNT_STATUS_POISON_SAT : Fld := ⟨0x4001C, 2, 2⟩
def TIDE_CNT_STATUS_UE_SAT : Fld := ⟨0x4001C, 1, 1⟩
def TIDE_CNT_STATUS_LATE_SAT : Fld := ⟨0x4001C, 0, 0⟩
def CXP_LNK_STATUS_DISCARD_SAT (p k : Nat) : Fld := ⟨0x81000 + 0x4000 * p + 0x400 * k, 23, 23⟩
def CXP_LNK_STATUS_POISON_SAT (p k : Nat) : Fld := ⟨0x81000 + 0x4000 * p + 0x400 * k, 22, 22⟩
def CXP_LNK_STATUS_DOWN_SAT (p k : Nat) : Fld := ⟨0x81000 + 0x4000 * p + 0x400 * k, 21, 21⟩
def CXP_LNK_STATUS_ERR_SAT (p k : Nat) : Fld := ⟨0x81000 + 0x4000 * p + 0x400 * k, 20, 20⟩
def CXP_LNK_STATUS_HEAD (p k : Nat) : Fld := ⟨0x81000 + 0x4000 * p + 0x400 * k, 19, 16⟩
def CXP_LNK_STATUS_VIRAL (p k : Nat) : Fld := ⟨0x81000 + 0x4000 * p + 0x400 * k, 15, 15⟩
def CXP_LNK_STATUS_IDE_MEM (p k : Nat) : Fld := ⟨0x81000 + 0x4000 * p + 0x400 * k, 14, 14⟩
def CXP_LNK_STATUS_IDE_IO (p k : Nat) : Fld := ⟨0x81000 + 0x4000 * p + 0x400 * k, 13, 13⟩
def CXP_LNK_STATUS_FLIT256 (p k : Nat) : Fld := ⟨0x81000 + 0x4000 * p + 0x400 * k, 12, 12⟩
def CXP_LNK_STATUS_WIDTH (p k : Nat) : Fld := ⟨0x81000 + 0x4000 * p + 0x400 * k, 10, 6⟩
def CXP_LNK_STATUS_SPEED (p k : Nat) : Fld := ⟨0x81000 + 0x4000 * p + 0x400 * k, 5, 3⟩
def CXP_LNK_STATUS_STATE (p k : Nat) : Fld := ⟨0x81000 + 0x4000 * p + 0x400 * k, 2, 0⟩
def CXP_LNK_CFG_HEADGRP (p k : Nat) : Fld := ⟨0x81004 + 0x4000 * p + 0x400 * k, 7, 4⟩
def CXP_LNK_CFG_MINW (p k : Nat) : Fld := ⟨0x81004 + 0x4000 * p + 0x400 * k, 3, 2⟩
def CXP_LNK_CFG_EN (p k : Nat) : Fld := ⟨0x81004 + 0x4000 * p + 0x400 * k, 0, 0⟩
def CXP_LNK_ERR_CNT_VALUE (p k : Nat) : Fld := ⟨0x81008 + 0x4000 * p + 0x400 * k, 31, 0⟩
def CXP_LNK_DOWN_CNT_VALUE (p k : Nat) : Fld := ⟨0x8100C + 0x4000 * p + 0x400 * k, 31, 0⟩
def CXP_LNK_POISON_CNT_VALUE (p k : Nat) : Fld := ⟨0x81010 + 0x4000 * p + 0x400 * k, 31, 0⟩
def CXP_LNK_DISCARD_CNT_VALUE (p k : Nat) : Fld := ⟨0x81014 + 0x4000 * p + 0x400 * k, 31, 0⟩
def CXP_PORT_CFG_BIF (i : Nat) : Fld := ⟨0x82000 + 0x4000 * i, 1, 0⟩
def CXP_MODE_LDS : Fld := ⟨0x83000, 2, 1⟩
def CXP_MODE_ATTACH : Fld := ⟨0x83000, 0, 0⟩
def CXP_SF_STATUS_USED : Fld := ⟨0x83004, 25, 0⟩
def CXP_BI_CTRL_TIMEOUT : Fld := ⟨0x83008, 7, 0⟩
def CXP_BI_TIMEOUT_CNT_VALUE : Fld := ⟨0x8300C, 31, 0⟩
def CXP_SF_EVICT_CNT_VALUE : Fld := ⟨0x83010, 31, 0⟩
def CXP_CNT_STATUS_EVICT_SAT : Fld := ⟨0x83014, 1, 1⟩
def CXP_CNT_STATUS_BITO_SAT : Fld := ⟨0x83014, 0, 0⟩
def CXP_GFAM_HOST_BOUND (i : Nat) : Fld := ⟨0x87000 + 0x4 * i, 31, 31⟩
def CXP_GFAM_HOST_PBR_ID (i : Nat) : Fld := ⟨0x87000 + 0x4 * i, 27, 16⟩
def CXP_GFAM_HOST_GROUP (i : Nat) : Fld := ⟨0x87000 + 0x4 * i, 5, 0⟩
def UTE_CFG_VID : Fld := ⟨0x100000, 27, 16⟩
def UTE_CFG_VLAN_EN : Fld := ⟨0x100000, 15, 15⟩
def UTE_CFG_SPLIT1 : Fld := ⟨0x100000, 9, 9⟩
def UTE_CFG_SPLIT0 : Fld := ⟨0x100000, 8, 8⟩
def UTE_CFG_JUMBO : Fld := ⟨0x100000, 4, 4⟩
def UTE_STATUS_SHED_USED : Fld := ⟨0x100004, 27, 16⟩
def UTE_STATUS_WAITS : Fld := ⟨0x100004, 12, 0⟩
def UTE_NET_NODE : Fld := ⟨0x100008, 31, 16⟩
def UTE_NET_PORT : Fld := ⟨0x100008, 15, 0⟩
def UTE_SPORT_BASE : Fld := ⟨0x10000C, 15, 0⟩
def UTE_CC_CTRL_HIGH : Fld := ⟨0x100010, 31, 24⟩
def UTE_CC_CTRL_LOW : Fld := ⟨0x100010, 23, 16⟩
def UTE_CC_CTRL_WINIT : Fld := ⟨0x100010, 15, 8⟩
def UTE_CC_CTRL_STEP : Fld := ⟨0x100010, 7, 0⟩
def UTE_RETX_CTRL_MIN_RTO : Fld := ⟨0x100014, 31, 16⟩
def UTE_RETX_CTRL_MAX : Fld := ⟨0x100014, 3, 0⟩
def UTE_TIMER_MCT_HOLD : Fld := ⟨0x100018, 31, 24⟩
def UTE_TIMER_LIFE : Fld := ⟨0x100018, 23, 16⟩
def UTE_TIMER_LEASE : Fld := ⟨0x100018, 15, 0⟩
def UTE_SHED_CTRL_RETRY : Fld := ⟨0x10001C, 15, 0⟩
def UTE_TWIN_W_W : Fld := ⟨0x100020, 15, 0⟩
def UTE_RETX_CNT_VALUE : Fld := ⟨0x100030, 31, 0⟩
def UTE_NACK_TX_CNT_VALUE : Fld := ⟨0x100034, 31, 0⟩
def UTE_STALE_CNT_VALUE : Fld := ⟨0x100038, 31, 0⟩
def UTE_CTX_MISS_CNT_VALUE : Fld := ⟨0x10003C, 31, 0⟩
def UTE_DROP_CNT_VALUE : Fld := ⟨0x100040, 31, 0⟩
def UTE_DB_REJECT_CNT_VALUE : Fld := ⟨0x100044, 31, 0⟩
def UTE_MSG_FAIL_CNT_VALUE : Fld := ⟨0x100048, 31, 0⟩
def UTE_CNT_STATUS_SAT : Fld := ⟨0x10004C, 6, 0⟩
def UTE_LINK_STATUS_STATE (i : Nat) : Fld := ⟨0x100100 + 0x40 * i, 2, 0⟩
def UTE_LINK_IP4_ADDR (i : Nat) : Fld := ⟨0x100104 + 0x40 * i, 31, 0⟩
def DMC_STATUS_THERM_HOT (i : Nat) : Fld := ⟨0x200000 + 0x4000 * i, 9, 9⟩
def DMC_STATUS_PANIC (i : Nat) : Fld := ⟨0x200000 + 0x4000 * i, 8, 8⟩
def DMC_STATUS_DIMM_PWR (i : Nat) : Fld := ⟨0x200000 + 0x4000 * i, 5, 4⟩
def DMC_STATUS_RETRAIN_LIMIT (i : Nat) : Fld := ⟨0x200000 + 0x4000 * i, 3, 3⟩
def DMC_STATUS_STATE (i : Nat) : Fld := ⟨0x200000 + 0x4000 * i, 2, 0⟩
def DMC_CFG_ROW_BITS (i : Nat) : Fld := ⟨0x200004 + 0x4000 * i, 20, 16⟩
def DMC_CFG_NCB (i : Nat) : Fld := ⟨0x200004 + 0x4000 * i, 12, 12⟩
def DMC_CFG_HEIGHT (i : Nat) : Fld := ⟨0x200004 + 0x4000 * i, 9, 8⟩
def DMC_CFG_PRANKS (i : Nat) : Fld := ⟨0x200004 + 0x4000 * i, 5, 5⟩
def DMC_CFG_DPC (i : Nat) : Fld := ⟨0x200004 + 0x4000 * i, 4, 4⟩
def DMC_CFG_DENSITY (i : Nat) : Fld := ⟨0x200004 + 0x4000 * i, 0, 0⟩
def DMC_TSET_RFCSB (p k : Nat) : Fld := ⟨0x200008 + 0x4000 * p + 0x4 * k, 31, 24⟩
def DMC_TSET_RP (p k : Nat) : Fld := ⟨0x200008 + 0x4000 * p + 0x4 * k, 23, 16⟩
def DMC_TSET_RCD (p k : Nat) : Fld := ⟨0x200008 + 0x4000 * p + 0x4 * k, 15, 8⟩
def DMC_TSET_CL (p k : Nat) : Fld := ⟨0x200008 + 0x4000 * p + 0x4 * k, 7, 0⟩
def DMC_PANIC_CNT_VALUE (i : Nat) : Fld := ⟨0x200020 + 0x4000 * i, 31, 0⟩
def DMC_RFM_CNT_VALUE (i : Nat) : Fld := ⟨0x200024 + 0x4000 * i, 31, 0⟩
def DMC_RETRAIN_CNT_VALUE (i : Nat) : Fld := ⟨0x200028 + 0x4000 * i, 31, 0⟩
def DMC_CNT_STATUS_RETRAIN_SAT (i : Nat) : Fld := ⟨0x20002C + 0x4000 * i, 2, 2⟩
def DMC_CNT_STATUS_RFM_SAT (i : Nat) : Fld := ⟨0x20002C + 0x4000 * i, 1, 1⟩
def DMC_CNT_STATUS_PANIC_SAT (i : Nat) : Fld := ⟨0x20002C + 0x4000 * i, 0, 0⟩
def DMC_FREQ_BUSY : Fld := ⟨0x203000, 8, 8⟩
def DMC_FREQ_SET : Fld := ⟨0x203000, 1, 0⟩
def DMC_WQ_WMARK_HIGH : Fld := ⟨0x203004, 13, 8⟩
def DMC_WQ_WMARK_LOW : Fld := ⟨0x203004, 5, 0⟩
def DMC_PANIC_CTRL_MAX : Fld := ⟨0x203008, 31, 16⟩
def DMC_PANIC_CTRL_READ : Fld := ⟨0x203008, 15, 0⟩
def DMC_PAGE_CTRL_IDLE : Fld := ⟨0x20300C, 7, 0⟩
def DMC_RET_CTRL_MASK : Fld := ⟨0x203010, 23, 0⟩
def HBC_STATUS_THERM_HOT : Fld := ⟨0x300000, 16, 16⟩
def HBC_STATUS_IN_SERVICE : Fld := ⟨0x300000, 15, 0⟩
def HBC_LAYOUT_STAGE_BASE : Fld := ⟨0x300004, 6, 0⟩
def HBC_CH_STATUS_LANES_REPAIRED (i : Nat) : Fld := ⟨0x300100 + 0x4 * i, 7, 4⟩
def HBC_CH_STATUS_STATE (i : Nat) : Fld := ⟨0x300100 + 0x4 * i, 2, 0⟩
def FTC_CFG_OP : Fld := ⟨0x340000, 23, 16⟩
def FTC_CFG_CMP_DEF : Fld := ⟨0x340000, 9, 8⟩
def FTC_CFG_FLUSH_BG : Fld := ⟨0x340000, 7, 0⟩
def FTC_LOFT_CTRL_SIZE : Fld := ⟨0x340004, 6, 0⟩
def FTC_STATUS_GROUPS : Fld := ⟨0x340008, 31, 28⟩
def FTC_STATUS_MAP_LOADED : Fld := ⟨0x340008, 27, 27⟩
def FTC_STATUS_RESTORE_DONE : Fld := ⟨0x340008, 26, 26⟩
def FTC_STATUS_FOLD_DONE : Fld := ⟨0x340008, 25, 25⟩
def FTC_STATUS_SPACE_LOW : Fld := ⟨0x340008, 24, 24⟩
def FTC_STATUS_SPACE_FULL : Fld := ⟨0x340008, 23, 23⟩
def FTC_STATUS_CFG_ERR : Fld := ⟨0x340008, 22, 22⟩
def FTC_STATUS_LOFT_PENDING : Fld := ⟨0x340008, 21, 21⟩
def FTC_STATUS_DIES_RETIRED : Fld := ⟨0x340008, 16, 6⟩
def FTC_STATUS_CH_IN_SERVICE : Fld := ⟨0x340008, 5, 0⟩
def FTC_GC_CTRL_HIGH : Fld := ⟨0x34000C, 23, 16⟩
def FTC_GC_CTRL_LOW : Fld := ⟨0x34000C, 15, 8⟩
def FTC_GC_CTRL_FULL : Fld := ⟨0x34000C, 7, 0⟩
def FTC_MEDIA_CTRL_SCRUB_DAYS : Fld := ⟨0x340010, 31, 24⟩
def FTC_MEDIA_CTRL_WL_DELTA : Fld := ⟨0x340010, 15, 0⟩
def FTC_WEAR_MAX : Fld := ⟨0x340014, 31, 16⟩
def FTC_WEAR_MIN : Fld := ⟨0x340014, 15, 0⟩
def FTC_RAW_VALUE : Fld := ⟨0x340018, 63, 0⟩
def FTC_U_VALUE : Fld := ⟨0x340020, 63, 0⟩
def FTC_DRAM_RSV_VALUE : Fld := ⟨0x340028, 63, 0⟩
def FTC_FREE_VALUE : Fld := ⟨0x340030, 63, 0⟩
def FTC_RETRY_CNT_VALUE : Fld := ⟨0x340040, 31, 0⟩
def FTC_REBUILD_CNT_VALUE : Fld := ⟨0x340044, 31, 0⟩
def FTC_BADBLK_CNT_VALUE : Fld := ⟨0x340048, 31, 0⟩
def FTC_RELOC_CNT_VALUE : Fld := ⟨0x34004C, 31, 0⟩
def FTC_CNT_STATUS_RELOC_SAT : Fld := ⟨0x340050, 3, 3⟩
def FTC_CNT_STATUS_BADBLK_SAT : Fld := ⟨0x340050, 2, 2⟩
def FTC_CNT_STATUS_REBUILD_SAT : Fld := ⟨0x340050, 1, 1⟩
def FTC_CNT_STATUS_RETRY_SAT : Fld := ⟨0x340050, 0, 0⟩
def FTC_CH_STATUS_DIES_RETIRED (i : Nat) : Fld := ⟨0x340100 + 0x4 * i, 21, 16⟩
def FTC_CH_STATUS_RATE (i : Nat) : Fld := ⟨0x340100 + 0x4 * i, 15, 8⟩
def FTC_CH_STATUS_PKGS (i : Nat) : Fld := ⟨0x340100 + 0x4 * i, 3, 2⟩
def FTC_CH_STATUS_STATE (i : Nat) : Fld := ⟨0x340100 + 0x4 * i, 1, 0⟩
def INT_STATUS_EVAC_BUSY : Fld := ⟨0x400000, 16, 16⟩
def INT_STATUS_EVAC_CH : Fld := ⟨0x400000, 15, 12⟩
def INT_STATUS_EVAC_RANK : Fld := ⟨0x400000, 11, 8⟩
def INT_STATUS_QUAY_DEGRADED : Fld := ⟨0x400000, 0, 0⟩
def INT_SCRUB_CTRL_DRAM_H : Fld := ⟨0x400004, 31, 24⟩
def INT_SCRUB_CTRL_QUAY_H : Fld := ⟨0x400004, 23, 16⟩
def INT_SCRUB_CTRL_SRAM_S : Fld := ⟨0x400004, 15, 8⟩
def INT_SCRUB_CTRL_SET_H : Fld := ⟨0x400004, 7, 0⟩
def INT_LOG_CTRL_CE_LOG : Fld := ⟨0x400008, 8, 8⟩
def INT_LOG_CTRL_COALESCE : Fld := ⟨0x400008, 7, 0⟩
def INT_LOG_STATUS_NEWEST : Fld := ⟨0x40000C, 27, 16⟩
def INT_LOG_STATUS_FULL : Fld := ⟨0x40000C, 15, 15⟩
def INT_LOG_STATUS_COUNT : Fld := ⟨0x40000C, 12, 0⟩
def INT_CE_CNT_VALUE (i : Nat) : Fld := ⟨0x400010 + 0x4 * i, 31, 0⟩
def INT_UE_CNT_VALUE (i : Nat) : Fld := ⟨0x400020 + 0x4 * i, 31, 0⟩
def INT_POISON_CNT_VALUE : Fld := ⟨0x400030, 31, 0⟩
def INT_RETIRE_CNT_VALUE : Fld := ⟨0x400034, 31, 0⟩
def INT_CNT_STATUS_DROP_SAT : Fld := ⟨0x400038, 10, 10⟩
def INT_CNT_STATUS_RETIRE_SAT : Fld := ⟨0x400038, 9, 9⟩
def INT_CNT_STATUS_POISON_SAT : Fld := ⟨0x400038, 8, 8⟩
def INT_CNT_STATUS_UE_SAT : Fld := ⟨0x400038, 7, 4⟩
def INT_CNT_STATUS_CE_SAT : Fld := ⟨0x400038, 3, 0⟩
def INT_POISON_LIST_OVERFLOW : Fld := ⟨0x40003C, 17, 17⟩
def INT_POISON_LIST_ENTRIES : Fld := ⟨0x40003C, 16, 0⟩
def INT_LOG_DROP_CNT_VALUE : Fld := ⟨0x400040, 31, 0⟩
def INT_CHK_RATE_GBPS : Fld := ⟨0x400044, 7, 0⟩
def INT_SPARE_CTRL_RATE : Fld := ⟨0x400048, 7, 0⟩
def INT_CHK_CTRL_START (i : Nat) : Fld := ⟨0x400100 + 0x40 * i, 31, 31⟩
def INT_CHK_CTRL_STOP (i : Nat) : Fld := ⟨0x400100 + 0x40 * i, 30, 30⟩
def INT_CHK_CTRL_POLY (i : Nat) : Fld := ⟨0x400100 + 0x40 * i, 25, 24⟩
def INT_CHK_CTRL_OWNER_KIND (i : Nat) : Fld := ⟨0x400100 + 0x40 * i, 16, 16⟩
def INT_CHK_CTRL_OWNER (i : Nat) : Fld := ⟨0x400100 + 0x40 * i, 15, 0⟩
def INT_CHK_STATUS_STATE (i : Nat) : Fld := ⟨0x400104 + 0x40 * i, 2, 0⟩
def INT_CHK_START_VALUE (i : Nat) : Fld := ⟨0x400108 + 0x40 * i, 63, 0⟩
def INT_CHK_LEN_VALUE (i : Nat) : Fld := ⟨0x400110 + 0x40 * i, 63, 0⟩
def INT_CHK_CUR_VALUE (i : Nat) : Fld := ⟨0x400118 + 0x40 * i, 63, 0⟩
def INT_CHK_VALUE_VALUE (i : Nat) : Fld := ⟨0x400120 + 0x40 * i, 63, 0⟩
def INT_CHK_RESULT_VALUE (i : Nat) : Fld := ⟨0x400128 + 0x40 * i, 63, 0⟩
def EPC_STATUS_GATES : Fld := ⟨0x440000, 18, 16⟩
def EPC_STATUS_PF_STATE : Fld := ⟨0x440000, 15, 14⟩
def EPC_STATUS_REH_BUSY : Fld := ⟨0x440000, 10, 10⟩
def EPC_STATUS_REH_FAIL : Fld := ⟨0x440000, 9, 9⟩
def EPC_STATUS_VAON_LOW : Fld := ⟨0x440000, 8, 8⟩
def EPC_STATUS_PACK_FAULT : Fld := ⟨0x440000, 7, 7⟩
def EPC_STATUS_GROUP_FAULT : Fld := ⟨0x440000, 6, 6⟩
def EPC_STATUS_FE_FAIL : Fld := ⟨0x440000, 5, 5⟩
def EPC_STATUS_HOT : Fld := ⟨0x440000, 4, 4⟩
def EPC_STATUS_COLD : Fld := ⟨0x440000, 3, 3⟩
def EPC_STATUS_CHARGING : Fld := ⟨0x440000, 1, 1⟩
def EPC_STATUS_HEATING : Fld := ⟨0x440000, 0, 0⟩
def EPC_CFG_SHARE : Fld := ⟨0x440004, 23, 16⟩
def EPC_CFG_RIDE : Fld := ⟨0x440004, 15, 1⟩
def EPC_CFG_SHARED : Fld := ⟨0x440004, 0, 0⟩
def EPC_REH_CTRL_START : Fld := ⟨0x440008, 31, 31⟩
def EPC_REH_CTRL_DAYS : Fld := ⟨0x440008, 7, 0⟩
def EPC_E_USE_VALUE : Fld := ⟨0x44000C, 31, 0⟩
def EPC_C_SAVE_C_SAVE : Fld := ⟨0x440010, 15, 0⟩
def EPC_E_FIX_VALUE : Fld := ⟨0x440014, 31, 0⟩
def EPC_P_RUN_P_RUN : Fld := ⟨0x440018, 15, 0⟩
def EPC_MODEL_H : Fld := ⟨0x44001C, 25, 16⟩
def EPC_MODEL_S : Fld := ⟨0x44001C, 9, 0⟩
def EPC_PACK_VI_VBUS : Fld := ⟨0x440020, 31, 16⟩
def EPC_PACK_VI_IBAT : Fld := ⟨0x440020, 15, 0⟩
def EPC_PACK_T_TMAX : Fld := ⟨0x440024, 31, 16⟩
def EPC_PACK_T_TMIN : Fld := ⟨0x440024, 15, 0⟩
def EPC_DRIVE_HOLD : Fld := ⟨0x440028, 21, 21⟩
def EPC_DRIVE_CHG : Fld := ⟨0x440028, 20, 20⟩
def EPC_DRIVE_HEAT_DUTY : Fld := ⟨0x440028, 19, 10⟩
def EPC_DRIVE_ISET_DUTY : Fld := ⟨0x440028, 9, 0⟩
def EPC_VAON_MIN : Fld := ⟨0x44002C, 31, 16⟩
def EPC_VAON_NOW : Fld := ⟨0x44002C, 15, 0⟩
def EPC_REH_LAST_GIB : Fld := ⟨0x440030, 31, 16⟩
def EPC_REH_LAST_RESULT : Fld := ⟨0x440030, 15, 12⟩
def EPC_SAVE_CNT_VALUE : Fld := ⟨0x440034, 31, 0⟩
def EPC_FE_ERR_CNT_VALUE : Fld := ⟨0x440038, 31, 0⟩
def EPC_CNT_STATUS_FE_ERR_SAT : Fld := ⟨0x44003C, 1, 1⟩
def EPC_CNT_STATUS_SAVE_SAT : Fld := ⟨0x44003C, 0, 0⟩
def EPC_PROFILE_WORD (i : Nat) : Fld := ⟨0x440100 + 0x4 * i, 31, 0⟩
def TWN_CFG_FWD_WAIT : Fld := ⟨0x480000, 31, 24⟩
def TWN_CFG_JOIN_WAIT : Fld := ⟨0x480000, 23, 16⟩
def TWN_CFG_UNIT : Fld := ⟨0x480000, 1, 1⟩
def TWN_CFG_MODE : Fld := ⟨0x480000, 0, 0⟩
def TWN_STATUS_ENTRY_CLASH : Fld := ⟨0x480004, 12, 12⟩
def TWN_STATUS_KIND_MISMATCH : Fld := ⟨0x480004, 11, 11⟩
def TWN_STATUS_UNIT_CLASH : Fld := ⟨0x480004, 10, 10⟩
def TWN_STATUS_RESYNC : Fld := ⟨0x480004, 9, 9⟩
def TWN_STATUS_REBUILD : Fld := ⟨0x480004, 8, 8⟩
def TWN_STATUS_GRANTED : Fld := ⟨0x480004, 7, 7⟩
def TWN_STATUS_LANES : Fld := ⟨0x480004, 6, 4⟩
def TWN_STATUS_HB_SIDE : Fld := ⟨0x480004, 3, 3⟩
def TWN_STATUS_HB_MIR : Fld := ⟨0x480004, 2, 2⟩
def TWN_STATUS_TWIN_STATE : Fld := ⟨0x480004, 1, 0⟩
def TWN_RSET_KIND_MAP : Fld := ⟨0x480008, 63, 0⟩
def TWN_RSET_HOME_MAP : Fld := ⟨0x480010, 63, 0⟩
def TWN_RSET_OWN_MAP : Fld := ⟨0x480018, 63, 0⟩
def TWN_RSET_STALE_MAP : Fld := ⟨0x480020, 63, 0⟩
def TWN_CLAIM_NUM_VALUE : Fld := ⟨0x480028, 63, 0⟩
def TWN_CLAIM_EPOCH_EPOCH : Fld := ⟨0x480030, 31, 0⟩
def TWN_LANE_STATUS_STUCK : Fld := ⟨0x480034, 6, 4⟩
def TWN_LANE_STATUS_EXCLUDED : Fld := ⟨0x480034, 2, 0⟩
def TWN_RESYNC_CTRL_RATE : Fld := ⟨0x480038, 7, 0⟩
def TWN_RESYNC_PAGES_VALUE : Fld := ⟨0x480040, 63, 0⟩
def TWN_FAILOVER_CNT_VALUE : Fld := ⟨0x480048, 31, 0⟩
def TWN_DIGEST_ERR_CNT_VALUE : Fld := ⟨0x48004C, 31, 0⟩
def TWN_CLM_ERR_CNT_VALUE : Fld := ⟨0x480050, 31, 0⟩
def TWN_FWD_FAIL_CNT_VALUE : Fld := ⟨0x480054, 31, 0⟩
def TWN_HB_LOSS_CNT_VALUE : Fld := ⟨0x480058, 31, 0⟩
def TWN_CNT_STATUS_HB_LOSS_SAT : Fld := ⟨0x48005C, 4, 4⟩
def TWN_CNT_STATUS_FWD_FAIL_SAT : Fld := ⟨0x48005C, 3, 3⟩
def TWN_CNT_STATUS_CLM_ERR_SAT : Fld := ⟨0x48005C, 2, 2⟩
def TWN_CNT_STATUS_DIGEST_ERR_SAT : Fld := ⟨0x48005C, 1, 1⟩
def TWN_CNT_STATUS_FAILOVER_SAT : Fld := ⟨0x48005C, 0, 0⟩
def ICU_ZERO_CLAIM_CNT_VALUE : Fld := ⟨0x4C000C, 31, 0⟩
def ICU_BAD_COMPLETE_CNT_VALUE : Fld := ⟨0x4C0010, 31, 0⟩
def ICU_CNT_STATUS_BADC_SAT : Fld := ⟨0x4C0014, 1, 1⟩
def ICU_CNT_STATUS_ZERO_SAT : Fld := ⟨0x4C0014, 0, 0⟩
def ICU_AON_SEL_WAKE (i : Nat) : Fld := ⟨0x4C0400 + 0x4 * i, 31, 31⟩
def ICU_AON_SEL_LATCH (i : Nat) : Fld := ⟨0x4C0400 + 0x4 * i, 30, 30⟩
def ICU_AON_SEL_ID (i : Nat) : Fld := ⟨0x4C0400 + 0x4 * i, 9, 0⟩
def ICU_AON_STATUS_FIRED : Fld := ⟨0x4C0480, 31, 0⟩
def ICU_HOST_UTVEC_EN (i : Nat) : Fld := ⟨0x4C0500 + 0x4 * i, 15, 15⟩
def ICU_HOST_UTVEC_VECTOR (i : Nat) : Fld := ⟨0x4C0500 + 0x4 * i, 1, 0⟩
def CCX_HM_STATUS_FENCED : Fld := ⟨0x500000, 18, 16⟩
def CCX_HM_STATUS_VOTING : Fld := ⟨0x500000, 14, 12⟩
def CCX_HM_STATUS_DISAGREE : Fld := ⟨0x500000, 10, 8⟩
def CCX_HM_STATUS_NO_MAJORITY : Fld := ⟨0x500000, 4, 4⟩
def CCX_HM_STATUS_PHASE : Fld := ⟨0x500000, 3, 2⟩
def CCX_HM_STATUS_MODE : Fld := ⟨0x500000, 0, 0⟩
def CCX_HM_CTRL_INJECT : Fld := ⟨0x500004, 10, 8⟩
def CCX_HM_CTRL_FENCE_LIMIT : Fld := ⟨0x500004, 7, 0⟩
def CCX_HM_RESYNC_CNT_VALUE : Fld := ⟨0x500008, 31, 0⟩
def CCX_HM_RESTART_CNT_VALUE : Fld := ⟨0x50000C, 31, 0⟩
def CCX_CNT_STATUS_RESTART_SAT : Fld := ⟨0x500010, 1, 1⟩
def CCX_CNT_STATUS_RESYNC_SAT : Fld := ⟨0x500010, 0, 0⟩
def CCX_TIME_COUNT : Fld := ⟨0x500018, 63, 0⟩
def CCX_CORE_STATUS_WDOG (i : Nat) : Fld := ⟨0x501000 + 0x100 * i, 17, 17⟩
def CCX_CORE_STATUS_UE (i : Nat) : Fld := ⟨0x501000 + 0x100 * i, 16, 16⟩
def CCX_CORE_STATUS_STATE (i : Nat) : Fld := ⟨0x501000 + 0x100 * i, 1, 0⟩
def CCX_CORE_CLASS_CLASS (i : Nat) : Fld := ⟨0x501004 + 0x100 * i, 2, 0⟩
def CCX_CACHE_CTRL_PF_EN (i : Nat) : Fld := ⟨0x501008 + 0x100 * i, 1, 1⟩
def CCX_CACHE_CTRL_EN (i : Nat) : Fld := ⟨0x501008 + 0x100 * i, 0, 0⟩
def CCX_CACHE_STATUS_LOST_IDX (i : Nat) : Fld := ⟨0x50100C + 0x100 * i, 23, 18⟩
def CCX_CACHE_STATUS_LOST_MULTI (i : Nat) : Fld := ⟨0x50100C + 0x100 * i, 17, 17⟩
def CCX_CACHE_STATUS_LOCK_LOST (i : Nat) : Fld := ⟨0x50100C + 0x100 * i, 16, 16⟩
def CCX_CACHE_STATUS_LOCK_FULL (i : Nat) : Fld := ⟨0x50100C + 0x100 * i, 15, 15⟩
def CCX_CACHE_STATUS_ZP (i : Nat) : Fld := ⟨0x50100C + 0x100 * i, 11, 6⟩
def CCX_CACHE_STATUS_LOCKED (i : Nat) : Fld := ⟨0x50100C + 0x100 * i, 5, 0⟩
def CCX_CACHE_OP_BUSY (i : Nat) : Fld := ⟨0x501010 + 0x100 * i, 31, 31⟩
def CCX_CACHE_OP_OP (i : Nat) : Fld := ⟨0x501010 + 0x100 * i, 3, 0⟩
def CCX_CACHE_OPADDR_VALUE (i : Nat) : Fld := ⟨0x501018 + 0x100 * i, 63, 0⟩
def CCX_CACHE_OPLEN_VALUE (i : Nat) : Fld := ⟨0x501020 + 0x100 * i, 63, 0⟩
def CCX_TMR0_CMP_CMP (i : Nat) : Fld := ⟨0x501028 + 0x100 * i, 63, 0⟩
def CCX_TMR1_CMP_CMP (i : Nat) : Fld := ⟨0x501030 + 0x100 * i, 63, 0⟩
def CCX_TMR_CTRL_EN1 (i : Nat) : Fld := ⟨0x501038 + 0x100 * i, 1, 1⟩
def CCX_TMR_CTRL_EN0 (i : Nat) : Fld := ⟨0x501038 + 0x100 * i, 0, 0⟩
def CCX_WDOG_EN (i : Nat) : Fld := ⟨0x50103C + 0x100 * i, 31, 31⟩
def CCX_WDOG_PERIOD (i : Nat) : Fld := ⟨0x50103C + 0x100 * i, 23, 0⟩
def CLK_STATUS_FAIL : Fld := ⟨0x540000, 19, 19⟩
def CLK_STATUS_STEP : Fld := ⟨0x540000, 18, 16⟩
def CLK_STATUS_FIRST : Fld := ⟨0x540000, 8, 8⟩
def CLK_STATUS_XTAL_FAIL : Fld := ⟨0x540000, 7, 7⟩
def CLK_STATUS_REF_LOST : Fld := ⟨0x540000, 6, 6⟩
def CLK_STATUS_MEM_ACTIVE : Fld := ⟨0x540000, 5, 5⟩
def CLK_STATUS_PWR_STATE : Fld := ⟨0x540000, 1, 0⟩
def CLK_RESET_CAUSE_CAUSE : Fld := ⟨0x540004, 3, 0⟩
def CLK_REF_LOSS_CNT_VALUE : Fld := ⟨0x540008, 31, 0⟩
def CLK_SYS_RST_CNT_VALUE : Fld := ⟨0x54000C, 31, 0⟩
def CLK_CNT_STATUS_SYS_RST_SAT : Fld := ⟨0x540010, 1, 1⟩
def CLK_CNT_STATUS_REF_LOSS_SAT : Fld := ⟨0x540010, 0, 0⟩
def CLK_STEP_END_TIME (i : Nat) : Fld := ⟨0x540020 + 0x4 * i, 31, 0⟩
def SET_STATUS_DENIED_SAT : Fld := ⟨0x588000, 16, 16⟩
def SET_STATUS_BUSY : Fld := ⟨0x588000, 15, 15⟩
def SET_STATUS_FROZEN : Fld := ⟨0x588000, 12, 0⟩
def SET_DENIED_CNT_VALUE : Fld := ⟨0x588004, 31, 0⟩
def REC_STATUS_ARMED : Fld := ⟨0x5C0000, 31, 31⟩
def REC_STATUS_OPEN : Fld := ⟨0x5C0000, 30, 30⟩
def REC_STATUS_LOST : Fld := ⟨0x5C0000, 29, 29⟩
def REC_STATUS_CIRC : Fld := ⟨0x5C0000, 26, 18⟩
def REC_STATUS_KEPT : Fld := ⟨0x5C0000, 17, 9⟩
def REC_STATUS_NEWEST : Fld := ⟨0x5C0000, 8, 0⟩
def REC_HOURS_VALUE : Fld := ⟨0x5C0004, 31, 0⟩
def REC_CYCLES_VALUE : Fld := ⟨0x5C0008, 31, 0⟩
def REC_OPEN_HOURS_VALUE : Fld := ⟨0x5C000C, 31, 0⟩
def TST_STATUS_LB_COUNT : Fld := ⟨0x600000, 14, 8⟩
def TST_STATUS_PROD_HOLD : Fld := ⟨0x600000, 3, 3⟩
def TST_STATUS_JTAG_HELD : Fld := ⟨0x600000, 2, 2⟩
def TST_STATUS_DBG_ACTIVE : Fld := ⟨0x600000, 1, 1⟩
def TST_STATUS_TAP_ACTIVE : Fld := ⟨0x600000, 0, 0⟩
def TST_LB_CTRL_GO : Fld := ⟨0x600004, 31, 31⟩
def TST_LB_CTRL_KIND : Fld := ⟨0x600004, 26, 24⟩
def TST_LB_CTRL_INSTANCE : Fld := ⟨0x600004, 22, 16⟩
def TST_LB_CTRL_DEPTH : Fld := ⟨0x600004, 10, 8⟩
def TST_LB_CTRL_LAST : Fld := ⟨0x600004, 7, 0⟩
def TST_PROD_ARM : Fld := ⟨0x600008, 31, 31⟩
def TST_PROD_ARMED : Fld := ⟨0x600008, 0, 0⟩

end Sys2Proof.Machine.F
end

