-- ==== Sys2Proof/Machine/Sparse.lean ====
section
/-! DEFINITION. Reading and writing sparse tables, and the canonical form they keep. -/
namespace Sys2Proof.Machine

/-- What key `n` holds; `d` is what an unlisted key reads as. -/
def sget {α : Type} (d : α) : SMap α → Nat → α
  | [], _ => d
  | (k, v) :: t, n => if k = n then v else sget d t n

/-- Write `v` at key `n`, keeping the keys rising and no entry equal to `d`. -/
def sput {α : Type} [DecidableEq α] (d : α) : SMap α → Nat → α → SMap α
  | [], n, v => if v = d then [] else [(n, v)]
  | (k, w) :: t, n, v =>
    if n < k then (if v = d then (k, w) :: t else (n, v) :: (k, w) :: t)
    else if n = k then (if v = d then t else (n, v) :: t)
    else (k, w) :: sput d t n v

/-- Write every pair of `kvs` into `m`, first to last. -/
def sputAll {α : Type} [DecidableEq α] (d : α) (m : SMap α) (kvs : SMap α) : SMap α :=
  kvs.foldl (fun a kv => sput d a kv.1 kv.2) m

/-- Every key of `m` is above `n`. -/
def sabove {α : Type} (n : Nat) : SMap α → Bool
  | [] => true
  | (k, _) :: _ => n < k

/-- The canonical form: keys strictly rising, no entry equal to `d`. -/
def swf {α : Type} [DecidableEq α] (d : α) : SMap α → Bool
  | [] => true
  | (k, v) :: t => v ≠ d && sabove k t && swf d t

/-- Remove every listed key that `p` names. -/
def sdrop {α : Type} (p : Nat → Bool) (m : SMap α) : SMap α := m.filter fun kv => !p kv.1

/-- The canonical form of a memory, where an unlisted byte reads as 0. -/
abbrev Memory.wf (m : SMap Byte) : Prop := swf (0 : Byte) m = true

/-- One byte of a memory. -/
def memByte (m : SMap Byte) (a : Nat) : Byte := sget 0 m a
/-- Write one byte of a memory. -/
def memPut (m : SMap Byte) (a : Nat) (b : Byte) : SMap Byte := sput 0 m a b

/-- Byte `i` of a line (00_scope.md R12: byte 0 in the low bits). -/
def lineByte (l : Line) (i : Nat) : Byte := BitVec.ofNat 8 (l.toNat >>> (8 * i))
/-- A little-endian number from its bytes. -/
def leNat : List Byte → Nat
  | [] => 0
  | b :: t => b.toNat + 256 * leNat t
/-- The `n` bytes of a number, little-endian. -/
def natBytes : Nat → Nat → List Byte
  | 0, _ => []
  | n + 1, v => BitVec.ofNat 8 v :: natBytes n (v / 256)

/-- `n` bytes of a memory from address `a`. -/
def memBytes (m : SMap Byte) (a : Nat) : Nat → List Byte
  | 0 => []
  | n + 1 => memByte m a :: memBytes m (a + 1) n

/-- Store bytes from address `a` up. -/
def memPutBytes (m : SMap Byte) (a : Nat) : List Byte → SMap Byte
  | [] => m
  | b :: t => memPutBytes (memPut m a b) (a + 1) t

/-- Line number `n` of a memory (its first byte at 64 × n). -/
def memLine (m : SMap Byte) (n : Nat) : Line := BitVec.ofNat 512 (leNat (memBytes m (64 * n) 64))

/-- Store the bytes of `l` that `mask` names, from byte `i` down to byte 0 of line `n`. -/
def memPutMasked (m : SMap Byte) (n : Nat) (l : Line) (mask : BitVec 64) : Nat → SMap Byte
  | 0 => m
  | i + 1 =>
    let m' := memPutMasked m n l mask i
    if mask.getLsbD i then memPut m' (64 * n + i) (lineByte l i) else m'

/-- A masked store of one line. -/
def memPutLine (m : SMap Byte) (n : Nat) (l : Line) (mask : BitVec 64) : SMap Byte := memPutMasked m n l mask 64

/-- The bytes of `new` that `mask` names over the others of `old`. -/
def mergeLine (old new : Line) (mask : BitVec 64) : Nat → Line
  | 0 => 0
  | i + 1 =>
    let b := if mask.getLsbD i then lineByte new i else lineByte old i
    mergeLine old new mask i ||| (BitVec.ofNat 512 (b.toNat <<< (8 * i)))

/-- Drop every byte of the page with number `p`. -/
def memDropPage (m : SMap Byte) (p : Nat) : SMap Byte := sdrop (fun a => a / 4096 = p) m
/-- The bytes of page `p`, as offsets in the page. -/
def memPage (m : SMap Byte) (p : Nat) : SMap Byte :=
  (m.filter fun kv => kv.1 / 4096 = p).map fun kv => (kv.1 % 4096, kv.2)
/-- Put a page's bytes (offsets in the page) at page `p`, replacing what was there. -/
def memSetPage (m : SMap Byte) (p : Nat) (pg : SMap Byte) : SMap Byte :=
  pg.foldl (fun acc kv => memPut acc (4096 * p + kv.1 % 4096) kv.2) (memDropPage m p)

/-- The bits hi:lo of a number. -/
def bitsOf (v hi lo : Nat) : Nat := (v >>> lo) % 2 ^ (hi + 1 - lo)
/-- A sorted list of numbers with `n` added once. -/
def insNat (n : Nat) : List Nat → List Nat
  | [] => [n]
  | k :: t => if n < k then n :: k :: t else if n = k then k :: t else k :: insNat n t

/-- Serial-number comparison of two `w`-bit values (00_scope.md R22): is `x` newer than `y`?
A difference of half the range compares as older. -/
def newer (w x y : Nat) : Bool :=
  let d := (x + 2 ^ w - y % 2 ^ w) % 2 ^ w
  0 < d && d < 2 ^ (w - 1)
/-- R22: is `x` older than `y`? -/
def older (w x y : Nat) : Bool :=
  let d := (x + 2 ^ w - y % 2 ^ w) % 2 ^ w
  2 ^ (w - 1) ≤ d

end Sys2Proof.Machine
end

