-- ==== Sys2Proof/Machine/Parts/Clocks.lean ====
section
/-! DEFINITION. The parts of the state that clocks, resets, pins, start-up, test and the register agents name (17, 19, 20, 21). -/
namespace Sys2Proof.Machine

/-- Why the controller left FULL for SAVE (17 R631, R638). -/
inductive SaveWhy where
  | pfail | sysRst | refLoss
deriving DecidableEq, Repr

/-- A change of power state under way (17 R632 to R634). -/
inductive PowerMove where
  | none | entering | exiting | draining
deriving DecidableEq, Repr

/-- Pins and power control. -/
structure Clk where
  pwrGood : Bool
  sysRstN : Bool
  aonRstN : Bool
  pfailN : Bool
  vaon : Bool
  /-- PERST_N of each port -/
  perstN : BitVec 4
  /-- the main island is held in reset or is unpowered -/
  inReset : Bool
  /-- start-up runs from here: time of the start point of R641 -/
  start : Nat
  /-- a start-up is due: START_UP is awaited (R641) -/
  starting : Bool
  /-- step 5 waits for JOIN_WAIT (12 R475) -/
  joining : Bool
  move : PowerMove
  /-- time the move began -/
  moveSince : Nat
  /-- an exit trigger waits for the end of entry, and the drain follows the exit (R631, R632) -/
  exitWanted : Bool
  drainAfter : Bool
  saveWhy : SaveWhy
  /-- the save has committed: SAVED (R434) -/
  saved : Bool
  /-- last edge of REFCLK_SYS, edges since the loss, time of the loss -/
  refLostAt : Nat
  /-- crystal is stopped; stop time -/
  xtalAt : Nat
  /-- register fields that are read at start-up, as the last start-up read them (01 R46), by key -/
  latch : SMap Nat
  /-- the last sample of the highest junction temperature, in 0.1 °C (20 R729) -/
  tj : Int
deriving DecidableEq, Repr

/-- Pins after VAON has risen and before PWR_GOOD: resets released, no power failure (log 9). -/
def Clk.reset : Clk :=
  { pwrGood := false, sysRstN := true, aonRstN := true, pfailN := true, vaon := true, perstN := 0, inReset := true,
    start := 0, starting := false, joining := false, move := .none, moveSince := 0, exitWanted := false, drainAfter := false,
    saveWhy := .pfail, saved := false, refLostAt := 0, xtalAt := 0, latch := [], tj := 0 }

/-- What an agent of the register map holds (19 R697, R703, R751). -/
structure Agent where
  /-- register offset and the words held for the higher offsets -/
  snap : Option (Nat × List Word32)
  /-- register offset and the staged words with their index -/
  stage : Option (Nat × List (Nat × Word32))
  scratch : Word32
deriving DecidableEq, Repr
/-- An agent after reset. -/
def Agent.empty : Agent := ⟨none, none, 0⟩

/-- A loop-back slot (21 R749). -/
structure LbSlot where
  units : Nat
  errors : Nat
  sat : Bool
  result : Nat
  depth : Nat
  /-- accepted and not yet started (R736) -/
  wanted : Option Nat
deriving DecidableEq, Repr
/-- A slot that is off. -/
def LbSlot.empty : LbSlot := ⟨0, 0, false, 0, 0, none⟩

/-- The instruction in the TAP (21 R745). -/
inductive TapInstr where
  | reset | idcode | bypass | samplePreload | extest | extestPulse | extestTrain | highz | clamp | scan | mbist | hbm1500 | dbgAccess
deriving DecidableEq, Repr

/-- The test block. -/
structure Test where
  slots : SMap LbSlot
  tap : TapInstr
  /-- a DBG_ACCESS has been made since the TAP left Test-Logic-Reset (R747) -/
  dbgSeen : Bool
  /-- boundary register as preloaded -/
  boundary : Nat
  /-- data register of DBG_ACCESS (R752) -/
  dbgData : Word64
deriving DecidableEq, Repr
/-- The test block after power-on: TAP in Test-Logic-Reset. -/
def Test.reset : Test := ⟨[], .reset, false, 0, 0⟩

end Sys2Proof.Machine
end

