-- ==== Sys2Proof/Machine/Parts/Lat.lean ====
section
/-! DEFINITION. Path lengths (05_access_paths_and_latency.md) and traffic classes (06_traffic_classes_and_credits.md R212). -/
namespace Sys2Proof.Machine

/-- A path length as the spec counts it, in cycles of each domain; phase terms counted apart (00 R8, 05 R181). -/
structure Lat where
  core : Nat := 0
  ddr : Nat := 0
  hbm : Nat := 0
  ute : Nat := 0
  eth : Nat := 0
  svc : Nat := 0
  sup : Nat := 0
  epc : Nat := 0
  /-- serialisation of lines ahead in the same packet, in ps (05 R196) -/
  ps : Nat := 0
  /-- times the one-way time w between the twins' pins -/
  w : Nat := 0
  /-- phase terms φ_in, φ_out, φ_tx, φ_rx, and of AON crossings -/
  phiIn : Nat := 0
  phiOut : Nat := 0
  phiTx : Nat := 0
  phiRx : Nat := 0
  phi : Nat := 0
deriving DecidableEq, Repr

/-- Traffic classes: every flit and every queue entry belongs to one, fixed when it is created (06 R212, R213). -/
inductive TClass where
  | c0 | c1 | c2 | c3 | c4 | c5
deriving DecidableEq, Repr

/-- How far a request has come along its stated path. -/
structure Run where
  /-- last bit of the request at the pins (05 R178) -/
  since : Nat
  /-- time from which the rest of the path is counted -/
  from_ : Nat
  /-- CORE cycles of the path behind it at `from_` -/
  done : Nat := 0
  /-- page-state fetch it has taken (05 R184, R190, R193) -/
  fetch : Lat := {}
  /-- it has waited for nothing that the spec only bounds -/
  exact : Bool := true
  /-- its response is discarded: its link went down, or its LD was reset (04 R171, R173) -/
  dead : Bool := false
deriving DecidableEq, Repr
/-- A request that arrives. -/
def Run.start (now : Nat) : Run := { since := now, from_ := now }
/-- A request that goes on at `now` after a wait, `done` cycles of its path behind it. -/
def Run.after (r : Run) (now done : Nat) : Run := { r with from_ := now, done := done, exact := false }

end Sys2Proof.Machine
end

