-- ==== Sys2Proof/Machine/Parts/Cores.lean ====
section
/-! DEFINITION. The parts of the state that the control complex names: caches, buffers, timers, lanes (15_control_complex.md). -/
namespace Sys2Proof.Machine

/-- A valid cache entry (R573 to R581). -/
structure CacheLine where
  /-- core address / 64 -/
  line : Nat
  data : Line
  locked : Bool
  /-- zero-pending (R577) -/
  zp : Bool
  /-- stamp of the last use, for the victim of R574 -/
  used : Nat
deriving DecidableEq, Repr

/-- A side-buffer entry (R576); no data while the prefetch is in flight. -/
structure SideLine where
  line : Nat
  data : Option Line
  /-- class of the access when it was issued (R567) -/
  tc : TClass
deriving DecidableEq, Repr

/-- A store-buffer entry (R575). -/
structure StoreEntry where
  addr : Nat
  bytes : List Byte
  /-- class of the access when it was issued (R567) -/
  tc : TClass
deriving DecidableEq, Repr

/-- What the fill that a core waits for is for. -/
inductive FillFor where
  | load | lock | uncached
deriving DecidableEq, Repr

/-- The fill or uncached read that blocks a core (R573). -/
structure CoreWait where
  /-- core address / 64 -/
  line : Nat
  addr : Nat
  size : Nat
  why : FillFor
  since : Nat
  /-- cycles of the victim's write-out before the fill was issued (R574) -/
  out : Nat
  /-- the line has come; none inside if it is poisoned -/
  got : Option (Option Line)
  /-- its stated path, where the line came by one -/
  lat : Option Lat
deriving DecidableEq, Repr

/-- A core: index 0 to 7 a Stevedore, 8 the Harbourmaster with its three lanes (15, Cores). -/
structure Core where
  /-- the 48 entries, by index; none is invalid -/
  cache : SMap (Option CacheLine)
  /-- oldest first, at most 4 -/
  side : List SideLine
  /-- oldest first, at most 8 -/
  sbuf : List StoreEntry
  mem : SMap Byte
  /-- stamp of the next use -/
  stamp : Nat
  /-- interrupt enable (16 R612) -/
  ie : Bool
  /-- the two compare timers are armed (R593) -/
  armed0 : Bool
  armed1 : Bool
  /-- time of the last write to CCX_WDOG (R594) -/
  kick : Nat
  /-- the core waits for its reload (R591) since -/
  reload : Option Nat
  /-- the core is blocked by this -/
  wait : Option CoreWait
deriving DecidableEq, Repr
/-- A core right after the reset of the main island. -/
def Core.empty : Core := ⟨[], [], [], [], 0, false, false, false, 0, none, none⟩

/-- A resynchronisation in progress (R586). -/
structure Resync where
  lane : Nat
  source : Nat
  since : Nat
  /-- when the join began: the voting lanes execute no instruction since then -/
  join : Option Nat
deriving DecidableEq, Repr

/-- The control complex beside its registers. -/
structure Ccx where
  cores : SMap Core
  resync : Option Resync
  /-- start times of the resynchronisations of each lane within the last second (R588) -/
  starts : List (Nat × Nat)
  /-- lanes whose next access is altered (R596) -/
  inject : BitVec 3
  /-- start of a restart under R589 -/
  restart : Option Nat
  /-- time at which CCX_TIME read 0 (R593) -/
  t0 : Nat
  /-- bytes behind the Yard window, and behind the Quay and DRAM windows where no page of the DLA and no snoop-filter entry lies (log 33) -/
  yard : SMap Byte
  quayRaw : SMap Byte
  dramRaw : SMap Byte
  /-- lines of the Yard, Quay and DRAM windows written with the poison syndrome, by core address / 64 (R591) -/
  poison : List Nat
deriving DecidableEq, Repr
/-- The control complex after a main-island reset. -/
def Ccx.reset : Ccx := ⟨[], none, [], 0, none, 0, [], [], [], []⟩

end Sys2Proof.Machine
end

