-- ==== Sys2Proof/Machine/Parts/Host.lean ====
section
/-! DEFINITION. The parts of the state that the host ports, the persistence contract and the regions name: Landing entries, flush work, regions, decoders, the snoop filter, event logs. -/
namespace Sys2Proof.Machine

/-- Durability classes (01_controller_at_a_glance.md R28; 03 R102 DUR). -/
inductive Dur where
  | v | l | m
deriving DecidableEq, Repr

/-- Persistence regimes, coded as RGN_PDK_STATUS.REGIME (02_persistence_contract.md R69, R87). -/
inductive Regime where
  | writeThrough | paddock | stretch
deriving DecidableEq, Repr

/-- Where the completion of a store goes (02_persistence_contract.md, acknowledgement table). -/
inductive Origin where
  /-- a host store: head, holder number (LD or host ID), tag -/
  | host (head holder tag : Nat)
  /-- a UT WRITE packet: its message table key and packet number (13_umond_transport.md R515, R517) -/
  | peer (node ctx msn pkt : Nat)
  /-- a mirror-in store of the twin's set, with its mirror sequence number (02 R75; 12 R449) -/
  | mirrorIn (seq : Nat)
  /-- a store the twin forwarded (12 R447) -/
  | forwarded (fwdTag : Nat)
  /-- a mailbox command of an LD (04 R163) -/
  | mailbox (ld : Nat)
  /-- the controller's own write, with its class: a completion record (13 R509), a core's store (06 R215) -/
  | internal (tc : TClass)
  /-- a store whose response is discarded (04 R171) -/
  | discarded
deriving DecidableEq, Repr

/-- One Landing-queue entry (02_persistence_contract.md, section The Landing queue; R58 to R60, R72, R82). -/
structure LandEntry where
  /-- the model's own number of the store, in order of arrival -/
  id : Nat
  /-- line number, DLA / 64 -/
  line : Nat
  data : Line
  mask : BitVec 64
  region : Nat
  cls : Dur
  /-- mirror sequence number, for a store mirrored to the twin (12 R449) -/
  mseq : Option Nat
  /-- arrival timestamp -/
  time : Nat
  origin : Origin
  /-- the store carried poison (04 R162) -/
  poison : Bool
  /-- held for admission (R72) -/
  held : Bool
  /-- the L condition, or durability for a write-through store, is met -/
  localOk : Bool
  /-- the twin's acknowledgement is not needed or has arrived (R47) -/
  twinOk : Bool
  /-- accepted as write-through (R82, R76, R44) -/
  wt : Bool
  /-- acknowledged -/
  acked : Bool
  /-- handed to the write queues of its page's copies; kept until these writes have completed (06 R223; 09 R326), and for the twin (12
  R450) -/
  drained : Bool
  /-- time its hold began (R72, R87) -/
  heldAt : Nat
  /-- time its L condition, or its acceptance, is met on its path -/
  ready : Nat
  /-- the stated path of its completion; none once it has waited for something the spec only bounds -/
  lat : Option Lat
deriving DecidableEq, Repr

/-- A store past its lookup; it waits at ingress when no Landing entry is free (R60). -/
structure IngressStore where
  id : Nat
  line : Nat
  data : Line
  mask : BitVec 64
  region : Nat
  cls : Dur
  time : Nat
  origin : Origin
  poison : Bool
  /-- accepted when its class was handled as write-through (01 R44; R76, R82) -/
  wt : Bool
  /-- lookup ended without a wait: the stated path so far -/
  lat : Option Lat
  /-- time its L condition, or its acceptance, is met on its path -/
  ready : Nat
deriving DecidableEq, Repr

/-- A flush write in flight (02 R61, R71, R82, R83). -/
structure FlushWrite where
  page : Nat
  region : Nat
  rgen : Nat
  /-- the snapshot: bytes by offset in the page -/
  snap : SMap Byte
  /-- poisoned lines of the snapshot, by line number -/
  poison : List Nat
  /-- ids of the write-through stores it carries (R82) -/
  carries : List Nat
  /-- map entry read at the start (08 R279) -/
  old : BitVec 64
  /-- a write-through write (R82) -/
  wt : Bool
  /-- it goes to the SLC write log (08 R285) -/
  log : Bool
  /-- FORM and sectors minus 1 of its extent (08 R277, R280) -/
  form : Nat
  lenM1 : Nat
  /-- lines of the page that later stores have drained over since the snapshot (10 R381) -/
  after : BitVec 64
  /-- time it was taken -/
  time : Nat
deriving DecidableEq, Repr

/-- A phase 2 flush in progress (02 R78, R79). -/
structure GpfWait where
  head : Nat
  /-- ids of the stores covered -/
  covers : List Nat
  time : Nat
  /-- requested in WRITE-THROUGH (R79) -/
  wt : Bool
  /-- in WRITE-THROUGH: pages that held stores not durable at the request, and the earliest snapshot that carries them -/
  pages : List (Nat × Nat)
deriving DecidableEq, Repr

/-- Region states, coded as STATE of the entry (03_regions_and_tiers.md R98). -/
inductive RState where
  | free | offered | active | retyping | releasing | draining
deriving DecidableEq, Repr

/-- A region-table entry (03 R97): the fields of its 16 B. -/
structure Region where
  state : RState
  /-- DLA[47:28] -/
  base : Nat
  sizeM1 : Nat
  rset : Nat
  dc : Bool
  flags : BitVec 9
  ld : Nat
  rgen : Nat
deriving DecidableEq, Repr

/-- A region-table entry right after its index was never used (R94). -/
def Region.empty : Region := ⟨.free, 0, 0, 0, false, 0, 0, 0⟩

/-- An L or V region of the twin, as REGION_NOTICE reported it (03 R755). -/
structure TwinEntry where
  index : Nat
  base : Nat
  sizeM1 : Nat
deriving DecidableEq, Repr

/-- Where a page move takes its copy (03 R113, R116). -/
inductive MoveTo where
  | quay | dram | quayDrop
deriving DecidableEq, Repr

/-- A page move in progress with its copied-line mask (03 R116). -/
structure PageMove where
  page : Nat
  dest : MoveTo
  /-- lines copied so far -/
  copied : BitVec 64
  /-- destination frame of a move within DRAM or the Quay, plus 1; 0 none -/
  frame : Nat
deriving DecidableEq, Repr

/-- Snoop-filter entry states (04_cxl_host_ports.md R150). -/
inductive SfState where
  | shared | exclusive | backInv
deriving DecidableEq, Repr

/-- A snoop-filter entry that is not invalid (04 R150): TAG and set are the line number's bits. -/
structure SfEntry where
  line : Nat
  state : SfState
  /-- more than four holders -/
  many : Bool
  /-- holders, first first; at most four, empty of meaning when `many` -/
  holders : List Nat
  /-- its place among the 16 ways of its set -/
  way : Nat
deriving DecidableEq, Repr

/-- What a store was accepted under (01 R44): were L stores, and M stores, handled as write-through? -/
structure Accept where
  wtL : Bool
  wtM : Bool
deriving DecidableEq, Repr

/-- The request that waits on back-invalidates. -/
inductive BiReq where
  /-- a host read -/
  | read (run : Run) (r : HostRead)
  /-- a host store with the model's number -/
  | store (id : Nat) (run : Run) (acc : Accept) (st : HostStore)
  /-- a write-back of a host (04 R157) -/
  | back (id : Nat) (run : Run) (acc : Accept) (st : HostStore)
  /-- a UT placement or an internal line write -/
  | write (st : IngressStore)
  /-- the rebuild sweep after a take-over (12 R482) -/
  | sweep
  /-- a read the twin forwarded: its arrival time, FWD_TAG, line, holder, and the copy it asks for (12 R447; 13 R533) -/
  | fwd (time tag line holder : Nat) (cacheable excl : Bool)
  /-- a line of a peer's READ, or the word of its atomic, by the operation's number (13 R518, R519) -/
  | peer (id line : Nat)
  /-- a line a core loads through its DLA window (15 R570): core, line, how far it has come, and the class of its work item (06 R215) -/
  | core (k line : Nat) (run : Run) (tc : TClass)
deriving DecidableEq, Repr

/-- A back-invalidate in progress (04 R152 to R156). -/
structure BiWait where
  /-- line snooped -/
  line : Nat
  /-- holders that have not answered -/
  left : List Nat
  /-- holders that have answered and whose write-back follows (05 R201) -/
  dirty : List Nat
  /-- BISnpInv rather than BISnpData -/
  inv : Bool
  /-- the snoop evicts `line` to make room in its set (R154) -/
  evict : Bool
  req : BiReq
  /-- time its last snoop leaves the port -/
  time : Nat
deriving DecidableEq, Repr

/-- What the stores before a read had put over its line at its lookup, so that a read that waits returns them and no later one
(05 R205, R206). -/
structure Cap where
  data : Line
  mask : BitVec 64
  /-- stores with this number or above came later -/
  seq : Nat
  /-- the line was poisoned -/
  poison : Bool
deriving DecidableEq, Repr

/-- A read that waits for its page or its line: a fetch from flash, a recovery (05 R202, R203; 10 R375). -/
structure WaitRead where
  page : Nat
  line : Nat
  req : BiReq
  cap : Cap
deriving DecidableEq, Repr

/-- A read in the read queue of a DMC or of the HBC (09 R321, R322, R354). -/
structure DmcRead where
  /-- DRAM address, or `quaySpace` and a Quay address, and the line of the DLA -/
  da : Nat
  line : Nat
  req : BiReq
  cap : Cap
  /-- the snoop filter's memory time of an SHR line, in HBM cycles (05 R197) -/
  filter : Nat
  tc : TClass
  /-- times row hits have passed it over -/
  passed : Nat
deriving DecidableEq, Repr

/-- Whose buffer a DMC write lies in (09 R327). -/
inductive DmcPort where
  | saveFlush | mirrorIn | host
deriving DecidableEq, Repr

/-- A write in the write queue of a DMC or of the HBC (09 R321, R326, R354). -/
structure DmcWrite where
  da : Nat
  tc : TClass
  port : DmcPort
  passed : Nat
  /-- a V store that is accepted once it enters the queue: where its completion goes, its number, its arrival and its path (05 R192) -/
  ack : Option (Origin × Nat × Nat × Option Lat)
  /-- number of the store whose Landing entry stays until this write has completed (R326; 06 R223) -/
  land : Option Nat
deriving DecidableEq, Repr

/-- What leaves at a port, with its stated path where it waited for nothing. -/
inductive Sent where
  | drs (head tag : Nat) (data : Line) (poison : Bool) (lat : Option Lat)
  | ndr (head tag : Nat) (lat : Option Lat)
  | bisnp (holder line : Nat) (inv : Bool)
deriving DecidableEq, Repr

/-- A response, a snoop, or discarded data on its way to a port's pins (05 R178, R207), or to the slot it holds (06 R221 to R225). -/
structure Leaving where
  port : Nat
  /-- it holds a line slot of the port's response buffer -/
  line : Bool
  /-- it holds an NDR slot -/
  ndr : Bool
  /-- head and holder it goes to -/
  head : Nat
  holder : Nat
  since : Nat
  /-- the last bit leaves, or the data arrives, at this time -/
  due : Nat
  /-- none: the data of a cancelled access (05 R185), or a response that is discarded (04 R171) -/
  out : Option Sent
deriving DecidableEq, Repr

/-- A request in a link's ingress buffer that waits for its reservation (06 R219, R224). -/
structure PortWait where
  head : Nat
  time : Nat
  req : BiReq
deriving DecidableEq, Repr

/-- Event records sent to hosts (04 R148, R165; 16 R617). -/
inductive EvBody where
  /-- General Media Event: the DPA of the affected line or page -/
  | generalMedia (dpa : Nat)
  /-- Dynamic Capacity Event: Add Capacity of a region index -/
  | addCapacity (region base sizeM1 : Nat)
  /-- Dynamic Capacity Event: Release Capacity of a region index -/
  | releaseCapacity (region base sizeM1 : Nat)
  /-- Obdon vendor record: source number, KIND, P0, P1, P2 (16 R617) -/
  | vendor (source kind p0 p1 p2 : Nat)
deriving DecidableEq, Repr

/-- A record in an event log. `ld` is the LD, or the access group in G-FAM (04 R166; 16 R620). -/
structure EvRec where
  ld : Nat
  log : EvLog
  /-- record handle, the model's own number -/
  handle : Nat
  body : EvBody
deriving DecidableEq, Repr

/-- A link's IDE streams (04 R158). -/
structure IdeLink where
  mem : IdeReq
  io : Bool
  /-- a MAC check has failed: nothing more is taken from the link until it is reset (04 R160) -/
  insecure : Bool
deriving DecidableEq, Repr

/-- A link without IDE. -/
def IdeLink.empty : IdeLink := ⟨.off, false, false⟩

/-- Paddock states of a page (02 R61, R107 PDK). -/
inductive Pdk where
  | clean | dirty | flushing | redirty
deriving DecidableEq, Repr

/-- MIR of a page-state word (03 R107). -/
inductive Mir where
  | notM | mirrored | unmirrored | resync
deriving DecidableEq, Repr

/-- A page-state word (03 R107), bits [31:6] in order. -/
structure PageWord where
  zero : Bool
  q : Bool
  d : Bool
  f : Bool
  moving : Bool
  pdk : Pdk
  mir : Mir
  /-- 0 none, 1 raw, 2 LZ4 block, 3 raw after an attempt -/
  cmps : Nat
  poison : Bool
  heat : Nat
  tpin : Nat
  qstg : Bool
  sf : Bool
deriving DecidableEq, Repr

/-- The word of a page no store has reached (R107, R108). -/
def PageWord.fresh : PageWord := ⟨true, false, false, false, false, .clean, .notM, 0, false, 0, 0, false, false⟩

/-- A request that waits for its page-state word (05 R184), for the restore or fetch of its page, or behind one of its line that does so
(05 R205). -/
structure PsWait where
  page : Nat
  line : Nat
  req : BiReq
deriving DecidableEq, Repr

/-- The persistence machinery (02). -/
structure Pers where
  /-- Landing queue, in order of arrival -/
  landing : List LandEntry
  /-- stores at ingress for want of a Landing entry (R60), oldest first -/
  ingress : List IngressStore
  nextId : Nat
  /-- flush list, oldest first: page and time (R61, R70) -/
  list : List (Nat × Nat)
  flushes : List FlushWrite
  gpf : List GpfWait
  /-- the preceding limit update found the count above its limit (R68) -/
  overBefore : Bool
  /-- stores accepted in HOLD, oldest first (04 R170) -/
  holdQ : List BiReq
  /-- pages that owe a write-through write, oldest first (R82) -/
  wtPages : List Nat
  /-- forwarded stores acknowledged and not yet answered to the twin (12 R446) -/
  fwdAcks : List Nat
  /-- time of the last limit update, and the limit before it (R67) -/
  limitAt : Option Nat
  oldLimit : Nat
deriving DecidableEq, Repr
/-- Nothing landed. -/
def Pers.reset : Pers := ⟨[], [], 0, [], [], [], false, [], [], [], none, 0⟩

/-- Class of the traffic that a store's origin creates (06 R213). -/
def Origin.tclass : Origin → TClass
  | .mirrorIn _ => .c0
  | .mailbox _ => .c5
  | .internal tc => tc
  | _ => .c3
/-- Class of a request, and of what is fetched to serve it (06 R213 to R215). -/
def BiReq.tclass : BiReq → TClass
  | .write st => st.origin.tclass
  | .core _ _ _ tc => tc
  | _ => .c3

/-- Regions, page-state words and page movement (03, 05). -/
structure Rgn where
  regions : SMap Region
  twinEntries : List TwinEntry
  pages : SMap PageWord
  /-- page-state words in the Yard: accesses counted since the last HEAT step, plus 1 (R110) -/
  yard : SMap Nat
  psWait : List PsWait
  moves : List PageMove
  waits : List WaitRead
  /-- time an extent was offered (04 R149) -/
  offered : SMap Nat
  /-- type of each dynamic-capacity region, by LD × 8 + number: 1 + persistent + 2 × SHR of its first extent (04 R147) -/
  dcTypes : SMap Nat
  /-- requests that found the device in STANDBY (05 R210) -/
  standbyQ : List BiReq
  /-- the floating pool has risen above DRAM_HI and is not below DRAM_LO yet (R113) -/
  shrink : Bool
  /-- kind and home in force of each set (12 R444): bit n -/
  kind : BitVec 64
  home : BitVec 64
deriving DecidableEq, Repr
/-- No region. -/
def Rgn.reset : Rgn := ⟨[], [], [], [], [], [], [], [], [], [], false, 0, 0⟩

/-- The CXL side beside its registers (04). -/
structure Cxl where
  /-- committed HDM decoders, by LD × 8 + index -/
  decoders : SMap (Option DecoderCfg)
  /-- words of the HDM decoder capability of each LD as written, by LD × 4096 + offset -/
  hdm : SMap Nat
  /-- committed GFD decoders, by index -/
  gfd : SMap (Option DecoderCfg)
  ide : SMap IdeLink
  /-- valid snoop-filter entries, allocated longest ago first (R154) -/
  sf : List SfEntry
  bi : List BiWait
  /-- requests behind a back-invalidate (R154, R155), oldest first, with the line it snoops -/
  behind : List (Nat × BiReq)
  logs : List EvRec
  /-- overflow counts, by LD × 8 + log (R166) -/
  overflow : SMap Nat
  nextHandle : Nat
  /-- MSI-X vector + 1 selected for each log (16 R618) -/
  policy : SMap Nat
  /-- on their way to the pins, in the order in which they leave (05 R207) -/
  leaving : List Leaving
  /-- requests at ingress without a reservation, in order of arrival (06 R224) -/
  ingress : List PortWait
  /-- accesses to the doorbell aperture, past their lookup (19 R695) -/
  doorbells : List BiReq
  /-- link of each port that was granted last (06 R226) -/
  turn : SMap Nat
  /-- uncorrectable error status of each LD's CXL RAS capability (R133, R160) -/
  ras : SMap Nat
  /-- timestamp of each LD's mailbox as set, and the time at which, plus 1; alert thresholds as set (R134) -/
  stamp : SMap (Nat × Nat)
  alerts : SMap Nat
deriving DecidableEq, Repr
/-- No link trained, nothing programmed. -/
def Cxl.reset : Cxl := ⟨[], [], [], [], [], [], [], [], [], 0, [], [], [], [], [], [], [], []⟩

end Sys2Proof.Machine
end

