-- ==== Sys2Proof/Machine/Parts/Dram.lean ====
section
/-! DEFINITION. The parts of the state that the DRAM and Quay controllers name: population, open rows, queues, refresh, frequency change (09_dram_and_stacked_memory.md). -/
namespace Sys2Proof.Machine

/-- No DIMM found yet. -/
def noDimms : DimmPop := ⟨0, 1, 1, 64, 16, 0, false, 0, 0, 0, 0, 0, 0⟩

/-- A bank's row buffer: the open row and the time of its last access, in CORE cycles (09 R323). -/
structure OpenRow where
  row : Nat
  used : Nat
deriving DecidableEq, Repr

/-- A real-time port of a DMC (09 R327). -/
structure RtPort where
  /-- lines in its write buffer -/
  fill : Nat
  panic : Bool
  /-- start of the panic episode, and end of the last one -/
  since : Nat
  ended : Nat
deriving DecidableEq, Repr
/-- An idle port. -/
def RtPort.empty : RtPort := ⟨0, false, 0, 0⟩

/-- The queues of one subchannel, or of one Quay channel (09 R321, R324, R354). -/
structure SubChan where
  /-- reads and writes, oldest first: the first 64 of each are in its queue, the rest are held at the DMC input -/
  reads : List DmcRead
  writes : List DmcWrite
  /-- bank the pick served last (R322) -/
  bank : Nat
  writeMode : Bool
  /-- write mode was entered at HIGH (R324) -/
  atHigh : Bool
deriving DecidableEq, Repr
/-- An empty subchannel. -/
def SubChan.empty : SubChan := ⟨[], [], 0, false, false⟩

/-- Refresh of one logical rank (09 R330, R331). -/
structure RankRef where
  /-- next bank index, 0 to 3 -/
  bank : Nat
  /-- time at which the oldest REFsb not issued yet fell due, or the next one falls due; 0: a step after the schedule's origin -/
  due : Nat
deriving DecidableEq, Repr
/-- A rank whose schedule has just begun. -/
def RankRef.empty : RankRef := ⟨0, 0⟩

/-- A frequency change under way (09 R339 to R342). -/
structure FreqChange where
  set : Nat
  accepted : Nat
  /-- slot of the Parmos command that waits for step 9 -/
  slot : Option Nat
deriving DecidableEq, Repr

/-- The DRAM and Quay controllers. -/
structure Dram where
  pop : DimmPop
  /-- population recorded in the settings cells at the first start-up (R317) -/
  recorded : Option DimmPop
  /-- content of DRAM page copies, by DLA -/
  data : SMap Byte
  /-- frame of each page, by page number; the value is frame number + 1, 0 none (R754) -/
  frame : SMap Nat
  /-- retired frames (10 R385) -/
  retired : List Nat
  /-- ranks whose frames are all retired, channel × 16 + rank (10 R387) -/
  retiredRanks : List Nat
  /-- DIMMs out of service, numbered channel × 2 + slot (R348) -/
  lost : List Nat
  /-- DIMMs outside the mask not yet swept after STANDBY (R346, R347) -/
  unswept : List Nat
  /-- open rows, keyed by channel, subchannel, rank and bank -/
  rows : SMap (Option OpenRow)
  /-- time until which a bank is held by an access (05 R209), by bank key -/
  busy : SMap Nat
  /-- subchannels, keyed by channel × 2 + sub -/
  subs : SMap SubChan
  /-- save/flush and mirror-in ports, keyed by channel × 2 + port -/
  ports : SMap RtPort
  refresh : SMap RankRef
  /-- rolling ACT counts by bank key (R332) -/
  raa : SMap Nat
  /-- DIMMs whose thermal sensor last read above 85 °C (R330) -/
  hot : List Nat
  /-- origin T0 of the retraining pauses, and pauses run by each channel (R335) -/
  t0 : Nat
  pauses : SMap Nat
  /-- moves of each lane's delay from its centre, by lane key, offset by 8 (R336); 8 is the centre -/
  lanes : SMap Nat
  change : Option FreqChange
  /-- changes that wait for the first or for a rehearsal (R339): set and slot -/
  changeWait : List (Nat × Option Nat)
  /-- rehearsal or save holds none; pages whose D clear pass runs (R347) -/
  dClear : Bool
deriving DecidableEq, Repr
/-- DRAM before start-up. -/
def Dram.reset : Dram :=
  { pop := noDimms, recorded := none, data := [], frame := [], retired := [], retiredRanks := [], lost := [], unswept := [],
    rows := [], busy := [], subs := [], ports := [], refresh := [], raa := [], hot := [], t0 := 0, pauses := [],
    lanes := [], change := none, changeWait := [], dClear := false }

/-- The Quay. -/
structure Quay where
  /-- content of hot-area copies, by DLA -/
  hot : SMap Byte
  /-- content of staged copies, by DLA -/
  staged : SMap Byte
  /-- hot-area and staging-area frames: page number to QA of its frame + 1 -/
  hotQa : SMap Nat
  stgQa : SMap Nat
  rows : SMap (Option OpenRow)
  /-- time until which a bank is held by an access, by bank key -/
  busy : SMap Nat
  /-- queues of each channel, keyed by 24 + channel (R354) -/
  subs : SMap SubChan
  /-- channels out of service -/
  lost : List Nat
  /-- bank that every pseudo-channel refreshes next, and the time at which that falls due, in quarters of a CORE cycle; 0: at once (R355) -/
  refBank : Nat
  refAt : Nat
deriving DecidableEq, Repr
/-- The Quay before start-up. -/
def Quay.reset : Quay := { hot := [], staged := [], hotQa := [], stgQa := [], rows := [], busy := [], subs := [], lost := [], refBank := 0, refAt := 0 }

end Sys2Proof.Machine
end

