-- ==== Sys2Proof/Machine/Parts/Epc.lean ====
section
/-! DEFINITION. The parts of the state that the energy-pack controller names (11_energy_pack_and_power_loss.md). -/
namespace Sys2Proof.Machine

/-- An exact fraction, for the state of charge and the state of health (11 R412, R414). -/
structure Frac where
  num : Int
  den : Nat
deriving DecidableEq, Repr

/-- A frame of the front-end that passed its checks (11 R408). -/
structure PackRead where
  groupFault : Nat
  /-- mV -/
  vbus : Nat
  /-- 10 mA, positive while charging -/
  ibat : Int
  /-- lowest and highest of T0 to T3, 0.01 °C -/
  tmin : Int
  tmax : Int
deriving DecidableEq, Repr

/-- Phases of a rehearsal (11 R423). -/
inductive RehPhase where
  | idle | transfer | a | b
deriving DecidableEq, Repr

/-- Save rehearsal (11 R423 to R428). -/
structure Rehearsal where
  phase : RehPhase
  /-- a request waits: its time -/
  request : Option Nat
  /-- a postponed request: the time of the postponement -/
  postponed : Option Nat
  /-- start of the phase -/
  since : Nat
  /-- energies of phases A and B in 10 nJ (mV × 10 mA × 1 ms) -/
  eA : Nat
  eB : Nat
  /-- bytes written in phase B -/
  gB : Nat
  /-- G_B of the twin, in a shared rehearsal (R428) -/
  gTwin : Option Nat
  /-- E_A + E_B of the last rehearsal in 10 nJ, if any (R425) -/
  lastEnergy : Option Nat
  /-- operating hours of the last success, in 1/16 hour -/
  lastSuccess : Nat
  /-- the periodic request since then has been made (R426) -/
  periodic : Bool
  /-- rehearsal number of REH_JOIN and REH_RESULT (13 R532) -/
  number : Nat
  /-- phase B has ended here and waits for the twin's G_B -/
  ended : Bool
  /-- a joined shared rehearsal: the time phase A starts (R428) -/
  joinAt : Option Nat
deriving DecidableEq, Repr
/-- No rehearsal. -/
def Rehearsal.empty : Rehearsal := ⟨.idle, none, none, 0, 0, 0, 0, none, none, 0, false, 0, false, none⟩

/-- The EPC beside its registers. -/
structure Epc where
  /-- SEQ of the last frame, rejected frames in a row, accepted frames in a row (R409) -/
  lastSeq : Option Nat
  rejects : Nat
  accepts : Nat
  read : PackRead
  /-- a first frame has been accepted -/
  seen : Bool
  /-- state of charge (R412) -/
  soc : Frac
  /-- state of health (R414) -/
  soh : Frac
  /-- S is unknown since the AON power-on reset (R438) -/
  socUnknown : Bool
  /-- rest in ms (R413) -/
  restMs : Nat
  /-- S at the last rest correction and the charge since, in 10 µC (10 mA × 1 ms) (R414) -/
  lastRest : Option Frac
  chargeIn : Nat
  /-- operating hours of the last fade, 1/16 hour -/
  fadeAt : Nat
  /-- group fault bits already acted on -/
  groups : Nat
  /-- E_use of the previous 100 ms interval and whether a group fault has lowered it since (R429) -/
  prevUse : Nat
  groupDrop : Bool
  /-- PACK_FAULT still holds E_use at 0 until a rehearsal succeeds (R429) -/
  faultHeld : Bool
  /-- charging has ended at S_MAX (R418) -/
  chgEnded : Bool
  /-- current target of the voltage loop, 10 mA (R419) -/
  vTarget : Nat
  /-- the sum of the heater loop's errors, in 0.01 °C × 1 s (R420) -/
  heatInt : Int
  reh : Rehearsal
  /-- RIDE: qualification time and energy drawn since, in 10 nJ (R430) -/
  rideSince : Nat
  rideEnergy : Nat
  /-- RGN_PDK_LIMIT is frozen (R430) -/
  frozen : Bool
deriving DecidableEq, Repr

/-- The EPC after an AON power-on reset (R438): S unknown; H as its settings word (factory array: 0, log 7). -/
def Epc.reset : Epc :=
  { lastSeq := none, rejects := 0, accepts := 0, read := ⟨0, 0, 0, 0, 0⟩, seen := false, soc := ⟨0, 1⟩, soh := ⟨0, 1000⟩,
    socUnknown := true, restMs := 0, lastRest := none, chargeIn := 0, fadeAt := 0, groups := 0, prevUse := 0,
    groupDrop := false, faultHeld := false, chgEnded := false, vTarget := 0, heatInt := 0,
    reh := Rehearsal.empty, rideSince := 0, rideEnergy := 0, frozen := false }

end Sys2Proof.Machine
end

