-- ==== Sys2Proof/Machine/Parts/Flash.lean ====
section
/-! DEFINITION. The parts of the state that the flash tier names: blocks, open stripes, reads in the array, the Loft (08_flash_tier.md). -/
namespace Sys2Proof.Machine

/-- What a flash block is used as (08 R293, R301, R304). -/
inductive BlockUse where
  | free | native | writeLog | loftA | loftB | map | firmware | reserved
deriving DecidableEq, Repr

/-- Does a block of a use run in SLC mode (08 R282, R301)? -/
def BlockUse.slc : BlockUse → Bool
  | .writeLog | .loftA | .loftB | .map => true
  | _ => false
/-- Is it one of a half of the Loft? -/
def BlockUse.loft : BlockUse → Bool
  | .loftA | .loftB => true
  | _ => false

/-- A flash block (08 R295 to R298). -/
structure Block where
  use : BlockUse
  /-- erases, in native erases × 12 so that 1 ÷ BPC of one is whole for BPC 3 and 4 (R295) -/
  wear : Nat
  /-- read counter (R296) -/
  reads : Nat
  /-- its stripe is still open -/
  opened : Bool
  /-- factory or grown bad, retired (R298) -/
  bad : Bool
  /-- the factory mark has been read (17 R650) -/
  markRead : Bool
  /-- time its first page was programmed since its last erase -/
  since : Nat
  /-- sectors up to the last one programmed since then -/
  fill : Nat
deriving DecidableEq, Repr
/-- A block nothing has used yet. -/
def Block.empty : Block := ⟨.free, 0, 0, false, false, false, 0, 0⟩

/-- An open stripe (08 R285, R289). -/
structure OpenStripe where
  number : Nat
  /-- in the SLC write log -/
  log : Bool
  since : Nat
  /-- pages whose flush it holds, each with the channel of its member and the sectors of its extent: one flash page on each channel, so
  never two pages of one package (08 R287) -/
  pages : List (Nat × Nat × Nat)
  /-- its parity is written: it is full, or has been closed (08 R289) -/
  closed : Bool
deriving DecidableEq, Repr

/-- A flash read in progress: why it was issued (08 R284; 05 R202; 07 R250). -/
inductive FlashWhy where
  | fetch | staging | restore
deriving DecidableEq, Repr

/-- A page fetch from flash in flight (05 R203; 08 R308). -/
structure FlashFetch where
  page : Nat
  why : FlashWhy
  /-- the page goes to DRAM when it is read: an access, a store or a restore wants it there, not staging alone -/
  fill : Bool
  /-- class of what it serves first (06 R214) -/
  tc : TClass
  time : Nat
deriving DecidableEq, Repr

/-- An entry of the Loft index (08, Loft index entry). -/
structure LoftEntry where
  page : Nat
  region : Nat
  rgen : Nat
  enc : Bool
  sector : Nat
  /-- the half of the Loft that holds it (R304) -/
  half : Bool
deriving DecidableEq, Repr

/-- The save in the Loft (08 R303 to R306). -/
structure LoftSave where
  /-- a save header is present -/
  header : Bool
  /-- the commit record is present (R305) -/
  committed : Bool
  /-- pages listed in fully programmed index chunks -/
  index : List LoftEntry
  /-- index entries that a start-up has already pointed map entries at (R306) -/
  applied : Nat
  /-- the half the save was written to -/
  half : Bool
deriving DecidableEq, Repr
/-- A Loft that holds no save. -/
def LoftSave.empty : LoftSave := ⟨false, false, [], 0, false⟩

/-- No package enumerated yet. -/
def noFlash : FlashPop := ⟨[], 0, 3, 1, 1, 1, 1, 1, 0, 90, 45, 1700, 400, 50, 0⟩

/-- The flash tier. -/
structure Flash where
  /-- map entries by page number (R277) -/
  map : SMap (BitVec 64)
  /-- content of each page's durable copy, by DLA, decoded -/
  data : SMap Byte
  /-- blocks by number -/
  blocks : SMap Block
  stripes : List OpenStripe
  nextStripe : Nat
  /-- pages whose write failed, each with the die (channel × 32 + die) that the rewrite in the log must avoid (R291) -/
  relog : List (Nat × Nat)
  fetches : List FlashFetch
  pop : FlashPop
  /-- dies retired, as channel × 32 + die (R299) -/
  deadDies : List Nat
  /-- erased blocks that map, Loft halves, firmware and reserve take out of FTC_FREE, in bytes (R293) -/
  freeBytes : Nat
  /-- Loft size in force, in 64 GiB units (R302) -/
  loftSize : Nat
  loft : LoftSave
  /-- saved pages' content, by DLA -/
  loftData : SMap Byte
  /-- Landing-queue image of the save, lines landed but not merged (R303, R306) -/
  landImage : List (Nat × LineStore)
  /-- pages of the Loft not yet folded (R310) -/
  unfolded : List Nat
  /-- pages of M regions that wait for the twin's copy after an incomplete save (02 R53) -/
  mirrorFetch : List Nat
  /-- pages of L regions whose unsaved stores were lost, to be poisoned at the next start-up (02 R53) -/
  lost : List Nat
  /-- map pages loaded since start-up -/
  mapLoaded : Bool
  /-- blocks that the full retention pass under way has not read yet (R297) -/
  scrubPass : List Nat
  /-- it takes the oldest blocks first -/
  scrubOld : Bool
  /-- an AON power-on reset asks for a pass at the next start-up -/
  scrubDue : Bool
  /-- blocks of a rehearsal to erase (11 R423) -/
  rehBlocks : List Nat
deriving DecidableEq, Repr
/-- A factory-fresh flash tier. -/
def Flash.reset : Flash :=
  { map := [], data := [], blocks := [], stripes := [], nextStripe := 0, relog := [], fetches := [], pop := noFlash,
    deadDies := [], freeBytes := 0, loftSize := 16, loft := LoftSave.empty, loftData := [], landImage := [],
    unfolded := [], mirrorFetch := [], lost := [], mapLoaded := false, scrubPass := [], scrubOld := false, scrubDue := true, rehBlocks := [] }

end Sys2Proof.Machine
end

