-- ==== Sys2Proof/Machine/Parts/Icu.lean ====
section
/-! DEFINITION. The interrupt controller and the always-on watcher (16_interrupts_and_events.md). -/
namespace Sys2Proof.Machine

/-- The interrupt controller (16 R601 to R616). -/
structure Icu where
  /-- ICU_SRC_CFG of each source: EN, TARGETS and PRIO; 0 where unlisted -/
  cfg : SMap (BitVec 32)
  /-- pending sources, ascending -/
  pend : List Nat
  /-- active sources with the target each is active at -/
  active : List (Nat × Nat)
  /-- source presented to each target; 0 none -/
  presented : SMap Nat
  /-- ICU_STATUS.ROT -/
  rot : Nat
  /-- ICU_TGT_CTRL of each target -/
  tgt : SMap (BitVec 32)
  /-- targets whose core runs (R604, R592) -/
  running : List Nat
  /-- the main island is off, so the watcher acts (R615) -/
  mainOff : Bool
  /-- ICU_AON_SEL of each watcher slot, as in force -/
  sel : SMap (BitVec 32)
  /-- ICU_AON_STATUS.FIRED -/
  fired : BitVec 32
  /-- a WAKE slot has requested power-up (R615) -/
  wake : Bool
deriving DecidableEq, Repr

/-- The ICU at power-on (R622); slot 0 of the watcher names EPC_SAVE_DONE with LATCH = 1 and WAKE = 0 (R614). -/
def Icu.reset : Icu :=
  { cfg := [], pend := [], active := [], presented := [], rot := 0, tgt := [], running := [],
    mainOff := false, sel := [(0, 0x400001B1)], fired := 0, wake := false }

end Sys2Proof.Machine
end

