-- ==== Sys2Proof/Machine/Parts/Integrity.lean ====
section
/-! DEFINITION. The parts of the state that data integrity names: merge buffers, poison list, error log, recoveries, evacuation, check units (10_integrity_and_check_units.md). -/
namespace Sys2Proof.Machine

/-- A merge-buffer entry of an SRAM group (10 R364). -/
structure MergeEntry where
  /-- group, and word in the group -/
  group : Nat
  word : Nat
  data : BitVec 64
  mask : BitVec 8
  /-- time it was last touched -/
  time : Nat
deriving DecidableEq, Repr

/-- A page of the poison list with its line mask (10 R373). -/
structure PoisonPage where
  page : Nat
  mask : BitVec 64
deriving DecidableEq, Repr

/-- TIER of an error-log entry (10 R391). -/
inductive Tier where
  | sram | quay | dram | flash | settings
deriving DecidableEq, Repr

/-- TYPE of an error-log entry (10 R391). -/
inductive ErrType where
  | corrected | ueRecovered | uePoisoned | retired | spared | lost
deriving DecidableEq, Repr

/-- SOURCE of an error-log entry (10 R391). -/
inductive ErrSource where
  | demand | scrub | staging | flush | move | check
deriving DecidableEq, Repr

/-- An error-log entry of 32 B (10 R391). -/
structure ErrEntry where
  dla : Option Nat
  loc : Nat
  tier : Tier
  type : ErrType
  source : ErrSource
  device : Nat
  count : Nat
  recovery : Nat
  hours : Nat
  cycles : Nat
  /-- model time, for coalescing (R392) -/
  time : Nat
deriving DecidableEq, Repr

/-- A recovery in progress with the reads parked on it (10 R375, R376; 07 R261, R262). -/
structure Recovery where
  page : Nat
  line : Nat
  /-- tier of the copy that failed -/
  tier : Tier
  /-- a staged shared page, recovered in the order of R261 -/
  shared : Bool
  /-- the failed unit is the page: its flash codeword, or its frame on a lost DIMM (R375 step 7; R380) -/
  whole : Bool
  /-- it parks reads; one that patrol scrub began does not (R390) -/
  parks : Bool
  /-- what read the line (R391) -/
  source : ErrSource
  /-- waiting for the twin's mirror since -/
  twinSince : Option Nat
  time : Nat
deriving DecidableEq, Repr

/-- An evacuation of a logical rank (10 R387). -/
structure Evac where
  ch : Nat
  rank : Nat
deriving DecidableEq, Repr

/-- States of a check unit, coded as INT_CHK_STATUS.STATE (10 R401, R405). -/
inductive ChkState where
  | idle | running | done | stopped | poison | unmapped
deriving DecidableEq, Repr

/-- What a check unit holds beside its registers: the owner's identity and a stop request (10 R403). -/
structure ChkOwner where
  /-- 0 management carrier or firmware; else 1 + LD -/
  owner : Nat
  stop : Bool
deriving DecidableEq, Repr
/-- A unit with no owner. -/
def ChkOwner.empty : ChkOwner := ⟨0, false⟩

/-- The integrity machinery. -/
structure Integ where
  merge : List MergeEntry
  /-- words of the Yard under merge buffers, by group × 32768 + word -/
  words : SMap Nat
  /-- words that hold the poison syndrome -/
  badWords : List Nat
  /-- lines that carry poison, ascending (R368, R369) -/
  poison : List Nat
  /-- the poison list in the Yard, by page -/
  list : List PoisonPage
  /-- newest last -/
  log : List ErrEntry
  recov : List Recovery
  evac : Option Evac
  chk : SMap ChkOwner
  /-- Quay frames retired (R386) -/
  quayRetired : List Nat
  /-- snoop-filter sets marked degraded (R383) -/
  degraded : List Nat
  /-- next line of each store's patrol scrub, tiers 0 to 4 (R389) -/
  scrubPos : SMap Nat
deriving DecidableEq, Repr
/-- Nothing wrong yet. -/
def Integ.reset : Integ :=
  { merge := [], words := [], badWords := [], poison := [], list := [], log := [], recov := [], evac := none, chk := [],
    quayRetired := [], degraded := [], scrubPos := [] }

end Sys2Proof.Machine
end

