-- ==== Sys2Proof/Machine/Parts/Commands.lean ====
section
/-! DEFINITION. The parts of the state that command packets name: slots, stored replies, firmware slots (14_command_packets.md). -/
namespace Sys2Proof.Machine

/-- What a command in handling waits for before its reply (R339, R479, R401, R502, R552, R545). -/
inductive CmdWait where
  /-- an earlier command of its stream (R545) -/
  | behind
  /-- nothing more: its reply is due -/
  | ready
  /-- settings words not yet persistent (R552) -/
  | settings (first n : Nat)
  /-- step 9 of a frequency change (R342) -/
  | freq
  /-- the twin's CLAIM (R479) -/
  | handover
  /-- the line in progress of a check unit (R401) -/
  | chkStop (u : Nat)
  /-- the twin's acknowledgement of a region notice: every sequence number older than this has landed there (R96, R552) -/
  | notice (seq : Nat)
  /-- the outstanding messages of a context (R558, UT_CTX_CLOSE) -/
  | ctxClose (ctx : Nat)
  /-- the Harbourmaster's restart; the effect was journalled and the command only awaits its answer (R590) -/
  | restart (journalled : Bool)
deriving DecidableEq, Repr

/-- A command slot in use (R546). -/
structure CmdSlot where
  /-- the model's own number -/
  id : Nat
  op : Nat
  cmd : Cmd
  since : Nat
  wait : CmdWait
  /-- payload of the reply to come -/
  reply : List Byte
deriving DecidableEq, Repr

/-- A reply packet (R540). -/
structure Reply where
  carrier : Carrier
  op : Nat
  tag : BitVec 32
  status : Nat
  detail : Nat
  epoch : Nat
  /-- handling time in µs -/
  time : Nat
  payload : List Byte
deriving DecidableEq, Repr

/-- An answered command, kept 1 s (R548). -/
structure Answered where
  tag : BitVec 32
  crc : BitVec 32
  at_ : Nat
  reply : Reply
deriving DecidableEq, Repr

/-- STAGED of FW_INFO (R558). -/
inductive Staged where
  | empty | writing | verified | failed
deriving DecidableEq, Repr

/-- A firmware image slot (R559, R560). -/
structure FwSlot where
  image : SMap Byte
  len : Nat
  verified : Bool
  version : Nat
deriving DecidableEq, Repr

/-- Command handling and firmware slots. -/
structure CmdState where
  slots : List CmdSlot
  nextId : Nat
  answered : List Answered
  /-- reply of each LD's completed background command (R544) -/
  stored : SMap (Option Reply)
  /-- MCTP endpoint ID, 0 unassigned -/
  eid : Nat
  fwA : FwSlot
  fwB : FwSlot
  /-- slot B is to run at the next start-up (R560) -/
  nextB : Bool
  staged : Staged
  stagedLen : Nat
deriving DecidableEq, Repr

/-- No command in handling; the image loaded in production is in slot A and verified (log 8). -/
def CmdState.reset : CmdState :=
  { slots := [], nextId := 0, answered := [], stored := [], eid := 0, fwA := ⟨[], 0, true, 0⟩, fwB := ⟨[], 0, false, 0⟩,
    nextB := false, staged := .empty, stagedLen := 0 }

end Sys2Proof.Machine
end

