-- ==== Sys2Proof/Machine/Parts/Out.lean ====
section
/-! DEFINITION. What the block sends: responses, packets, replies, frames, with the stated path of each where the spec gives one (05_access_paths_and_latency.md). -/
namespace Sys2Proof.Machine

/-- CXL mailbox return codes the spec names (04 R134; 14 R544, R546). -/
inductive MboxCode where
  | success | backgroundStarted | unsupported | busy | invalidInput | invalidPhysicalAddress
deriving DecidableEq, Repr

/-- The frame a UT packet travels in (13 R492, R496). -/
structure Encap where
  /-- the 802.1Q tag: VLAN ID and priority -/
  tag : Option (Nat × Nat)
  dscp : Nat
  /-- addresses of the sending link; 0 where the family is disabled -/
  src4 : Nat
  src6 : Nat
  /-- remote address from the destination table; none for an answer and for the twin, whose address no rule names (log 31) -/
  dst : Option Nat
  udpSrc : Nat
  udpDst : Nat
deriving DecidableEq, Repr

/-- What the block sends. A path length is the count with no contention (R209: contention only adds); none where the response
waited for something the spec bounds only. A response leaves at the time that `Leaving` holds for it. -/
inductive Out where
  /-- read data on a head (05 R178) -/
  | drs (head tag : Nat) (data : Line) (poison : Bool) (lat : Option Lat)
  /-- completion of a store -/
  | ndr (head tag : Nat) (lat : Option Lat)
  /-- BISnpInv (inv) or BISnpData to a holder (04 R152, R153) -/
  | bisnp (holder line : Nat) (inv : Bool)
  /-- BIConflictAck to a holder (04 R155) -/
  | biConflictAck (holder line : Nat)
  | gpfComplete (head : Nat)
  | msix (ld vector : Nat)
  /-- mailbox completion with its output payload -/
  | mbox (ld : Nat) (code : MboxCode) (payload : List Byte)
  /-- Get Dynamic Capacity Configuration: block size, and the persistence and SHR of each region (04 R147) -/
  | dcConfig (ld block : Nat) (regions : List (Option (Bool × Bool)))
  /-- Get Dynamic Capacity Extent List: DPA and length of each extent -/
  | dcExtents (ld : Nat) (extents : List (Nat × Nat))
  /-- Get Multi-Headed Info, Get Head Info: head, STATE, WIDTH, SPEED, and its LDs (04 R133) -/
  | headInfo (heads : List (Nat × Nat × Nat × Nat × List Nat))
  /-- poison list: line DLAs (04 R164) -/
  | poisonList (ld : Nat) (lines : List Nat) (overflow : Bool)
  | eventRecords (ld : Nat) (recs : List EvRec) (overflow : Nat)
  | reply (r : Reply)
  | mctp (bytes : List Byte)
  | ut (p : UtPkt) (lat : Option Lat) (enc : Encap)
  /-- packet of the slow path handed to firmware (13 R492) -/
  | slow (link : Nat)
  /-- data or completion of a register access to an agent (19 R701) -/
  | regData (agent : Nat) (data : List Byte) (lat : Lat)
  /-- heartbeat on the TWIN_HB pair (12 R457) -/
  | sideHb (bytes : List Byte)
  | claim (number : BitVec 64) (kind : ClaimKind) (sets : BitVec 64) (act : BitVec 3)
  /-- command byte on PK_MOSI (11 R407) -/
  | pack (cmd : Byte)
  /-- data a core receives -/
  | core (k : Nat) (data : List Byte) (lat : Option Lat)
  /-- a core has been kept busy for this count: a store, or an operation on its cache (15 R569, R573, R577, R580, R582) -/
  | coreBusy (k : Nat) (lat : Lat)
  /-- exception in a core: an uncorrectable error, else an address error (15 R568, R591) -/
  | coreExc (k : Nat) (ue : Bool)
  /-- bits shifted out of the TAP -/
  | tap (bits : Nat)
  /-- answer of the FM API (04 R133, R141) -/
  | fm (ok : Bool)
deriving DecidableEq, Repr

end Sys2Proof.Machine
end

