-- ==== Sys2Proof/Machine/Parts/Settings.lean ====
section
/-! DEFINITION. The settings cells and the event recorder (18_settings_cells_and_recorder.md). -/
namespace Sys2Proof.Machine

/-- A settings write that has arrived and not completed (R658). -/
structure SetWrite where
  word : Nat
  value : Word32
  /-- EPC cycle of its arrival: it issues no earlier than the end of that cycle (R658) -/
  cycle : Nat
  /-- it came from the main island -/
  main : Bool
  /-- time it issued to its bank; none while the bank is busy -/
  issued : Option Nat
deriving DecidableEq, Repr

/-- What asked for a group write, and what follows its end. -/
inductive GroupWhy where
  | register | profile | key | saveCost | rehearsal
deriving DecidableEq, Repr

/-- A group write in progress (R662). -/
structure GroupWrite where
  first : Nat
  values : List Word32
  /-- 1 to 4 -/
  stage : Nat
  since : Nat
  why : GroupWhy
deriving DecidableEq, Repr

/-- The settings array. -/
structure Settings where
  /-- persistent values -/
  cells : SMap Nat
  /-- values as read, from the arrival of a write (R659); frozen words may differ until the next main-island reset -/
  live : SMap Nat
  /-- write counters (R664) -/
  counts : SMap Nat
  /-- words whose last read was uncorrectable (R666) -/
  ue : List Nat
  /-- words whose stored bits are beyond correction, until they are written -/
  bad : List Nat
  writes : List SetWrite
  groups : List GroupWrite
deriving DecidableEq, Repr

/-- Accumulation of the open epoch (R680, R684). -/
structure Epoch where
  tjMin : Int
  tjMax : Int
  packMin : Int
  packMax : Int
  vaonMin : Int
  vaonMax : Int
  /-- minimum and maximum of each of the nine rails -/
  rails : List (Int × Int)
  /-- 16 latency bins -/
  lat : SMap Nat
  pdkPeak : Nat
  saves : Nat
  saveInc : Nat
  saveMin : Nat
  saveMax : Nat
  ce : SMap Nat
  ue : SMap Nat
  claims : Nat
  wearMin : Nat
  wearMax : Nat
  merged : Nat
  /-- close reasons of merged epochs, as FLAGS bits -/
  reasons : Nat
  sat : Bool
  /-- hours ran on the RC oscillator -/
  xtal : Bool
deriving DecidableEq, Repr

/-- An epoch with no sample: minima 0x7FFF, maxima 0x8000 (R684). -/
def Epoch.new : Epoch :=
  { tjMin := 32767, tjMax := -32768, packMin := 32767, packMax := -32768, vaonMin := 32767, vaonMax := -32768,
    rails := List.replicate 9 (32767, -32768), lat := [], pdkPeak := 0, saves := 0, saveInc := 0, saveMin := 0, saveMax := 0,
    ce := [], ue := [], claims := 0, wearMin := 0, wearMax := 0, merged := 0, reasons := 0, sat := false, xtal := false }

/-- What the main island has gathered since its last 100 ms transfer (R680). -/
structure MainAcc where
  lat : SMap Nat
  ce : SMap Nat
  ue : SMap Nat
deriving DecidableEq, Repr

/-- The event recorder. -/
structure Recorder where
  /-- records by slot, 256 B each -/
  slots : SMap (List Byte)
  /-- records written since arming -/
  next : Nat
  epoch : Epoch
  acc : MainAcc
  /-- time of entry to SAVE of the save in progress -/
  saveAt : Option Nat
deriving DecidableEq, Repr
/-- The recorder before it is armed. -/
def Recorder.reset : Recorder := ⟨[], 0, Epoch.new, ⟨[], [], []⟩, none⟩

end Sys2Proof.Machine
end

