-- ==== Sys2Proof/Machine/Parts/Tide.lean ====
section
/-! DEFINITION. The parts of the state that tide staging names: tables, entries, sharers (07_tide_tables.md). -/
namespace Sys2Proof.Machine

/-- Tide table states (07 R242). -/
inductive TblState where
  | free | building | live | closing
deriving DecidableEq, Repr

/-- A tide table (07 R237, R241, R267). -/
structure TideTable where
  state : TblState
  /-- none: management carrier; some: an LD (14 R756) -/
  owner : Option Nat
  lateRec : Bool
  lateEv : Bool
  rset : Nat
  lead : Nat
  first : Nat
  /-- entry slots reserved -/
  slots : Nat
  /-- entries added -/
  count : Nat
  /-- pages -/
  quota : Nat
  used : Nat
  lateCnt : Nat
  lateSat : Bool
deriving DecidableEq, Repr
/-- A table slot not in use. -/
def TideTable.empty : TideTable := ⟨.free, none, false, false, 0, 0, 0, 0, 0, 0, 0, 0, false⟩

/-- A tide entry (07 R241). -/
structure TideEntry where
  /-- first page -/
  page : Nat
  lenM1 : Nat
  region : Nat
  staged : Bool
  staging : Bool
  late : Bool
  void : Bool
deriving DecidableEq, Repr
/-- An entry slot not in use. -/
def TideEntry.empty : TideEntry := ⟨0, 0, 0, false, false, false, false⟩

/-- Sharer states (07 R243). -/
inductive ShrState where
  | free | active | dormant
deriving DecidableEq, Repr

/-- A sharer (07 R243, R267). -/
structure Sharer where
  state : ShrState
  table : Nat
  /-- a UT peer rather than a host -/
  peer : Bool
  /-- LD or host ID, or context -/
  id : Nat
  step : Nat
  /-- line number of the step line -/
  stepLine : Nat
  /-- time of the last newer or equal update -/
  seen : Nat
  /-- the step value last counted as late (R258) -/
  lateAt : Option Nat
deriving DecidableEq, Repr
/-- A sharer slot not in use. -/
def Sharer.empty : Sharer := ⟨.free, 0, false, 0, 0, 0, 0, none⟩

/-- A staging copy in progress of one page (07 R250, R252). -/
structure StageCopy where
  page : Nat
  /-- lines copied so far -/
  copied : BitVec 64
  /-- C4, or C3 when it was issued for a LATE entry (07 R256) -/
  tc : TClass
deriving DecidableEq, Repr

end Sys2Proof.Machine
end

