-- ==== Sys2Proof/Machine/Parts/Twin.lean ====
section
/-! DEFINITION. The parts of the state that twin operation names: gates and leases, heartbeats, the mirror stream, resync, forwarding, handover (12_twin_operation_and_claims.md). -/
namespace Sys2Proof.Machine

/-- A line of the mirror stream that has not been sent, or that waits in the reorder buffer (12 R449). -/
structure MirrorLine where
  seq : Nat
  line : Nat
  st : LineStore
  poison : Bool
deriving DecidableEq, Repr

/-- A closed epoch of this unit's own stream (12 R452, R453). -/
structure EpochRec where
  epoch : Nat
  digest : BitVec 64
  /-- pages written in the epoch -/
  pages : List Nat
  overflow : Bool
deriving DecidableEq, Repr

/-- A request kept in the forwarding table until its response returns (12 R446, R480, R481). -/
structure FwdEntry where
  tag : Nat
  set : Nat
  line : Nat
  req : BiReq
  time : Nat
  /-- it could not be forwarded: waits FWD_WAIT since -/
  stuck : Option Nat
deriving DecidableEq, Repr

/-- A planned handover under way (12 R479). -/
structure Handover where
  sets : BitVec 64
  /-- RELEASE has been sent -/
  released : Bool
  /-- requests that wait in C3, oldest first -/
  waiting : List BiReq
  slot : Option Nat
deriving DecidableEq, Repr

/-- Gates a CLAIM or RELEASE of this unit has taken and will act on when the epoch write completes (12 R468). -/
structure Taking where
  sets : BitVec 64
  act : BitVec 3
  epoch : Nat
  /-- enter ALONE when it completes (R475) -/
  alone : Bool
deriving DecidableEq, Repr

/-- A frame that waits for an idle bus (12 R464, R474). -/
structure WantFrame where
  kind : ClaimKind
  raised : Bool
  sets : BitVec 64
  act : BitVec 3
deriving DecidableEq, Repr

/-- A half of a resync page that has arrived (13 R532). -/
structure ResyncHalf where
  page : Nat
  half : Nat
  /-- SNAP_SEQ -/
  snap : Nat
  bytes : List Byte
  poison : Nat
deriving DecidableEq, Repr

/-- The receive side of the twin's mirror stream (12 R449 to R455). -/
structure TwinRx where
  /-- next sequence number expected -/
  expect : Nat
  /-- reorder buffer (R449) -/
  reorder : List MirrorLine
  /-- epoch in progress, its first sequence number and running digest -/
  epoch : Nat
  digest : BitVec 64
  /-- kinds 1 to 3 that wait for their place in the stream: the next expected number at which each applies, and its payload -/
  notes : List (Nat × List Byte)
  /-- finished epochs, newest first, at most 4: number, digest, and first number of the next (R453) -/
  done : List (Nat × BitVec 64 × Nat)
  halves : List ResyncHalf
  /-- stores landed while a set is STALE, else in the last epochs: a resync copy is followed by the later stores of its page (12 R455) -/
  later : List MirrorLine
deriving DecidableEq, Repr

/-- The twin unit beside its registers. -/
structure Twin where
  /-- sets and actuators the twin holds, as last learned -/
  peerSets : BitVec 64
  peerAct : BitVec 3
  /-- UNIT, EPOCH, LANES and HELD_SEEN of the twin's last heartbeat -/
  peerUnit : Option Bool
  peerEpoch : Nat
  peerSeen : BitVec 64
  /-- time of the last RENEW of this unit that took effect, and of the last received -/
  ownRenew : Nat
  peerRenew : Nat
  peerFree : Bool
  taking : Option Taking
  /-- requests for sets an ordinary CLAIM has taken, until the epoch write completes (R468) -/
  takeWait : List BiReq
  want : List WantFrame
  /-- times of the frames sent in the last ms (R474) -/
  sent : List Nat
  /-- heartbeats: last counted SEQ and time on the mirror path and on TWIN_HB, SEQ sent -/
  mirSeq : Option Nat
  mirTime : Nat
  sideSeq : Option Nat
  sideTime : Nat
  txSeq : Nat
  /-- TWIN_HB code-group alignment (R457) -/
  aligned : Bool
  /-- counted heartbeats have been seen since start-up or loss -/
  seen : Bool
  /-- frames in a row a lane read against, or with, the vote (R473) -/
  against : SMap Nat
  agree : SMap Nat
  /-- start of the JOIN_WAIT wait -/
  joinSince : Nat
  renewSeen : Bool
  /-- holdings before HOLD (R487) -/
  before : BitVec 64
  beforeAct : BitVec 3
  /-- own mirror stream: next sequence number, lines to send, epoch, first number, digest, pages -/
  txNext : Nat
  txLines : List MirrorLine
  epoch : Nat
  digest : BitVec 64
  touched : List Nat
  /-- closed epochs, newest first, at most 4 -/
  past : List EpochRec
  /-- notices and control to send (13 R532): page notices as (page, SF), region notices as index -/
  pageNotes : List (Nat × Bool)
  regionNotes : List Nat
  rx : TwinRx
  /-- pages the rejoining unit still keeps (R454), to be copied by the owner -/
  keptPages : List Nat
  /-- resync of sets runs -/
  resync : BitVec 64
  fwd : List FwdEntry
  nextTag : Nat
  /-- sets whose first forwarding failure has been reported -/
  fwdFailed : BitVec 64
  handover : Option Handover
  /-- pages of taken-over sets not yet swept (R482) -/
  unswept : List Nat
  /-- sets gained by a raised claim whose takeover the Harbourmaster has not completed (R481) -/
  taken : BitVec 64
  /-- sets the twin has released and this unit has not yet taken (R479) -/
  released : BitVec 64
  /-- entries of the owner that collide with an L or V entry here, each with its set (03 R755) -/
  clash : List (TwinEntry × Nat)
  /-- LANDED of the last MIRROR_ACK -/
  landed : Nat
  /-- time of the last epoch mark -/
  markAt : Nat
  /-- samples of w of the last second: time and ns (13 R534) -/
  wSamples : List (Nat × Nat)
  /-- the last heartbeat with SAVING has been sent (R459) -/
  silent : Bool
deriving DecidableEq, Repr

/-- The receive side before anything arrived. -/
def TwinRx.reset : TwinRx := ⟨0, [], 0, 0, [], [], [], []⟩

/-- The twin unit before start-up. -/
def Twin.reset : Twin :=
  { peerSets := 0, peerAct := 0, peerUnit := none, peerEpoch := 0, peerSeen := 0, ownRenew := 0, peerRenew := 0,
    peerFree := true, taking := none, takeWait := [], want := [], sent := [], mirSeq := none, mirTime := 0, sideSeq := none,
    sideTime := 0, txSeq := 0, aligned := false, seen := false, against := [], agree := [], joinSince := 0,
    renewSeen := false, before := 0, beforeAct := 0, txNext := 0, txLines := [], epoch := 0, digest := 0,
    touched := [], past := [], pageNotes := [], regionNotes := [], rx := TwinRx.reset, keptPages := [], resync := 0,
    fwd := [], nextTag := 0, fwdFailed := 0, handover := none, unswept := [], taken := 0, released := 0, clash := [],
    landed := 0, markAt := 0, wSamples := [], silent := false }

end Sys2Proof.Machine
end

