-- ==== Sys2Proof/Machine/Parts/Ute.lean ====
section
/-! DEFINITION. The parts of the state that the UT engine names: contexts, berths, message tables, descriptors, destinations, paths, the Shed (13_umond_transport.md). -/
namespace Sys2Proof.Machine

/-- Owner of a UT context (13 R502). -/
inductive CtxOwner where
  | ld (n : Nat)
  | hostId (n : Nat)
  | firmware
  | twin
deriving DecidableEq, Repr

/-- An open context (13 R502, R503): queues, indices, MSN, COUNT. -/
structure UtCtx where
  owner : CtxOwner
  /-- send queue: base DLA and descriptors -/
  sqBase : Nat
  sqN : Nat
  /-- completion queue: base DLA and records -/
  cqBase : Nat
  cqN : Nat
  sqProd : Nat
  sqCons : Nat
  cqProd : Nat
  cqCons : Nat
  nextMsn : Nat
  ackFloor : Nat
  count : Nat
  /-- COUNT of the last record written (R537) -/
  countRec : Nat
  /-- UTE_CTX_STATUS.RESET -/
  wasReset : Bool
  /-- UT_CTX_CLOSE waits for its messages -/
  closing : Bool
deriving DecidableEq, Repr

/-- A berth (13 R503, R510). A slot never opened has generation 1 (R512). -/
structure Berth where
  isOpen : Bool
  base : Nat
  lengthM1 : Nat
  gen : Nat
  /-- WRITE, READ, ATOMIC, COUNT, CQE from bit 0 -/
  perm : BitVec 8
  /-- lease in 100 ms; 0 selects UTE_TIMER.LEASE -/
  lease : Nat
  /-- model time the lease ends -/
  expiry : Nat
deriving DecidableEq, Repr
/-- A berth slot after start-up. -/
def Berth.empty : Berth := ⟨false, 0, 0, 1, 0, 0, 0⟩

/-- A message-completion entry (13 R516). -/
structure MctEntry where
  ctx : Nat
  node : Nat
  srcCtx : Nat
  msn : Nat
  /-- packet bitmap of a WRITE, or the old value of an atomic -/
  data : BitVec 64
  complete : Bool
  /-- the entry is an atomic's, and its answer was poisoned (R518) -/
  atomic : Bool
  poison : Bool
  berth : Nat
  /-- bytes received, for the receive record (R517); FWD_TAG of a forwarded store -/
  bytes : Nat
  since : Nat
deriving DecidableEq, Repr

/-- A packet's lines on their way to their acknowledgement point (13 R515). -/
structure Placing where
  ctx : Nat
  node : Nat
  srcCtx : Nat
  msn : Nat
  pkt : Nat
  /-- store ids not yet acknowledged -/
  left : List Nat
  /-- the packet answered, for ECHO_TIME and the path -/
  hdr : UtHdr
  link : Nat
  time : Nat
  /-- the stated path of its answer so far; none once a line has waited (R535) -/
  lat : Option Lat
deriving DecidableEq, Repr

/-- A READ or an atomic that this unit is carrying out for a peer (13 R518, R519, R757). -/
structure PeerOp where
  id : Nat
  ctx : Nat
  hdr : UtHdr
  link : Nat
  /-- first byte's DLA -/
  dla : Nat
  /-- addend, or compare and swap values, of an atomic -/
  atomic : Bool
  opnd1 : BitVec 64
  opnd2 : BitVec 64
  /-- lines still to read -/
  left : List Nat
  /-- lines read; none where poisoned -/
  got : List (Nat × Option Line)
  /-- of a READ of one line: the stated path of its answer (R535, R757) -/
  lat : Option Lat
deriving DecidableEq, Repr

/-- A CMD message that arrives packet by packet (14 R758). -/
structure CmdBuf where
  node : Nat
  srcCtx : Nat
  msn : Nat
  bytes : SMap Byte
  len : Nat
deriving DecidableEq, Repr

/-- A FLUSH that waits at the target (13 R520). -/
structure FlushWait where
  ctx : Nat
  hdr : UtHdr
  link : Nat
  /-- packets accepted before it: node, context, MSN, packet -/
  before : List (Nat × Nat × Nat × Nat)
  /-- atomics accepted before it, by number -/
  ops : List Nat
deriving DecidableEq, Repr

/-- A packet parked in the Shed (13 R526, R527). -/
structure Parked where
  pkt : UtPkt
  slots : Nat
  /-- C0, whose slots are kept apart -/
  c0 : Bool
  /-- what the fetch adds to its checks, of the packet that began the fetch (R526) -/
  extra : Option Lat
deriving DecidableEq, Repr

/-- A destination-table entry (13 R496). -/
structure Dest where
  node : Nat
  addrs : List Nat
  npath : Nat
  links : BitVec 4
  mgmt : Bool
deriving DecidableEq, Repr

/-- Congestion state of one path (13 R525). -/
structure PathState where
  w : Nat
  srtt : Option Nat
  qmin : Option Nat
  qlast : Nat
  round : Nat
  inflight : Nat
  down : Bool
  /-- timeouts in a row (R524) -/
  timeouts : Nat
deriving DecidableEq, Repr

/-- A cached destination (13 R497, R525). -/
structure DestState where
  dest : Nat
  base : Option Nat
  /-- least sample of the running 10 s, and its start -/
  next : Option Nat
  nextSince : Nat
  /-- paths by index -/
  paths : SMap PathState
  lastPath : Nat
deriving DecidableEq, Repr

/-- A descriptor that has started and not completed (13 R506, R507). -/
structure DescRun where
  ctx : Nat
  /-- position in the queue, the model's own -/
  index : Nat
  op : Nat
  flags : BitVec 8
  dest : Nat
  dstCtx : Nat
  local_ : Nat
  user : BitVec 64
  /-- remote berth and generation, remote offset, bytes in all and bytes already split into messages -/
  berth : Nat
  gen : Nat
  remote : Nat
  len : Nat
  split : Nat
  opnd1 : BitVec 64
  opnd2 : BitVec 64
  /-- messages not yet completed, by MSN -/
  left : List Nat
  /-- a READ met poison (R509) -/
  poisoned : Bool
  result : BitVec 64
deriving DecidableEq, Repr

/-- A message this unit has outstanding (13 R506, R522, R523). -/
structure MsgRun where
  ctx : Nat
  msn : Nat
  dest : Nat
  dstCtx : Nat
  op : Nat
  berth : Nat
  gen : Nat
  npkt : Nat
  /-- bytes of a full packet -/
  unit : Nat
  /-- packets answered -/
  done : BitVec 64
  /-- a COMPLETE ACK has arrived -/
  complete : Bool
  /-- remote offset, local DLA and bytes of the message -/
  remote : Nat
  local_ : Nat
  len : Nat
  /-- operands of an atomic -/
  opnd1 : BitVec 64
  opnd2 : BitVec 64
  /-- bytes of READ data received, by offset of each response -/
  got : List (Nat × Nat)
  poisoned : Bool
  /-- time of the first packet, once sent -/
  first : Option Nat
deriving DecidableEq, Repr

/-- A packet of a message this unit sends (13 R521 to R523). -/
structure TxPkt where
  ctx : Nat
  msn : Nat
  pkt : Nat
  dest : Nat
  /-- path last used -/
  path : Nat
  bytes : Nat
  /-- times sent -/
  sends : Nat
  /-- in flight since -/
  sentAt : Nat
  inflight : Bool
  /-- may not be resent before (NACK RETRY) -/
  retryAt : Option Nat
deriving DecidableEq, Repr

/-- A WAIT that holds a slot (13 R508). -/
structure WaitRun where
  ctx : Nat
  index : Nat
  watched : Nat
  target : Nat
  flags : BitVec 8
  user : BitVec 64
deriving DecidableEq, Repr

/-- A completion or receive record that is due in a completion queue (13 R507, R517). -/
structure DueRecord where
  ctx : Nat
  bytes : List Byte
  notify : Bool
deriving DecidableEq, Repr

/-- The UT engine. -/
structure Ute where
  /-- open contexts; none is closed -/
  ctxs : SMap (Option UtCtx)
  /-- by context × 8 + slot -/
  berths : SMap Berth
  mct : List MctEntry
  placing : List Placing
  /-- READs and atomics under way for peers -/
  ops : List PeerOp
  cmds : List CmdBuf
  flushes : List FlushWait
  /-- cached contexts, most recently used first (R503) -/
  cached : List Nat
  /-- context fetches in flight -/
  fetching : List Nat
  /-- Shed, oldest first -/
  shed : List Parked
  /-- a refusal for lack of slots since the last successful parking (R527) -/
  shedRefused : Bool
  dests : SMap (Option Dest)
  /-- destination cache, most recently used first (R497) -/
  cache : List DestState
  descs : List DescRun
  msgs : List MsgRun
  tx : List TxPkt
  waits : List WaitRun
  /-- queues blocked by a WAIT that found no slot (R508) -/
  waitRetry : List WaitRun
  due : List DueRecord
  /-- mirror packets and control in flight: header MSN, payload, packet's lines covered -/
  mirrorTx : List (Nat × UtPkt)
deriving DecidableEq, Repr
/-- No context open. -/
def Ute.reset : Ute :=
  { ctxs := [], berths := [], mct := [], placing := [], ops := [], cmds := [], flushes := [], cached := [], fetching := [], shed := [],
    shedRefused := false, dests := [], cache := [], descs := [], msgs := [], tx := [], waits := [], waitRetry := [],
    due := [], mirrorTx := [] }

end Sys2Proof.Machine
end

