-- ==== Sys2Proof/Machine/Resets.lean ====
section
/-! DEFINITION. Power-on values: the fields of the register tables that do not reset to 0, and the factory values of the settings words (00 R15, 17 R636, 18 R657, 19 R705). -/
namespace Sys2Proof.Machine

/-- Main-island fields that do not reset to 0, by field key (part 0). -/
def mainResets0 : SMap Nat :=
  [(0x0, 0xB0), (0x10, 0x6400), (0x20000, 0x1), (0x20004, 0x2), (0x20008, 0x8), (0x2000C, 0x4), (0x20010, 0x8), (0x400100, 0x3C), (0x400200, 0x1), (0x400400, 0x1D), (0xBC0005, 0x1), (0xBC0C00, 0x32), (0xBC0C08, 0x40), (0xBC1C00, 0x10), (0xBC1D00, 0x50), (0xBC1D08, 0x5A), (0xBC1D10, 0x64), (0xBC1D18, 0xC), (0x1000000, 0x20), (0x1000008, 0x14), (0x2040100, 0x1), (0x2050010, 0x1), (0x2050100, 0x1), (0x2050104, 0x1), (0x2060010, 0x2), (0x2060100, 0x1), (0x2060104, 0x2), (0x2070010, 0x3), (0x2070100, 0x1), (0x2070104, 0x3), (0x20C0200, 0xA), (0x2140010, 0x4), (0x2140100, 0x1), (0x2140104, 0x4), (0x2150010, 0x5), (0x2150100, 0x1), (0x2150104, 0x5), (0x2160010, 0x6), (0x2160100, 0x1), (0x2160104, 0x6)]

/-- Main-island fields that do not reset to 0, by field key (part 1). -/
def mainResets1 : SMap Nat :=
  [(0x2170010, 0x7), (0x2170100, 0x1), (0x2170104, 0x7), (0x2240010, 0x8), (0x2240100, 0x1), (0x2240104, 0x8), (0x2250010, 0x9), (0x2250100, 0x1), (0x2250104, 0x9), (0x2260010, 0xA), (0x2260100, 0x1), (0x2260104, 0xA), (0x2270010, 0xB), (0x2270100, 0x1), (0x2270104, 0xB), (0x2340010, 0xC), (0x2340100, 0x1), (0x2340104, 0xC), (0x2350010, 0xD), (0x2350100, 0x1), (0x2350104, 0xD), (0x2360010, 0xE), (0x2360100, 0x1), (0x2360104, 0xE), (0x2370010, 0xF), (0x2370100, 0x1), (0x2370104, 0xF), (0x4000200, 0xBE7A), (0x4000300, 0xC000), (0x4000400, 0x10), (0x4000408, 0x4), (0x4000410, 0x8), (0x4000418, 0x20), (0x4000500, 0x7), (0x4000510, 0x40), (0x4000600, 0x64), (0x4000610, 0x20), (0x4000618, 0x40), (0x4000700, 0x14), (0x4000800, 0xFFFF)]

/-- Main-island fields that do not reset to 0, by field key (part 2). -/
def mainResets2 : SMap Nat :=
  [(0x80C0100, 0x10), (0x80C0108, 0x30), (0x80C0200, 0xC8), (0x80C0210, 0x3E8), (0x80C0300, 0x40), (0x80C0400, 0xFFFFFF), (0xD000000, 0x1E), (0xD000010, 0xC), (0xD000100, 0x10), (0xD000300, 0x1), (0xD000308, 0x3), (0xD000310, 0x6), (0xD000400, 0xC8), (0xD000418, 0x7), (0x10000100, 0x18), (0x10000108, 0x1), (0x10000110, 0x6), (0x10000118, 0x18), (0x10000200, 0xA), (0x10000208, 0x1), (0x10001100, 0x10), (0x10001200, 0x4), (0x12000010, 0xA), (0x12000018, 0x32), (0x12000E00, 0x14), (0x1400000C, 0x7), (0x14000100, 0x3), (0x14040100, 0x5), (0x14040201, 0x1), (0x14040F00, 0x2710), (0x14044100, 0x5), (0x14044201, 0x1), (0x14044F00, 0x2710), (0x14048100, 0x5), (0x14048201, 0x1), (0x14048F00, 0x2710), (0x1404C100, 0x5), (0x1404C201, 0x1), (0x1404CF00, 0x2710), (0x14050100, 0x5)]

/-- Main-island fields that do not reset to 0, by field key (part 3). -/
def mainResets3 : SMap Nat :=
  [(0x14050201, 0x1), (0x14050F00, 0x2710), (0x14054100, 0x5), (0x14054201, 0x1), (0x14054F00, 0x2710), (0x14058100, 0x5), (0x14058201, 0x1), (0x14058F00, 0x2710), (0x1405C100, 0x5), (0x1405C201, 0x1), (0x1405CF00, 0x2710), (0x14060100, 0x5), (0x14060201, 0x1), (0x14060F00, 0x2710)]

/-- Main-island fields that do not reset to 0, by field key. -/
def mainResets : SMap Nat := mainResets0 ++ mainResets1 ++ mainResets2 ++ mainResets3

/-- AON-island fields that do not reset to 0, by field key (part 0). -/
def aonResets0 : SMap Nat :=
  [(0x11000101, 0x64), (0x11000110, 0x64), (0x11000200, 0x7), (0x11000B10, 0xFFFF)]

/-- AON-island fields that do not reset to 0, by field key. -/
def aonResets : SMap Nat := aonResets0

/-- Settings words whose factory value is not 0 (part 0). -/
def factoryCells0 : SMap Nat :=
  [(0x1, 0x84821), (0x20, 0x3C), (0x21, 0x1), (0x23, 0x1D), (0x40, 0x4032), (0x41, 0x10), (0x42, 0xC645A50), (0x80, 0x1420), (0xA0, 0x1), (0xA1, 0x11), (0xA2, 0x21), (0xA3, 0x31), (0xA4, 0x41), (0xA5, 0x51), (0xA6, 0x61), (0xA7, 0x71), (0xA8, 0x81), (0xA9, 0x91), (0xAA, 0xA1), (0xAB, 0xB1), (0xAC, 0xC1), (0xAD, 0xD1), (0xAE, 0xE1), (0xAF, 0xF1), (0xB5, 0xA), (0xE1, 0xBE7A), (0xE2, 0xC000), (0xE3, 0x20080410), (0xE4, 0x400007), (0xE5, 0x40200064), (0xE6, 0x14), (0x120, 0x3010), (0x121, 0x3E800C8), (0x122, 0x40), (0x123, 0xFFFFFF), (0x180, 0xC001E), (0x181, 0x10), (0x182, 0x60301), (0x183, 0x70000C8), (0x1E0, 0x18060118)]

/-- Settings words whose factory value is not 0 (part 1). -/
def factoryCells1 : SMap Nat :=
  [(0x1E1, 0x10A), (0x1E2, 0x10), (0x1E3, 0x4), (0x200, 0x6400C8), (0x201, 0x7), (0x280, 0x320A0000), (0x286, 0x14), (0x2E0, 0x3)]

/-- Settings words whose factory value is not 0. -/
def factoryCells : SMap Nat := factoryCells0 ++ factoryCells1

end Sys2Proof.Machine
end

