-- ==== Sys2Proof/Machine/State.lean ====
section
/-! DEFINITION. The state of the controller as plain data, its outcomes, and the state after reset. -/
namespace Sys2Proof.Machine

/-- Why a command stops with a fault: no meaning raises one, so there is no constructor. The spec gives every row an effect,
and an event whose condition does not hold changes nothing (log 10). -/
inductive Fault where
deriving DecidableEq, Repr

/-- Why a command has no meaning. -/
inductive Refusal where
  /-- A row of the table that has no meaning yet: raised by its arm in Dispatch only. Safe: the machine stops. -/
  | notModelled (mnemonic : String)
deriving DecidableEq, Repr

/-- The controller. -/
structure State where
  /-- model time in CORE cycles of 0.5 ns (log 2) -/
  now : Nat
  /-- index of the next free value (log 1): the model's own counter -/
  fresh : Nat
  /-- every stored register field, keyed by 64 × BAR0 offset + low bit (19 R688) -/
  regs : SMap Nat
  icu : Icu
  /-- what the block has sent, newest first -/
  out : List Out
  pers : Pers
  rgn : Rgn
  cxl : Cxl
  tide : SMap TideTable
  entries : SMap TideEntry
  sharers : SMap Sharer
  copies : List StageCopy
  flash : Flash
  dram : Dram
  quay : Quay
  integ : Integ
  epc : Epc
  twin : Twin
  ute : Ute
  cmd : CmdState
  ccx : Ccx
  clk : Clk
  agents : SMap Agent
  test : Test
  sets : Settings
  recd : Recorder
  /-- commands that wait, first in first out -/
  pending : List Instr
deriving DecidableEq, Repr

/-- The settings array as it leaves production: factory values, no write counted (18 R657; 21 R743). -/
def Settings.reset : Settings :=
  { cells := factoryCells, live := factoryCells, counts := [], ue := [], bad := [], writes := [], groups := [] }

/-- Right after the AON power-on reset and the main-island reset that follows it (17 R635): nothing has started up,
no command waits. Registers without a stated value read 0 (logs 6 and 7). -/
def State.reset : State :=
  { now := 0, fresh := 0, regs := sputAll 0 mainResets aonResets, icu := Icu.reset, out := [], pers := Pers.reset,
    rgn := Rgn.reset, cxl := Cxl.reset, tide := [], entries := [], sharers := [], copies := [], flash := Flash.reset,
    dram := Dram.reset, quay := Quay.reset, integ := Integ.reset, epc := Epc.reset, twin := Twin.reset,
    ute := Ute.reset, cmd := CmdState.reset, ccx := Ccx.reset, clk := Clk.reset, agents := [], test := Test.reset,
    sets := Settings.reset, recd := Recorder.reset, pending := [] }

end Sys2Proof.Machine
end

