-- ==== Sys2Proof/Machine/Flags.lean ====
section
/-! DEFINITION. Register fields, sticky bits, saturating counters, and the latching and routing of event sources (00_scope.md R18 to R21; 16_interrupts_and_events.md). -/
namespace Sys2Proof.Machine

/-- Key of a field in `State.regs`. -/
def Fld.key (f : Fld) : Nat := 64 * f.off + f.lo
/-- Width of a field in bits. -/
def Fld.width (f : Fld) : Nat := f.hi + 1 - f.lo

/-- Value of a stored field. -/
def State.fget (s : State) (f : Fld) : Nat := sget 0 s.regs f.key
/-- Store a value in a field, cut to its width. -/
def State.fset (s : State) (f : Fld) (v : Nat) : State := { s with regs := sput 0 s.regs f.key (v % 2 ^ f.width) }
/-- Is a one-bit field set? -/
def State.bit (s : State) (f : Fld) : Bool := s.fget f ≠ 0
/-- Set or clear a one-bit field. -/
def State.setBit (s : State) (f : Fld) (b : Bool) : State := s.fset f (if b then 1 else 0)

/-- Send something. -/
def State.emit (s : State) (o : Out) : State := { s with out := o :: s.out }

/-- Is `n` a source the controller can raise or latch (16 R598 to R600)? -/
def validSource (n : Nat) : Bool :=
  (1 ≤ n && n ≤ 23) || (32 ≤ n && n ≤ 36) || (48 ≤ n && n ≤ 56) || (64 ≤ n && n ≤ 72) || (80 ≤ n && n ≤ 82) ||
  (96 ≤ n && n ≤ 117) || (128 ≤ n && n ≤ 255 && n % 8 ≠ 7) || (256 ≤ n && n ≤ 351 && n % 8 < 6) ||
  (352 ≤ n && n ≤ 354) || (368 ≤ n && n ≤ 381) || (400 ≤ n && n ≤ 413) || (432 ≤ n && n ≤ 441) ||
  (448 ≤ n && n ≤ 459) || (480 ≤ n && n ≤ 485) || (488 ≤ n && n ≤ 541 && (n - 488) % 6 ≠ 5) ||
  (544 ≤ n && n ≤ 546) || (560 ≤ n && n ≤ 566) || (592 ≤ n && n ≤ 594) || (608 ≤ n && n ≤ 610) ||
  (624 ≤ n && n ≤ 626)

/-- ICU_SRC_CFG.EN (R601). -/
def Icu.en (c : Icu) (src : Nat) : Bool := (sget 0 c.cfg src).getLsbD 31
/-- ICU_SRC_CFG.PRIO (R603). -/
def Icu.prio (c : Icu) (src : Nat) : Nat := (sget 0 c.cfg src).toNat % 16
/-- Bit t of ICU_SRC_CFG.TARGETS (R603). -/
def Icu.targets (c : Icu) (src t : Nat) : Bool := (sget 0 c.cfg src).getLsbD (16 + t)
/-- ICU_TGT_CTRL.THRESH and EN of target t. -/
def Icu.thresh (c : Icu) (t : Nat) : Nat := (sget 0 c.tgt t).toNat % 16
def Icu.tgtEn (c : Icu) (t : Nat) : Bool := (sget 0 c.tgt t).getLsbD 8
/-- Is a source claimed and not completed? -/
def Icu.isActive (c : Icu) (src : Nat) : Bool := c.active.any fun p => p.1 = src
/-- cur[t] (R603). -/
def Icu.cur (c : Icu) (t : Nat) : Nat :=
  (c.active.filter fun p => p.2 = t).foldl (fun m p => max m (c.prio p.1)) (c.thresh t)
/-- The sources that may be presented (R605). -/
def Icu.cand (c : Icu) : List Nat := c.pend.filter fun n => !c.isActive n && c.prio n ≠ 0
/-- R604 without its last test. -/
def Icu.mayTake (c : Icu) (t src : Nat) : Bool :=
  c.targets src t && c.tgtEn t && c.running.contains t && c.cur t < c.prio src
/-- R604 with its last test, against `keep`. -/
def Icu.eligible (c : Icu) (keep : SMap Nat) (t src : Nat) : Bool :=
  c.mayTake t src && (sget 0 keep t = 0 || c.prio (sget 0 keep t) < c.prio src)

/-- Does `a` come before `b` in the order of R605: higher PRIO, then lower number? -/
def Icu.before (c : Icu) (a b : Nat) : Bool := c.prio b < c.prio a || (c.prio a = c.prio b && a < b)
/-- Put a source at its place in the order of R605. -/
def Icu.place (c : Icu) (n : Nat) : List Nat → List Nat
  | [] => [n]
  | k :: t => if c.before n k then n :: k :: t else k :: c.place n t

/-- Targets in the search order ROT+1, ROT+2, ... wrapping after 8 (R605). -/
def rotOrder (rot : Nat) : List Nat := (List.range 9).map fun i => (rot + 1 + i) % 9

/-- The loop of R605 over the sources not yet placed. -/
def Icu.routeLoop (c : Icu) : Nat → List Nat → SMap Nat → Nat → SMap Nat × Nat
  | 0, _, keep, rot => (keep, rot)
  | _ + 1, [], keep, rot => (keep, rot)
  | k + 1, n :: free, keep, rot =>
    match (rotOrder rot).filter fun t => c.eligible keep t n with
    | [] => c.routeLoop k free keep rot
    | t :: ts =>
      let m := ts.foldl (fun m u => min m (c.cur u)) (c.cur t)
      match (t :: ts).find? fun u => c.cur u = m with
      | none => (keep, rot)
      | some u =>
        let old := sget 0 keep u
        let free' := if old = 0 then free else c.place old free
        c.routeLoop k free' (sput 0 keep u n) u

/-- The presentations for the next cycle (R605). -/
def Icu.route (c : Icu) : Icu :=
  let keep := c.presented.filter fun p => c.cand.contains p.2 && c.mayTake p.1 p.2
  let free := (c.cand.filter fun n => !keep.any fun p => p.2 = n).foldl (fun l n => c.place n l) []
  let r := c.routeLoop (10 * free.length + 10) free keep c.rot
  { c with presented := r.1, rot := r.2 }

/-- May a source fire while the main island is off (R615; 17 R653; 18 R687)? -/
def alwaysOn (n : Nat) : Bool :=
  (432 ≤ n && n ≤ 441) || n = 451 || n = 564 || (592 ≤ n && n ≤ 594) || (608 ≤ n && n ≤ 610)

/-- The watcher's slots that name source `n`. -/
def Icu.slotsOf (c : Icu) (n : Nat) : List Nat := (c.sel.filter fun p => p.2.toNat % 1024 = n).map (·.1)

/-- An edge at the watcher, with the main island off (R615). -/
def Icu.watch (c : Icu) (n : Nat) : Icu :=
  if n = 0 || !alwaysOn n then c else
  let js := c.slotsOf n
  { c with fired := js.foldl (fun f j => f ||| (1#32 <<< j)) c.fired,
           wake := c.wake || js.any fun j => (sget 0 c.sel j).getLsbD 31 }

/-- A rising edge of a source (R601, R607 steps 4 and 5; R615 with the main island off). -/
def Icu.edge (c : Icu) (n : Nat) : Icu :=
  if c.mainOff then c.watch n
  else if c.en n && validSource n then { c with pend := insNat n c.pend }.route
  else c

/-- Raise an event source. -/
def State.raise (s : State) (n : Nat) : State := { s with icu := s.icu.edge n }

/-- Add 1 to a counter that saturates; the increment that reaches the largest value sets the SAT bit and raises the
source (00 R18, R19). -/
def State.bump (s : State) (cnt sat : Fld) (src : Nat) : State :=
  let v := s.fget cnt
  let top := 2 ^ cnt.width - 1
  if v = top then s
  else if v + 1 = top then (((s.fset cnt (v + 1)).setBit sat true).raise src)
  else s.fset cnt (v + 1)

/-- Add 1 to a counter whose SAT bit has no event source. -/
def State.bumpQuiet (s : State) (cnt : Fld) : State :=
  let v := s.fget cnt
  if v = 2 ^ cnt.width - 1 then s else s.fset cnt (v + 1)

/-- Take the next free value below `n` (log 1). -/
def State.free (s : State) (n : Nat) : Nat × State := (Config.free s.fresh % n, { s with fresh := s.fresh + 1 })
/-- The two phase terms of a path have been used up. -/
def State.bothPhases (s : State) : State := { s with fresh := s.fresh + 2 }

/-- Times in CORE cycles (17 R624: CORE runs at 2,000 MHz). -/
def ns (n : Nat) : Nat := 2 * n
def us (n : Nat) : Nat := 2000 * n
def ms (n : Nat) : Nat := 2000000 * n
def sec (n : Nat) : Nat := 2000000000 * n

/-- Core cycles of a time in µs, rounded up to whole µs. -/
def toUs (t : Nat) : Nat := (t + 1999) / 2000

/-- Modes the registers hold. -/
def State.power (s : State) : Nat := s.fget F.CLK_STATUS_PWR_STATE
def State.memActive (s : State) : Bool := s.bit F.CLK_STATUS_MEM_ACTIVE
/-- FULL with memory active and the main island out of reset. -/
def State.running (s : State) : Bool := !s.clk.inReset && s.memActive && s.power = 0

end Sys2Proof.Machine
end

