-- ==== Sys2Proof/Machine/Ops.lean ====
section
/-! DEFINITION. Named operations over the state: latched settings, roles, regions, page-state words, poison, event records, the error log, DRAM frames. -/
namespace Sys2Proof.Machine

/-! ### Modes and roles -/

/-- A field that is read at start-up, as the last start-up read it (01 R46). -/
def State.latched (s : State) (f : Fld) : Nat := sget 0 s.clk.latch f.key
/-- Bit i of a stored field. -/
def State.fbit (s : State) (f : Fld) (i : Nat) : Bool := (s.fget f).testBit i
/-- Set or clear bit i of a stored field. -/
def State.setFbit (s : State) (f : Fld) (i : Nat) (b : Bool) : State :=
  s.fset f (if b then s.fget f ||| 2 ^ i else s.fget f - (if s.fbit f i then 2 ^ i else 0))
/-- `State.bump` where the SAT bit is bit i of a wider field. -/
def State.bumpAt (s : State) (cnt sat : Fld) (i src : Nat) : State :=
  let v := s.fget cnt
  let top := 2 ^ cnt.width - 1
  if v = top then s
  else if v + 1 = top then ((s.fset cnt top).setFbit sat i true).raise src
  else s.fset cnt (v + 1)

/-- TWN_STATUS.TWIN_STATE: 0 SOLO, 1 PAIRED, 2 ALONE, 3 HOLD (12 R475). -/
def State.twinState (s : State) : Nat := s.fget F.TWN_STATUS_TWIN_STATE
def State.inHold (s : State) : Bool := s.twinState = 3
def State.isPaired (s : State) : Bool := s.twinState = 1
/-- This unit owns a set: it holds the serving gate and its takeover is complete (12 R445, R481). -/
def State.owns (s : State) (set : Nat) : Bool := s.fbit F.TWN_RSET_OWN_MAP set && !s.twin.taken.getLsbD set
/-- This unit's UNIT, as read at start-up (12 R461, R490). -/
def State.unit (s : State) : Bool := s.latched F.TWN_CFG_UNIT ≠ 0
def State.isStale (s : State) (set : Nat) : Bool := s.fbit F.TWN_RSET_STALE_MAP set
/-- A mirrored set, by the kind in force (12 R443, R444). -/
def State.isMirrored (s : State) (set : Nat) : Bool := s.rgn.kind.getLsbD set
/-- G-FAM rather than MULTI-HEADED (04 R136). -/
def State.gfam (s : State) : Bool := s.latched F.CXP_MODE_ATTACH ≠ 0
/-- Regime of RGN_PDK_STATUS (02 R69). -/
def State.regime (s : State) : Regime :=
  match s.fget F.RGN_PDK_STATUS_REGIME with
  | 1 => .paddock
  | 2 => .stretch
  | _ => .writeThrough
def Regime.code : Regime → Nat
  | .writeThrough => 0 | .paddock => 1 | .stretch => 2
/-- A regime change raises PDK_REGIME (02 R69, R88). -/
def State.setRegime (s : State) (r : Regime) : State :=
  if s.regime = r then s else (s.fset F.RGN_PDK_STATUS_REGIME r.code).raise 48

/-! ### Regions (03) -/

def State.region (s : State) (i : Nat) : Region := sget Region.empty s.rgn.regions i
/-- Entries in a state other than FREE. -/
def inUse (m : SMap Region) : Nat := (m.filter fun kv => kv.2.state ≠ .free).length
/-- Put an entry in the table; RGN_TBL_STATUS.IN_USE counts the entries in a state other than FREE. -/
def State.putRegion (s : State) (i : Nat) (r : Region) : State :=
  let m := sput Region.empty s.rgn.regions i r
  { s with rgn := { s.rgn with regions := m } }.fset F.RGN_TBL_STATUS_IN_USE (inUse m)
/-- Write an entry; while PAIRED the change is noted in the mirror stream (12 R451). -/
def State.setRegion (s : State) (i : Nat) (r : Region) : State :=
  let s := s.putRegion i r
  if s.isPaired then { s with twin := { s.twin with regionNotes := s.twin.regionNotes ++ [i] } } else s
/-- Change a region's state: raises RGN_STATE (03 R98). -/
def State.setRState (s : State) (i : Nat) (st : RState) : State := (s.setRegion i { s.region i with state := st }).raise 52
/-- First DLA, first page and pages of a region. -/
def Region.dla (r : Region) : Nat := r.base * 0x10000000
def Region.firstPage (r : Region) : Nat := r.base * 65536
def Region.pageCount (r : Region) : Nat := (r.sizeM1 + 1) * 65536
def Region.bytes (r : Region) : Nat := (r.sizeM1 + 1) * 0x10000000
def Region.hasPage (r : Region) (p : Nat) : Bool := r.state ≠ .free && r.firstPage ≤ p && p < r.firstPage + r.pageCount
/-- Flags (03 R102). -/
def Region.dur (r : Region) : Dur := match r.flags.toNat % 4 with | 0 => .v | 1 => .l | _ => .m
def Region.place (r : Region) : Nat := r.flags.toNat / 4 % 4
def Region.strict (r : Region) : Bool := r.flags.getLsbD 4
def Region.cmp (r : Region) : Bool := r.flags.getLsbD 5
def Region.shr (r : Region) : Bool := r.flags.getLsbD 6
def Region.rmo (r : Region) : Bool := r.flags.getLsbD 7
def Region.enc (r : Region) : Bool := r.flags.getLsbD 8
def Region.quayPin (r : Region) : Bool := r.place = 0
/-- Does this unit keep a Quay copy of each written page of a region: under QUAY_PIN, and not as a mirror (03 R105, R126)? -/
def State.hotHere (s : State) (r : Region) : Bool := r.quayPin && (r.dur ≠ .m || s.owns r.rset)
/-- Never read from flash to serve (03 R105, ranks 2 to 4; R113: eviction takes FLOAT and COLD with TOLERANT). -/
def Region.evictable (r : Region) : Bool := !r.strict && (r.place = 2 || r.place = 3)
/-- The rank requires a DRAM copy of every written page (03 R105). -/
def Region.needsDram (r : Region) : Bool := if r.quayPin then r.dur ≠ .v else r.strict || r.place = 1
/-- States that serve (03 R98, R101). -/
def Region.served (r : Region) : Bool := r.state = .active || r.state = .retyping || r.state = .releasing
/-- The region in a state other than FREE that holds a page (03 R92: at most one). -/
def State.regionAt (s : State) (p : Nat) : Option Nat := (s.rgn.regions.find? fun kv => kv.2.hasPage p).map (·.1)
/-- Compression default in force (08 R271: FTC_CFG.CMP_DEF at start-up). -/
def State.cmpDefault (s : State) : Bool :=
  match s.latched F.FTC_CFG_CMP_DEF with | 1 => false | 2 => true | _ => s.flash.pop.packages = 64
/-- Compression is effective (03 R104). -/
def State.cmpOn (s : State) (r : Region) : Bool := r.cmp && s.cmpDefault

/-! ### Links, LDs and hosts (04) -/

/-- Latched bifurcation (04 R129; 3 acts as 0). -/
def State.bif (s : State) (p : Nat) : Nat := match s.latched (F.CXP_PORT_CFG_BIF p) with | 1 => 1 | 2 => 2 | _ => 0
/-- Is head h present (04 R129, R130)? -/
def State.present (s : State) (h : Nat) : Bool :=
  h < 16 && (match s.bif (h / 4) with | 1 => h % 2 = 0 | 2 => true | _ => h % 4 = 0)
def State.headGrp (s : State) (h : Nat) : Nat := s.latched (F.CXP_LNK_CFG_HEADGRP (h / 4) (h % 4))
def lnk (f : Nat → Nat → Fld) (h : Nat) : Fld := f (h / 4) (h % 4)
def State.linkState (s : State) (h : Nat) : Nat := s.fget (lnk F.CXP_LNK_STATUS_STATE h)
/-- The lowest-numbered present head of a head's group (04 R138). -/
def State.groupHead (s : State) (h : Nat) : Nat :=
  ((List.range 16).find? fun g => s.present g && s.headGrp g = s.headGrp h).getD h
/-- LDs per head, 2^LDS with 3 acting as 2 (04 R137). -/
def State.ldsPerHead (s : State) : Nat := 2 ^ min 2 (s.latched F.CXP_MODE_LDS)
/-- LD numbers that exist (04 R137, R138). -/
def State.lds (s : State) : List Nat :=
  ((List.range 16).filter fun h => s.present h && s.groupHead h = h).flatMap fun h =>
    (List.range s.ldsPerHead).map fun i => 4 * h + i
/-- Bound host IDs (04 R141). -/
def State.boundHosts (s : State) : List Nat := (List.range 1024).filter fun n => s.bit (F.CXP_GFAM_HOST_BOUND n)
/-- Is a region visible to an LD number (MULTI-HEADED, 04 R140) or to a host ID (G-FAM, R142)? -/
def State.visibleTo (s : State) (r : Region) (holder : Nat) : Bool :=
  r.ld = 0xFFFF || (if s.gfam then r.ld = s.fget (F.CXP_GFAM_HOST_GROUP holder) else r.ld = holder)
/-- Every host to which a region is visible (04 R152). -/
def State.hostsOf (s : State) (r : Region) : List Nat :=
  (if s.gfam then s.boundHosts else s.lds).filter (s.visibleTo r)
/-- The LDs, or access groups, whose logs get a region's records (02 R53; 10 R382). -/
def State.logOwners (s : State) (r : Region) : List Nat :=
  if s.gfam then
    if r.ld = 0xFFFF then (List.range 64).filter fun g => s.boundHosts.any fun n => s.fget (F.CXP_GFAM_HOST_GROUP n) = g
    else [r.ld]
  else s.hostsOf r

/-! ### Event records to hosts (04 R148, R165, R166; 16 R617, R618) -/

/-- Records a log holds (04 R133). -/
def evCap : EvLog → Nat
  | .informational => 64 | .warning => 64 | .failure => 64 | .fatal => 16 | .dynCap => 32
def evCode : EvLog → Nat
  | .informational => 0 | .warning => 1 | .failure => 2 | .fatal => 3 | .dynCap => 4
/-- Place a record in a log, or count it as overflow (R166; the count is 16 bits as in CXL 3.1, log 11). In MULTI-HEADED the
vector that Set Event Interrupt Policy selected for the log is sent (16 R618, R620). -/
def State.record (s : State) (log : EvLog) (body : EvBody) (ld : Nat) : State :=
  let key := 8 * ld + evCode log
  if (s.cxl.logs.filter fun r => r.ld = ld && r.log = log).length < evCap log then
    let c := { s.cxl with logs := s.cxl.logs ++ [⟨ld, log, s.cxl.nextHandle, body⟩], nextHandle := s.cxl.nextHandle + 1 }
    let v := sget 0 s.cxl.policy key
    let s := { s with cxl := c }
    if !s.gfam && v ≠ 0 then s.emit (.msix ld (v - 1)) else s
  else
    let n := sget 0 s.cxl.overflow key
    { s with cxl := { s.cxl with overflow := sput 0 s.cxl.overflow key (min 0xFFFF (n + 1)) } }
/-- The same record for every LD or access group to which a region is visible. -/
def State.recordAll (s : State) (r : Region) (log : EvLog) (body : EvBody) : State :=
  (s.logOwners r).foldl (fun a ld => a.record log body ld) s

/-! ### Page-state words (03 R107 to R111) -/

def State.page (s : State) (p : Nat) : PageWord := sget PageWord.fresh s.rgn.pages p
def State.setPage (s : State) (p : Nat) (w : PageWord) : State :=
  { s with rgn := { s.rgn with pages := sput PageWord.fresh s.rgn.pages p w } }
/-- A restore-pending page (08 R307). -/
def PageWord.restorePending (w : PageWord) : Bool := !w.zero && !w.q && !w.d && !w.f
/-- Count an access to a page whose word is in the Yard: HEAT rises on every 16th (03 R110). -/
def State.touch (s : State) (p : Nat) : State :=
  let n := sget 0 s.rgn.yard p
  let k := if n = 0 then 1 else n
  let s' := { s with rgn := { s.rgn with yard := sput 0 s.rgn.yard p (if k = 16 then 1 else k + 1) } }
  if k = 16 then let w := s'.page p; s'.setPage p { w with heat := min 15 (w.heat + 1) } else s'

/-! ### Counters of the integrity block (10) -/

/-- INT_CE_CNT of a tier, and the recorder's corrected count (10 R363, R395). -/
def State.countCe (s : State) (t : Nat) : State :=
  let s := s.bumpAt (F.INT_CE_CNT_VALUE t) F.INT_CNT_STATUS_CE_SAT t 409
  { s with recd := { s.recd with acc := { s.recd.acc with ce := sput 0 s.recd.acc.ce t (min 0xFFFFFFFF (sget 0 s.recd.acc.ce t + 1)) } } }
/-- INT_UE_CNT of a tier, and the recorder's uncorrected count (10 R395). -/
def State.countUe (s : State) (t : Nat) : State :=
  let s := s.bumpAt (F.INT_UE_CNT_VALUE t) F.INT_CNT_STATUS_UE_SAT t 410
  { s with recd := { s.recd with acc := { s.recd.acc with ue := sput 0 s.recd.acc.ue t (min 0xFFFFFFFF (sget 0 s.recd.acc.ue t + 1)) } } }

/-! ### Poison (10 R368 to R374) -/

def State.isPoison (s : State) (line : Nat) : Bool := s.integ.poison.contains line
/-- The line mask of a page's poisoned lines. -/
def State.poisonMask (s : State) (p : Nat) : BitVec 64 :=
  (s.integ.poison.filter fun l => l / 64 = p).foldl (fun m l => m ||| (1#64 <<< (l % 64))) 0
/-- Put a page in the poison list, in order of DLA. -/
def insPoison (e : PoisonPage) : List PoisonPage → List PoisonPage
  | [] => [e]
  | h :: t => if e.page < h.page then e :: h :: t else if e.page = h.page then e :: t else h :: insPoison e t
/-- Bring a page's POISON bit and its poison-list entry in line with the poisoned lines (R371, R373, R374). -/
def State.syncPoison (s : State) (p : Nat) : State :=
  let m := s.poisonMask p
  let s := s.setPage p { s.page p with poison := m ≠ 0 }
  let listed := s.integ.list.any fun e => e.page = p
  if m = 0 then
    let l := s.integ.list.filter fun e => e.page ≠ p
    { s with integ := { s.integ with list := l } }.fset F.INT_POISON_LIST_ENTRIES l.length
  else if listed || s.integ.list.length < 65536 then
    let l := insPoison ⟨p, m⟩ s.integ.list
    { s with integ := { s.integ with list := l } }.fset F.INT_POISON_LIST_ENTRIES l.length
  else if s.bit F.INT_POISON_LIST_OVERFLOW then s
  else (s.setBit F.INT_POISON_LIST_OVERFLOW true).raise 403
/-- A line becomes poisoned (R368, R406). -/
def State.poisonLine (s : State) (line : Nat) : State :=
  if s.isPoison line then s else
  let s := { s with integ := { s.integ with poison := insNat line s.integ.poison } }
  ((s.bump F.INT_POISON_CNT_VALUE F.INT_CNT_STATUS_POISON_SAT 411).raise 401).syncPoison (line / 64)
def State.poisonLines (s : State) (ls : List Nat) : State := ls.foldl State.poisonLine s
/-- A store covers the whole line, or the line's data leaves the device: its poison is cleared (R371). -/
def State.unpoisonLine (s : State) (line : Nat) : State :=
  if !s.isPoison line then s else
  ({ s with integ := { s.integ with poison := s.integ.poison.filter (· ≠ line) } }).syncPoison (line / 64)
/-- Drop the poison of a whole page with its data (03 R98, R117). -/
def State.unpoisonPage (s : State) (p : Nat) : State :=
  if !s.integ.poison.any (fun l => l / 64 = p) then s else
  ({ s with integ := { s.integ with poison := s.integ.poison.filter fun l => l / 64 ≠ p } }).syncPoison p

/-! ### The error log (10 R391 to R394) -/

def ErrType.isUe : ErrType → Bool
  | .ueRecovered => true | .uePoisoned => true | _ => false
/-- LOC at row level (R392; log 12). -/
def rowLoc (t : Tier) (loc : Nat) : Nat :=
  match t with | .dram => loc % 2 ^ 32 | .quay => loc % 2 ^ 25 | .flash => loc % 2 ^ 37 | .sram => loc % 2 ^ 16 | .settings => loc
/-- May an entry be merged into `e` (R392)? -/
def State.coalesces (s : State) (n e : ErrEntry) : Bool :=
  e.type = .corrected && e.tier = n.tier && e.device = n.device && rowLoc e.tier e.loc = rowLoc n.tier n.loc &&
    s.now - e.time ≤ ms (100 * s.fget F.INT_LOG_CTRL_COALESCE)
/-- Index of the last entry that `p` accepts. -/
def lastIdx {α : Type} (p : α → Bool) (l : List α) : Option Nat :=
  ((List.range l.length).zip l).foldl (fun a x => if p x.2 then some x.1 else a) none
/-- Append an entry that fits. -/
def State.pushErr (s : State) (e : ErrEntry) : State :=
  let l := s.integ.log ++ [e]
  let s := { s with integ := { s.integ with log := l } }
  let s := (s.fset F.INT_LOG_STATUS_COUNT l.length).fset F.INT_LOG_STATUS_NEWEST (l.length - 1)
  if l.length = 4096 then (s.setBit F.INT_LOG_STATUS_FULL true).raise 402 else s
/-- Write, merge, replace or drop an entry. -/
def State.logErr (s : State) (dla : Option Nat) (loc : Nat) (tier : Tier) (type : ErrType) (src : ErrSource)
    (device recovery : Nat) : State :=
  let e : ErrEntry := ⟨dla, loc, tier, type, src, device, 1, recovery, s.fget F.REC_HOURS_VALUE, s.fget F.REC_CYCLES_VALUE, s.now⟩
  let s := if type.isUe then s.raise 400 else s
  let log := s.integ.log
  if type = .corrected && !s.bit F.INT_LOG_CTRL_CE_LOG then s
  else
    match (if type = .corrected && s.fget F.INT_LOG_CTRL_COALESCE ≠ 0 then lastIdx (s.coalesces e) log else none) with
    | some i => { s with integ := { s.integ with log := log.modify i fun o => { o with count := min 255 (o.count + 1) } } }
    | none =>
      if log.length < 4096 then s.pushErr e
      else
        match (if type = .corrected then none else log.findIdx? fun o => o.type = .corrected) with
        | some i => ({ s with integ := { s.integ with log := log.set i e } }).fset F.INT_LOG_STATUS_NEWEST i
        | none => s.bump F.INT_LOG_DROP_CNT_VALUE F.INT_CNT_STATUS_DROP_SAT 413

end Sys2Proof.Machine
end

