-- ==== Sys2Proof/Machine/IcuFx.lean ====
section
/-! DEFINITION. Effects at the interrupt controller: edges, claims, completes, configuration, core availability, the always-on watcher (16_interrupts_and_events.md R598 to R616). -/
namespace Sys2Proof.Machine

def State.setIcu (s : State) (c : Icu) : State := { s with icu := c }

/-- A hardware source's edge (R601); no hardware raises SW_0 to SW_15 (R599). -/
def State.sourceEdge (s : State) (src : Nat) : State := if src ≤ 16 then s else s.raise src

/-- A claim by core t (R608): the presented source, if it is still a candidate and t is still eligible for it, becomes active;
else 0, counted. -/
def State.icuClaim (s : State) (t : Nat) : Nat × State :=
  let n := sget 0 s.icu.presented t
  if n ≠ 0 && s.icu.cand.contains n && s.icu.mayTake t n then
    let c : Icu := { s.icu with pend := s.icu.pend.filter (· ≠ n), active := s.icu.active ++ [(n, t)],
                                presented := sput 0 s.icu.presented t 0 }
    (n, s.setIcu c.route)
  else (0, s.bump F.ICU_ZERO_CLAIM_CNT_VALUE F.ICU_CNT_STATUS_ZERO_SAT 545)

/-- A write of `n` to ICU_COMPLETE of target t (R609). -/
def State.icuComplete (s : State) (t n : Nat) : State :=
  if n = 0 then s
  else if s.icu.active.contains (n, t) then
    let c : Icu := { s.icu with active := s.icu.active.filter (· ≠ (n, t)) }
    s.setIcu c.route
  else s.bump F.ICU_BAD_COMPLETE_CNT_VALUE F.ICU_CNT_STATUS_BADC_SAT 546

/-- ICU_PEND_SET: whatever EN; reserved numbers are ignored (R598, R622). -/
def State.icuPendSet (s : State) (n : Nat) : State :=
  if !validSource n then s else
  let c : Icu := { s.icu with pend := insNat n s.icu.pend }
  s.setIcu c.route
/-- ICU_PEND_CLR (R622). -/
def State.icuPendClr (s : State) (n : Nat) : State :=
  let c : Icu := { s.icu with pend := s.icu.pend.filter (· ≠ n) }
  s.setIcu c.route

/-- ICU_SRC_CFG: EN, TARGETS and PRIO; EN written as 0 clears the pending bit (R601, R622). -/
def State.icuSrcCfg (s : State) (n : Nat) (v : BitVec 32) : State :=
  if !validSource n then s else
  let c : Icu := { s.icu with cfg := sput 0 s.icu.cfg n (v &&& 0x81FF000F),
                              pend := if v.getLsbD 31 then s.icu.pend else s.icu.pend.filter (· ≠ n) }
  s.setIcu c.route
/-- ICU_TGT_CTRL: THRESH and EN (R622). -/
def State.icuTgtCtrl (s : State) (t : Nat) (v : BitVec 32) : State :=
  let c : Icu := { s.icu with tgt := sput 0 s.icu.tgt t (v &&& 0x10F) }
  s.setIcu c.route

/-! ### Cores that run or stop (R604, R611, R612) -/

/-- CCX_CORE_STATUS.STATE of core k: 0 running, 1 halted, 2 in reset, 3 clock-gated (15 R596). A core that is reset or halted gives up
what is active at it: it is pending again (R611); a clock-gated core is only ineligible. -/
def State.setCore (s : State) (k st : Nat) : State :=
  let s := s.fset (F.CCX_CORE_STATUS_STATE k) st
  let mine := (s.icu.active.filter fun p => p.2 = k).map (·.1)
  let stop := st = 1 || st = 2
  let c : Icu := { s.icu with
    running := if st = 0 then insNat k s.icu.running else s.icu.running.filter (· ≠ k),
    active := if stop then s.icu.active.filter fun p => p.2 ≠ k else s.icu.active,
    pend := if stop then mine.foldl (fun l n => insNat n l) s.icu.pend else s.icu.pend,
    presented := if st = 0 then s.icu.presented else sput 0 s.icu.presented k 0 }
  s.setIcu c.route
def State.coreRuns (s : State) (k : Nat) : Bool := s.icu.running.contains k

/-! ### Start-up and the watcher (R614 to R616) -/

/-- The main island goes off: FIRED is cleared and the watcher acts (R615, R616). -/
def State.watchOn (s : State) : State := s.setIcu { Icu.reset with sel := s.icu.sel, mainOff := true }
/-- AON_WATCH_FIRE: a watched source's edge while the main island is off. -/
def State.watchEdge (s : State) (src : Nat) : State := if s.icu.mainOff then s.raise src else s
/-- Before any core leaves reset, LATCH slots that fired set their source pending, and ICU_WAKE if a WAKE slot asked for the start-up
(R616). -/
def State.watchOff (s : State) : State :=
  let hit := (List.range 32).filter fun j => s.icu.fired.getLsbD j && (sget 0 s.icu.sel j).getLsbD 30
  let srcs := (hit.map fun j => (sget 0 s.icu.sel j).toNat % 1024).filter validSource
  let srcs := if s.icu.wake then srcs ++ [544] else srcs
  let c : Icu := { s.icu with pend := srcs.foldl (fun l n => insNat n l) s.icu.pend, mainOff := false, wake := false }
  s.setIcu c.route

end Sys2Proof.Machine
end

