-- ==== Sys2Proof/Machine/Memory.lean ====
section
/-! DEFINITION. The memories behind the lookup: DRAM and Quay addresses, open rows and memory times, frames, copies of a page, the value of a line (05, 09, 08). -/
namespace Sys2Proof.Machine

/-! ### DRAM addresses (09 R319) -/

/-- A decoded DRAM address. -/
structure DAddr where
  ch : Nat
  sub : Nat
  cb : Nat
  bg : Nat
  ba : Nat
  rank : Nat
  row : Nat
deriving DecidableEq, Repr

/-- Logical ranks of a channel. -/
def rankCount (p : DimmPop) : Nat := p.height * p.pr * p.dpc

/-- R319. -/
def daDecode (p : DimmPop) (da : Nat) : DAddr :=
  let line := da / 64
  let pg := da / 4096
  let q := pg / 12
  let n := p.ncb / 32
  let cb := (q % n) * 32 + (line / 2) % 32
  let q := q / n
  let bg := q % 8
  let q := q / 8
  let ba := q % 4
  let q := q / 4
  let nr := rankCount p
  let rank := q % nr
  let row := q / nr
  ⟨pg % 12, line % 2, cb, bg ^^^ (row % 8), ba ^^^ (row / 8 % 4), rank, row⟩

/-- Installed DRAM in bytes and in frames. -/
def installedBytes (p : DimmPop) : Nat := 12 * p.dpc * p.bytes
/-- Key of a bank in `Dram.rows`, `Dram.raa`. -/
def DAddr.bankKey (a : DAddr) : Nat := ((a.ch * 2 + a.sub) * 16 + a.rank) * 32 + a.bg * 4 + a.ba
/-- DIMM number, channel × 2 + slot, of a frame. -/
def State.dimmOf (s : State) (frame : Nat) : Nat :=
  let p := s.dram.pop
  let a := daDecode p (frame * 4096)
  a.ch * 2 + a.rank / (p.height * p.pr)

/-- DDRn domain in MHz (05 R180). -/
def State.ddrMhz (s : State) : Nat :=
  match s.fget F.DMC_FREQ_SET with | 0 => if s.dram.pop.dpc = 1 then 1600 else 1400 | 1 => 1200 | _ => 800
/-- DDRn cycles as CORE cycles, rounded up. -/
def State.ddrCore (s : State) (n : Nat) : Nat := (n * 2000 + s.ddrMhz - 1) / s.ddrMhz
def half (n : Nat) : Nat := (n + 1) / 2

/-- What an access finds in its bank. -/
inductive RowHit where
  | hit | empty | conflict
deriving DecidableEq, Repr

/-- The open row of a bank, unless its idle time has run out (R323): `cyc` idle cycles of a domain in MHz. -/
def rowState (now mhz cyc : Nat) (o : Option OpenRow) (row : Nat) : RowHit :=
  match o with
  | none => .empty
  | some r =>
    if cyc = 0 || cyc * 2000 ≤ (now - r.used) * mhz then .empty else if r.row = row then .hit else .conflict

/-- DRAM memory time in DDRn cycles (05 R186). -/
def State.dramTime (s : State) (ch : Nat) (h : RowHit) : Nat :=
  let k := s.fget F.DMC_FREQ_SET
  let cl := s.fget (F.DMC_TSET_CL ch k)
  let rcd := s.fget (F.DMC_TSET_RCD ch k)
  let rp := s.fget (F.DMC_TSET_RP ch k)
  match h with
  | .hit => 17 + half (cl + 10)
  | .empty => 17 + half (rcd + cl + 10)
  | .conflict => 17 + half (rp + rcd + cl + 10)

/-! ### Quay addresses (09 R352) -/

structure QAddr where
  ch : Nat
  cb : Nat
  bank : Nat
  row : Nat
deriving DecidableEq, Repr

def qaDecode (qa : Nat) : QAddr :=
  let q := qa / 4096
  ⟨(qa / 256 ^^^ qa / 65536) % 16, q % 8 * 4 + qa / 64 % 4, q / 8 % 48, q / 8 / 48⟩

/-- Quay address of the snoop-filter set of a line (09 R353; 04 R150: sets of 128 B). -/
def sfQa (line : Nat) : Nat := 0x80000000 + line % 2 ^ 21 * 128

/-! ### Accesses (09 R323, R325, R332, R354; 05 R186, R187, R209) -/

/-- The controllers' queues name an address of the Quay from here on. -/
def quaySpace : Nat := 2 ^ 50
/-- Queue of an address: channel × 2 + subchannel of DRAM, or 24 + channel of the Quay. -/
def State.subKey (s : State) (a : Nat) : Nat :=
  if quaySpace ≤ a then 24 + (qaDecode (a - quaySpace)).ch else let d := daDecode s.dram.pop a; d.ch * 2 + d.sub
def State.subOf (s : State) (key : Nat) : SubChan := sget SubChan.empty (if 24 ≤ key then s.quay.subs else s.dram.subs) key
def State.setSub (s : State) (key : Nat) (c : SubChan) : State :=
  if 24 ≤ key then { s with quay := { s.quay with subs := sput SubChan.empty s.quay.subs key c } }
  else { s with dram := { s.dram with subs := sput SubChan.empty s.dram.subs key c } }
/-- Every queue of the DMCs and the HBC. -/
def State.queues (s : State) : List SubChan := (s.dram.subs ++ s.quay.subs).map Prod.snd
/-- Key of the bank of an address, in the maps of its controller. -/
def State.bankAt (s : State) (a : Nat) : Nat :=
  if quaySpace ≤ a then let q := qaDecode (a - quaySpace); q.ch * 48 + q.bank else (daDecode s.dram.pop a).bankKey
/-- Is the newest data of a line in its write queue (R325)? -/
def State.queuedWrite (s : State) (a : Nat) : Bool := (s.subOf (s.subKey a)).writes.any fun w => w.da / 64 = a / 64
/-- What an access to an address would find in its bank now. -/
def State.rowAt (s : State) (a : Nat) : RowHit :=
  let idle := s.fget F.DMC_PAGE_CTRL_IDLE
  if quaySpace ≤ a then rowState s.now 1600 idle (sget none s.quay.rows (s.bankAt a)) (qaDecode (a - quaySpace)).row
  else rowState s.now s.ddrMhz idle (sget none s.dram.rows (s.bankAt a)) (daDecode s.dram.pop a).row
/-- Time until which an access holds the bank of an address. -/
def State.busyAt (s : State) (a : Nat) : Nat := sget 0 (if quaySpace ≤ a then s.quay.busy else s.dram.busy) (s.bankAt a)
/-- Quay memory time in HBM cycles (05 R187; RL 28, tRCD 24, tRP 24 of 09 R354). -/
def hbmTime : RowHit → Nat
  | .hit => 44 | .empty => 68 | .conflict => 92
/-- HBM cycles as CORE cycles, rounded up (1,600 MHz to 2,000 MHz). -/
def hbmCore (n : Nat) : Nat := (5 * n + 3) / 4
/-- A column access to a DRAM address: its memory time, the row it leaves open, the time for which it holds its bank, and the
activate it counts (R323, R325, R332; 05 R209). -/
def State.dramAccess (s : State) (da : Nat) : Nat × State :=
  let a := daDecode s.dram.pop da
  let h := s.rowAt da
  let t := s.dramTime a.ch (if s.queuedWrite da then .hit else h)
  let raa := if h = .hit then s.dram.raa else sput 0 s.dram.raa a.bankKey (sget 0 s.dram.raa a.bankKey + 1)
  let rows := sput none s.dram.rows a.bankKey (if s.fget F.DMC_PAGE_CTRL_IDLE = 0 then none else some ⟨a.row, s.now⟩)
  (t, { s with dram := { s.dram with rows := rows, raa := raa, busy := sput 0 s.dram.busy a.bankKey (s.now + s.ddrCore t) } })
/-- A column access to a Quay address (R351, R354). -/
def State.quayAccess (s : State) (qa : Nat) : Nat × State :=
  let a := qaDecode qa
  let key := a.ch * 48 + a.bank
  let t := hbmTime (if s.queuedWrite (quaySpace + qa) then .hit else s.rowAt (quaySpace + qa))
  let rows := sput none s.quay.rows key (if s.fget F.DMC_PAGE_CTRL_IDLE = 0 then none else some ⟨a.row, s.now⟩)
  (t, { s with quay := { s.quay with rows := rows, busy := sput 0 s.quay.busy key (s.now + hbmCore t) } })
/-- A column access, with its memory time as a stretch of a path. -/
def State.access (s : State) (a : Nat) : Lat × State :=
  if quaySpace ≤ a then let x := s.quayAccess (a - quaySpace); ({ hbm := x.1 }, x.2) else let x := s.dramAccess a; ({ ddr := x.1 }, x.2)

/-! ### Frames (09 R343, R344, R347, R754) -/

/-- P_cap: half of the Loft size in force (08 R276). -/
def State.pCap (s : State) : Nat := s.flash.loftSize * 2 ^ 35
/-- DIMMs that DMC_RET_CTRL.MASK names among those installed. -/
def State.maskDimms (s : State) : List Nat :=
  (List.range 24).filter fun d => (d % 2 < s.dram.pop.dpc) && (s.latched F.DMC_RET_CTRL_MASK).testBit d
/-- Does the mask act as naming every DIMM (R344)? -/
def State.maskAll (s : State) : Bool := s.maskDimms.length * s.dram.pop.bytes < s.fget F.FTC_DRAM_RSV_VALUE + s.pCap
/-- Is a DIMM named in the mask? -/
def State.inMask (s : State) (d : Nat) : Bool := s.maskAll || s.maskDimms.contains d
/-- Channel × 16 + logical rank of a frame. -/
def State.rankOf (s : State) (frame : Nat) : Nat :=
  let a := daDecode s.dram.pop (frame * 4096)
  a.ch * 16 + a.rank
/-- May the allocator take a frame at all (R385, R348, R347)? -/
def State.frameFree (s : State) (f : Nat) : Bool :=
  !s.dram.retired.contains f && !s.dram.retiredRanks.contains (s.rankOf f) && !s.dram.lost.contains (s.dimmOf f) && !s.dram.unswept.contains (s.dimmOf f) &&
    !s.dram.frame.any (fun kv => kv.2 = f + 1) && !s.rgn.moves.any (fun m => m.dest ≠ .quay && m.frame = f + 1)
/-- May it take it for a page that R343 restricts? -/
def State.frameOk (s : State) (restricted : Bool) (f : Nat) : Bool :=
  s.frameFree f && (!restricted || s.inMask (s.dimmOf f))
/-- The least number from `n` up that `ok` accepts. -/
def findFrom (ok : Nat → Bool) : Nat → Nat → Option Nat
  | 0, _ => none
  | k + 1, n => if ok n then some n else findFrom ok k (n + 1)
/-- The free frame with the lowest DA (R754). The frames below the reserve hold the translation-layer reserve (log 13). -/
def State.nextFrame (s : State) (restricted : Bool) : Option Nat :=
  let first := (s.fget F.FTC_DRAM_RSV_VALUE + 4095) / 4096
  findFrom (s.frameOk restricted) (installedBytes s.dram.pop / 4096 - first) first
/-- The frame of a page, plus 1; 0 none. -/
def State.frameOf (s : State) (p : Nat) : Nat := sget 0 s.dram.frame p
def State.setFrame (s : State) (p f1 : Nat) : State := { s with dram := { s.dram with frame := sput 0 s.dram.frame p f1 } }
/-- Does a page's frame lie on a lost DIMM, the page not yet re-homed (10 R380)? -/
def State.homeLost (s : State) (p : Nat) : Bool := s.frameOf p ≠ 0 && s.dram.lost.contains (s.dimmOf (s.frameOf p - 1))
/-- Is the DRAM copy of a page readable (D = 1, and neither on a DIMM that R347 excludes nor on a lost one)? -/
def State.dValid (s : State) (p : Nat) : Bool :=
  (s.page p).d && !s.homeLost p && !(s.frameOf p ≠ 0 && s.dram.unswept.contains (s.dimmOf (s.frameOf p - 1)))
/-- Give a page a DRAM frame that its restriction allows; a frame that it may not keep is given back (R343, R754). -/
def State.ensureFrame (s : State) (p : Nat) (restricted : Bool) : State :=
  let f := s.frameOf p
  if f ≠ 0 && (!restricted || s.inMask (s.dimmOf (f - 1))) then s
  else match s.nextFrame restricted with
    | some n => s.setFrame p (n + 1)
    | none => s

/-- Hot-area frames: 24 GiB less staging, page-state cache, filter and UT backing store (09 R353). -/
def hotBase : Nat := 0x92000000
/-- A Quay frame in an area for a page: which one the spec does not state, so the search starts at a free value (log 14). -/
def State.quayFrame (s : State) (base bytes : Nat) (used : Nat → Bool) : Option Nat × State :=
  let n := bytes / 4096
  if n = 0 then (none, s) else
  let r := s.free n
  let ok := fun i => !used (base + (r.1 + i) % n * 4096) && !s.integ.quayRetired.contains ((base + (r.1 + i) % n * 4096) / 4096)
  ((findFrom ok n 0).map fun i => base + (r.1 + i) % n * 4096, r.2)
/-- Give a page a hot-area frame, if one is free. -/
def State.ensureHot (s : State) (p : Nat) : State :=
  if sget 0 s.quay.hotQa p ≠ 0 then s else
  let r := s.quayFrame hotBase (s.fget F.RGN_CAP_QUAY_VALUE) fun qa => s.quay.hotQa.any fun kv => kv.2 = qa + 1
  match r.1 with
  | some qa => { r.2 with quay := { r.2.quay with hotQa := sput 0 r.2.quay.hotQa p (qa + 1) } }
  | none => r.2
/-- Give a page a staging-area frame, if one is free. -/
def State.ensureStg (s : State) (p : Nat) : State :=
  if sget 0 s.quay.stgQa p ≠ 0 then s else
  let base := s.fget F.HBC_LAYOUT_STAGE_BASE * 0x10000000
  let r := s.quayFrame base (0x600000000 - base) fun qa => s.quay.stgQa.any fun kv => kv.2 = qa + 1
  match r.1 with
  | some qa => { r.2 with quay := { r.2.quay with stgQa := sput 0 r.2.quay.stgQa p (qa + 1) } }
  | none => r.2

/-! ### Map entries (08 R277) -/

/-- A map entry from its fields. -/
def mapEntry (form : Nat) (enc slc : Bool) (lenM1 rgen sector : Nat) : BitVec 64 :=
  BitVec.ofNat 64 (2 ^ 63 + form % 4 * 2 ^ 61 + (if enc then 2 ^ 60 else 0) + (if slc then 2 ^ 59 else 0) +
    lenM1 % 4 * 2 ^ 53 + rgen % 65536 * 2 ^ 37 + sector % 2 ^ 37)
def State.mapOf (s : State) (p : Nat) : BitVec 64 := sget 0 s.flash.map p
def mapValid (e : BitVec 64) : Bool := e.getLsbD 63
def mapForm (e : BitVec 64) : Nat := e.toNat / 2 ^ 61 % 4
def mapSector (e : BitVec 64) : Nat := e.toNat % 2 ^ 37
def State.setMap (s : State) (p : Nat) (e : BitVec 64) : State := { s with flash := { s.flash with map := sput 0 s.flash.map p e } }

/-! ### Copies of a page -/

/-- The Landing entries of a page that have not drained, oldest first. -/
def State.landOf (s : State) (p : Nat) : List LandEntry := s.pers.landing.filter fun e => e.line / 64 = p && !e.drained
/-- Is the durable copy current: F = 1, PDK = CLEAN, and no write-through store of the page outstanding (08 R277; log 15)? -/
def State.flashCurrent (s : State) (p : Nat) : Bool :=
  let w := s.page p
  w.f && w.pdk = .clean && !s.pers.wtPages.contains p && !s.pers.flushes.any (fun f => f.page = p && f.wt) && (s.landOf p).isEmpty
/-- A line as its page's first copy in the order of 05 R188 holds it, Landing entries left out. -/
def State.copyLine (s : State) (line : Nat) : Line :=
  let p := line / 64
  let w := s.page p
  if w.q then memLine s.quay.hot line
  else if w.qstg then memLine s.quay.staged line
  else if s.dValid p then memLine s.dram.data line
  else if w.f then memLine s.flash.data line
  else 0
/-- The stores past their lookup that no tier holds yet, oldest first: data, bytes, poison (05 R189, R206). -/
def State.storesOver (s : State) (line : Nat) : List (Line × BitVec 64 × Bool) :=
  ((s.pers.landing.filter fun e => e.line = line && !e.drained).map fun e => (e.data, e.mask, e.poison)) ++
    ((s.pers.ingress.filter fun e => e.line = line).map fun e => (e.data, e.mask, e.poison))
/-- Stores over a line, oldest first. -/
def overlay (es : List (Line × BitVec 64 × Bool)) (l : Line) : Line := es.foldl (fun a e => mergeLine a e.1 e.2.1 64) l
/-- The data of a line that a read now returns (02 R49). -/
def State.lineNow (s : State) (line : Nat) : Line := overlay (s.storesOver line) (s.copyLine line)
/-- Is a line poisoned for a read now? A store at ingress has marked nothing yet (04 R162; 10 R371). -/
def State.poisonNow (s : State) (line : Nat) : Bool :=
  (s.pers.ingress.filter fun e => e.line = line).foldl
    (fun b e => e.poison || (b && e.mask ≠ BitVec.allOnes 64)) (s.isPoison line)
/-- What stands over a line at a read's lookup (05 R205). -/
def State.capture (s : State) (line : Nat) : Cap :=
  let l := s.storesOver line
  ⟨overlay l 0, l.foldl (fun m e => m ||| e.2.1) 0, s.pers.nextId, s.poisonNow line⟩
/-- The data of a line for a read that waited: its copy as no later store has changed it, under what stood over it. -/
def State.capLine (s : State) (line : Nat) (c : Cap) : Line := mergeLine (s.copyLine line) c.data c.mask 64
/-- Is the line poisoned for a read that waited: it was, or its copy was lost since? -/
def State.capPoison (s : State) (line : Nat) (c : Cap) : Bool :=
  c.poison || (c.mask ≠ BitVec.allOnes 64 && s.isPoison line &&
    !s.pers.landing.any fun e => e.line = line && e.poison && c.seq ≤ e.id)
/-- Is a line covered by one Landing entry with a full mask (05 R188, step 1)? An entry that has drained and is kept only for the twin
(12 R450) does not serve: DESIGN CHOICE, no rule says whether it does, and DRAM holds the same bytes (log 74). -/
def State.fullLanding (s : State) (line : Nat) : Bool :=
  s.pers.landing.any fun e => e.line = line && !e.drained && e.mask = BitVec.allOnes 64
/-- Write bytes of a line into every copy of its page: DRAM, the hot area, the staged copy, and the destination of a move or of
staging where the line has been copied (02 R57; 03 R116; 07 R252). -/
def State.writeCopies (s : State) (line : Nat) (data : Line) (mask : BitVec 64) : State :=
  let p := line / 64
  let w := s.page p
  let moved := fun t : MoveTo => s.rgn.moves.any fun m => m.page = p && m.dest = t && m.copied.getLsbD (line % 64)
  let stg := s.copies.any fun c => c.page = p && c.copied.getLsbD (line % 64)
  let s := if w.d || moved .dram || moved .quayDrop then { s with dram := { s.dram with data := memPutLine s.dram.data line data mask } } else s
  let s := if w.q || moved .quay then { s with quay := { s.quay with hot := memPutLine s.quay.hot line data mask } } else s
  if w.qstg || stg then { s with quay := { s.quay with staged := memPutLine s.quay.staged line data mask } } else s

/-- The bytes of a page as its first copy holds them, by offset in the page. -/
def State.copyPage (s : State) (p : Nat) : SMap Byte :=
  let w := s.page p
  if w.q then memPage s.quay.hot p
  else if w.qstg then memPage s.quay.staged p
  else if s.dValid p then memPage s.dram.data p
  else if w.f then memPage s.flash.data p
  else []
/-- Put a page's bytes into DRAM and set D; the frame is taken as its restriction allows. -/
def State.fillDram (s : State) (p : Nat) (bytes : SMap Byte) (restricted : Bool) : State :=
  let s := s.ensureFrame p restricted
  let s := { s with dram := { s.dram with data := memSetPage s.dram.data p bytes } }
  s.setPage p { s.page p with d := true }
/-- Drop the DRAM copy. -/
def State.dropDram (s : State) (p : Nat) : State :=
  let s := { s with dram := { s.dram with data := memDropPage s.dram.data p, frame := sput 0 s.dram.frame p 0 } }
  s.setPage p { s.page p with d := false }
/-- Drop the hot-area copy. -/
def State.dropHot (s : State) (p : Nat) : State :=
  let s := { s with quay := { s.quay with hot := memDropPage s.quay.hot p, hotQa := sput 0 s.quay.hotQa p 0 } }
  s.setPage p { s.page p with q := false }
/-- Drop the staged copy; TIDE_STAGED_BYTES falls (07 R253). -/
def State.dropStaged (s : State) (p : Nat) : State :=
  if !(s.page p).qstg then s else
  let s := { s with quay := { s.quay with staged := memDropPage s.quay.staged p, stgQa := sput 0 s.quay.stgQa p 0 } }
  let s := s.fset F.TIDE_STAGED_BYTES_VALUE (s.fget F.TIDE_STAGED_BYTES_VALUE - 4096)
  s.setPage p { s.page p with qstg := false }
/-- Trim the flash copy (03 R98, R117). -/
def State.trim (s : State) (p : Nat) : State :=
  let s := { s with flash := { s.flash with data := memDropPage s.flash.data p, map := sput 0 s.flash.map p 0,
                                            relog := s.flash.relog.filter fun x => x.1 ≠ p } }
  s.setPage p { s.page p with f := false, cmps := 0 }
/-- Must a page's DRAM frame lie on a DIMM in the mask (09 R343)? -/
def State.restricted (s : State) (p : Nat) (r : Region) : Bool :=
  (s.page p).pdk ≠ .clean || r.dur = .v || r.needsDram || !(s.page p).f

/-! ### Fetches from flash (05 R202, R203; 08 R308) -/

/-- Is a flash read of the page in flight? -/
def State.fetching (s : State) (p : Nat) : Bool := s.flash.fetches.any fun f => f.page = p
/-- Start a fetch of the class of its cause, unless one is in flight, which it joins (05 R203; 06 R214); joined by more than staging, the
page goes to DRAM (02 R59). -/
def State.startFetch (s : State) (p : Nat) (why : FlashWhy) (tc : TClass) : State :=
  let fill : Bool := why ≠ .staging
  if s.fetching p then
    { s with flash := { s.flash with fetches := s.flash.fetches.map fun f => if f.page = p then { f with fill := f.fill || fill } else f } }
  else { s with flash := { s.flash with fetches := s.flash.fetches ++ [⟨p, why, fill, tc, s.now⟩] } }

/-- Lines already copied when a copy is looked at: how far it has got is a free value (03 R116; log 16). -/
def State.progress (s : State) : BitVec 64 × State :=
  let r := s.free (2 ^ 64)
  (BitVec.ofNat 64 r.1, r.2)
/-- The bytes of a page that lie in the lines of a mask. -/
def maskLines (pg : SMap Byte) (m : BitVec 64) : SMap Byte := pg.filter fun kv => m.getLsbD (kv.1 / 64)
/-- Begin a move of a page within the tiers: MOVING = 1, the source serves (03 R112, R116). -/
def State.startMove (s : State) (p : Nat) (dest : MoveTo) (frame : Nat) : State :=
  if (s.page p).moving then s else
  let pr := s.progress
  let s := pr.2
  let part := maskLines (s.copyPage p) pr.1
  let s := match dest with
    | .quay => { s with quay := { s.quay with hot := memSetPage s.quay.hot p part } }
    | _ => if (s.page p).d then s else { s with dram := { s.dram with data := memSetPage s.dram.data p part } }
  let s := { s with rgn := { s.rgn with moves := s.rgn.moves ++ [(⟨p, dest, pr.1, frame⟩ : PageMove)] } }
  s.setPage p { s.page p with moving := true }

/-! ### Read latency (05 R211; 18 R682) -/

/-- Bin of a read of `c` CORE cycles. -/
def latBin (c : Nat) : Nat := if c < 128 then 0 else min 15 (Nat.log2 c - 6)
/-- Count a read in the histogram; a bin holds 56 bits. -/
def State.countLat (s : State) (c : Nat) : State :=
  let b := latBin c
  let a := s.recd.acc
  { s with recd := { s.recd with acc := { a with lat := sput 0 a.lat b (min (2 ^ 56 - 1) (sget 0 a.lat b + 1)) } } }
/-- Sum of `n` phase terms, each 0 or 1 (00 R8; log 3). -/
def State.phases (s : State) : Nat → Nat
  | 0 => 0
  | n + 1 => (if Config.phase (s.fresh + n) then 1 else 0) + s.phases n
/-- A stated path in CORE cycles, rounded up: UTE cycles at 1,500 MHz, ETHn cycles of 64 ÷ 85 ns. -/
def State.latCore (s : State) (l : Lat) : Nat :=
  l.core + s.ddrCore l.ddr + hbmCore l.hbm + (4 * l.ute + 2) / 3 + (128 * l.eth + 84) / 85 + (l.ps + 499) / 500 + s.phases (l.phiIn + l.phiOut)
/-- Two stretches of one path. -/
def Lat.add (a b : Lat) : Lat :=
  { core := a.core + b.core, ddr := a.ddr + b.ddr, hbm := a.hbm + b.hbm, ute := a.ute + b.ute, eth := a.eth + b.eth, svc := a.svc + b.svc,
    sup := a.sup + b.sup, epc := a.epc + b.epc, ps := a.ps + b.ps, w := a.w + b.w, phiIn := a.phiIn + b.phiIn, phiOut := a.phiOut + b.phiOut,
    phiTx := a.phiTx + b.phiTx, phiRx := a.phiRx + b.phiRx, phi := a.phi + b.phi }

/-! ### What leaves at a port (05 R178, R207; 06 R221 to R225) -/

/-- Put something among what leaves, in order of time. -/
def insLeaving (x : Leaving) : List Leaving → List Leaving
  | [] => [x]
  | y :: t => if x.due < y.due then x :: y :: t else y :: insLeaving x t
def State.leaveAt (s : State) (x : Leaving) : State := { s with cxl := { s.cxl with leaving := insLeaving x s.cxl.leaving } }

end Sys2Proof.Machine
end

