-- ==== Sys2Proof/Machine/Packets.lean ====
section
/-! DEFINITION. UT packets as bytes, and the twin's packets this unit sends (13_umond_transport.md R499, R531 to R533; 12 R446, R451). -/
namespace Sys2Proof.Machine

/-- The 64 B header (R499). -/
def hdrBytes (h : UtHdr) : List Byte :=
  natBytes 1 h.ver ++ natBytes 1 h.op ++
    natBytes 1 ((if h.retx then 128 else 0) + (if h.poison then 64 else 0) + (if h.complete then 32 else 0) + h.cls % 8) ++
    natBytes 1 (h.path % 64) ++ natBytes 2 h.srcNode ++ natBytes 2 h.srcCtx ++ natBytes 2 h.dstNode ++
    natBytes 2 h.dstCtx ++ natBytes 4 h.msn ++ natBytes 1 (h.pkt % 64) ++ natBytes 1 (h.npktM1 % 64) ++
    natBytes 1 (h.berth % 8) ++ natBytes 1 h.code ++ natBytes 4 h.gen ++ natBytes 8 h.offset ++ natBytes 4 h.len ++
    natBytes 4 h.ackFloor ++ natBytes 4 h.txTime ++ natBytes 4 h.echoTime ++ natBytes 4 h.residence ++ natBytes 4 0 ++
    natBytes 8 h.pmask.toNat
/-- The trailer: CRC-32C over header and payload (R499). -/
def utTrailer (h : UtHdr) (payload : List Byte) : BitVec 32 := BitVec.ofNat 32 (crcOf 0 (hdrBytes h ++ payload))

/-- An empty header of an opcode and class. -/
def hdrOf (op cls : Nat) : UtHdr :=
  ⟨1, op, false, false, false, cls, 0, 0, 0, 0, 0, 0, 0, 0, 0, 0, 0, 0, 0, 0, 0, 0, 0, 0⟩
/-- The UTE's cycle count (1,500 MHz), mod 2^32 (R499, log 17). -/
def State.uteTime (s : State) : Nat := s.now * 3 / 4 % 2 ^ 32
/-- Links that are up. -/
def State.upLinks (s : State) : List Nat := (List.range 4).filter fun l => s.fget (F.UTE_LINK_STATUS_STATE l) = 3
def linkIp6 (l : Nat) : Fld := ⟨0x100110 + 0x40 * l, 127, 0⟩
/-- Priority of the 802.1Q tag and DSCP of a packet (R492). -/
def utPcp (h : UtHdr) : Nat := if h.op = 0x15 then 7 else match h.cls with | 0 => 6 | 2 => 6 | 1 => 4 | 3 => 4 | 5 => 2 | _ => 1
def utDscp (h : UtHdr) : Nat := if h.op = 0x15 then 48 else match h.cls with | 0 => 46 | 2 => 46 | 1 => 34 | 3 => 34 | 5 => 16 | _ => 10
/-- UTE_NET.PORT; 0 acts as 0xBE7A. -/
def State.utPort (s : State) : Nat := if s.fget F.UTE_NET_PORT = 0 then 0xBE7A else s.fget F.UTE_NET_PORT
/-- The frame of a packet: tag, marking, addresses and ports (R492, R496). -/
def State.encap (s : State) (link : Nat) (h : UtHdr) (dst : Option Nat) : Encap :=
  { tag := if s.bit F.UTE_CFG_VLAN_EN then some (s.fget F.UTE_CFG_VID, utPcp h) else none, dscp := utDscp h,
    src4 := s.fget (F.UTE_LINK_IP4_ADDR link), src6 := s.fget (linkIp6 link), dst := dst,
    udpSrc := s.fget F.UTE_SPORT_BASE / 64 * 64 + h.path % 64, udpDst := s.utPort }
/-- Send a packet on a link: source node and trailer are filled in, and the time unless its slot's time is given. -/
def State.utSend (s : State) (link : Nat) (h : UtHdr) (payload : List Byte) (lat : Option Lat) (dst : Option Nat := none) :
    State :=
  let h := { h with srcNode := s.fget F.UTE_NET_NODE, txTime := if h.txTime = 0 then s.uteTime else h.txTime }
  s.emit (.ut ⟨link, h, payload, true, utTrailer h payload, false⟩ lat (s.encap link h dst))
/-- Send a packet of context 1 to the twin, over any link that is up: which one the spray takes is a free value (01 R29), and so is
the twin's node, which no rule names (log 31). -/
def State.twinSend (s : State) (h : UtHdr) (payload : List Byte) (lat : Option Lat) : State :=
  match s.upLinks with
  | [] => s
  | l :: ls =>
    let r := s.free (l :: ls).length
    r.2.utSend ((l :: ls).getD r.1 l) { h with srcCtx := 1, dstCtx := 1, dstNode := Config.twinNode % 65536 } payload lat

/-- Send a packet of the mirror stream, or a MIRROR_CTL, and keep it under a key until it is answered (R530 to R532). -/
def State.twinKeep (s : State) (key : Nat) (h : UtHdr) (pl : List Byte) : State :=
  { s with ute := { s.ute with mirrorTx := s.ute.mirrorTx ++ [(key, (⟨0, h, pl, true, 0, false⟩ : UtPkt))] } }.twinSend h pl none
/-- KIND of a MIRROR_CTL packet; 0 for another packet. -/
def ctlKind (p : UtPkt) : Nat := if p.hdr.op = 0x12 then leNat (p.payload.take 1) else 0
/-- The transmit time of a MIRROR_CTL of kinds 4 to 8: its slot comes after those of the packets kept (R499). -/
def State.ctlTime (s : State) : Nat :=
  s.uteTime + 1 + (s.ute.mirrorTx.filter fun e => 4 ≤ ctlKind e.2 && s.uteTime ≤ e.1).length
/-- Send a MIRROR_CTL (R532). Kinds 1 to 3 are kept under the sequence number that covers them; kinds 4 to 8 under their transmit
time, which the ACK returns as ECHO_TIME. -/
def State.twinCtl (s : State) (kind cls : Nat) (cover : Nat) (body : List Byte) : State :=
  let pl := natBytes 1 kind ++ natBytes 7 0 ++ body
  let h := { hdrOf 0x12 cls with len := pl.length, txTime := if 4 ≤ kind then s.ctlTime else s.uteTime }
  s.twinKeep (if 4 ≤ kind then h.txTime else cover) h pl

/-- FWD_REQ payload (R533). -/
def fwdReqBytes (kind flags holder tag dla : Nat) (mask : BitVec 64) (data : Option Line) : List Byte :=
  natBytes 1 kind ++ natBytes 1 flags ++ natBytes 2 holder ++ natBytes 4 tag ++ natBytes 8 dla ++
    natBytes 8 mask.toNat ++ natBytes 8 0 ++ (match data with | some d => natBytes 64 d.toNat | none => [])
/-- FWD_RESP payload (R533). -/
def fwdRespBytes (kind tag : Nat) (poison : Bool) (data : Option Line) : List Byte :=
  natBytes 1 kind ++ natBytes 1 (if poison then 1 else 0) ++ natBytes 2 0 ++ natBytes 4 tag ++ natBytes 8 0 ++
    (match data with | some d => natBytes 64 d.toNat | none => [])

/-- Holder number of a request: LD number (MULTI-HEADED) or host ID (G-FAM); none where R143 or R137 knows none. -/
def State.holderOf (s : State) (head ld pbr : Nat) : Option Nat :=
  if s.gfam then s.boundHosts.find? fun n => s.fget (F.CXP_GFAM_HOST_PBR_ID n) = pbr
  else if ld < s.ldsPerHead then some (4 * s.groupHead head + ld) else none

/-- Send the FWD_REQ of a forwarding-table entry (12 R446; the forward leg of R447, R448). -/
def State.sendFwd (s : State) (e : FwdEntry) (retx : Bool) : State :=
  let h := { hdrOf 0x13 3 with msn := e.tag, retx := retx }
  match e.req with
  | .read _ r =>
    let pl := fwdReqBytes 1 ((if r.cacheable then 2 else 0) + if r.excl then 4 else 0)
      ((s.holderOf r.head r.ld r.pbr).getD 0) e.tag (64 * e.line) 0 none
    s.twinSend { h with len := pl.length } pl none
  | .store _ _ _ st | .back _ _ _ st =>
    let pl := fwdReqBytes 2 (if st.poison then 1 else 0) ((s.holderOf st.head st.ld st.pbr).getD 0) e.tag (64 * e.line)
      st.mask (some st.data)
    s.twinSend { h with len := pl.length } pl none
  | .write st =>
    let pl := fwdReqBytes 2 (if st.poison then 1 else 0) 0 e.tag (64 * e.line) st.mask (some st.data)
    s.twinSend { h with len := pl.length } pl none
  | _ =>
    let pl := fwdReqBytes 1 0 0 e.tag (64 * e.line) 0 none
    s.twinSend { h with len := pl.length } pl none
/-- Ask the twin's mirror for lines: the form of the request is taken to be a forwarded read (02 R53; 07 R264; log 22). -/
def State.fetchTwin (s : State) (set : Nat) (lines : List Nat) : State :=
  lines.foldl (fun a line =>
    let e : FwdEntry := ⟨a.twin.nextTag, set, line, .sweep, a.now, none⟩
    ({ a with twin := { a.twin with fwd := a.twin.fwd ++ [e], nextTag := a.twin.nextTag + 1 } }).sendFwd e false) s
/-- Keep a request in the forwarding table and forward it; one that cannot be forwarded waits FWD_WAIT (R446, R480). -/
def State.forward (s : State) (set line : Nat) (req : BiReq) : State :=
  let stuck := if s.isPaired && s.bit F.TWN_STATUS_HB_MIR && !s.upLinks.isEmpty then none else some s.now
  let e : FwdEntry := ⟨s.twin.nextTag, set, line, req, s.now, stuck⟩
  let s := { s with twin := { s.twin with fwd := s.twin.fwd ++ [e], nextTag := s.twin.nextTag + 1 } }
  if stuck.isNone then s.sendFwd e false else s

/-- A page's SF bit changes; the owner of a mirrored set notes it for its stream (12 R451). -/
def State.setSf (s : State) (p : Nat) (b : Bool) : State :=
  let w := s.page p
  if w.sf = b then s else
  let s := s.setPage p { w with sf := b }
  match s.regionAt p with
  | some i =>
    if (s.region i).dur = .m && s.owns (s.region i).rset && s.isPaired then
      { s with twin := { s.twin with pageNotes := s.twin.pageNotes ++ [(p, b)] } }
    else s
  | none => s

end Sys2Proof.Machine
end

