-- ==== Sys2Proof/Machine/Operands.lean ====
section
/-! DEFINITION. The operands of host requests: which requester, which decoder, which DLA, which region (04_cxl_host_ports.md R137 to R146). -/
namespace Sys2Proof.Machine

/-- Does a committed decoder take an address? -/
def decCovers (d : DecoderCfg) (a : Nat) : Bool := d.base ≤ a && a < d.base + d.size
/-- DLA of an address in a decoder's range (R144). -/
def decDla (d : DecoderCfg) (a : Nat) : Nat :=
  let off := a - d.base
  let g := Nat.log2 d.gran
  let w := Nat.log2 d.ways
  d.dpa + ((off >>> (g + w)) <<< g ||| off % d.gran)
/-- Does a decoder map any byte of a region (R146)? -/
def decMaps (d : DecoderCfg) (r : Region) : Bool := d.dpa < r.dla + r.bytes && r.dla < d.dpa + d.size / d.ways
/-- Is a region mapped by any committed decoder (R146)? -/
def State.isMapped (s : State) (r : Region) : Bool :=
  (s.cxl.decoders ++ s.cxl.gfd).any fun kv => match kv.2 with | some d => decMaps d r | none => false

/-- The committed decoders of a requester: the 8 of its LD, or the 32 of the device (R144). -/
def State.decodersOf (s : State) (holder : Nat) : List DecoderCfg :=
  if s.gfam then s.cxl.gfd.filterMap (·.2)
  else (s.cxl.decoders.filter fun kv => kv.1 / 8 = holder).filterMap (·.2)

/-- Where a request goes. -/
inductive Target where
  /-- handled under 03 R101; the line that the address translates to, if a decoder took it -/
  | unmapped (at_ : Option Nat)
  /-- line number, region index, holder number -/
  | line (n region holder : Nat)
deriving DecidableEq, Repr

/-- Decode and check a host address (R137, R140 to R146): only a region that is served and visible answers. -/
def State.locate (s : State) (head ld pbr addr : Nat) : Target :=
  match s.holderOf head ld pbr with
  | none => .unmapped none
  | some holder =>
    match (s.decodersOf holder).find? (decCovers · addr) with
    | none => .unmapped none
    | some d =>
      let dla := decDla d addr
      if 2 ^ 48 ≤ dla then .unmapped none else
      match s.regionAt (dla / 4096) with
      | none => .unmapped none
      | some i =>
        let r := s.region i
        if r.served && s.visibleTo r holder then .line (dla / 64) i holder else .unmapped (some (dla / 64))

/-- Is the set of an M region served by this unit now, or by its copy in HOLD for a read (12 R445, R484)? -/
def State.servesRead (s : State) (r : Region) : Bool :=
  r.dur ≠ .m || s.owns r.rset || (s.inHold && !s.isStale r.rset)
def State.servesStore (s : State) (r : Region) : Bool := r.dur ≠ .m || s.owns r.rset

/-- Ingress growth of a link in CORE cycles: 68 B flits (05 R183) and the stated part of IDE (04 R159). -/
def State.ingressExtra (s : State) (head : Nat) : Nat :=
  (if s.bit (lnk F.CXP_LNK_STATUS_FLIT256 head) then 0 else 6) + (if s.bit (lnk F.CXP_LNK_STATUS_IDE_MEM head) then 8 else 0)
/-- Egress growth: 68 B flits, and IDE in skid mode (04 R159). -/
def State.egressExtra (s : State) (head : Nat) : Nat :=
  (if s.bit (lnk F.CXP_LNK_STATUS_FLIT256 head) then 0 else 6) +
    (match sget IdeLink.empty s.cxl.ide head with | ⟨.skid, _, _⟩ => 8 | _ => 0)
/-- A path on a head, with the growth of its ingress and egress. -/
def State.onHead (s : State) (head : Nat) (l : Lat) : Lat := { l with core := l.core + s.ingressExtra head + s.egressExtra head }
/-- Is the path on a head stated? In containment mode ingress also waits for the MAC, a time the spec only bounds (04 R159). -/
def State.statedOn (s : State) (head : Nat) : Bool :=
  match sget IdeLink.empty s.cxl.ide head with
  | ⟨.containment, _, _⟩ => false
  | _ => true

/-- Every line of a page is lost: it is poisoned, the page reads as written, and one General Media record goes to each host that
sees the region (02 R53; 10 R380, R382). -/
def State.losePage (s : State) (p : Nat) : State :=
  let s := s.setPage p { s.page p with zero := false }
  let s := (s.fillDram p (memPage s.dram.data p) true).poisonLines ((List.range 64).map (64 * p + ·))
  match s.regionAt p with
  | some i => s.recordAll (s.region i) .failure (.generalMedia (4096 * p))
  | none => s
/-- Is the twin's mirror a source for a page now (10 R375 step 6; 02 R53)? -/
def State.twinHas (s : State) (p : Nat) : Bool := s.isPaired && (s.page p).mir = .mirrored
/-- Begin the restore of a page, in the class of its cause: from flash, or from the twin's mirror after an incomplete save (02 R53; 08 R308). -/
def State.startRestore (s : State) (p : Nat) (tc : TClass) : State :=
  if s.fetching p then s.startFetch p .restore tc
  else if s.flash.mirrorFetch.contains p && s.isPaired then
    (s.startFetch p .restore tc).fetchTwin (match s.regionAt p with | some i => (s.region i).rset | none => 0)
      ((List.range 64).map (64 * p + ·))
  else s.startFetch p .restore tc

/-- Count an access under 03 R101. -/
def State.countUnmapped (s : State) : State := s.bump F.RGN_UNMAPPED_CNT_VALUE F.RGN_TBL_STATUS_UNMAPPED_SAT 54
/-- Count a discarded store or write-back (04 R157, R174). -/
def State.countDiscard (s : State) (head : Nat) : State :=
  s.bump (lnk F.CXP_LNK_DISCARD_CNT_VALUE head) (lnk F.CXP_LNK_STATUS_DISCARD_SAT head) (128 + 8 * head + 6)

/-! ### Responses (05 R178, R207 to R211; 06 R221 to R225) -/

/-- When the last bit of a response leaves: at the end of its stated path, or, after a wait, of what was left of it. -/
def State.dueOf (s : State) (run : Run) (p : Lat) : Nat :=
  let n := s.latCore p
  max (run.since + n) (run.from_ + (n - run.done))
/-- Read data on its way to a head, by its path from the pins to the pins. -/
def State.sendDrs (s : State) (r : HostRead) (run : Run) (p : Lat) (data : Line) (poison : Bool) : State :=
  let p := s.onHead r.head p
  if run.dead then s else
  let lat := if run.exact && s.statedOn r.head then some p else none
  (s.leaveAt ⟨r.head / 4, true, false, r.head, (s.holderOf r.head r.ld r.pbr).getD 0, run.since, s.dueOf run p,
      some (.drs r.head r.tag data poison lat)⟩).bothPhases
/-- The answer to a read of a poisoned line or an unmapped address: Poison set, its data a free value. -/
def State.sendPoison (s : State) (r : HostRead) (run : Run) (p : Lat) : State :=
  let d := s.free (2 ^ 512)
  d.2.sendDrs r run p (BitVec.ofNat 512 d.1) true
/-- Send the data of a line to a host, or poison. -/
def State.sendLine (s : State) (r : HostRead) (run : Run) (p : Lat) (data : Line) (poison : Bool) : State :=
  if poison then s.sendPoison r run p else s.sendDrs r run p data false
/-- A completion on its way to a head: it leaves the NDR release after its condition, `ready` or now, and not before the end of its
stated path (05 R184, R191; for a mirrored store, whose match is the condition, the last step of R195). -/
def State.sendNdr (s : State) (head holder tag since ready : Nat) (mirrored : Bool) (lat : Option Lat) : State :=
  let rel := (if mirrored then 22 else 10) + s.egressExtra head
  let due := max (max s.now ready + rel) (match lat with | some l => since + s.latCore l | none => 0)
  (s.leaveAt ⟨head / 4, false, true, head, holder, since, due,
      some (.ndr head tag (if s.statedOn head then lat else none))⟩).bothPhases
/-- The response of a store that is not applied: discarded, or under 03 R101. Its NDR leaves after ingress, lookup and NDR release
(05 R192). -/
def State.sendPlainNdr (s : State) (st : HostStore) (run : Run) : State :=
  if run.dead then s else
  let p := s.onHead st.head { core := 60, phiIn := 1 }
  (s.leaveAt ⟨st.head / 4, false, true, st.head, (s.holderOf st.head st.ld st.pbr).getD 0, run.since, s.dueOf run p,
      some (.ndr st.head st.tag (if run.exact && s.statedOn st.head then some p else none))⟩).bothPhases

/-- One thing leaves: it is sent; a DRS with poison is counted (04 R161), a read is timed between the points of 05 R178 (05 R211). -/
def State.sent (s : State) (x : Leaving) : State :=
  match x.out with
  | none => s
  | some (.drs head tag data poison lat) =>
    let s := if poison then
        s.bump (lnk F.CXP_LNK_POISON_CNT_VALUE head) (lnk F.CXP_LNK_STATUS_POISON_SAT head) (128 + 8 * head + 5)
      else s
    (s.countLat (x.due - x.since)).emit (.drs head tag data poison lat)
  | some (.ndr head tag lat) => s.emit (.ndr head tag lat)
  | some (.bisnp holder line inv) => s.emit (.bisnp holder line inv)
/-- Everything whose time has come leaves, and gives its slot back (06 R225). -/
def State.leave (s : State) : State :=
  let go := s.cxl.leaving.filter fun x => x.due ≤ s.now
  let s := { s with cxl := { s.cxl with leaving := s.cxl.leaving.filter fun x => s.now < x.due } }
  go.foldl State.sent s

end Sys2Proof.Machine
end

