-- ==== Sys2Proof/Machine/Dmc.lean ====
section
/-! DEFINITION. The queues of the memory controllers, the DMCs' real-time ports, and the pick (09_dram_and_stacked_memory.md R321 to R329, R332, R354). -/
namespace Sys2Proof.Machine

/-- Is DRAM held by a frequency change (R342)? -/
def State.dramBusy (s : State) : Bool := s.bit F.DMC_FREQ_BUSY
/-- Levels of the write queue (R359). -/
def State.wqHigh (s : State) : Nat := max 8 (min 60 (s.fget F.DMC_WQ_WMARK_HIGH))
def State.wqLow (s : State) : Nat := let l := s.fget F.DMC_WQ_WMARK_LOW; if s.wqHigh ≤ l then s.wqHigh - 8 else l

/-! ### Writes and panic (R321, R324, R327 to R329) -/

/-- A write enters its subchannel; write mode begins at HIGH, or when no read waits (R324). Beyond 64 it is held at the DMC input (R321). -/
def State.queueWrite (s : State) (w : DmcWrite) : State :=
  let key := s.subKey w.da
  let c := s.subOf key
  let ws := c.writes ++ [w]
  let c := if s.wqHigh ≤ ws.length then { c with writes := ws, writeMode := true, atHigh := true }
    else if c.reads.isEmpty && !c.writeMode then { c with writes := ws, writeMode := true, atHigh := false }
    else { c with writes := ws }
  s.setSub key c
/-- Is the write queue of an address full (R321; 06 R227)? -/
def State.writesFull (s : State) (da : Nat) : Bool := 64 ≤ (s.subOf (s.subKey da)).writes.length
def State.rtPort (s : State) (ch port : Nat) : RtPort := sget RtPort.empty s.dram.ports (ch * 2 + port)
/-- May a channel raise panic again: it has served reads since the last episode of either port, or the episode of the other port goes on
(R328, R329)? -/
def State.panicAllowed (s : State) (ch : Nat) : Bool :=
  s.power = 1 || [0, 1].all fun k =>
    (s.rtPort ch k).ended = 0 || ns (max 50 (s.fget F.DMC_PANIC_CTRL_READ)) ≤ s.now - (s.rtPort ch k).ended
/-- Lines in a real-time port's buffer: panic is raised above 75 % and ends at or below half of that (R327; 06 R232, R233). An episode is the
channel's: a port that joins one shares its start (R328; log 114). -/
def State.portFill (s : State) (ch port fill : Nat) : State :=
  let pt := s.rtPort ch port
  let hi := if port = 0 then 192 else 96
  let other := s.rtPort ch (1 - port)
  let raise := !pt.panic && hi < fill && s.panicAllowed ch
  let stop := pt.panic && fill ≤ hi / 2
  let t0 := if !raise then pt.since else if other.panic then other.since else s.now
  let t1 := if stop then s.now else pt.ended
  let pt' : RtPort := ⟨fill, (pt.panic || raise) && !stop, t0, t1⟩
  let s := { s with dram := { s.dram with ports := sput RtPort.empty s.dram.ports (ch * 2 + port) pt' } }
  let s := if raise then s.bump (F.DMC_PANIC_CNT_VALUE ch) (F.DMC_CNT_STATUS_PANIC_SAT ch) (256 + 8 * ch + 3) else s
  s.setBit (F.DMC_STATUS_PANIC ch) ((s.rtPort ch 0).panic || (s.rtPort ch 1).panic)
/-- Number of a real-time port; none for a host's own write. -/
def DmcPort.num : DmcPort → Option Nat
  | .saveFlush => some 0
  | .mirrorIn => some 1
  | .host => none
/-- A write leaves its port's buffer. -/
def State.portLess (s : State) (ch : Nat) (p : DmcPort) : State :=
  match p.num with
  | some k => s.portFill ch k ((s.rtPort ch k).fill - 1)
  | none => s
/-- A line of a page is written to its DRAM copy through a port: C0 but for a host's V store (06 R213). -/
def State.drainWrite (s : State) (line : Nat) (port : DmcPort) (ack : Option (Origin × Nat × Nat × Option Lat)) (land : Option Nat) :
    State :=
  let f := s.frameOf (line / 64)
  if f = 0 then s else
  let da := (f - 1) * 4096 + line % 64 * 64
  let s := s.queueWrite ⟨da, if port = .host then .c3 else .c0, port, 0, ack, land⟩
  match port.num with
  | some k => s.portFill (da / 4096 % 12) k (min (if k = 1 then 128 else 256) ((s.rtPort (da / 4096 % 12) k).fill + 1))
  | none => s
/-- Queue address of a line in the hot area or the staging area, from its frame's address plus 1. -/
def hotAddr (qa1 line : Nat) : Nat := quaySpace + (qa1 - 1 + line % 64 * 64)
/-- A line of a page is written to its Quay copies (R354). -/
def State.quayWrite (s : State) (line : Nat) (tc : TClass) (ack : Option (Origin × Nat × Nat × Option Lat)) (land : Option Nat) :
    State :=
  let h := sget 0 s.quay.hotQa (line / 64)
  let g := sget 0 s.quay.stgQa (line / 64)
  let s := if h = 0 then s else s.queueWrite ⟨hotAddr h line, tc, .host, 0, ack, land⟩
  if g = 0 || !(s.page (line / 64)).qstg then s else s.queueWrite ⟨hotAddr g line, tc, .host, 0, none, land⟩

/-! ### Reads and the pick (R321, R322) -/

/-- May a command go to a bank: no access holds it, and its count of ACTs allows one where a row must be opened (R332)? -/
def State.bankFree (s : State) (a : Nat) : Bool :=
  s.busyAt a ≤ s.now && (quaySpace ≤ a || s.rowAt a = .hit || s.dram.pop.raammt = 0 || sget 0 s.dram.raa (s.bankAt a) < s.dram.pop.raammt)
/-- Is a channel of an address in panic? The HBC has no real-time ports (R354). -/
def State.inPanic (s : State) (a : Nat) : Bool :=
  let ch := a / 4096 % 12
  a < quaySpace && ((s.rtPort ch 0).panic || (s.rtPort ch 1).panic)
/-- May a read of C3 or C4 be picked as it arrives: nothing waits before it, no write mode entered at HIGH, no panic, its bank free (05 R209)?
One whose data lies in the write queue needs no bank (R325). A frequency change holds DRAM alone (R342). -/
def State.readAtOnce (s : State) (a : Nat) : Bool :=
  let c := s.subOf (s.subKey a)
  !(a < quaySpace && s.dramBusy) && c.reads.isEmpty && !s.inPanic a && !(c.writeMode && c.atHigh) && (s.queuedWrite a || s.bankFree a)
/-- A read enters its subchannel; write mode that began for want of a read ends with its command (R324). -/
def State.queueRead (s : State) (r : DmcRead) : State :=
  let key := s.subKey r.da
  let c := s.subOf key
  s.setSub key { c with reads := c.reads ++ [r], writeMode := c.writeMode && c.atHigh }

/-- What the pick chooses from. -/
structure DmcCand where
  da : Nat
  tc : TClass
  read : Bool
  hit : Bool
  passed : Nat
deriving DecidableEq, Repr
def State.candOf (s : State) (a : Nat) (tc : TClass) (read : Bool) (passed : Nat) : DmcCand := ⟨a, tc, read, s.rowAt a = .hit, passed⟩
/-- The requests of a subchannel that may be issued now, oldest first: writes in write mode, the panicking port's first, else reads;
C0 reads keep their precedence in panic (R324, R327). -/
def State.candidates (s : State) (key : Nat) : List DmcCand :=
  let c := s.subOf key
  let ch := key / 2
  let p0 : Bool := key < 24 && (s.rtPort ch 0).panic
  let p1 : Bool := key < 24 && (s.rtPort ch 1).panic
  let rs := (c.reads.take 64).map fun r => s.candOf r.da r.tc true r.passed
  let ws := (c.writes.take 64).filter fun w => !(p0 || p1) || (p0 && w.port = .saveFlush) || (p1 && w.port = .mirrorIn)
  let ws := if ws.isEmpty then c.writes.take 64 else ws
  let ws := ws.map fun w => s.candOf w.da w.tc false w.passed
  let l := if p0 || p1 then rs.filter (fun x => x.tc = .c0) ++ ws
    else if c.writeMode then ws
    else if rs.isEmpty then ws else rs
  l.filter fun x => (x.read && s.queuedWrite x.da) || s.bankFree x.da
/-- Bank of an address within its subchannel, rank × 32 + group × 4 + bank, or within its Quay channel. -/
def State.bankOf (s : State) (a : Nat) : Nat := if quaySpace ≤ a then (qaDecode (a - quaySpace)).bank else s.bankAt a % 512
/-- The order within a bank: one passed over 8 times, then C0, row hits, the oldest (R322). -/
def bankPick (l : List DmcCand) : Option DmcCand :=
  match l.find? fun x => 8 ≤ x.passed with
  | some x => some x
  | none =>
    let l := if l.any fun x => x.tc = .c0 then l.filter fun x => x.tc = .c0 else l
    match l.find? fun x => x.hit with
    | some x => some x
    | none => l.head?
/-- The pick: the banks with a command ready in rotation, from the one after the last (R322). -/
def State.pick (s : State) (key : Nat) : Option DmcCand :=
  let l := s.candidates key
  let last := (s.subOf key).bank
  match ((List.range 512).map fun i => (last + 1 + i) % 512).find? fun b => l.any fun x => s.bankOf x.da = b with
  | none => none
  | some b => bankPick (l.filter fun x => s.bankOf x.da = b)
/-- Count the older requests of its bank that a picked row hit passes over (R322). -/
def State.passOver (s : State) (key : Nat) (x : DmcCand) : State :=
  let c := s.subOf key
  let b := s.bankOf x.da
  let older := fun da : Nat => s.bankOf da = b && da ≠ x.da
  let rs := if x.hit && x.read then
      (c.reads.takeWhile fun r => r.da ≠ x.da).map (fun r => if older r.da then { r with passed := r.passed + 1 } else r) ++
        c.reads.dropWhile fun r => r.da ≠ x.da
    else c.reads
  let ws := if x.hit && !x.read then
      (c.writes.takeWhile fun w => w.da ≠ x.da).map (fun w => if older w.da then { w with passed := w.passed + 1 } else w) ++
        c.writes.dropWhile fun w => w.da ≠ x.da
    else c.writes
  s.setSub key { c with reads := rs, writes := ws, bank := b }

end Sys2Proof.Machine
end

