-- ==== Sys2Proof/Machine/Merge.lean ====
section
/-! DEFINITION. Merge buffers of the SRAM macro groups (10_integrity_and_check_units.md R364 to R367). -/
namespace Sys2Proof.Machine

/-- Replace the bytes of a word that a mask names. -/
def mergeWord (old new : BitVec 64) (mask : BitVec 8) : Nat → BitVec 64
  | 0 => 0
  | i + 1 =>
    let b := (if mask.getLsbD i then new else old).toNat / 2 ^ (8 * i) % 256
    mergeWord old new mask i ||| BitVec.ofNat 64 (b * 2 ^ (8 * i))
/-- A word of a macro group; the Yard has 256 groups of 32,768 words. -/
def wordKey (group word : Nat) : Nat := group * 32768 + word
def State.setMerge (s : State) (l : List MergeEntry) (words : SMap Nat) (bad : List Nat) : State :=
  { s with integ := { s.integ with merge := l, words := words, badWords := bad } }
/-- An entry is drained: read, correct, merge, write (R364). Whether the read finds the word uncorrectable is the environment's, a free
value (log 43); the merged word then carries the poison syndrome (R365), and the error is counted and logged (R367). -/
def State.drainMerge (s : State) (e : MergeEntry) : State :=
  let key := wordKey e.group e.word
  let u := s.free 2
  let bad := u.1 = 1 || s.integ.badWords.contains key
  let word := (mergeWord (BitVec.ofNat 64 (sget 0 s.integ.words key)) e.data e.mask 8).toNat
  let s := u.2.setMerge (s.integ.merge.filter fun x => x ≠ e) (sput 0 s.integ.words key word)
    (if bad then insNat key s.integ.badWords else s.integ.badWords)
  if bad then
    let s := (s.countUe 0).logErr none (e.group % 256 * 256 + e.word * 65536) .sram .uePoisoned .demand 0xFF 0
    (s.bump F.INT_POISON_CNT_VALUE F.INT_CNT_STATUS_POISON_SAT 411).raise 401
  else s
/-- A drain of an entry untouched for 32 cycles (R364). -/
def State.mergeIdle (s : State) (group word : Nat) : State :=
  match s.integ.merge.find? fun e => e.group = group && e.word = word with
  | none => s
  | some e => if s.now - e.time < 32 then s else s.drainMerge e
/-- Every merge buffer drains at the entry to SAVE (R366). -/
def State.drainAllMerge (s : State) : State := s.integ.merge.foldl State.drainMerge s

/-- A write of bytes of one word (R364): merged into its entry, or a new entry, the oldest of a full buffer drained first; a word whose
every byte is at hand is encoded and written without a read. -/
def State.mergeWrite (s : State) (group word : Nat) (data : BitVec 64) (mask : BitVec 8) : State :=
  let key := wordKey group word
  let rest := s.integ.merge.filter fun e => !(e.group = group && e.word = word)
  let whole := fun d : BitVec 64 => s.setMerge rest (sput 0 s.integ.words key d.toNat) (s.integ.badWords.filter (· ≠ key))
  if mask = 0 then s
  else if mask = 0xFF then whole data
  else
    match s.integ.merge.find? fun e => e.group = group && e.word = word with
    | some e =>
      let d := mergeWord e.data data mask 8
      if e.mask ||| mask = 0xFF then whole d
      else s.setMerge (rest ++ [{ e with data := d, mask := e.mask ||| mask, time := s.now }]) s.integ.words s.integ.badWords
    | none =>
      let mine := s.integ.merge.filter fun e => e.group = group
      let s := match mine with | o :: _ => if 16 ≤ mine.length then s.drainMerge o else s | [] => s
      let e : MergeEntry := ⟨group, word, data, mask, s.now⟩
      s.setMerge (s.integ.merge ++ [e]) s.integ.words s.integ.badWords
/-- A masked line written to line `n` of the Yard, word by word; with `narrow` only the words written in part. -/
def State.mergeLine (s : State) (n : Nat) (data : Line) (mask : BitVec 64) (narrow : Bool) : State :=
  (List.range 8).foldl (fun a k =>
    let m := BitVec.ofNat 8 (mask.toNat / 2 ^ (8 * k))
    if narrow && m = 0xFF then a
    else a.mergeWrite (n / 4096) (n % 4096 * 8 + k) (BitVec.ofNat 64 (data.toNat / 2 ^ (64 * k))) m) s
/-- Does a mask write some word in part? -/
def narrowMask (mask : BitVec 64) : Bool := (List.range 8).any fun k => let m := mask.toNat / 2 ^ (8 * k) % 256; m ≠ 0 && m ≠ 255
/-- The narrow words of a store on its way to a tier pass a merge buffer; where in the Yard the spec leaves open: a free value (log 43). -/
def State.mergeStore (s : State) (data : Line) (mask : BitVec 64) : State :=
  if !narrowMask mask then s else
  let n := s.free (2 ^ 20)
  n.2.mergeLine n.1 data mask true

end Sys2Proof.Machine
end

