-- ==== Sys2Proof/Machine/Landing.lean ====
section
/-! DEFINITION. The Landing queue, the paddock, its limit and its regimes, and the completions of stores (02_persistence_contract.md). -/
namespace Sys2Proof.Machine

/-! ### Admission (R64 to R69) -/

def State.pdkBytes (s : State) : Nat := s.fget F.RGN_PDK_BYTES_VALUE
def State.pdkMBytes (s : State) : Nat := s.fget F.RGN_PDK_M_BYTES_VALUE
def State.pdkLimit (s : State) : Nat := s.fget F.RGN_PDK_LIMIT_VALUE
/-- The bound on M pages of own sets: the smaller of the limit in force and the twin's (R66, R77). -/
def State.mBound (s : State) : Nat := min s.pdkLimit (s.fget F.RGN_PDK_TWIN_LIMIT_VALUE)
/-- The limit that an admission test uses: in the cycle of an update, the old one (R67). -/
def State.testLimit (s : State) : Nat := if s.pers.limitAt = some s.now then s.pers.oldLimit else s.pdkLimit
/-- Both tests of R66; a full flash tier also holds stores (08 R294). -/
def State.admitOk (s : State) (isM mirrorIn : Bool) : Bool :=
  let lim := s.testLimit
  s.pdkBytes + 4096 ≤ lim &&
    (!isM || s.pdkMBytes + 4096 ≤ (if mirrorIn then lim else min lim (s.fget F.RGN_PDK_TWIN_LIMIT_VALUE))) && !s.bit F.FTC_STATUS_SPACE_FULL
/-- Is an epoch of the recorder open (18 R678, R681)? -/
def State.epochOpen (s : State) : Bool := s.bit F.REC_STATUS_OPEN
/-- Change the counts; RGN_PDK_PEAK follows the highest value since it was written, the recorder's peak that of the open epoch (R87, R89). -/
def State.setPdk (s : State) (bytes m : Nat) : State :=
  let top := max s.pdkBytes bytes
  let s := (s.fset F.RGN_PDK_BYTES_VALUE bytes).fset F.RGN_PDK_M_BYTES_VALUE m
  let s := s.fset F.RGN_PDK_PEAK_PEAK (max (s.fget F.RGN_PDK_PEAK_PEAK) top)
  if s.epochOpen then { s with recd := { s.recd with epoch := { s.recd.epoch with pdkPeak := max s.recd.epoch.pdkPeak top } } } else s
/-- A page leaves the paddock (R61). -/
def State.leavePdk (s : State) (isM : Bool) : State :=
  s.setPdk (s.pdkBytes - 4096) (if isM then s.pdkMBytes - 4096 else s.pdkMBytes)
/-- A page is admitted: CLEAN to DIRTY, appended to the flush list (R61). -/
def State.admitPage (s : State) (p : Nat) (isM : Bool) : State :=
  let s := s.setPdk (s.pdkBytes + 4096) (if isM then s.pdkMBytes + 4096 else s.pdkMBytes)
  let s := s.setPage p { s.page p with pdk := .dirty }
  { s with pers := { s.pers with list := s.pers.list ++ [(p, s.now)] } }
/-- The regime leaves STRETCH when the counts have fallen to 15/16 of their bounds and no store is held (R69). -/
def State.stretchExit (s : State) : State :=
  if s.regime = .stretch && s.pdkBytes * 16 ≤ 15 * s.pdkLimit && s.pdkMBytes * 16 ≤ 15 * s.mBound &&
      !s.pers.landing.any (fun e => e.held) then s.setRegime .paddock
  else s

/-! ### Completions (R47, R50) -/

/-- May completions of L and M stores be sent: in FULL, and not in HOLD (R86; 12 R484)? -/
def State.mayAck (s : State) : Bool := s.power = 0 && !s.inHold
/-- Send the completion of a store to where it came from: `since` its arrival, `ready` the time its condition is met on its path. -/
def State.complete (s : State) (o : Origin) (id since ready : Nat) (mirrored : Bool) (lat : Option Lat) : State :=
  match o with
  | .host head holder tag => s.sendNdr head holder tag since ready mirrored lat
  | .peer _ _ _ _ =>
    let f := fun pl : Placing => if pl.left.contains id then
        { pl with left := pl.left.filter (· ≠ id),
                  lat := match pl.lat, lat with
                    | some a, some b => some (if s.latCore a ≤ s.latCore b then b else a)
                    | _, _ => none }
      else pl
    { s with ute := { s.ute with placing := s.ute.placing.map f } }
  | .forwarded tag => { s with pers := { s.pers with fwdAcks := s.pers.fwdAcks ++ [tag] } }
  | .mailbox ld => s.emit (.mbox ld .success [])
  | .mirrorIn _ => s
  | .internal _ => s
  | .discarded => s
/-- A store of a page is acknowledged: FLUSHING becomes REDIRTY (R61). -/
def State.noteAck (s : State) (p : Nat) : State :=
  let w := s.page p
  if w.pdk = .flushing then s.setPage p { w with pdk := .redirty } else s
/-- Acknowledge entries in order of arrival, never before an older store to the same line (R50; 05 R208). -/
def State.ackLoop (s : State) : List LandEntry → List Nat → List LandEntry × State
  | [], _ => ([], s)
  | e :: t, blocked =>
    if !e.acked && e.localOk && e.twinOk && !blocked.contains e.line then
      let r := ((s.noteAck (e.line / 64)).complete e.origin e.id e.time e.ready (e.mseq.isSome && e.origin.tclass = .c3) e.lat).ackLoop t blocked
      ({ e with acked := true } :: r.1, r.2)
    else
      let r := s.ackLoop t (if e.acked then blocked else e.line :: blocked)
      (e :: r.1, r.2)
/-- Does a drain write of a Landing entry still wait in a memory's queue (06 R223; 09 R326)? -/
def State.draining (s : State) (id : Nat) : Bool := s.queues.any fun c => c.writes.any fun w => w.land = some id
/-- Send every completion that is due; an entry whose drain has completed and that is acknowledged leaves the queue (R58; 06 R223; 12 R450). -/
def State.settleAcks (s : State) : State :=
  let r := if s.mayAck then s.ackLoop s.pers.landing [] else (s.pers.landing, s)
  { r.2 with pers := { r.2.pers with landing := r.1.filter fun e => !(e.acked && e.drained && !s.draining e.id) } }

/-! ### Landing (R57 to R60, R82; 05 R191) -/

/-- Does a region of a mirrored set collide with an L or V entry that the twin reported (03 R755)? -/
def State.clashes (s : State) (i : Nat) : Bool :=
  let r := s.region i
  s.rgn.twinEntries.any fun e => e.index = i || (e.base < r.base + r.sizeM1 + 1 && r.base < e.base + e.sizeM1 + 1)
/-- Is an M store of a region sent to the twin (R195; 12 R449)? -/
def State.toTwin (s : State) (i : Nat) : Bool := s.isPaired && s.owns (s.region i).rset && !s.clashes i
/-- The 88 B a store adds to the digest (12 R452). -/
def digestBytes (seq line : Nat) (data : Line) (mask : BitVec 64) : List Byte :=
  natBytes 8 seq ++ natBytes 8 (64 * line) ++ natBytes 8 mask.toNat ++ natBytes 64 (mergeLine 0 data mask 64).toNat
/-- Give a store its mirror sequence number and queue its line for the stream (12 R449, R452, R453). -/
def State.mirrorOut (s : State) (line : Nat) (data : Line) (mask : BitVec 64) (poison : Bool) : State :=
  let t := s.twin
  let p := line / 64
  { s with twin := { t with
      txNext := (t.txNext + 1) % 2 ^ 32, txLines := t.txLines ++ [⟨t.txNext, line, ⟨data, mask⟩, poison⟩],
      digest := BitVec.ofNat 64 ((crcKind 2).run t.digest.toNat (digestBytes t.txNext line data mask)),
      touched := if t.touched.length < 65537 then insNat p t.touched else t.touched } }
/-- First store to a page: ZERO clears and the page takes the frames that its rank requires, the hot area's not on a mirror (03 R105, R108,
R126; 05 R191). -/
def State.firstStore (s : State) (p : Nat) (r : Region) : State :=
  if !(s.page p).zero then s else
  let s := s.setPage p { s.page p with zero := false }
  let s := if s.hotHere r then let s := s.ensureHot p; s.setPage p { s.page p with q := true } else s
  if r.quayPin && r.dur = .v then s
  else let s := s.ensureFrame p true; s.setPage p { s.page p with d := true }
/-- A write-through page joins the line of pages that owe a write (R82, R83). -/
def State.oweWt (s : State) (p : Nat) : State :=
  if s.pers.wtPages.contains p then s else { s with pers := { s.pers with wtPages := s.pers.wtPages ++ [p] } }
/-- Poison carried or cleared by a store (04 R162; 10 R371). -/
def State.storePoison (s : State) (line : Nat) (poison : Bool) (mask : BitVec 64) : State :=
  if poison then s.poisonLine line else if mask = BitVec.allOnes 64 then s.unpoisonLine line else s

/-- MIR of an M page after a store (R54; 12 R454 to R455, R476). -/
def mirAfter (old : Mir) (toTwin mirrorIn : Bool) : Mir :=
  if mirrorIn then (match old with | .notM => .mirrored | m => m)
  else if toTwin then (match old with | .notM => .mirrored | m => m)
  else .unmirrored

/-- Lines that fit one MIRROR packet: at most 64, a 16 GiB window, eight partial masks (13 R530). -/
def packLines : Nat → Nat → Nat → Nat → List MirrorLine → List MirrorLine
  | 0, _, _, _, _ => []
  | _ + 1, _, _, _, [] => []
  | k + 1, lo, hi, part, l :: ls =>
    let lo' := min lo l.line
    let hi' := max hi l.line
    let part' := if l.st.mask = BitVec.allOnes 64 then part else part + 1
    if hi' - lo' < 2 ^ 28 && part' ≤ 8 then l :: packLines k lo' hi' part' ls else []
/-- Lines of the last packet that the waiting lines make up. -/
def lastPacket : Nat → List MirrorLine → Nat
  | 0, _ => 0
  | _ + 1, [] => 0
  | n + 1, l :: ls =>
    let k := (packLines 64 l.line l.line 0 (l :: ls)).length
    if ls.length < k then ls.length + 1 else lastPacket n ((l :: ls).drop k)
/-- Serialisation in ps of the lines ahead of the line queued last in its mirror packet, on the link that the stream takes (05 R196). -/
def State.aheadPs (s : State) : Nat :=
  let split : Bool := match s.upLinks with
    | l :: _ => s.latched (if l / 2 = 0 then F.UTE_CFG_SPLIT0 else F.UTE_CFG_SPLIT1) ≠ 0
    | [] => false
  (lastPacket s.twin.txLines.length s.twin.txLines - 1) * (if split then 1280 else 640)

/-- Were L stores, and M stores of own sets, handled as write-through when a request was accepted (01 R44)? In the cycle of an update the
old limit counts (R67). -/
def State.acceptNow (s : State) : Accept :=
  let l : Bool := s.testLimit = 0
  ⟨l, l || s.fget F.RGN_PDK_TWIN_LIMIT_VALUE = 0⟩
/-- Is a store of the twin's set (R75)? -/
def Origin.isMirrorIn : Origin → Bool
  | .mirrorIn _ => true
  | _ => false
/-- Is a store that needs admission written through now: it was accepted so, or by now the regime (R69) or the twin's limit (R76) asks it? -/
def State.writesThrough (s : State) (isM mirrorIn : Bool) : Bool :=
  s.testLimit = 0 || (s.pdkLimit = 0 && !s.admitOk isM mirrorIn) || (isM && !mirrorIn && s.fget F.RGN_PDK_TWIN_LIMIT_VALUE = 0)
/-- A store is held for admission: the regime is STRETCH from then on (R69, R72). -/
def State.noteStretch (s : State) : State :=
  (s.setRegime .stretch).bump F.RGN_STRETCH_CNT_VALUE F.RGN_PDK_STATUS_STRETCH_SAT 50

/-- An L or M store into the Landing queue, with a free entry: poison, admission or hold, mirroring, acknowledgement. In STRETCH every
store that needs admission is held (R72). DESIGN CHOICE (log 76): a store that only SPACE_FULL keeps from admission (08 R294), both tests of
R66 passed, moves the regime to STRETCH too: R69's table names only a failed test. -/
def State.land (s : State) (st : IngressStore) : State :=
  let p := st.line / 64
  let r := s.region st.region
  let isM := st.cls = .m
  let seqIn := match st.origin with | .mirrorIn q => some q | _ => none
  let out := isM && seqIn.isNone && s.toTwin st.region
  let inPdk := (s.page p).pdk ≠ .clean
  let wt := st.wt || (!inPdk && s.writesThrough isM seqIn.isSome)
  let held := !wt && !inPdk && (s.regime = .stretch || !s.admitOk isM seqIn.isSome)
  let mseq := if out then some s.twin.txNext else seqIn
  let s := s.storePoison st.line st.poison st.mask
  let s := s.firstStore p r
  let s := if out then s.mirrorOut st.line st.data st.mask st.poison else s
  let lat := match st.lat with
    | none => none
    | some l => if held || wt then none
      else if out then some { l with core := l.core + 48, ute := l.ute + 78, eth := l.eth + 448, w := 2, ps := l.ps + s.aheadPs, phiTx := l.phiTx + 2, phiRx := l.phiRx + 2 } else some l
  let e : LandEntry :=
    { id := st.id, line := st.line, data := st.data, mask := st.mask, region := st.region, cls := st.cls, mseq := mseq,
      time := st.time, origin := st.origin, poison := st.poison, held := held, localOk := !held && !wt, twinOk := !out,
      wt := wt, acked := false, drained := false, heldAt := s.now, ready := max s.now st.ready, lat := lat }
  let w := s.page p
  let s := s.setPage p { w with mir := if isM then mirAfter w.mir out seqIn.isSome else w.mir }
  let s := if !s.dValid p && w.f && !w.q then s.startFetch p .fetch st.origin.tclass else s
  let s := { s with pers := { s.pers with landing := s.pers.landing ++ [e] } }
  let s := if wt then s.oweWt p
    else if held then s.noteStretch
    else if inPdk then s else (s.admitPage p isM).ensureFrame p true
  s.settleAcks
/-- May a store take a Landing entry: one is free (R60)? The last is not for an M store that the twin must acknowledge, so that the twin's own
stores never wait for it here (06 R229; log 75). -/
def State.mayLand (s : State) (st : IngressStore) : Bool :=
  s.pers.landing.length + (if st.cls = .m && !st.origin.isMirrorIn && s.toTwin st.region then 1 else 0) < 65536
/-- The store at ingress that lands next: C0 before C3, the oldest first (06 R226, R227). -/
def State.nextIngress (s : State) : Option IngressStore :=
  match s.pers.ingress.find? fun x => x.origin.isMirrorIn with
  | some x => if s.mayLand x then some x else none
  | none => s.pers.ingress.find? s.mayLand
/-- A store past its lookup: it lands, or waits at ingress for a free entry behind those of its class that wait already (R60). -/
def State.landStore (s : State) (st : IngressStore) : State :=
  if s.mayLand st && !(s.pers.ingress.any fun x => st.origin.isMirrorIn = x.origin.isMirrorIn) then s.land st
  else { s with pers := { s.pers with ingress := s.pers.ingress ++ [{ st with lat := none }] } }
/-- A store waits at ingress and an entry is free (R60): not in STANDBY, not in HOLD (R77; 04 R170). -/
def State.ingressResume (s : State) : State :=
  match s.nextIngress with
  | none => s
  | some st =>
    if s.running && !s.inHold then
      ({ s with pers := { s.pers with ingress := s.pers.ingress.filter fun x => x.id ≠ st.id } }).land st
    else s
/-- The next number of a store. -/
def State.newId (s : State) : Nat × State := (s.pers.nextId, { s with pers := { s.pers with nextId := s.pers.nextId + 1 } })

/-- A V store whose page is at hand: through the merge buffers, and into every copy at once (10 R364). It is accepted when the write path of
the tier that holds the page has room: a DMC's queue takes 64 writes (05 R192; 09 R321). -/
def State.storeV (s : State) (st : IngressStore) : State :=
  let p := st.line / 64
  let s := s.firstStore p (s.region st.region)
  let s := ((s.storePoison st.line st.poison st.mask).mergeStore st.data st.mask).writeCopies st.line st.data st.mask
  let w := s.page p
  let f := s.frameOf p
  let h := sget 0 s.quay.hotQa p
  let wait := some (st.origin, st.id, st.time, none)
  if w.q && h ≠ 0 then
    if s.writesFull (hotAddr h st.line) then s.quayWrite st.line .c3 wait none
    else (s.quayWrite st.line .c3 none none).complete st.origin st.id st.time st.ready false st.lat
  else if w.d && f ≠ 0 && s.writesFull ((f - 1) * 4096 + st.line % 64 * 64) then s.drainWrite st.line .host wait none
  else
    let s := if w.d then s.drainWrite st.line .host none none else s
    s.complete st.origin st.id st.time st.ready false st.lat
/-- Must a request wait for its page: restore-pending (08 R308), or for a V store a page that only flash holds, or one to be re-homed? -/
def State.pageAway (s : State) (p : Nat) (storeV : Bool) : Bool :=
  let w := s.page p
  w.restorePending || (storeV && !w.q && !s.dValid p && (w.f || s.homeLost p))

/-! ### The limit and held stores (R65 to R72) -/

/-- µs of a hold, rounded up, into RGN_STRETCH_MAX (R87). -/
def State.noteHold (s : State) (since : Nat) : State :=
  s.fset F.RGN_STRETCH_MAX_VALUE (max (s.fget F.RGN_STRETCH_MAX_VALUE) (min 0xFFFFFFFF (toUs (s.now - since))))
/-- The holds of some entries end. -/
def State.noteHolds (s : State) (es : List LandEntry) : State := (es.filter (·.held)).foldl (fun a e => a.noteHold e.heldAt) s
/-- Held stores become write-through (R69, R76). -/
def State.heldToWt (s : State) (which : LandEntry → Bool) : State :=
  let mine := fun e : LandEntry => e.held && which e
  let es := s.pers.landing.filter mine
  let s := s.noteHolds es
  let s := { s with pers := { s.pers with
    landing := s.pers.landing.map fun e => if mine e then { e with held := false, wt := true } else e } }
  (es.map (·.line / 64)).foldl State.oweWt s
/-- A new limit: over-limit episodes (R68) and the regime (R69); tests of the same cycle use the old one (R67). -/
def State.applyLimit (s : State) (limit : Nat) : State :=
  let old := s.testLimit
  let s := s.fset F.RGN_PDK_LIMIT_VALUE limit
  let s := { s with pers := { s.pers with limitAt := some s.now, oldLimit := old } }
  let above := limit < s.pdkBytes
  let s := if above && !s.pers.overBefore then (s.setBit F.RGN_PDK_STATUS_OVER true).raise 49 else s
  let s := { s with pers := { s.pers with overBefore := above } }
  if limit = 0 then (if s.regime = .writeThrough then s else (s.setRegime .writeThrough).heldToWt fun _ => true)
  else if s.regime = .writeThrough then s.setRegime .paddock
  else s.stretchExit
/-- RGN_PDK_TWIN_LIMIT with its flags: is it a limit the twin reported, are M stores handled as write-through (R76, R77)? The
twin's limit plays no part in SOLO and ALONE. While it is 0, held M stores of own sets are written through too. -/
def State.setTwinLimit (s : State) (n : Nat) (reported : Bool) : State :=
  let s := ((s.fset F.RGN_PDK_TWIN_LIMIT_VALUE n).setBit F.RGN_PDK_STATUS_M_WT (n = 0)).setBit F.RGN_PDK_STATUS_TWIN_LIM_VALID reported
  if n = 0 then s.heldToWt fun e => e.cls = .m && !e.origin.isMirrorIn else s
/-- Admit the page of the oldest held store, and every held store of that page (R72). A store whose page has entered the paddock meanwhile
needs no admission. -/
def State.admitHeld (s : State) : State :=
  match s.pers.landing.find? (·.held) with
  | none => s
  | some e =>
    let p := e.line / 64
    let inPdk := (s.page p).pdk ≠ .clean
    if !s.mayAck || (!inPdk && !s.admitOk (e.cls = .m) e.origin.isMirrorIn) then s else
    let mine := fun x : LandEntry => x.held && x.line / 64 = p
    let es := s.pers.landing.filter mine
    let s := s.noteHolds es
    let s := { s with pers := { s.pers with
      landing := s.pers.landing.map fun x => if mine x then { x with held := false, localOk := true } else x } }
    ((if inPdk then s else (s.admitPage p (e.cls = .m)).ensureFrame p true).settleAcks).stretchExit
/-- A page that has become CLEAN holds stores that the write did not carry and that are not acknowledged yet: they need admission again
(R47, R61). -/
def State.readmit (s : State) (p : Nat) (carried : List Nat) : State :=
  let late := fun e : LandEntry => e.line / 64 = p && !e.acked && e.localOk && !carried.contains e.id
  match s.pers.landing.find? late with
  | none => s
  | some e =>
    let put := fun f : LandEntry → LandEntry =>
      { s with pers := { s.pers with landing := s.pers.landing.map fun x => if late x then f x else x } }
    if s.writesThrough (e.cls = .m) e.origin.isMirrorIn then (put fun x => { x with localOk := false, wt := true, lat := none }).oweWt p
    else if s.regime ≠ .stretch && s.admitOk (e.cls = .m) e.origin.isMirrorIn then (s.admitPage p (e.cls = .m)).ensureFrame p true
    else (put fun x => { x with localOk := false, held := true, heldAt := s.now, lat := none }).noteStretch

/-! ### Requests that have not landed (R78) -/

def reqId : BiReq → Option Nat
  | .store id _ _ _ | .back id _ _ _ => some id
  | .write st => some st.id
  | _ => none
/-- Numbers of the stores received and still short of the Landing queue or their tier's write path, those sent to the twin included. -/
def State.waitingIds (s : State) : List Nat :=
  s.pers.ingress.map (·.id) ++ s.pers.holdQ.filterMap reqId ++ s.cxl.bi.filterMap (fun b => reqId b.req) ++
    s.cxl.behind.filterMap (fun b => reqId b.2) ++ s.cxl.ingress.filterMap (fun w => reqId w.req) ++
    s.rgn.psWait.filterMap (fun w => reqId w.req) ++ s.rgn.standbyQ.filterMap reqId ++
    s.twin.takeWait.filterMap reqId ++ s.twin.fwd.filterMap (fun e => reqId e.req) ++
    (match s.twin.handover with | some h => h.waiting.filterMap reqId | none => []) ++
    s.queues.flatMap fun c => c.writes.filterMap fun w => w.ack.map fun a => a.2.1

end Sys2Proof.Machine
end

