-- ==== Sys2Proof/Machine/TideOps.lean ====
section
/-! DEFINITION. Tide tables: windows, lateness, release, staging order (07_tide_tables.md R237 to R260). -/
namespace Sys2Proof.Machine

def State.table (s : State) (t : Nat) : TideTable := sget TideTable.empty s.tide t
def State.sharer (s : State) (h : Nat) : Sharer := sget Sharer.empty s.sharers h
def State.entry (s : State) (i : Nat) : TideEntry := sget TideEntry.empty s.entries i
/-- TIDE_STATUS.LIVE and ACTIVE follow the tables and sharers. -/
def State.tideCounts (s : State) : State :=
  (s.fset F.TIDE_STATUS_LIVE (s.tide.filter fun kv => kv.2.state = .live).length).fset F.TIDE_STATUS_ACTIVE
    (s.sharers.filter fun kv => kv.2.state = .active).length
/-- Write a table; a change of its state raises TIDE_TBL_STATE (R242). -/
def State.setTable (s : State) (t : Nat) (x : TideTable) : State :=
  let old := s.table t
  let s := ({ s with tide := sput TideTable.empty s.tide t x }).tideCounts
  if old.state = x.state then s else s.raise 64
def State.setSharer (s : State) (h : Nat) (x : Sharer) : State :=
  ({ s with sharers := sput Sharer.empty s.sharers h x }).tideCounts
def State.setEntry (s : State) (i : Nat) (x : TideEntry) : State := { s with entries := sput TideEntry.empty s.entries i x }

/-- Pages of an entry. -/
def TideEntry.pages (e : TideEntry) : List Nat := (List.range (e.lenM1 + 1)).map (e.page + ·)
def TideEntry.has (e : TideEntry) (p : Nat) : Bool := e.page ≤ p && p ≤ e.page + e.lenM1
/-- The window of a sharer at a step covers entry e of n (R247). -/
def inWindow (lead n step e : Nat) : Bool := (e + n - step % n) % n ≤ min lead (n - 1)
/-- ACTIVE sharers of a table that cover entry e. -/
def State.coverers (s : State) (t e : Nat) : List Sharer :=
  let x := s.table t
  (s.sharers.map (·.2)).filter fun h => h.state = .active && h.table = t && inWindow x.lead x.count h.step e
def State.covered (s : State) (t e : Nat) : Bool := !(s.coverers t e).isEmpty
/-- Steps until a covering sharer needs entry e (R249). -/
def State.urgency (s : State) (t e : Nat) : Nat :=
  let n := (s.table t).count
  (s.coverers t e).foldl (fun m h => min m ((e + n - h.step % n) % n)) n

/-- Does a page count as staged (R251)? -/
def State.countsStaged (s : State) (i p : Nat) : Bool := (s.page p).zero || (s.page p).qstg || (s.region i).quayPin
/-- An entry becomes STAGED when every page counts; LATE clears (R251, R258). DESIGN CHOICE (log 77): once STAGED it stays so until it is
released or its copy is lost, also when a store clears ZERO of one of its pages or its region leaves QUAY_PIN, on which the spec is silent. -/
def State.checkEntry (s : State) (slot : Nat) : State :=
  let e := s.entry slot
  if e.staging && !e.staged && e.pages.all (s.countsStaged e.region) then
    s.setEntry slot { e with staged := true, late := false }
  else s
/-- Look at every entry that covers a page. -/
def State.checkPage (s : State) (p : Nat) : State :=
  ((s.entries.filter fun kv => kv.2.has p).map (·.1)).foldl State.checkEntry s

/-- Take one pin off a page; a copy in progress stops when none is left (R253). -/
def State.unpin (s : State) (p : Nat) : State :=
  let w := s.page p
  let s := s.setPage p { w with tpin := w.tpin - 1 }
  if w.tpin ≤ 1 then { s with copies := s.copies.filter fun c => c.page ≠ p } else s
/-- Release an entry of a table (R253). -/
def State.releaseEntry (s : State) (t slot : Nat) : State :=
  let e := s.entry slot
  if e.staging then
    let s := s.setEntry slot { e with staging := false, staged := false, late := false }
    let x := s.table t
    let s := s.setTable t { x with used := x.used - (e.lenM1 + 1) }
    e.pages.foldl State.unpin s
  else if e.late || e.staged then s.setEntry slot { e with staged := false, late := false } else s
/-- Release every entry of a table that no window covers (R247, R253). -/
def State.retune (s : State) (t : Nat) : State :=
  let x := s.table t
  (List.range x.count).foldl (fun a e => if a.covered t e then a else a.releaseEntry t (x.first + e)) s

/-- The lateness test of a sharer whose step has become its STEP. A step value at which it was counted before sets LATE and no more
(R258; log 45). -/
def State.lateTest (s : State) (h : Nat) (hs : Sharer) : State :=
  let x := s.table hs.table
  if x.count = 0 then s else
  let i := hs.step % x.count
  let e := s.entry (x.first + i)
  if e.staged || e.void then s else
  let s := s.setEntry (x.first + i) { e with late := true }
  if hs.lateAt = some hs.step then s else
  let s := s.setSharer h { hs with lateAt := some hs.step }
  let top := x.lateCnt + 1 = 2 ^ 32 - 1
  let s := s.setTable hs.table { x with lateCnt := min (2 ^ 32 - 1) (x.lateCnt + 1), lateSat := x.lateSat || top }
  let s := if top then s.raise 72 else s
  let s := s.bump F.TIDE_LATE_CNT_VALUE F.TIDE_CNT_STATUS_LATE_SAT 69
  let s := if x.lateEv then s.raise 66 else s
  if x.lateRec && !hs.peer then
    s.record .informational (.vendor 66 2 hs.table hs.step i) (if s.gfam then s.fget (F.CXP_GFAM_HOST_GROUP hs.id) else hs.id)
  else s

/-- A sharer takes a step: window and lateness (R243, R246). -/
def State.takeStep (s : State) (h step : Nat) : State :=
  let x := { s.sharer h with state := .active, step := step, seen := s.now }
  ((s.setSharer h x).retune x.table).lateTest h x
/-- A step update (R243 to R246). -/
def State.stepUpdate (s : State) (h step : Nat) : State :=
  let x := s.sharer h
  match x.state with
  | .free => s
  | .active =>
    if newer 32 step x.step then s.takeStep h step
    else if x.step = step then s.setSharer h { x with seen := s.now } else s
  | .dormant => if newer 32 step x.step || x.step = step then s.takeStep h step else s
/-- A store that covers bytes 0 to 3 of a step line is a step update of its sharer; of the UT WRITEs, only those from the sharer's own
context (R244). -/
def State.stepStore (s : State) (line : Nat) (data : Line) (mask : BitVec 64) (peerCtx : Option Nat) : State :=
  if mask.toNat % 16 ≠ 15 then s else
  match s.sharers.find? fun kv => kv.2.state ≠ .free && kv.2.stepLine = line && (match peerCtx with
      | none => true
      | some c => kv.2.peer && kv.2.id = c) with
  | some kv => s.stepUpdate kv.1 (data.toNat % 2 ^ 32)
  | none => s
/-- A sharer becomes DORMANT (R243). -/
def State.makeDormant (s : State) (h : Nat) : State :=
  let x := s.sharer h
  if x.state = .active then ((s.setSharer h { x with state := .dormant }).retune x.table).raise 65 else s
/-- A sharer becomes FREE (R243). -/
def State.freeSharer (s : State) (h : Nat) : State :=
  let x := s.sharer h
  (s.setSharer h Sharer.empty).retune x.table
/-- A table that is FREE again. TIDE_TBL_LATE_CNT and LATE_SAT stay: only software lowers them (00 R20). DESIGN CHOICE (log 78): what its RO
fields and its entry slots read in a FREE table the spec does not say; they read 0. -/
def TideTable.freed (x : TideTable) : TideTable := { TideTable.empty with lateCnt := x.lateCnt, lateSat := x.lateSat }
/-- A LIVE table closes: its sharers and entries go, then the table (R242). -/
def State.closeTable (s : State) (t : Nat) : State :=
  let x := s.table t
  let s := s.setTable t { x with state := .closing }
  let s := ((s.sharers.filter fun kv => kv.2.table = t).map (·.1)).foldl State.freeSharer s
  let s := (List.range x.count).foldl (fun a e => (a.releaseEntry t (x.first + e)).setEntry (x.first + e) TideEntry.empty) s
  s.setTable t x.freed
/-- Table of an entry slot. -/
def State.tableOfSlot (s : State) (slot : Nat) : Option Nat :=
  (s.tide.find? fun kv => kv.2.state ≠ .free && kv.2.first ≤ slot && slot < kv.2.first + kv.2.count).map (·.1)
/-- The entries that name a region are released and set VOID (R257). -/
def State.voidRegion (s : State) (i : Nat) : State :=
  ((s.entries.filter fun kv => kv.2.region = i && !kv.2.void && (s.tableOfSlot kv.1).isSome).map (·.1)).foldl
    (fun a slot =>
      let a := a.releaseEntry ((a.tableOfSlot slot).getD 0) slot
      a.setEntry slot { a.entry slot with void := true }) s
/-- Does a tide entry that is not VOID reference a region (R257)? -/
def State.tideRefs (s : State) (i : Nat) : Bool :=
  s.entries.any fun kv => kv.2.region = i && !kv.2.void && (s.tableOfSlot kv.1).isSome
/-- Tables of a set that this unit stops owning close (R242). -/
def State.closeSet (s : State) (set : Nat) : State :=
  ((s.tide.filter fun kv => kv.2.state = .live && kv.2.rset = set).map (·.1)).foldl State.closeTable s

/-- The first entry of a table in the order of R249 that waits to begin: covered, neither STAGING, STAGED nor VOID. -/
def State.nextOf (s : State) (t : Nat) : Option Nat :=
  let x := s.table t
  if x.state ≠ .live then none else
  let want := (List.range x.count).filter fun e =>
    let y := s.entry (x.first + e)
    s.covered t e && !y.staging && !y.staged && !y.void
  want.foldl (fun m e =>
    match m with
    | none => some e
    | some o =>
      let yo := s.entry (x.first + o)
      let ye := s.entry (x.first + e)
      if ye.late && !yo.late || (ye.late = yo.late && s.urgency t e < s.urgency t o) then some e else some o) none
/-- Does it fit in its quota (R248)? -/
def State.fits (s : State) (t e : Nat) : Bool :=
  let x := s.table t
  x.used + (s.entry (x.first + e)).lenM1 + 1 ≤ x.quota
/-- The entry that staging begins next: the first of R249 among the tables' first entries that fit (R248, R249, R254). -/
def State.nextStaging (s : State) : Option (Nat × Nat) :=
  let cands := (s.tide.map (·.1)).filterMap fun t =>
    match s.nextOf t with
    | some e => if s.fits t e then some (t, e) else none
    | none => none
  cands.foldl (fun m c =>
    match m with
    | none => some c
    | some o =>
      let yo := s.entry ((s.table o.1).first + o.2)
      let yc := s.entry ((s.table c.1).first + c.2)
      if yc.late && !yo.late || (yc.late = yo.late && s.urgency c.1 c.2 < s.urgency o.1 o.2) then some c else some o) none

end Sys2Proof.Machine
end

