-- ==== Sys2Proof/Machine/HostPath.lean ====
section
/-! DEFINITION. The host paths: the snoop filter and back-invalidates (04 R150 to R157), reads (05 R188 to R203) and stores (05 R191, R192), shared by host requests, UT placement and mailbox stores. -/
namespace Sys2Proof.Machine

/-! ### The snoop filter -/

def State.sfFind (s : State) (line : Nat) : Option SfEntry := s.cxl.sf.find? fun e => e.line = line
/-- Replace the filter; CXP_SF_STATUS.USED counts its entries, and the page's SF bit follows (03 R107). -/
def State.setFilter (s : State) (sf : List SfEntry) (p : Nat) : State :=
  let s := ({ s with cxl := { s.cxl with sf := sf } }).fset F.CXP_SF_STATUS_USED sf.length
  s.setSf p (sf.any fun e => e.line / 64 = p)
/-- Change an entry, or drop it when no holder is left. -/
def State.sfUpdate (s : State) (line : Nat) (f : SfEntry → Option SfEntry) : State :=
  s.setFilter (s.cxl.sf.filterMap fun e => if e.line = line then f e else some e) (line / 64)
/-- A holder goes from an entry. -/
def SfEntry.drop (e : SfEntry) (h : Nat) : Option SfEntry :=
  if e.many then some e
  else match e.holders.filter (· ≠ h) with
    | [] => none
    | hs => some { e with holders := hs }
/-- A holder joins an entry: more than four sets MANY (R150). -/
def SfEntry.join (e : SfEntry) (h : Nat) (st : SfState) : SfEntry :=
  if e.many then { e with state := st }
  else if e.holders.contains h then { e with state := st }
  else if e.holders.length < 4 then { e with state := st, holders := e.holders ++ [h] }
  else { e with state := st, many := true, holders := [] }
/-- The 8 B of an entry (R150); an unused HOLDER repeats HOLDER0. -/
def SfEntry.word (e : SfEntry) : Nat :=
  let h := fun k : Nat => e.holders.getD k (e.holders.getD 0 0) % 1024
  e.line / 2 ^ 21 * 2 ^ 43 + (match e.state with | .shared => 1 | .exclusive => 2 | .backInv => 3) * 2 ^ 41 +
    (if e.many then 2 ^ 40 else 0) + h 3 * 2 ^ 30 + h 2 * 2 ^ 20 + h 1 * 2 ^ 10 + h 0
/-- The entry that 8 B at way `way` of a set mean; none where STATE is invalid (R150). -/
def SfEntry.ofWord (set way w : Nat) : Option SfEntry :=
  let h := fun k : Nat => w / 2 ^ (10 * k) % 1024
  let many : Bool := w / 2 ^ 40 % 2 = 1
  let hs := (List.range 4).foldl (fun (l : List Nat) k => if l.contains (h k) then l else l ++ [h k]) []
  let mk := fun st : SfState => some (⟨w / 2 ^ 43 % 2 ^ 21 * 2 ^ 21 + set, st, many, if many then [] else hs, way⟩ : SfEntry)
  match w / 2 ^ 41 % 4 with
  | 1 => mk .shared
  | 2 => mk .exclusive
  | 3 => mk .backInv
  | _ => none
/-- The 64 B at line `n` of the filter's 256 MiB of the Quay: half a set. -/
def State.sfLine (s : State) (n : Nat) : Line :=
  BitVec.ofNat 512 ((s.cxl.sf.filter fun e => e.line % 2 ^ 21 = n / 2 && e.way / 8 = n % 2).map fun e => e.word * 2 ^ (64 * (e.way % 8))).sum
/-- A store to those bytes changes the entries that they are (R150). -/
def State.sfPutLine (s : State) (n : Nat) (l : Line) : State :=
  (List.range 8).foldl (fun (a : State) k =>
    let way := n % 2 * 8 + k
    let here := fun e : SfEntry => e.line % 2 ^ 21 = n / 2 && e.way = way
    let w := l.toNat / 2 ^ (64 * k) % 2 ^ 64
    let old := a.cxl.sf.find? here
    if (match old with | some e => e.word | none => 0) = w then a else
    let a := match old with
      | some e => a.setFilter (a.cxl.sf.filter fun e => !here e) (e.line / 64)
      | none => a
    match SfEntry.ofWord (n / 2) way w with
    | some e => a.setFilter (a.cxl.sf ++ [e]) (e.line / 64)
    | none => a) s
/-- Does the entry of a line name its holders: neither MANY nor in a degraded set (R152; 10 R383)? -/
def State.sfNamed (s : State) (line : Nat) : Bool :=
  !s.integ.degraded.contains (line % 2 ^ 21) && match s.sfFind line with | some e => !e.many | none => true
/-- Holders of a line that a snoop must reach; MANY and degraded sets reach every host that sees the region (R152; 10 R383). -/
def State.holdersOf (s : State) (line : Nat) (r : Region) : List Nat :=
  if !s.sfNamed line then s.hostsOf r else match s.sfFind line with | some e => e.holders | none => []
/-- Those other than the requester. -/
def State.others (s : State) (line : Nat) (r : Region) (self : Option Nat) : List Nat :=
  (s.holdersOf line r).filter fun h => some h ≠ self
/-- Those that a store snoops: with the holders not named, every host, the storing one too (R152). -/
def State.storeSnoops (s : State) (line : Nat) (r : Region) (self : Option Nat) : List Nat :=
  if s.sfNamed line then s.others line r self else s.holdersOf line r
/-- The entries of a line's set, allocated longest ago first. -/
def State.sfSet (s : State) (line : Nat) : List SfEntry := s.cxl.sf.filter fun e => e.line % 2 ^ 21 = line % 2 ^ 21
/-- The oldest of a full set's 16 ways (R154). -/
def State.victim (s : State) (line : Nat) : Option SfEntry :=
  match s.sfSet line with
  | e :: es => if (e :: es).length < 16 then none else some e
  | [] => none
/-- The lowest way of a set that no entry but `without` takes. DESIGN CHOICE (log 33): which of several invalid ways an entry takes no rule says. -/
def State.freeWay (s : State) (line : Nat) (without : Option Nat) : Nat :=
  ((List.range 16).find? fun w => !(s.sfSet line).any fun e => e.way = w && some e.line ≠ without).getD 0
/-- The filter access of a request: the Quay memory time of its set, for an SHR line (05 R197). -/
def State.filterAccess (s : State) (line : Nat) (r : Region) : Nat × State := if r.shr then s.quayAccess (sfQa line) else (0, s)
/-- Is a back-invalidate of a line in progress (R155)? -/
def State.biBusy (s : State) (line : Nat) : Bool := s.cxl.bi.any fun b => b.line = line

/-- Head on which a holder is snooped. DESIGN CHOICE (log 81): the lowest ACTIVE head of the LD's group, or in G-FAM the lowest ACTIVE head;
no rule names one. -/
def State.snoopHead (s : State) (holder : Nat) : Option Nat :=
  (List.range 16).find? fun h => s.linkState h = 4 && (s.gfam || s.groupHead h = holder / 4)
/-- The snoops of one back-invalidate: each port sends one per 4 CORE cycles, ports in parallel (05 R200, R201); `due` is when the first may
have left. -/
def State.sendSnoops (s : State) (due line : Nat) (inv : Bool) : List Nat → State
  | [] => s
  | h :: hs =>
    let s := match s.snoopHead h with
      | none => s
      | some head =>
        let last := (s.cxl.leaving.filter fun x : Leaving => x.port = head / 4 && match x.out with | some (.bisnp _ _ _) => true | _ => false).foldl
          (fun (m : Nat) (x : Leaving) => max m (x.due + 4)) due
        s.leaveAt ⟨head / 4, false, false, head, h, s.now, last, some (.bisnp h line inv)⟩
    s.sendSnoops due line inv hs
/-- The last snoop of a line among what leaves. -/
def State.lastSnoop (s : State) (line : Nat) : Nat :=
  (s.cxl.leaving.filter fun x : Leaving => match x.out with | some (.bisnp _ l _) => l = line | _ => false).foldl (fun (m : Nat) (x : Leaving) => max m x.due) s.now
/-- Time at which a request's first snoop has left: 30 CORE cycles after the filter's decision (05 R200). -/
def State.snoopDue (s : State) (filter : Nat) : BiReq → Nat
  | .read run r => s.dueOf run (s.onHead r.head { core := 36 + 10 + 18 + 30, hbm := filter, phiIn := 1, phiOut := 1 })
  | .store _ run _ st | .back _ run _ st => s.dueOf run (s.onHead st.head { core := 36 + 10 + 18 + 30, hbm := filter, phiIn := 1, phiOut := 1 })
  | _ => s.now + 48 + hbmCore filter
/-- Send the snoops of a line and let a request wait for their answers (R152 to R155). -/
def State.startBi (s : State) (line : Nat) (hs : List Nat) (inv evict : Bool) (filter : Nat) (req : BiReq) : State :=
  let s := (s.sendSnoops (s.snoopDue filter req) line inv hs).bothPhases
  let s := s.sfUpdate line fun e => some { e with state := .backInv }
  { s with cxl := { s.cxl with bi := s.cxl.bi ++ [⟨line, hs, [], inv, evict, req, s.lastSnoop line⟩] } }
/-- A request waits behind a back-invalidate of a line: its own, or its victim's (R154, R155). -/
def State.waitBehind (s : State) (line : Nat) (req : BiReq) : State :=
  { s with cxl := { s.cxl with behind := s.cxl.behind ++ [(line, req)] } }
/-- Sweep a page after a take-over: every line of it is snooped at every host that sees the region; SF and the mark clear (12 R482). -/
def State.sweepPage (s : State) (p : Nat) : State :=
  match s.regionAt p with
  | none => { s with twin := { s.twin with unswept := s.twin.unswept.filter (· ≠ p) } }
  | some i =>
    let hs := s.hostsOf (s.region i)
    let s := { s with twin := { s.twin with unswept := s.twin.unswept.filter (· ≠ p) } }
    let s := (List.range 64).foldl (fun a k => if hs.isEmpty then a else a.startBi (64 * p + k) hs true false 0 .sweep) s
    let s := s.setSf p false
    if s.twin.unswept.isEmpty then s.setBit F.TWN_STATUS_REBUILD false else s
/-- A request meets an unswept page: the page is swept first (12 R482). -/
def State.sweepFirst (s : State) (p : Nat) (r : Region) : State := if s.twin.unswept.contains p && r.shr then s.sweepPage p else s

/-! ### Waiting requests -/

/-- A request that goes on at `now` after a wait, `done` CORE cycles of its path behind it. -/
def BiReq.after (now done : Nat) : BiReq → BiReq
  | .read run r => .read (run.after now done) r
  | .store id run a st => .store id (run.after now done) a st
  | .back id run a st => .back id (run.after now done) a st
  | .write st => .write { st with lat := none, ready := max now st.ready }
  | .core k line run tc => .core k line (run.after now done) tc
  | q => q
/-- A request that has taken the page-state fetch it waited for: after the fetch's own cycles its path goes on as stated (05 R184). -/
def BiReq.fetched (now : Nat) (f : Lat) (done : Nat) : BiReq → BiReq
  | .read run r => .read { run with from_ := now, done := done, fetch := f } r
  | .store id run a st => .store id { run with from_ := now, done := done, fetch := f } a st
  | .back id run a st => .back id { run with from_ := now, done := done, fetch := f } a st
  | .core k line run tc => .core k line { run with from_ := now, done := done, fetch := f } tc
  | q => q
/-- A request waits for its page-state word (05 R184), or for the restore or fetch of its page (08 R308). -/
def State.waitPage (s : State) (p line : Nat) (req : BiReq) : State :=
  { s with rgn := { s.rgn with psWait := s.rgn.psWait ++ [⟨p, line, req⟩] } }
/-- Does an earlier request to a line wait for its page (05 R205)? -/
def State.lineWaits (s : State) (line : Nat) : Bool := s.rgn.psWait.any fun w => w.line = line
/-- Is a page's word in the Yard (05 R184; 03 R110)? -/
def State.inYard (s : State) (p : Nat) : Bool := sget 0 s.rgn.yard p ≠ 0
/-- Must a request wait before its lookup ends: for its page's word, or behind an earlier one of its line? -/
def State.mustWait (s : State) (line : Nat) : Bool := !s.inYard (line / 64) || s.lineWaits line
/-- Is a read of a line parked behind a recovery (10 R376; 07 R262), or because its page is to be re-homed (10 R380)? -/
def State.parked (s : State) (line : Nat) : Bool :=
  (s.integ.recov.any fun r => r.parks && (r.line = line || ((r.shared || r.whole) && r.page = line / 64))) ||
    (s.homeLost (line / 64) && (s.page (line / 64)).d && !(s.page (line / 64)).q && !(s.page (line / 64)).qstg && !s.fullLanding line)
/-- A store accepted before HOLD waits for its end (04 R170). -/
def State.holdStore (s : State) (req : BiReq) : State := { s with pers := { s.pers with holdQ := s.pers.holdQ ++ [req] } }

/-! ### Stores past their lookup -/

def selfOf : Origin → Option Nat
  | .host _ h _ => some h
  | _ => none
def ctxOf : Origin → Option Nat
  | .peer _ c _ _ => some c
  | _ => none
/-- Is a store of a class and origin handled as write-through if it is accepted now (01 R44; 02 R76, R82)? -/
def State.wtFor (s : State) (cls : Dur) (mirrorIn : Bool) : Bool :=
  match cls with
  | .v => false
  | .l => s.acceptNow.wtL
  | .m => if mirrorIn then s.acceptNow.wtL else s.acceptNow.wtM
/-- A store that arrives now from elsewhere than a host port. -/
def State.ingressStore (s : State) (id line : Nat) (data : Line) (mask : BitVec 64) (region : Nat) (o : Origin) (poison : Bool) : IngressStore :=
  let cls := (s.region region).dur
  ⟨id, line, data, mask, region, cls, s.now, o, poison, s.wtFor cls o.isMirrorIn, none, s.now⟩

/-- A store past its lookup: back-invalidate, the page's restore or fetch, then its class's path (04 R152; 05 R191, R192). -/
def State.writeLine (s : State) (st : IngressStore) (snooped : Bool) (filter : Nat) (req : BiReq) : State :=
  let p := st.line / 64
  let r := s.region st.region
  if s.inHold then s.holdStore req else
  let s := if snooped then s else s.sweepFirst p r
  if s.biBusy st.line && !snooped then s.waitBehind st.line req
  else
    let others := if r.shr && !snooped then s.storeSnoops st.line r (selfOf st.origin) else []
    if !others.isEmpty then s.startBi st.line others true false filter (.write { st with lat := none })
    else if s.pageAway p (st.cls = .v) then
      (if (s.page p).restorePending then s.startRestore p st.origin.tclass
        else if s.homeLost p then s else s.startFetch p .fetch st.origin.tclass).waitPage p st.line req
    else if st.cls = .v then
      ((s.touch p).storeV st).stepStore st.line st.data st.mask (ctxOf st.origin)
    else (s.touch p).landStore st

/-! ### Answers to reads -/

/-- Answer a forwarded read (13 R533); KIND 3 when the set is not served here. -/
def State.answerFwd (s : State) (tag : Nat) (d : Option (Option Line)) : State :=
  let h := { hdrOf 0x14 1 with msn := tag }
  match d with
  | none => let pl := fwdRespBytes 3 tag false none; s.twinSend { h with len := pl.length } pl none
  | some (some d) => let pl := fwdRespBytes 1 tag false (some d); s.twinSend { h with len := pl.length } pl none
  | some none =>
    let r := s.free (2 ^ 512)
    let pl := fwdRespBytes 1 tag true (some (BitVec.ofNat 512 r.1))
    r.2.twinSend { h with len := pl.length } pl none
/-- A line of a READ is at hand; `mem` is the memory time of its source where it has waited for nothing. -/
def State.gotLine (s : State) (id line : Nat) (d : Option Line) (mem : Option Lat) : State :=
  let f := fun o : PeerOp => if o.id = id then
      { o with left := o.left.filter (· ≠ line), got := o.got ++ [(line, d)],
               lat := match o.lat, mem with | some l, some m => some { l with ddr := l.ddr + m.ddr, hbm := l.hbm + m.hbm } | _, _ => none }
    else o
  { s with ute := { s.ute with ops := s.ute.ops.map f } }
/-- A DLA's core address is 2^48 above it (15 R568). -/
def dlaWindow : Nat := 0x0001000000000000
/-- Line `n` of a core's addresses has come, by a path of stated length where `lat` gives one: for the access that blocks it, and for a
prefetch in flight. -/
def State.coreGotAt (s : State) (k n : Nat) (d : Option Line) (lat : Option Lat) : State :=
  let c := sget Core.empty s.ccx.cores k
  let w := match c.wait with
    | some w => some (if w.line = n && w.got.isNone then { w with got := some d, lat := lat } else w)
    | none => none
  let c' : Core := { c with wait := w, side := c.side.map fun x : SideLine => if x.line = n && x.data.isNone then { x with data := d } else x }
  { s with ccx := { s.ccx with cores := sput Core.empty s.ccx.cores k c' } }
/-- Time of an access of core k to a memory outside its local one (15 R571), beside the memory time. -/
def coreMemLat (k : Nat) : Lat := if k = 8 then { sup := 18, core := 28 } else { svc := 24, core := 28 }
/-- A line of the DLA has come for a core; `mem` is its memory time where it has waited for nothing: the lookup and the page-state fetch that
it took add their steps (15 R571). -/
def State.coreGot (s : State) (k line : Nat) (d : Option Line) (run : Run) (mem : Option Lat) : State :=
  let lat := match mem with
    | some m => if run.exact then some (((coreMemLat k).add { ddr := m.ddr, hbm := m.hbm, core := 14 }).add { core := run.fetch.core }) else none
    | none => none
  s.coreGotAt k (dlaWindow / 64 + line) d lat
/-- The data of a line goes to who asked for it, by its path `l` from pins to pins, `straight` where it waited for nothing; none where it is
poisoned. -/
def State.give (s : State) (req : BiReq) (line : Nat) (l : Lat) (straight : Bool) (d : Option Line) : State :=
  match req with
  | .read run r => match d with | some x => s.sendDrs r run l x false | none => s.sendPoison r run l
  | .fwd _ tag _ _ _ _ => s.answerFwd tag (some d)
  | .peer id _ => s.gotLine id line d (if straight then some l else none)
  | .core k _ run _ => s.coreGot k line d run (if straight then some l else none)
  | _ => s
/-- The data of a line as a read sees it now. -/
def State.readLine (s : State) (line : Nat) : Option Line := if s.poisonNow line then none else some (s.lineNow line)
/-- The data of a line for a read that waited. -/
def State.readCap (s : State) (line : Nat) (c : Cap) : Option Line := if s.capPoison line c then none else some (s.capLine line c)

/-! ### Reads past their lookup (05 R188 to R190, R198, R202) -/

/-- The path of a read from a memory: an SHR line waits for its filter access too (05 R198); after a page-state fetch issue no longer
overlaps the lookup (05 R185). -/
def State.memPath (s : State) (run : Run) (shr : Bool) (mem : Lat) (filter : Nat) : Lat :=
  let l : Lat := if shr && 10 + s.ddrCore mem.ddr + hbmCore mem.hbm < hbmCore filter + 18 then { core := 104, hbm := filter, phiIn := 1, phiOut := 1 }
    else { mem with core := 96, phiIn := 1, phiOut := 1 }
  if run.fetch = {} then l else let m := l.add run.fetch; { m with core := m.core + 4 }
/-- The path of a read whose data the controller has itself, `core` cycles in all; an SHR line waits for its filter access, of at least 62
cycles, which is longer (05 R198). -/
def corePath (run : Run) (shr : Bool) (core filter : Nat) : Lat :=
  (if shr then ({ core := 98, hbm := filter, phiIn := 1, phiOut := 1 } : Lat) else { core := core, phiIn := 1, phiOut := 1 }).add run.fetch
/-- How far a request has come; one that is not a host's has none. -/
def BiReq.run (now : Nat) : BiReq → Run
  | .read run _ => run
  | .store _ run _ _ | .back _ run _ _ => run
  | .core _ _ run _ => run
  | _ => Run.start now
/-- The access that the lookup's checks cancel: it has been issued, in the lookup's 11th cycle, to the frame that a word in the Yard names
(05 R185). DEDUCED (log 82): it opens its row as any access does. The slot it holds is free once both its data has arrived and the
response has left (06 R225): the later of the two keeps it. -/
def State.cancelled (s : State) (req : BiReq) (line due : Nat) : State :=
  match req with
  | .read run r =>
    let p := line / 64
    let w := s.page p
    if run.fetch ≠ {} || !run.exact then s else
    if !w.q && !w.qstg && (!s.dValid p || s.frameOf p = 0) then s else
    let a : Nat × State :=
      if w.q || w.qstg then
        let x := s.quayAccess ((if w.q then sget 0 s.quay.hotQa p else sget 0 s.quay.stgQa p) - 1 + line % 64 * 64)
        (hbmCore x.1, x.2)
      else let x := s.dramAccess ((s.frameOf p - 1) * 4096 + line % 64 * 64); (s.ddrCore x.1, x.2)
    let s := a.2
    let arrives := run.since + 56 + a.1
    if arrives ≤ due then s
    else s.leaveAt ⟨r.head / 4, true, false, r.head, (s.holderOf r.head r.ld r.pbr).getD 0, run.since, arrives, none⟩
  | _ => s
/-- Answer from the Landing queue or with a page's zeros: the access already issued is cancelled. -/
def State.giveOwn (s : State) (req : BiReq) (line : Nat) (shr : Bool) (core filter : Nat) : State :=
  let l := corePath (req.run s.now) shr core filter
  let due := match req with | .read run r => s.dueOf run (s.onHead r.head l) | _ => s.now
  let straight := match req with | .core .. => false | _ => true
  (s.cancelled req line due).give req line l straight (s.readLine line)
/-- A read waits for its page from flash, or for a recovery (05 R202, R203; 10 R376). -/
def State.waitData (s : State) (line : Nat) (req : BiReq) : State :=
  { s with rgn := { s.rgn with waits := s.rgn.waits ++ [(⟨line / 64, line, req, s.capture line⟩ : WaitRead)] } }
/-- Serve a read from the first source that holds its line (05 R188). An access that cannot be picked at once waits in its queue
(09 R321, R322, R354; 05 R209). -/
def State.serveRead (s : State) (req : BiReq) (line : Nat) (shr : Bool) (filter : Nat) : State :=
  let p := line / 64
  let w := s.page p
  let s := s.touch p
  let run := req.run s.now
  let mem := fun addr : Nat =>
    if s.readAtOnce addr then
      let a := s.access addr
      a.2.give req line (a.2.memPath run shr a.1 filter) true (a.2.readLine line)
    else s.queueRead ⟨addr, line, req, s.capture line, if shr then filter else 0, req.tclass, 0⟩
  if s.fullLanding line then s.giveOwn req line shr 90 filter
  else if w.q then mem (hotAddr (sget 0 s.quay.hotQa p) line)
  else if w.qstg then mem (hotAddr (sget 0 s.quay.stgQa p) line)
  else if s.dValid p then mem ((s.frameOf p - 1) * 4096 + line % 64 * 64)
  else if w.zero then s.giveOwn req line shr 84 filter
  else if w.restorePending then (s.startRestore p req.tclass).waitData line req
  else (s.startFetch p .fetch req.tclass).waitData line req
/-- A queued read has been picked: its data comes after its memory time `mem` (09 R322). Egress from memory is all that is left of its
path. -/
def State.serveQueued (s : State) (x : DmcRead) (mem : Lat) : State :=
  let run := x.req.run s.now
  let l := s.memPath run (x.filter ≠ 0) mem x.filter
  let req := match x.req with
    | .read run r =>
      let n := s.latCore (s.onHead r.head l)
      .read (run.after s.now (n - (s.latCore mem + 40 + s.egressExtra r.head))) r
    | q => q
  s.give req x.line l false (s.readCap x.line x.cap)

/-- The filter's part of a read: back-invalidate, eviction of the oldest way, or the entry's update before the data response (04 R151,
R153, R154). True when the read may go on; `req` is the read itself, run again after a snoop. -/
def State.filterRead (s : State) (cacheable excl : Bool) (req : BiReq) (line : Nat) (rg : Region) (holder filter : Nat) : Bool × State :=
  if !rg.shr || !cacheable && !excl then (true, s) else
  let others := s.others line rg (some holder)
  let exclHeld := match s.sfFind line with | some e => e.state = .exclusive | none => false
  if excl && !others.isEmpty then (false, s.startBi line others true false filter req)
  else if !excl && exclHeld && !others.isEmpty then (false, s.startBi line others false false filter req)
  else
    let st : SfState := if excl then .exclusive else .shared
    match s.sfFind line with
    | some _ => (true, s.sfUpdate line fun e => some (e.join holder st))
    | none =>
      match s.victim line with
      | some v =>
        let hs := s.holdersOf v.line (match s.regionAt (v.line / 64) with | some k => s.region k | none => rg)
        if hs.isEmpty then
          (true, ((s.sfUpdate v.line fun _ => none).setFilter
            ((s.cxl.sf.filter fun e => e.line ≠ v.line) ++ [⟨line, st, false, [holder], v.way⟩]) (line / 64)))
        else if s.biBusy v.line then (false, s.waitBehind v.line req)
        else (false, s.startBi v.line hs true true filter req)
      | none => (true, s.setFilter (s.cxl.sf ++ [⟨line, st, false, [holder], s.freeWay line none⟩]) (line / 64))

/-- Requests wait for the sets of a planned handover (12 R479 step 1), and for sets an ordinary CLAIM of this unit has taken until
it begins to act on them (12 R468). -/
def State.handed (s : State) (set : Nat) : Bool :=
  (match s.twin.handover with | some h => h.sets.getLsbD set | none => false) ||
    (match s.twin.taking with | some t => !t.alone && t.sets.getLsbD set | none => false)
def State.handWait (s : State) (req : BiReq) : State :=
  match s.twin.handover with
  | some h => { s with twin := { s.twin with handover := some { h with waiting := h.waiting ++ [req] } } }
  | none => { s with twin := { s.twin with takeWait := s.twin.takeWait ++ [req] } }
/-- A read of a line that is served here, from its lookup on: the line's order, its page's word, the snoop filter, a recovery, its source
(04 R151 to R155; 05 R184, R188, R205; 10 R376). `want` is what a host asks the filter for: cacheable, exclusive, holder. -/
def State.readOn (s : State) (req : BiReq) (line : Nat) (rg : Region) (want : Option (Bool × Bool × Nat)) : State :=
  let s := s.sweepFirst (line / 64) rg
  if s.biBusy line then s.waitBehind line req
  else if s.mustWait line then s.waitPage (line / 64) line req
  else
    let fa := s.filterAccess line rg
    let f := match want with
      | some (c, e, h) => fa.2.filterRead c e req line rg h fa.1
      | none => (true, fa.2)
    if !f.1 then f.2
    else if f.2.parked line then f.2.waitData line req
    else f.2.serveRead req line rg.shr fa.1
/-- A forwarded read at the owner (12 R447). -/
def State.runFwd (s : State) (time tag line holder : Nat) (cacheable excl : Bool) : State :=
  let req := BiReq.fwd time tag line holder cacheable excl
  match s.regionAt (line / 64) with
  | none => s.answerFwd tag none
  | some i =>
    let rg := s.region i
    if rg.dur = .m && s.handed rg.rset then s.handWait req
    else if !(rg.served && s.servesRead rg) then s.answerFwd tag none
    else s.readOn req line rg (some (cacheable, excl, holder))

/-! ### Lines that UT peers read and change (13 R518, R519) -/

/-- The header of an answer to a packet: ECHO_TIME returns its TX_TIME; RESIDENCE is a measured time the spec only bounds: a free
value (13 R499; log 28). -/
def State.answerHdr (s : State) (h : UtHdr) (op : Nat) : UtHdr × State :=
  let r := s.free (2 ^ 32)
  ({ hdrOf op 1 with srcCtx := h.dstCtx, dstNode := h.srcNode, dstCtx := h.srcCtx, msn := h.msn, pkt := h.pkt, npktM1 := h.npktM1,
                     path := h.path, berth := h.berth, gen := h.gen, echoTime := h.txTime, residence := r.1 }, r.2)
/-- ATOMIC_RESP with the old value, or with POISON (13 R518). -/
def State.atomicResp (s : State) (link : Nat) (h : UtHdr) (old : BitVec 64) (poison : Bool) : State :=
  let a := s.answerHdr h 0x06
  a.2.utSend link { a.1 with len := 8, poison := poison, pmask := if poison then 1 else 0 } (natBytes 8 old.toNat) none
/-- Change the MCT entry of a packet (13 R516). -/
def State.setMct (s : State) (ctx : Nat) (h : UtHdr) (f : MctEntry → MctEntry) : State :=
  let g := fun e : MctEntry => if e.ctx = ctx && e.node = h.srcNode && e.srcCtx = h.srcCtx && e.msn = h.msn then f e else e
  { s with ute := { s.ute with mct := s.ute.mct.map g } }
def State.dropOp (s : State) (id : Nat) : State :=
  { s with ute := { s.ute with ops := s.ute.ops.filter fun o => o.id ≠ id } }
/-- The read-modify-write of an atomic, its line at hand (13 R518). -/
def State.doAtomic (s : State) (o : PeerOp) (line region : Nat) : State :=
  let s := s.dropOp o.id
  match s.readLine line with
  | none =>
    let s := s.setMct o.ctx o.hdr fun e => { e with complete := true, poison := true, since := s.now }
    s.atomicResp o.link o.hdr 0 true
  | some d =>
    let sh := o.dla % 64
    let old := BitVec.ofNat 64 (d.toNat >>> (8 * sh))
    let new := if o.hdr.op = 4 then old + o.opnd1 else if old = o.opnd1 then o.opnd2 else old
    let n := s.newId
    let s := n.2.setMct o.ctx o.hdr fun e => { e with data := old }
    let pl : Placing := ⟨o.ctx, o.hdr.srcNode, o.hdr.srcCtx, o.hdr.msn, o.hdr.pkt, [n.1], o.hdr, o.link, s.now, none⟩
    let s := { s with ute := { s.ute with placing := s.ute.placing ++ [pl] } }
    let st := s.ingressStore n.1 line (BitVec.ofNat 512 (new.toNat <<< (8 * sh))) (BitVec.ofNat 64 (255 <<< sh)) region
      (.peer o.hdr.srcNode o.ctx o.hdr.msn o.hdr.pkt) false
    s.writeLine st true 0 (.write st)
/-- An atomic on a set that the twin owns has no forwarded form (13 R533): the peer is told to retry (log 30). -/
def State.retryAtomic (s : State) (o : PeerOp) : State :=
  let s := s.dropOp o.id
  let s := { s with ute := { s.ute with mct := s.ute.mct.filter fun e =>
    !(e.ctx = o.ctx && e.node = o.hdr.srcNode && e.srcCtx = o.hdr.srcCtx && e.msn = o.hdr.msn) } }
  let a := s.answerHdr o.hdr 0x09
  let s := a.2.bumpAt F.UTE_NACK_TX_CNT_VALUE F.UTE_CNT_STATUS_SAT 1 110
  s.utSend o.link { a.1 with code := 1, residence := max 1 (s.fget F.UTE_SHED_CTRL_RETRY) } [] none
/-- An atomic that is served here: it reads and writes its line in one go, so it waits for everything that a read and a store wait for;
later requests to the line wait behind it. -/
def State.atomicOn (s : State) (o : PeerOp) (line i : Nat) : State :=
  let p := line / 64
  let req := BiReq.peer o.id line
  let rg := s.region i
  let s := s.sweepFirst p rg
  if s.biBusy line then s.waitBehind line req
  else if s.mustWait line || s.parked line then s.waitPage p line req
  else
    let fa := s.filterAccess line rg
    let s := fa.2
    let w := s.page p
    let others := if rg.shr then s.storeSnoops line rg none else []
    if w.restorePending then (s.startRestore p .c3).waitPage p line req
    else if w.f && !w.q && !w.qstg && !s.dValid p && !s.fullLanding line then (s.startFetch p .fetch .c3).waitPage p line req
    else if !w.q && !w.qstg && s.dValid p && s.dramBusy then s.waitPage p line req
    else if !others.isEmpty then s.startBi line others true false fa.1 req
    else (s.touch p).doAtomic o line i
/-- A line of a peer's operation (05 R184, R188; 04 R152, R155; 12 R446). -/
def State.peerLine (s : State) (id line : Nat) : State :=
  match s.ute.ops.find? fun o => o.id = id with
  | none => s
  | some o =>
    let req := BiReq.peer id line
    match s.regionAt (line / 64) with
    | none => if o.atomic then s.retryAtomic o else s.gotLine id line none none
    | some i =>
      let rg := s.region i
      if rg.dur = .m && s.handed rg.rset then s.handWait req
      else if !(if o.atomic then s.servesStore rg else s.servesRead rg) then
        (if o.atomic then s.retryAtomic o else s.forward rg.rset line req)
      else if o.atomic then (if s.inHold then s.holdStore req else s.atomicOn o line i)
      else s.readOn req line rg none

/-! ### Lines that cores read (15 R570, R573, R576) -/

/-- A line of the DLA for a core: an access of the region that holds it, which sees every region, of the class of the core's work item. -/
def State.coreLine (s : State) (k line : Nat) (run : Run) (tc : TClass) : State :=
  let req := BiReq.core k line run tc
  match s.regionAt (line / 64) with
  | none => s.countUnmapped.coreGot k line none run none
  | some i =>
    let rg := s.region i
    if !rg.served then s.countUnmapped.coreGot k line none run none
    else if rg.dur = .m && s.handed rg.rset then s.handWait req
    else if !s.servesRead rg then s.forward rg.rset line req
    else s.readOn req line rg none

/-! ### Host requests from their lookup on -/

/-- The context whose doorbell page a request of the G-FAM aperture names, with the offset of its line and the requester (19 R694, R695). -/
def State.aperture (s : State) (head ld pbr addr : Nat) : Option (Nat × Nat × Nat) :=
  if !s.gfam then none else
  match s.holderOf head ld pbr with
  | none => none
  | some host =>
    match (s.decodersOf host).find? (decCovers · addr) with
    | none => none
    | some d =>
      let a := decDla d addr
      if 0xFFFFF0000000 ≤ a && a < 0xFFFFF1000000 then some ((a - 0xFFFFF0000000) / 256, a % 256 / 64 * 64, host) else none
/-- A request of the aperture goes to its doorbell page. -/
def State.toDoorbell (s : State) (req : BiReq) : State := { s with cxl := { s.cxl with doorbells := s.cxl.doorbells ++ [req] } }

/-- A read (04 R139 to R155; 12 R446; 05 R184). -/
def State.runRead (s : State) (run : Run) (r : HostRead) : State :=
  if (s.aperture r.head r.ld r.pbr r.addr).isSome then s.toDoorbell (.read run r) else
  match s.locate r.head r.ld r.pbr r.addr with
  | .unmapped at_ =>
    let l : Lat := { core := 84, phiIn := 1, phiOut := 1 }
    let s := s.countUnmapped
    let s := match at_ with
      | some line => s.cancelled (.read run r) line (s.dueOf run (s.onHead r.head l))
      | none => s
    s.sendPoison r run l
  | .line line i holder =>
    let rg := s.region i
    if rg.dur = .m && s.handed rg.rset then s.handWait (.read run r)
    else if !s.servesRead rg then s.forward rg.rset line (.read run r)
    else s.readOn (.read run r) line rg (some (r.cacheable, r.excl, holder))

/-- The path of a host store past its lookup (05 R191 to R193, R199). -/
def storePath (run : Run) (rg : Region) (filter : Nat) : Lat :=
  let l : Lat := if rg.shr then { core := 36 + 10 + 18 + 10, hbm := filter, phiIn := 1 } else { core := if rg.dur = .v then 69 else 71, phiIn := 1 }
  l.add run.fetch
/-- A host store past its lookup, as it goes on towards its tier: with its path where it has waited for nothing. -/
def State.storeOf (s : State) (id : Nat) (run : Run) (acc : Accept) (st : HostStore) (line i holder filter : Nat) : IngressStore :=
  let rg := s.region i
  let l := s.onHead st.head (storePath run rg filter)
  { id := id, line := line, data := st.data, mask := st.mask, region := i, cls := rg.dur, time := run.since,
    origin := if run.dead then .discarded else .host st.head holder st.tag, poison := st.poison,
    wt := match rg.dur with | .v => false | .l => acc.wtL | .m => acc.wtM,
    lat := if run.exact then some l else none,
    ready := s.dueOf run l - (10 + s.egressExtra st.head) }
/-- A store (04 R152, R162; 05 R191 to R193; 12 R446). -/
def State.runStore (s : State) (id : Nat) (run : Run) (acc : Accept) (st : HostStore) : State :=
  let req := BiReq.store id run acc st
  if s.inHold then s.holdStore req else
  if (s.aperture st.head st.ld st.pbr st.addr).isSome then s.toDoorbell req else
  match s.locate st.head st.ld st.pbr st.addr with
  | .unmapped _ => s.countUnmapped.sendPlainNdr st run
  | .line line i holder =>
    let rg := s.region i
    if rg.dur = .m && s.handed rg.rset then s.handWait req
    else if !s.servesStore rg then s.forward rg.rset line req
    else if s.mustWait line then s.waitPage (line / 64) line req
    else
      let fa := s.filterAccess line rg
      fa.2.bothPhases.writeLine (fa.2.storeOf id run acc st line i holder fa.1) false fa.1 req

/-- A holder's answer, or its removal (04 R152, R156). A read whose BISnpData meets changed data waits for the write-back that follows
(05 R201). The request goes on when nobody is left (`biDone`). -/
def State.biAnswer (s : State) (line holder : Nat) (dirty : Bool) : State :=
  let f := fun b : BiWait => if b.line = line && b.left.contains holder then
      { b with left := b.left.filter (· ≠ holder), dirty := if dirty && !b.inv then b.dirty ++ [holder] else b.dirty }
    else b
  { s with cxl := { s.cxl with bi := s.cxl.bi.map f } }
/-- The write-back of a holder has been applied, or is no longer waited for. -/
def State.biWritten (s : State) (line holder : Nat) : State :=
  let f := fun b : BiWait => if b.line = line then { b with dirty := b.dirty.filter (· ≠ holder) } else b
  { s with cxl := { s.cxl with bi := s.cxl.bi.map f } }
/-- A write-back from its lookup on: from a host that no longer holds its SHR line it is completed and discarded (04 R157), unless the page is
unswept (12 R483). It snoops nobody; the request whose snoop drew it out goes on. -/
def State.runBack (s : State) (id : Nat) (run : Run) (acc : Accept) (st : HostStore) : State :=
  let req := BiReq.back id run acc st
  if s.inHold then s.holdStore req else
  if (s.aperture st.head st.ld st.pbr st.addr).isSome then s.toDoorbell req else
  match s.locate st.head st.ld st.pbr st.addr with
  | .unmapped _ => s.countUnmapped.sendPlainNdr st run
  | .line line i holder =>
    let rg := s.region i
    let drawn := s.cxl.bi.any fun b => b.line = line && (b.left.contains holder || b.dirty.contains holder)
    if rg.dur = .m && s.handed rg.rset then s.handWait req
    else if !s.servesStore rg then s.forward rg.rset line req
    else if (s.mustWait line && !drawn) || !s.inYard (line / 64) then s.waitPage (line / 64) line req
    else
      let fa := s.filterAccess line rg
      let s := fa.2
      let holds := drawn || match s.sfFind line with
        | some e => e.many || e.holders.contains holder
        | none => s.integ.degraded.contains (line % 2 ^ 21)
      if rg.shr && !holds && !s.twin.unswept.contains (line / 64) then (s.countDiscard st.head).sendPlainNdr st run
      else
        (s.bothPhases.writeLine (s.storeOf id run acc st line i holder fa.1) true fa.1 req).biWritten line holder

/-- A line the controller, a peer or the twin's stream writes, from its lookup on; a store of the stream is no host's request (12 R449), sets the twin owns are forwarded (13 R536), sets being handed over
wait, and a store the twin forwarded is answered with KIND 3 when its set is no longer served here (13 R533). -/
def State.placeLine (s : State) (st : IngressStore) : State :=
  let p := st.line / 64
  let rg := s.region st.region
  if s.inHold then s.holdStore (.write st)
  else if st.origin.isMirrorIn then
    (if !s.inYard p then s.waitPage p st.line (.write st)
      else if s.pageAway p false then (s.startRestore p .c0).waitPage p st.line (.write st)
      else (s.touch p).landStore st)
  else if rg.dur = .m && s.handed rg.rset then s.handWait (.write st)
  else if !s.servesStore rg then
    match st.origin with
    | .forwarded tag =>
      { s with ute := { s.ute with mct := s.ute.mct.filter fun e => !(e.ctx = 1 && e.bytes = tag && !e.complete) } }.answerFwd tag none
    | _ => s.forward rg.rset st.line (.write st)
  else if s.mustWait st.line then s.waitPage p st.line (.write st)
  else
    let fa := s.filterAccess st.line rg
    fa.2.writeLine st false fa.1 (.write st)
/-- Run a request that waited. -/
def State.runReq (s : State) (req : BiReq) : State :=
  match req with
  | .read run r => s.runRead run r
  | .store id run acc st => s.runStore id run acc st
  | .back id run acc st => s.runBack id run acc st
  | .write st => s.placeLine st
  | .sweep => s
  | .fwd t tag line h c e => s.runFwd t tag line h c e
  | .peer id line => s.peerLine id line
  | .core k line run tc => s.coreLine k line run tc
/-- Run requests that waited, `done` CORE cycles of their paths behind them. -/
def State.runAll (s : State) (done : Nat) (qs : List BiReq) : State := qs.foldl (fun a q => a.runReq (q.after a.now done)) s
/-- Run every request that waited behind a line (04 R154, R155). -/
def State.runBehind (s : State) (line : Nat) : State :=
  let mine := s.cxl.behind.filter fun q => q.1 = line
  ({ s with cxl := { s.cxl with behind := s.cxl.behind.filter fun q => q.1 ≠ line } }).runAll 36 (mine.map Prod.snd)

/-- The filter entry after a back-invalidate of its line. After the snoop of a store: DESIGN CHOICE (log 83): a storing host that the entry
named stays as its only, exclusive holder, and in every other case the entry goes; the spec does not say what becomes of it. -/
def State.sfAfter (s : State) (b : BiWait) : State :=
  let keep := fun (h : Nat) (st : SfState) => s.sfUpdate b.line fun e =>
    if !e.many && e.holders.contains h && s.sfNamed b.line then some { e with state := st, holders := [h] } else none
  if b.evict then
    (s.sfUpdate b.line fun _ => none).bump F.CXP_SF_EVICT_CNT_VALUE F.CXP_CNT_STATUS_EVICT_SAT 82
  else if b.inv then
    match b.req with
    | .write st => match selfOf st.origin with | some h => keep h .exclusive | none => s.sfUpdate b.line fun _ => none
    | .read _ r => match s.holderOf r.head r.ld r.pbr with | some h => keep h .shared | none => s.sfUpdate b.line fun _ => none
    | .fwd _ _ _ h _ _ => keep h .shared
    | _ => s.sfUpdate b.line fun _ => none
  else s.sfUpdate b.line fun e => some { e with state := .shared }
/-- The last answer to a snoop has come, or its holder has been removed: the filter entry, the waiting request, those behind it
(04 R152 to R156). A store goes on through landing (05 R200), a read from its issue (05 R201). -/
def State.finishBi (s : State) (b : BiWait) : State :=
  let s := { s with cxl := { s.cxl with bi := s.cxl.bi.filter fun x => x ≠ b } }
  let s := s.sfAfter b
  let s := { s with integ := { s.integ with degraded := s.integ.degraded.filter (· ≠ b.line % 2 ^ 21) } }
  let s := match b.req with
    | .write st => let st := { st with lat := none, ready := s.now + 47 }; s.writeLine st true 0 (.write st)
    | q => s.runReq (q.after s.now 10)
  s.runBehind b.line
/-- A back-invalidate that nobody is left to answer. -/
def State.biDone (s : State) : Option BiWait := s.cxl.bi.find? fun b => b.left.isEmpty && b.dirty.isEmpty

/-- Run the requests that waited for a page's word, which took a fetch of `f` (05 R184). -/
def State.runFetched (s : State) (p : Nat) (f : Lat) : State :=
  let mine := s.rgn.psWait.filter fun w => w.page = p
  let s := { s with rgn := { s.rgn with psWait := s.rgn.psWait.filter fun w => w.page ≠ p } }
  mine.foldl (fun a w => a.runReq (w.req.fetched a.now f (50 + a.latCore f))) s
/-- Run the requests that waited for a page. -/
def State.runPageWaiters (s : State) (p : Nat) : State :=
  let mine := s.rgn.psWait.filter fun w => w.page = p
  ({ s with rgn := { s.rgn with psWait := s.rgn.psWait.filter fun w => w.page ≠ p } }).runAll 50 (mine.map PsWait.req)
/-- Answer the reads that waited for data: from CORE to the pins is what is left of their paths (05 R203). -/
def State.answerWaits (s : State) (mine : WaitRead → Bool) : State :=
  let ws := s.rgn.waits.filter mine
  let s := { s with rgn := { s.rgn with waits := s.rgn.waits.filter fun w => !mine w } }
  ws.foldl (fun a w => a.give (w.req.after a.now 50) w.line { core := 84, phiIn := 1, phiOut := 1 } false (a.readCap w.line w.cap)) s
/-- Bring a page-state word into the Yard; a full cache of 1,048,576 words gives up one, which one the spec does not state
(03 R110; log 18). -/
def State.yardFill (s : State) (p : Nat) : State :=
  if s.inYard p then s else
  let s := if s.rgn.yard.length < 1048576 then s else
    let r := s.free s.rgn.yard.length
    { r.2 with rgn := { r.2.rgn with yard := r.2.rgn.yard.eraseIdx r.1 } }
  { s with rgn := { s.rgn with yard := sput 0 s.rgn.yard p 1 } }

end Sys2Proof.Machine
end

