-- ==== Sys2Proof/Machine/HostFx.lean ====
section
/-! DEFINITION. Effects of the events at the host ports: requests, snoops, flushes, links, resets, hosts, dynamic capacity (02, 04). -/
namespace Sys2Proof.Machine

/-- A trigger that ends STANDBY: the exit begins, or waits for the end of entry (17 R631). -/
def State.exitTrigger (s : State) : State :=
  if s.power ≠ 2 && s.clk.move ≠ .entering then s else
  match s.clk.move with
  | .none => { s with clk := { s.clk with move := .exiting, moveSince := s.now } }
  | .entering => { s with clk := { s.clk with exitWanted := true } }
  | _ => s
/-- During the drain to AON-ONLY, once the mirrored sets are handed over, the links return no credits: nothing more arrives (17 R634 step 3). -/
def State.creditsOff (s : State) : Bool :=
  s.clk.move = .draining && !(s.isPaired && s.fget F.TWN_RSET_OWN_MAP ≠ 0)
/-- May requests of a head be taken in: FULL or STANDBY, memory active, the link ACTIVE and secure (04 R131, R160, R168, R175)? -/
def State.takes (s : State) (head : Nat) : Bool :=
  !s.clk.inReset && s.memActive && !s.creditsOff && (s.power = 0 || s.power = 2) && head < 16 && s.linkState head = 4 &&
    !(sget IdeLink.empty s.cxl.ide head).insecure

/-! ### Regions that stop serving (03 R98, R99, R122; 07 R257) -/

/-- Movement of a region's pages is abandoned: pages already moved stay where they are (03 R122). -/
def State.abandonMoves (s : State) (i : Nat) : State :=
  let r := s.region i
  let mine := (s.rgn.moves.filter fun m => r.hasPage m.page).map (·.page)
  let s := { s with rgn := { s.rgn with moves := s.rgn.moves.filter fun m => !r.hasPage m.page } }
  mine.foldl (fun a p => a.setPage p { a.page p with moving := false }) s
/-- A store of a region that is no longer there is completed and its data discarded, counted as unmapped (03 R99). -/
def State.dropStore (s : State) (o : Origin) (id since : Nat) : State := (s.complete o id since s.now false none).countUnmapped
/-- The stores of a region that are accepted and not acknowledged (03 R99): held, at ingress, or waiting for a write-through write. -/
def State.discardStores (s : State) (i : Nat) : State :=
  let due := fun e : LandEntry => e.region = i && !e.acked && !e.localOk
  let land := s.pers.landing.filter due
  let wait := s.pers.ingress.filter fun e => e.region = i
  let s := s.noteHolds land
  let s := { s with pers := { s.pers with landing := s.pers.landing.filter (fun e => !due e),
                                          ingress := s.pers.ingress.filter fun e => e.region ≠ i } }
  let s := land.foldl (fun a e => a.dropStore e.origin e.id e.time) s
  wait.foldl (fun a e => a.dropStore e.origin e.id e.time) s
/-- A region enters DRAINING (03 R98, R99; 07 R257). -/
def State.enterDraining (s : State) (i : Nat) : State :=
  let s := (s.abandonMoves i).voidRegion i
  ((s.setRState i .draining).discardStores i).settleAcks
/-- A region enters RELEASING: the Release Capacity record goes to its host (03 R98; 04 R148; 07 R257). -/
def State.enterReleasing (s : State) (i : Nat) : State :=
  let s := ((s.abandonMoves i).voidRegion i).setRState i .releasing
  let r := s.region i
  s.recordAll r .dynCap (.releaseCapacity i r.base r.sizeM1)

/-! ### The ports' response buffers (06 R182, R219, R221 to R226) -/

/-- Every request that waits somewhere with its port slot held. -/
def State.requests (s : State) : List BiReq :=
  s.cxl.bi.map (·.req) ++ s.cxl.behind.map (·.2) ++ s.rgn.psWait.map (·.req) ++ s.rgn.waits.map (·.req) ++
    (s.queues.flatMap fun c => c.reads.map (·.req)) ++ s.rgn.standbyQ ++ s.pers.holdQ ++ s.twin.takeWait ++
    (match s.twin.handover with | some h => h.waiting | none => []) ++ s.twin.fwd.map (·.req) ++ s.cxl.doorbells
/-- Does a store come from a head of a port? -/
def Origin.ofPort (p : Nat) : Origin → Bool
  | .host h _ _ => h / 4 = p
  | _ => false
/-- Is a request a read, or a store, that holds a slot of a port? -/
def BiReq.readOf (p : Nat) : BiReq → Bool
  | .read run r => r.head / 4 = p && !run.dead
  | _ => false
def BiReq.storeOf (p : Nat) : BiReq → Bool
  | .store _ run _ st | .back _ run _ st => st.head / 4 = p && !run.dead
  | .write st => st.origin.ofPort p
  | _ => false
/-- Line slots of a port in use: by reads not answered, and by what has not left (R224, R225). -/
def State.lineSlots (s : State) (p : Nat) : Nat :=
  (s.requests.filter (BiReq.readOf p)).length + (s.cxl.leaving.filter fun x => x.port = p && x.line).length
/-- NDR slots of a port in use. -/
def State.ndrSlots (s : State) (p : Nat) : Nat :=
  (s.requests.filter (BiReq.storeOf p)).length + (s.cxl.leaving.filter fun x => x.port = p && x.ndr).length +
    (s.pers.landing.filter fun e => !e.acked && e.origin.ofPort p).length + (s.pers.ingress.filter fun e => e.origin.ofPort p).length +
    (s.queues.flatMap fun c => c.writes.filter fun w => match w.ack with | some a => a.1.ofPort p | none => false).length
def BiReq.isRead : BiReq → Bool
  | .read _ _ => true
  | _ => false
/-- Is a slot free for a request of a port: 1,024 of each kind (R224)? -/
def State.slotFree (s : State) (p : Nat) (read : Bool) : Bool := (if read then s.lineSlots p else s.ndrSlots p) < 1024
/-- A request that has its reservation leaves ingress (R224). -/
def State.enter (s : State) (req : BiReq) : State :=
  let wait := fun a : State => { a with rgn := { a.rgn with standbyQ := a.rgn.standbyQ ++ [req] } }
  if s.power = 2 || s.clk.move = .entering || s.clk.move = .exiting then (wait s).exitTrigger else s.runReq req
/-- A request arrives: it waits in its link's buffer of reads, or of stores, when one of them waits there already or no slot is free
(R219, R221, R224). -/
def State.offer (s : State) (head : Nat) (req : BiReq) : State :=
  if (s.cxl.ingress.any fun w => w.head = head && w.req.isRead = req.isRead) || !s.slotFree (head / 4) req.isRead then
    { s with cxl := { s.cxl with ingress := s.cxl.ingress ++ [(⟨head, s.now, req⟩ : PortWait)] } }
  else s.enter req
/-- The first request of a link's buffer. -/
def State.linkFirst (s : State) (head : Nat) (read : Bool) : Option PortWait :=
  s.cxl.ingress.find? fun w => w.head = head && w.req.isRead = read
/-- The request that a port's free slot is granted to: its links in rotation, from the one after the last granted (R226). -/
def State.nextGrant (s : State) : Option PortWait :=
  (List.range 8).findSome? fun k =>
    let p := k / 2
    let read : Bool := k % 2 = 0
    if !s.slotFree p read then none
    else (List.range 4).findSome? fun i => s.linkFirst (4 * p + (sget 0 s.cxl.turn p + 1 + i) % 4) read
/-- A grant: GEN_NOC_STALL counts a request that has waited a cycle or more (R235, R236). -/
def State.grant (s : State) (w : PortWait) : State :=
  let s := { s with cxl := { s.cxl with ingress := s.cxl.ingress.erase w, turn := sput 0 s.cxl.turn (w.head / 4) (w.head % 4) } }
  let s := if w.time < s.now then s.bumpAt (F.GEN_NOC_STALL_VALUE 3) F.GEN_NOC_STATUS_STALL_SAT 3 19 else s
  s.enter (w.req.after s.now 36)

/-- A read (05 R188 to R190; in STANDBY it starts the exit and waits, 05 R210). -/
def State.hostRead (s : State) (r : HostRead) : State :=
  if !s.takes r.head then s else s.offer r.head (.read (Run.start s.now) r)
/-- A store (05 R191, R192): discarded after viral (04 R174), stalled in HOLD (04 R170), else run from its lookup. -/
def State.hostStore (s : State) (st : HostStore) : State :=
  if !s.takes st.head then s
  else if s.bit (lnk F.CXP_LNK_STATUS_VIRAL st.head) then (s.countDiscard st.head).sendPlainNdr st (Run.start s.now)
  else let n := s.newId; n.2.offer st.head (.store n.1 (Run.start s.now) s.acceptNow st)
/-- A write-back (04 R157); after viral it is discarded like every store (04 R174). -/
def State.hostWriteback (s : State) (st : HostStore) : State :=
  if !s.takes st.head then s
  else if s.bit (lnk F.CXP_LNK_STATUS_VIRAL st.head) then (s.countDiscard st.head).sendPlainNdr st (Run.start s.now)
  else let n := s.newId; n.2.offer st.head (.back n.1 (Run.start s.now) s.acceptNow st)
/-- HOLD has ended: the stores accepted in it are applied, oldest first (04 R170). -/
def State.releaseHold (s : State) : State :=
  let q := s.pers.holdQ
  ({ s with pers := { s.pers with holdQ := [] } }).runAll 36 q

/-- Drain the oldest waiting entry of a line into its page (02 R57, R58; not while it is held or its page is being fetched, R59; nor while its
DMC's write queue is full, 06 R227). -/
def State.landingDrain (s : State) (line : Nat) : State :=
  match s.pers.landing.find? fun e => e.line = line && !e.drained with
  | none => s
  | some e =>
    let f := s.frameOf (line / 64)
    let h := sget 0 s.quay.hotQa (line / 64)
    if !(s.running || s.power = 1) || s.dramBusy || e.held || !s.dValid (line / 64) ||
        s.integ.recov.any (fun r => (r.whole && r.page = line / 64) || (r.tier = .sram && r.line = line)) ||
        (f ≠ 0 && s.writesFull ((f - 1) * 4096 + line % 64 * 64)) || (h ≠ 0 && s.writesFull (hotAddr h line)) then s else
    let s := (s.writeCopies line e.data e.mask).quayWrite line .c0 none (some e.id)
    let s := { s with pers := { s.pers with
      flushes := s.pers.flushes.map fun x : FlushWrite => if x.page = line / 64 then { x with after := x.after ||| (1#64 <<< (line % 64)) } else x } }
    let s := { s with pers := { s.pers with
      landing := s.pers.landing.map fun x : LandEntry => if x.id = e.id then { x with drained := true } else x } }
    (s.drainWrite line (if e.origin.isMirrorIn then .mirrorIn else .saveFlush) none (some e.id)).settleAcks

/-- The answer of a holder (04 R152); on a conflict it is told of the order of its request: behind the snoop (04 R155; CXL 3.1, log 11). -/
def State.birsp (s : State) (b : BiRsp) : State :=
  let s := if b.conflict then s.emit (.biConflictAck b.holder b.line) else s
  s.biAnswer b.line b.holder b.dirty
/-- BISnp answer time in ms (04 R156; 0 acts as 1, above 20 as 20). -/
def State.biTimeout (s : State) : Nat := ms (max 1 (min 20 (s.fget F.CXP_BI_CTRL_TIMEOUT)))
/-- A holder has not answered in time, or its write-back has not come (04 R156). -/
def State.bisnpTimeout (s : State) (line holder : Nat) : State :=
  match s.cxl.bi.find? fun b => b.line = line && (b.left.contains holder || b.dirty.contains holder) with
  | none => s
  | some b =>
    if s.now < b.time + s.biTimeout then s else
    let s := s.sfUpdate line fun e => e.drop holder
    (((s.bump F.CXP_BI_TIMEOUT_CNT_VALUE F.CXP_CNT_STATUS_BITO_SAT 81).raise 80).biAnswer line holder false).biWritten line holder

/-- Pages in the paddock, each with the earliest snapshot that carries every store to it: the one of a FLUSHING page has been taken. -/
def State.unflushed (s : State) : List (Nat × Nat) :=
  (s.rgn.pages.filter fun kv => kv.2.pdk ≠ .clean).map fun kv =>
    (kv.1, match s.pers.flushes.find? fun f => f.page = kv.1 with
      | some f => if kv.2.pdk = .flushing then f.time else s.now
      | none => s.now)
/-- Phase 2 is requested on a head: the stores it covers are fixed; in WRITE-THROUGH also the pages that stores made dirty before (02 R78,
R79). -/
def State.gpfRequest (s : State) (head : Nat) : State :=
  if !s.takes head then s else
  let wt := s.regime = .writeThrough
  let durable := if wt then (s.pers.landing.filter fun e => !e.localOk).map (·.id) else []
  { s with pers := { s.pers with
    gpf := s.pers.gpf ++ [(⟨head, s.waitingIds ++ durable, s.now, wt, if wt then s.unflushed else []⟩ : GpfWait)] } }
/-- Do a phase 2 flush's covered stores all lie inside the save boundary or their tier, or in flash for one of WRITE-THROUGH? -/
def State.gpfReady (s : State) (g : GpfWait) : Bool :=
  (!g.covers.any fun id => s.waitingIds.contains id || (g.wt && s.pers.landing.any fun e => e.id = id && !e.localOk)) &&
    g.pages.all fun x => (s.page x.1).pdk = .clean
/-- A snapshot of a page taken at `time` is durable. -/
def State.gpfDurable (s : State) (p time : Nat) : State :=
  { s with pers := { s.pers with
    gpf := s.pers.gpf.map fun g : GpfWait => { g with pages := g.pages.filter fun x => !(x.1 = p && x.2 ≤ time) } } }
/-- Complete the oldest phase 2 of a head once its condition holds (02 R78 to R80). -/
def State.gpfComplete (s : State) (head : Nat) : State :=
  match s.pers.gpf.find? fun g => g.head = head with
  | none => s
  | some g =>
    if !s.gpfReady g then s else
    let s := { s with pers := { s.pers with gpf := s.pers.gpf.erase g } }
    (s.bump F.RGN_GPF_CNT_VALUE F.RGN_PDK_STATUS_GPF_SAT 51).emit (.gpfComplete head)

/-- Viral (04 R174, R177). -/
def State.viral (s : State) (head : Nat) : State :=
  if !s.takes head then s else
  let f := lnk F.CXP_LNK_STATUS_VIRAL head
  if s.bit f then s else (s.setBit f true).raise (128 + 8 * head + 2)

/-- Heads of a head's group that are UP or ACTIVE. -/
def State.groupUp (s : State) (head : Nat) : List Nat :=
  (List.range 16).filter fun g => s.present g && s.headGrp g = s.headGrp head && (s.linkState g = 3 || s.linkState g = 4)
/-- LD numbers of a head's group. -/
def State.groupLds (s : State) (head : Nat) : List Nat :=
  (List.range s.ldsPerHead).map fun i => 4 * s.groupHead head + i
/-- Remove holders from every entry of the filter, without a snoop (04 R172, R173). DESIGN CHOICE (log 84): a BISnp already sent to an LD that
goes this way is still waited for, until BISNP_TIMEOUT, which is counted and raised; the spec does not say that its request goes on at once. -/
def State.dropHolders (s : State) (hs : List Nat) : State :=
  let lines := (s.cxl.sf.filter fun e => !e.many && e.holders.any hs.contains).map (·.line)
  lines.foldl (fun a l => a.sfUpdate l fun e => hs.foldl (fun o h => o.bind (SfEntry.drop · h)) (some e)) s

def orphanOrigin (mine : Nat → Nat → Nat → Bool) : Origin → Origin
  | .host h l t => if mine h (l % 4) l then .discarded else .host h l t
  | o => o
/-- A request whose response is discarded, if `mine` names it: it is applied all the same (04 R171). -/
def State.orphan (s : State) (mine : Nat → Nat → Nat → Bool) : BiReq → BiReq
  | .read run r => .read { run with dead := run.dead || mine r.head r.ld ((s.holderOf r.head r.ld r.pbr).getD 0) } r
  | .store id run a st => .store id { run with dead := run.dead || mine st.head st.ld ((s.holderOf st.head st.ld st.pbr).getD 0) } a st
  | .back id run a st => .back id { run with dead := run.dead || mine st.head st.ld ((s.holderOf st.head st.ld st.pbr).getD 0) } a st
  | .write st => .write { st with origin := orphanOrigin mine st.origin }
  | q => q
def SubChan.mapReads (c : SubChan) (f : BiReq → BiReq) : SubChan := { c with reads := c.reads.map fun r => { r with req := f r.req } }
/-- Change every request that waits. -/
def State.mapRequests (s : State) (f : BiReq → BiReq) : State :=
  { s with
    pers := { s.pers with holdQ := s.pers.holdQ.map f },
    rgn := { s.rgn with
      psWait := s.rgn.psWait.map fun w => { w with req := f w.req },
      waits := s.rgn.waits.map fun w => { w with req := f w.req },
      standbyQ := s.rgn.standbyQ.map f },
    cxl := { s.cxl with
      behind := s.cxl.behind.map fun q => (q.1, f q.2),
      ingress := s.cxl.ingress.map fun w => { w with req := f w.req },
      doorbells := s.cxl.doorbells.map f,
      bi := s.cxl.bi.map fun b => { b with req := f b.req } },
    dram := { s.dram with subs := s.dram.subs.map fun kv => (kv.1, kv.2.mapReads f) },
    quay := { s.quay with subs := s.quay.subs.map fun kv => (kv.1, kv.2.mapReads f) },
    twin := { s.twin with fwd := s.twin.fwd.map fun e => { e with req := f e.req },
                          takeWait := s.twin.takeWait.map f,
                          handover := match s.twin.handover with | some h => some { h with waiting := h.waiting.map f } | none => none } }
def SubChan.mapAcks (c : SubChan) (f : Origin → Origin) : SubChan :=
  { c with writes := c.writes.map fun w : DmcWrite => { w with ack := match w.ack with | some a => some (f a.1, a.2) | none => none } }
/-- Discard the responses of every request that `mine` names, by head, LD within the head and requester: those on their way too, and their
slots go back (04 R171; 06 R234). -/
def State.discardResponses (s : State) (mine : Nat → Nat → Nat → Bool) : State :=
  let s := s.mapRequests (s.orphan mine)
  { s with
    pers := { s.pers with
      landing := s.pers.landing.map fun e => { e with origin := orphanOrigin mine e.origin },
      ingress := s.pers.ingress.map fun e => { e with origin := orphanOrigin mine e.origin } },
    dram := { s.dram with subs := s.dram.subs.map fun kv => (kv.1, kv.2.mapAcks (orphanOrigin mine)) },
    quay := { s.quay with subs := s.quay.subs.map fun kv => (kv.1, kv.2.mapAcks (orphanOrigin mine)) },
    cxl := { s.cxl with leaving := s.cxl.leaving.filter fun x => !mine x.head (x.holder % 4) x.holder } }
/-- A training attempt runs on a link that is present, enabled, out of PERST and powered; else the link is DOWN (04 R131). -/
def State.trainState (s : State) (head : Nat) : Nat :=
  if s.present head && s.bit (lnk F.CXP_LNK_CFG_EN head) && s.clk.perstN.getLsbD (head / 4) && !s.clk.inReset &&
      (s.power = 0 || s.power = 2) then 2 else 1

/-- A link leaves service (04 R171, R172): ingress stops, what was received is applied, its responses are discarded; a phase 2 flush asked for
on it has nobody to answer. Training begins at once. -/
def State.linkDown (s : State) (head : Nat) : State :=
  if !(s.linkState head = 3 || s.linkState head = 4 || s.linkState head = 5) then s else
  let s := s.discardResponses fun h _ _ => h = head
  let s := { s with pers := { s.pers with gpf := s.pers.gpf.filter fun g => g.head ≠ head } }
  let s := s.fset (lnk F.CXP_LNK_STATUS_STATE head) (s.trainState head)
  let s := (s.fset (lnk F.CXP_LNK_STATUS_WIDTH head) 0).fset (lnk F.CXP_LNK_STATUS_SPEED head) 0
  let s := ((s.setBit (lnk F.CXP_LNK_STATUS_VIRAL head) false).setBit (lnk F.CXP_LNK_STATUS_IDE_MEM head) false).setBit
    (lnk F.CXP_LNK_STATUS_IDE_IO head) false
  let s := { s with cxl := { s.cxl with ide := sput IdeLink.empty s.cxl.ide head IdeLink.empty } }
  let s := s.bump (lnk F.CXP_LNK_DOWN_CNT_VALUE head) (lnk F.CXP_LNK_STATUS_DOWN_SAT head) (128 + 8 * head + 4)
  let s := s.raise (128 + 8 * head + 1)
  if s.gfam then s else
  let s := (s.groupLds head).foldl (fun a ld => a.record .informational (.vendor (128 + 8 * head + 1) 1 head 0 0) ld) s
  if (s.groupUp head).isEmpty then s.dropHolders (s.groupLds head) else s
/-- Narrowest width accepted (04, MINW). -/
def minWidth (n : Nat) : Nat := match n with | 0 => 2 | 1 => 4 | 2 => 8 | _ => 16
/-- Bifurcated width of a port's links (04 R129). -/
def State.bifWidth (s : State) (p : Nat) : Nat := match s.bif p with | 1 => 8 | 2 => 4 | _ => 16
/-- One training attempt and its result (04 R131, R132): ACTIVE once memory is active, UP before (17 R641 step 5). -/
def State.linkTrain (s : State) (head : Nat) (t : LinkTrained) : State :=
  let st := s.linkState head
  if s.trainState head ≠ 2 || 3 ≤ st then s
  else if t.ok && 1 ≤ t.speed && t.speed ≤ 4 && [2, 4, 8, 16].contains t.width && t.width ≤ s.bifWidth (head / 4) &&
      minWidth (s.fget (lnk F.CXP_LNK_CFG_MINW head)) ≤ t.width then
    let s := (s.fset (lnk F.CXP_LNK_STATUS_WIDTH head) t.width).fset (lnk F.CXP_LNK_STATUS_SPEED head) t.speed
    let s := s.setBit (lnk F.CXP_LNK_STATUS_FLIT256 head) (t.speed = 4)
    if s.memActive then (s.fset (lnk F.CXP_LNK_STATUS_STATE head) 4).raise (128 + 8 * head)
    else s.fset (lnk F.CXP_LNK_STATUS_STATE head) 3
  else s.fset (lnk F.CXP_LNK_STATUS_STATE head) 1
/-- The IDE error of a link's LDs: bit 14 of their uncorrectable error status (CXL 3.1 layout, PRESUMED, log 85). -/
def State.rasIde (s : State) (head : Nat) : State :=
  let lds := if s.gfam then [0] else s.groupLds head
  { s with cxl := { s.cxl with ras := lds.foldl (fun m ld => sput 0 m ld (sget 0 m ld ||| 2 ^ 14)) s.cxl.ras } }
/-- A MAC check fails: the error is recorded; skid mode takes the link down; in containment mode the link carries nothing more until it is
reset (04 R160; log 19). -/
def State.ideMacFail (s : State) (head : Nat) : State :=
  if !s.takes head then s else
  let l := sget IdeLink.empty s.cxl.ide head
  match l.mem with
  | .off => s
  | .skid => (s.rasIde head).linkDown head
  | .containment => { s.rasIde head with cxl := { (s.rasIde head).cxl with ide := sput IdeLink.empty s.cxl.ide head { l with insecure := true } } }
/-- IDE_KM sets a link's streams (04 R158). -/
def State.ideKm (s : State) (head : Nat) (mem : IdeReq) (io : Bool) : State :=
  if s.clk.inReset || !(s.linkState head = 3 || s.linkState head = 4) then s else
  let s := { s with cxl := { s.cxl with ide := sput IdeLink.empty s.cxl.ide head ⟨mem, io, false⟩ } }
  (s.setBit (lnk F.CXP_LNK_STATUS_IDE_MEM head) (mem ≠ .off)).setBit (lnk F.CXP_LNK_STATUS_IDE_IO head) io
/-- PERST_N of a port falls: a fundamental reset of its links, also of one in training (04 R173; 17); ignored in AON-ONLY (04 R175). -/
def State.perstAssert (s : State) (p : Nat) : State :=
  let s := { s with clk := { s.clk with perstN := s.clk.perstN &&& ~~~(1#4 <<< p) } }
  if s.clk.inReset || 4 ≤ p || s.power = 3 then s else
  (List.range 4).foldl (fun a k =>
    let h := 4 * p + k
    if a.linkState h = 2 then a.fset (lnk F.CXP_LNK_STATUS_STATE h) 1 else a.linkDown h) s
/-- Heads that present an LD (04 R138). -/
def State.ldHead (s : State) (head ld : Nat) : Bool := s.groupHead head = ld / 4
/-- The CXL-defined registers of an LD take their reset values (19 R703). -/
def State.resetLdRegs (s : State) (ld : Nat) : State :=
  { s with cxl := { s.cxl with ras := sput 0 s.cxl.ras ld 0, decoders := sdrop (fun k => k / 8 = ld) s.cxl.decoders,
                               hdm := sdrop (fun k => k / 4096 = ld) s.cxl.hdm } }
/-- FLR or CXL Reset of an LD (04 R173; 07 R243). -/
def State.flr (s : State) (ld : Nat) : State :=
  if s.clk.inReset || s.gfam || !s.lds.contains ld then s else
  let s := s.discardResponses fun h l _ => s.ldHead h ld && l = ld % 4
  let s := (s.dropHolders [ld]).resetLdRegs ld
  ((s.sharers.filter fun kv => !kv.2.peer && kv.2.id = ld).map (·.1)).foldl State.makeDormant s

/-- The fabric manager binds a host ID (04 R141). -/
def State.hostBind (s : State) (host pbr group : Nat) : State :=
  if s.clk.inReset || !s.gfam || 1024 ≤ host || 4096 ≤ pbr || 64 ≤ group then s.emit (.fm false) else
  let s := (s.fset (F.CXP_GFAM_HOST_PBR_ID host) pbr).fset (F.CXP_GFAM_HOST_GROUP host) group
  (s.setBit (F.CXP_GFAM_HOST_BOUND host) true).emit (.fm true)
/-- The binding ends; the host's sharers become DORMANT (04 R141; 07 R243). DESIGN CHOICE (log 86): PBR_ID and GROUP keep what they held; the
spec does not say what they read while BOUND is 0. -/
def State.hostUnbind (s : State) (host : Nat) : State :=
  if s.clk.inReset || !s.gfam || 1024 ≤ host then s.emit (.fm false) else
  let s := s.setBit (F.CXP_GFAM_HOST_BOUND host) false
  (((s.sharers.filter fun kv => !kv.2.peer && kv.2.id = host).map (·.1)).foldl State.makeDormant s).emit (.fm true)
/-- The fabric manager commits a GFD decoder (04 R144). -/
def State.gfdCommit (s : State) (index : Nat) (d : DecoderCfg) : State :=
  let good := s.gfam && index < 32 && [1, 2, 4, 8, 16].contains d.ways && [256, 512, 1024, 2048, 4096, 8192, 16384].contains d.gran
  if s.clk.inReset || !good then s.emit (.fm false)
  else ({ s with cxl := { s.cxl with gfd := sput none s.cxl.gfd index (some d) } }).emit (.fm true)

/-- Mailbox of an LD answers (04 R134). -/
def State.mbox (s : State) (ld : Nat) (c : MboxCode) : State := s.emit (.mbox ld c [])
/-- A host takes or rejects an offered extent (03 R98, R123; 04 R148). -/
def State.dcResponse (s : State) (ld region : Nat) (accept : Bool) : State :=
  if s.clk.inReset then s else
  let r := s.region region
  if r.state = .offered && r.dc && s.visibleTo r ld then (if accept then s.setRState region .active else s.enterDraining region).mbox ld .success
  else s.mbox ld .invalidInput
/-- A host releases an extent whose release was requested (03 R98, R125). -/
def State.dcRelease (s : State) (ld region : Nat) : State :=
  if s.clk.inReset then s else
  let r := s.region region
  if r.state = .releasing && r.dc && s.visibleTo r ld then (s.enterDraining region).mbox ld .success
  else s.mbox ld .invalidInput
/-- An offer without an answer counts as rejected (04 R149). -/
def State.dcTimeout (s : State) (region : Nat) : State :=
  if (s.region region).state = .offered &&
      sec (max 1 (s.fget F.CMD_DC_OFFER_TIMEOUT_SECONDS)) ≤ s.now - sget 0 s.rgn.offered region then s.enterDraining region
  else s

/-- Poisoned lines of the regions an LD sees, from the poison list (04 R164; 10 R374). -/
def State.poisonReport (s : State) (ld : Nat) : List Nat :=
  (s.integ.list.flatMap fun e => ((List.range 64).filter fun i => e.mask.getLsbD i).map fun i => (64 * e.page + i) * 64).filter
    fun dla => match s.regionAt (dla / 4096) with
      | some i => s.visibleTo (s.region i) ld
      | none => false
def State.getPoison (s : State) (ld : Nat) : State :=
  if s.clk.inReset then s else s.emit (.poisonList ld (s.poisonReport ld) (s.bit F.INT_POISON_LIST_OVERFLOW))
/-- Inject Poison and Clear Poison are stores to the region's class (04 R163): one of a set that the twin owns is forwarded (12 R446), and in
STANDBY it waits (02 R86). -/
def State.poisonStore (s : State) (ld dla : Nat) (data : Line) (mask : BitVec 64) (poison : Bool) : State :=
  if s.clk.inReset || !s.memActive || !(s.power = 0 || s.power = 2) then s else
  match s.regionAt (dla / 4096) with
  | none => s.mbox ld .invalidPhysicalAddress
  | some i =>
    let r := s.region i
    if !(r.served && s.visibleTo r ld) then s.mbox ld .invalidPhysicalAddress else
    let n := s.newId
    let req := BiReq.write (s.ingressStore n.1 (dla / 64) data mask i (.mailbox ld) poison)
    n.2.enter req

/-- Get Event Records: the oldest records of a log, and its overflow count (04 R166). -/
def State.getEvents (s : State) (ld : Nat) (log : EvLog) (count : Nat) : State :=
  if s.clk.inReset then s else
  s.emit (.eventRecords ld ((s.cxl.logs.filter fun r => r.ld = ld && r.log = log).take count)
    (sget 0 s.cxl.overflow (8 * ld + evCode log)))
/-- Clear Event Records: the named records go; the overflow count restarts (CXL 3.1, log 11). -/
def State.clearEvents (s : State) (ld : Nat) (log : EvLog) (handles : List Nat) : State :=
  if s.clk.inReset then s else
  ({ s with cxl := { s.cxl with
      logs := s.cxl.logs.filter fun r => !(r.ld = ld && r.log = log && handles.contains r.handle),
      overflow := sput 0 s.cxl.overflow (8 * ld + evCode log) 0 } }).mbox ld .success
/-- Set Event Interrupt Policy: the vector of a log, one of four (16 R618). -/
def State.eventPolicy (s : State) (ld : Nat) (log : EvLog) (vector : Option Nat) : State :=
  if s.clk.inReset then s else
  match vector with
  | some v =>
    if 4 ≤ v then s.mbox ld .invalidInput
    else ({ s with cxl := { s.cxl with policy := sput 0 s.cxl.policy (8 * ld + evCode log) (v + 1) } }).mbox ld .success
  | none => ({ s with cxl := { s.cxl with policy := sput 0 s.cxl.policy (8 * ld + evCode log) 0 } }).mbox ld .success

end Sys2Proof.Machine
end

