-- ==== Sys2Proof/Machine/FlushFx.lean ====
section
/-! DEFINITION. The flusher and its writes (02 R61, R70, R71, R82, R83), program failures (08 R291), retired blocks and dies (08 R298 to R300). -/
namespace Sys2Proof.Machine

/-! ### Blocks (08 R293 to R300) -/

def State.block (s : State) (b : Nat) : Block := sget Block.empty s.flash.blocks b
def State.setBlock (s : State) (b : Nat) (x : Block) : State :=
  { s with flash := { s.flash with blocks := sput Block.empty s.flash.blocks b x } }
/-- Native bytes of a block: its sectors of 1 KiB. -/
def State.blockBytes (s : State) : Nat := s.flash.pop.blockSectors * 1024
/-- Channel and die of a block: blocks are numbered die by die, dies channel by channel (log 20). -/
def State.blockDie (s : State) (b : Nat) : Nat × Nat :=
  let pop := s.flash.pop
  let d := b / max 1 pop.dieBlocks
  let perCh := max 1 (pop.pkgDies * (if pop.packages = 64 then 2 else 1))
  (if pop.packages = 16 then 2 * (d / perCh) else d / perCh, d % perCh)
/-- Key of a block's die: channel × 32 + die. -/
def State.dieKey (s : State) (b : Nat) : Nat := (s.blockDie b).1 * 32 + (s.blockDie b).2
/-- Blocks of the device. -/
def State.totalBlocks (s : State) : Nat := s.flash.pop.packages * s.flash.pop.pkgDies * s.flash.pop.dieBlocks
/-- Sectors that a block takes in a use: in SLC mode one bit of each cell (R301; R304). -/
def State.room (s : State) (u : BlockUse) : Nat := if u.slc then s.flash.pop.blockSectors / max 1 s.flash.pop.bpc else s.flash.pop.blockSectors
/-- May a block be programmed: there is one, it is not bad, its die and its channel are in service (R285, R298, R299)? -/
def State.blockOk (s : State) (b : Nat) : Bool :=
  b < s.totalBlocks && !(s.block b).bad && !s.flash.deadDies.contains (s.dieKey b) && s.fget (F.FTC_CH_STATUS_STATE (s.blockDie b).1) = 2
/-- The free block with the lowest erase count (R295). Among equals which one no rule says: the search starts at a free value (log 20). -/
def State.freeBlock (s : State) : Option Nat × State :=
  let n := s.totalBlocks
  if n = 0 then (none, s) else
  let r := s.free n
  let ok := fun b => s.blockOk b && (s.block b).use = .free
  match findFrom (fun i => ok ((r.1 + i) % n) && (s.block ((r.1 + i) % n)).wear = 0) n 0 with
  | some i => (some ((r.1 + i) % n), r.2)
  | none =>
    let l := (s.flash.blocks.map Prod.fst).filter ok
    (l.find? fun b => l.all fun c => (s.block b).wear ≤ (s.block c).wear, r.2)
/-- First sector from `fill` on at which an extent of `len` sectors lies within one flash page (R278). -/
def fitAt (fill len : Nat) : Nat := if fill % 16 + len ≤ 16 then fill else (fill + 15) / 16 * 16
/-- A place for an extent: the open block of that use, or a free block. With no block left, which the space that R304 holds back keeps from
happening, it is a free value. -/
def State.place (s : State) (u : BlockUse) (len : Nat) : Nat × State :=
  let n := s.flash.pop.blockSectors
  match s.flash.blocks.find? fun kv => kv.2.use = u && s.blockOk kv.1 && fitAt kv.2.fill len + len ≤ s.room u with
  | some kv => (kv.1 * n + fitAt kv.2.fill len, s)
  | none =>
    let b := s.freeBlock
    match b.1 with
    | some b1 => (b1 * n, b.2)
    | none => b.2.free (2 ^ 37)
/-- Thresholds of FTC_GC_CTRL in force (08 R313). -/
def State.gcFull (s : State) : Nat := max 1 (s.fget F.FTC_GC_CTRL_FULL)
def State.gcLow (s : State) : Nat := let l := s.fget F.FTC_GC_CTRL_LOW; if l ≤ s.gcFull then s.gcFull + 1 else l
def State.gcHigh (s : State) : Nat := let h := s.fget F.FTC_GC_CTRL_HIGH; if h ≤ s.gcLow then s.gcLow + 1 else h
/-- Bytes, at native capacity, of the free blocks that are kept back while the next save's half of the Loft is not wholly free: the SLC capacity of
a half, and 1 % of R (08 R304). -/
def State.loftHeld (s : State) : Nat :=
  let next := !s.flash.loft.half
  if s.flash.loft.index.any fun e => e.half = next && s.flash.unfolded.contains e.page then
    s.flash.loftSize * 2 ^ 35 * s.flash.pop.bpc + s.fget F.FTC_RAW_VALUE / 100
  else 0
/-- FTC_FREE changes: SPACE_LOW and SPACE_FULL follow their thresholds, each downward crossing raises its source (08 R293, R294). -/
def State.setFree (s : State) (bytes : Nat) : State :=
  let raw := s.fget F.FTC_RAW_VALUE
  let free := bytes - s.loftHeld
  let s := ({ s with flash := { s.flash with freeBytes := bytes } }).fset F.FTC_FREE_VALUE free
  let low := free * 100 ≤ s.gcLow * raw
  let full := free * 100 ≤ s.gcFull * raw
  let wasLow := s.bit F.FTC_STATUS_SPACE_LOW
  let wasFull := s.bit F.FTC_STATUS_SPACE_FULL
  let s := (s.setBit F.FTC_STATUS_SPACE_LOW low).setBit F.FTC_STATUS_SPACE_FULL full
  let s := if low && !wasLow then s.raise 368 else s
  if full && !wasFull then s.raise 369 else s
/-- Erase counts in permille of the rated count over the blocks in service (08 R313, FTC_WEAR); `wear` counts twelfths. -/
def State.setWear (s : State) : State :=
  let rated := max 1 s.flash.pop.rated
  let ws := (s.flash.blocks.filter fun kv => !kv.2.bad).map fun kv => kv.2.wear * 1000 / (12 * rated)
  let hi := (s.flash.blocks.map fun kv => kv.2.wear * 1000 / (12 * rated)).foldl max 0
  let total := s.totalBlocks
  let lo := if s.flash.blocks.length < total then 0 else ws.foldl min hi
  (s.fset F.FTC_WEAR_MAX (min 0xFFFF hi)).fset F.FTC_WEAR_MIN (min 0xFFFF lo)
/-- Retire a die (08 R299, R300). -/
def State.retireDie (s : State) (ch die : Nat) (src : ErrSource) : State :=
  let key := ch * 32 + die
  if s.flash.deadDies.contains key then s else
  let s := { s with flash := { s.flash with deadDies := insNat key s.flash.deadDies } }
  let s := s.fset F.FTC_STATUS_DIES_RETIRED s.flash.deadDies.length
  let s := s.fset (F.FTC_CH_STATUS_DIES_RETIRED ch) (s.flash.deadDies.filter fun k => k / 32 = ch).length
  (s.logErr none (ch % 32 + die * 32) .flash .retired src 0xFF 0).raise 370
/-- Retire a block as a grown bad block; a die with more than 8 % of them goes too (08 R298 to R300). -/
def State.retireBlock (s : State) (b : Nat) (src : ErrSource) : State :=
  let x := s.block b
  if x.bad then s else
  let s := if x.use = .free then s.setFree (s.flash.freeBytes - s.blockBytes) else s
  let s := s.setBlock b { x with bad := true, use := .reserved }
  let d := s.blockDie b
  let s := s.bump F.FTC_BADBLK_CNT_VALUE F.FTC_CNT_STATUS_BADBLK_SAT 376
  let s := s.logErr none (d.1 + d.2 * 32 + b % max 1 s.flash.pop.dieBlocks * 512) .flash .retired src 0xFF 0
  let bad := (s.flash.blocks.filter fun kv => kv.2.bad && s.blockDie kv.1 = d).length
  if 8 * s.flash.pop.dieBlocks < 100 * bad then s.retireDie d.1 d.2 src else s

/-! ### The limit that an E_use gives (02 R65; 11 R410, R425) -/

/-- Bits hi:lo of a profile word. -/
def State.prof (s : State) (w hi lo : Nat) : Nat := bitsOf (s.fget (F.EPC_PROFILE_WORD w)) hi lo
def State.reserve (s : State) : Nat := min 100 (s.prof 2 23 16)
/-- The paddock limit for an E_use (02 R65). -/
def State.limitFor (s : State) (eUse : Int) : Nat :=
  let c := s.fget F.EPC_C_SAVE_C_SAVE
  let avail : Int := eUse * (100 - (s.reserve : Int)) - 100 * ((s.fget F.EPC_E_FIX_VALUE : Nat) : Int)
  if c = 0 || avail ≤ 0 then 0 else min (avail.toNat * 10 * 262144 / (100 * c) * 4096) s.pCap
/-- The last condition of R425: the paddock fits the limit with E_use lowered. -/
def State.rehFits (s : State) : Bool :=
  let drop : Nat := match s.epc.reh.lastEnergy with | some e => (2 * e + 10 ^ 8 - 1) / 10 ^ 8 | none => 5000
  s.pdkBytes ≤ s.limitFor (((s.fget F.EPC_E_USE_VALUE : Nat) : Int) - (drop : Int))
/-- A rehearsal that has been asked for waits for the paddock: the flusher works with precedence (11 R425). -/
def State.rehHungry (s : State) : Bool := s.epc.reh.request.isSome && s.epc.reh.phase = .idle && !s.rehFits

/-! ### Taking a page (02 R70, R71, R82, R83) -/

def State.inFlush (s : State) (p : Nat) : Bool := s.pers.flushes.any fun f => f.page = p
/-- Are a page's region's stores still to be kept: it is in use and not DRAINING (03 R99)? -/
def State.keepsPage (s : State) (p : Nat) : Bool := match s.regionAt p with | some i => (s.region i).state ≠ .draining | none => false
/-- May the flusher take a snapshot of a page now: its region is not DRAINING, no Landing entry waits to drain, no write of it in flight? -/
def State.takeable (s : State) (p : Nat) : Bool := s.keepsPage p && (s.landOf p).isEmpty && !s.inFlush p && s.dValid p
/-- Flash channels in service, in order (08 R285). -/
def State.channelsUp (s : State) : List Nat := (List.range 32).filter fun c => s.fget (F.FTC_CH_STATUS_STATE c) = 2
/-- The channels of a stripe's data members: all in service but the one that holds its parity (08 R285). -/
def State.stripeData (s : State) (number : Nat) : List Nat :=
  let up := s.channelsUp
  match up[number % max 1 up.length]? with | some c => up.filter (· ≠ c) | none => up
/-- Sectors of a stripe's member that extents take. -/
def OpenStripe.fill (x : OpenStripe) (ch : Nat) : Nat := ((x.pages.filter fun y => y.2.1 = ch).map fun y => y.2.2).sum
/-- The channel on which a stripe has room for an extent of `n` sectors: an extent lies within one flash page of 16 sectors (08 R278). Which
member of a stripe takes it no rule says: the first with room (log 87). -/
def State.stripeRoom (s : State) (x : OpenStripe) (n : Nat) : Option Nat :=
  if x.closed then none else (s.stripeData x.number).find? fun c => x.fill c + n ≤ 16
/-- A page joins an open stripe of its kind, or opens one; a stripe whose members are full is programmed with its parity (08 R285, R287,
R289). -/
def State.joinStripe (s : State) (p n : Nat) (log : Bool) : State :=
  let put := fun x : OpenStripe =>
    match s.stripeRoom x n with
    | some c => let y := { x with pages := x.pages ++ [(p, c, n)] }; { y with closed := (s.stripeRoom y 1).isNone }
    | none => x
  match s.flash.stripes.find? fun x => x.log = log && (s.stripeRoom x n).isSome with
  | some o => { s with flash := { s.flash with stripes := s.flash.stripes.map fun x => if x = o then put x else x } }
  | none =>
    { s with flash := { s.flash with
      stripes := s.flash.stripes ++ [put ⟨s.flash.nextStripe, log, s.now, [], false⟩], nextStripe := s.flash.nextStripe + 1 } }
/-- FORM and length of an extent: raw without compression or with poison (10 R369); else what LZ4 makes of the page, which the
format leaves to the compressor: a free value of 1 to 3 sectors, or raw after the attempt (08 R280; log 21). -/
def State.extentForm (s : State) (i : Nat) (poisoned : Bool) : (Nat × Nat) × State :=
  if !s.cmpOn (s.region i) then ((1, 3), s)
  else if poisoned then ((3, 3), s)
  else
    let r := s.free 4
    ((if r.1 < 3 then (2, r.1) else (3, 3)), r.2)
/-- Does every write of a page take the SLC write log: fewer than 8 channels are in service (08 R285), or a write of it has failed (R291)? -/
def State.logOnly (s : State) (p : Nat) : Bool := s.channelsUp.length < 8 || s.flash.relog.any fun x => x.1 = p
/-- Start a write of a page: the snapshot from DRAM, the map entry as read (02 R61; 08 R279). -/
def State.takePage (s : State) (p : Nat) (wt : Bool) : State :=
  match s.regionAt p with
  | none => s
  | some i =>
    let w := s.page p
    let log := wt || s.logOnly p
    let carried := (s.pers.landing.filter fun e => e.line / 64 = p).map (·.id)
    let bad := s.integ.poison.filter fun l => l / 64 = p
    let x := s.extentForm i (!bad.isEmpty)
    let s := x.2
    let f : FlushWrite := ⟨p, i, (s.region i).rgen, memPage s.dram.data p, bad, carried, s.mapOf p, wt, log, x.1.1, x.1.2, 0, s.now⟩
    let s := s.setPage p { w with pdk := match w.pdk with | .dirty => .flushing | k => k }
    let s := s.joinStripe p (x.1.2 + 1) log
    { s with pers := { s.pers with flushes := s.pers.flushes ++ [f], wtPages := s.pers.wtPages.filter (· ≠ p),
                                   list := if w.pdk = .dirty then s.pers.list.filter fun e => e.1 ≠ p else s.pers.list } }
/-- Target level: TARGET percent of the limit, 10 to 90 (02 R71). -/
def State.overTarget (s : State) : Bool := s.pdkLimit * max 10 (min 90 (s.fget F.RGN_FLUSH_CTRL_TARGET)) < s.pdkBytes * 100
/-- The page the flusher takes next: one that owes a write-through write, else the oldest of the list that may be taken. -/
def State.flushChoice (s : State) : Option (Nat × Bool) :=
  match s.pers.wtPages.find? s.takeable with
  | some p => some (p, true)
  | none =>
    (s.pers.list.find? fun e =>
      s.takeable e.1 && (s.overTarget || s.rehHungry || ms (s.fget F.RGN_FLUSH_CTRL_AGE) ≤ s.now - e.2)).map fun e => (e.1, false)
/-- The flusher takes a page: not in STANDBY, not while flash is full (02 R73, R86; 08 R294). -/
def State.flusherTake (s : State) : State :=
  if !s.running || s.clk.move ≠ .none && s.clk.move ≠ .draining || s.bit F.FTC_STATUS_SPACE_FULL || s.dramBusy then s else
  match s.flushChoice with
  | some c => s.takePage c.1 c.2
  | none => s

/-! ### A write is durable (02 R61, R63, R83; 08 R277 to R280) -/

/-- Sectors of a block are programmed: a free block leaves FTC_FREE, unless the Loft takes it, whose blocks FTC_FREE does not count (08 R293).
It is open until its last flash page is programmed: PRESUMED, NAND pages of a block are programmed in order (log 91). -/
def State.useBlock (s : State) (sector len : Nat) (u : BlockUse) : State :=
  let n := max 1 s.flash.pop.blockSectors
  let b := sector / n
  let x := s.block b
  if x.bad then s else
  let fill := max x.fill (sector % n + len)
  let y := { x with fill := fill, opened := fill + 16 ≤ s.room (if x.use = .free then u else x.use) }
  if x.use = .free then (if u.loft then s else s.setFree (s.flash.freeBytes - s.blockBytes)).setBlock b { y with use := u, since := s.now }
  else s.setBlock b y
/-- What an extent's blocks are used as. -/
def logUse (log : Bool) : BlockUse := if log then .writeLog else .native
/-- Install the durable copy of a write whose map entry has not changed since it began (08 R279). -/
def State.install (s : State) (f : FlushWrite) (sector : Nat) : State :=
  if s.mapOf f.page ≠ f.old then s else
  let s := s.setMap f.page (mapEntry f.form (s.region f.region).enc f.log f.lenM1 f.rgen sector)
  let s := { s with flash := { s.flash with data := memSetPage s.flash.data f.page f.snap } }
  let s := s.useBlock sector (f.lenM1 + 1) (logUse f.log)
  s.setPage f.page { s.page f.page with f := true, cmps := f.form }
/-- Is the region of a write still the one it was taken from (03 R99; 08 R311)? -/
def State.flushLive (s : State) (f : FlushWrite) : Bool :=
  (s.region f.region).rgen = f.rgen && (s.region f.region).state ≠ .free && (s.region f.region).state ≠ .draining
/-- The transition at a durable completion (02 R61); stores that it did not carry and that have not been acknowledged need admission again. -/
def State.pdkDurable (s : State) (p : Nat) (isM : Bool) (carried : List Nat) : State :=
  let w := s.page p
  match w.pdk with
  | .flushing => ((s.setPage p { w with pdk := .clean }).leavePdk isM).readmit p carried
  | .redirty =>
    let s := s.setPage p { w with pdk := .dirty }
    { s with pers := { s.pers with list := s.pers.list ++ [(p, s.now)] } }
  | _ => s
/-- Is a write's stripe programmed, data and parity, and does the sector lie on its member's channel (08 R285, R287, R289)? A page that no
stripe holds any more was rewritten or rebuilt elsewhere. -/
def State.stripeDone (s : State) (page sector : Nat) : Bool :=
  s.flash.stripes.all fun x => (x.pages.filter fun y => y.1 = page).all fun y =>
    x.closed && (s.blockDie (sector / max 1 s.flash.pop.blockSectors)).1 = y.2.1
/-- A page leaves its stripe. -/
def State.leaveStripe (s : State) (page : Nat) : State :=
  { s with flash := { s.flash with stripes :=
      (s.flash.stripes.map fun x => { x with pages := x.pages.filter fun y => y.1 ≠ page }).filter fun x => !(x.closed && x.pages.isEmpty) } }
/-- Dynamic wear levelling: a stripe takes the free block with the lowest erase count, on each of its channels (08 R295). -/
def State.leastWorn (s : State) (b : Nat) : Bool :=
  let pop := s.flash.pop
  let x := s.block b
  let ch := (s.blockDie b).1
  let mine := s.flash.blocks.filter fun kv : Nat × Block => (s.blockDie kv.1).1 = ch
  x.use ≠ .free || ((x.wear = 0 || pop.onChannel.getD ch 0 * pop.pkgDies * pop.dieBlocks ≤ mine.length) &&
    mine.all fun kv : Nat × Block => kv.2.use ≠ .free || x.wear ≤ kv.2.wear)
/-- Do sectors hold a part of a valid extent? -/
def State.taken (s : State) (sector len : Nat) : Bool :=
  s.flash.map.any fun kv => mapValid kv.2 && mapSector kv.2 < sector + len && sector < mapSector kv.2 + kv.2.toNat / 2 ^ 53 % 4 + 1
/-- May a write's extent lie at a sector: within one flash page of a block that may be programmed, free or of its kind, behind the pages
that are programmed already, and on another die than a write of its page that failed (08 R278, R291, R295)? -/
def State.sectorOk (s : State) (f : FlushWrite) (sector : Nat) : Bool :=
  let n := max 1 s.flash.pop.blockSectors
  let b := sector / n
  let x := s.block b
  let len := f.lenM1 + 1
  s.blockOk b && (x.use = .free || x.use = logUse f.log) && s.leastWorn b && sector % 16 + len ≤ 16 && sector % n + len ≤ s.room (logUse f.log) &&
    x.fill ≤ sector % n / 16 * 16 + 16 && !s.taken sector len && !s.flash.relog.contains (f.page, s.dieKey b)
/-- The rewrite that a page owes after a failed write is done (08 R291). -/
def State.relogged (s : State) (page : Nat) : State :=
  { s with flash := { s.flash with relog := s.flash.relog.filter fun x => x.1 ≠ page } }
/-- A write of a page is durable: the copy, the paddock, the stores it carries, the regime. A program in progress completes in SAVE too
(08 R311). -/
def State.durable (s : State) (page sector : Nat) (wt : Bool) : State :=
  match s.pers.flushes.find? fun f => f.page = page && f.wt = wt with
  | none => s
  | some f =>
    if s.clk.inReset || s.power = 3 || !s.stripeDone page sector || !s.sectorOk f sector then s else
    let s := { s with pers := { s.pers with flushes := s.pers.flushes.filter fun x => !(x.page = page && x.wt = wt) } }
    let s := ((s.leaveStripe page).relogged page).gpfDurable page f.time
    let s := if s.flushLive f then (s.install f sector).pdkDurable page ((s.region f.region).dur = .m) f.carries else s
    let s := { s with pers := { s.pers with
      landing := s.pers.landing.map fun e : LandEntry => if f.carries.contains e.id && e.wt then { e with localOk := true } else e } }
    (s.settleAcks).stretchExit
/-- A write of a page is to be done again: a flush goes back to DIRTY, a write-through write is rewritten in another stripe of the log (02
R61; 08 R291). -/
def State.flushAgain (s : State) (page : Nat) : State :=
  match s.pers.flushes.find? fun f => f.page = page with
  | none => s
  | some f =>
    let s := s.leaveStripe page
    if f.wt then s.joinStripe page (f.lenM1 + 1) true else
    let w := s.page page
    let s := { s with pers := { s.pers with
      flushes := s.pers.flushes.filter fun x => !(x.page = page && !x.wt), list := (page, f.time) :: s.pers.list } }
    if w.pdk = .flushing || w.pdk = .redirty then s.setPage page { w with pdk := .dirty } else s
/-- A program fails: the block is a grown bad block, and the page is written again in the log on another die (08 R291). -/
def State.programFail (s : State) (page block : Nat) : State :=
  match s.pers.flushes.find? fun f => f.page = page with
  | none => s
  | some _ =>
    let s := { s with flash := { s.flash with relog := s.flash.relog ++ [(page, s.dieKey block)] } }
    (s.retireBlock block .flush).flushAgain page

end Sys2Proof.Machine
end

