-- ==== Sys2Proof/Machine/MoveFx.lean ====
section
/-! DEFINITION. Placement and movement: heat, promotion, demotion, eviction, spill, moves, fetches and restores (03 R110 to R117; 08 R307, R308). -/
namespace Sys2Proof.Machine

def State.regionOfPage (s : State) (p : Nat) : Region := match s.regionAt p with | some i => s.region i | none => Region.empty
/-- May background movement run: FULL, out of reset (03 R126)? -/
def State.mayMove (s : State) : Bool := s.running && s.clk.move = .none
/-- HEAT halves on every page (03 R110). -/
def State.heatDecay (s : State) : State :=
  if !s.mayMove then s
  else s.rgn.pages.foldl (fun a kv => a.setPage kv.1 { a.page kv.1 with heat := (a.page kv.1).heat / 2 }) s
/-- Put a page at its place by a key, higher first when `up`. -/
def placeBy (key : Nat → Nat) (up : Bool) (p : Nat) : List Nat → List Nat
  | [] => [p]
  | k :: t => if (if up then key k < key p else key p < key k) then p :: k :: t else k :: placeBy key up p t
def sortBy (key : Nat → Nat) (up : Bool) (ps : List Nat) : List Nat := ps.foldl (fun l p => placeBy key up p l) []

/-- A page leaves the hot area: L and M pages lose the Quay copy only, a V page goes to a DRAM frame first (03 R114). -/
def State.demote (s : State) (p : Nat) : State :=
  if (s.page p).d then (s.dropHot p).bump F.RGN_DEMOTE_CNT_VALUE F.RGN_TBL_STATUS_DEMOTE_SAT 56
  else (s.ensureFrame p true).startMove p .quayDrop 0
/-- Promote one page, demoting the coldest FLOAT page of the hot area when it is full and colder (03 R113). -/
def State.promote (s : State) (p : Nat) : State :=
  let s' := s.ensureHot p
  if sget 0 s'.quay.hotQa p ≠ 0 then s'.startMove p .quay 0
  else
    let float := (s'.rgn.pages.filter fun kv => kv.2.q && !kv.2.moving && (s'.regionOfPage kv.1).place = 2).map (·.1)
    match sortBy (fun q => (s'.page q).heat) false float with
    | [] => s'
    | v :: _ => if (s'.page v).heat < (s'.page p).heat then s'.demote v else s'
/-- The promotion sweep: FLOAT pages at HEAT ≥ PROMOTE, highest first; not on a mirror (03 R113, R126). -/
def State.promotionSweep (s : State) : State :=
  if !s.mayMove then s else
  let lim := max 1 (s.fget F.RGN_PLACE_CTRL_PROMOTE)
  let ok := fun kv : Nat × PageWord =>
    let r := s.regionOfPage kv.1
    lim ≤ kv.2.heat && kv.2.d && !kv.2.q && !kv.2.moving && r.served && r.place = 2 && s.servesStore r
  (sortBy (fun q => (s.page q).heat) true ((s.rgn.pages.filter ok).map (·.1))).foldl State.promote s

/-- Bytes of the floating pool and of what it holds (03, floating pool; R119). -/
def State.poolBytes (s : State) : Nat :=
  installedBytes s.dram.pop - s.dram.lost.length * s.dram.pop.bytes - s.fget F.FTC_DRAM_RSV_VALUE - s.fget F.RGN_USE_DRAM_VALUE
def State.poolUsed (s : State) : Nat :=
  4096 * (s.dram.frame.filter fun kv => !(s.regionOfPage kv.1).needsDram).length
/-- DRAM_HI and DRAM_LO in force (03 R127). -/
def State.dramHi (s : State) : Nat := min 98 (s.fget F.RGN_PLACE_CTRL_DRAM_HI)
def State.dramLo (s : State) : Nat :=
  let lo := s.fget F.RGN_PLACE_CTRL_DRAM_LO
  if s.dramHi ≤ lo then s.dramHi - 2 else lo
def State.poolAbove (s : State) (pct : Nat) : Bool := s.poolBytes * pct < s.poolUsed * 100
def State.poolBelow (s : State) (pct : Nat) : Bool := s.poolUsed * 100 < s.poolBytes * pct
/-- Eviction and spilling run from the pool's rise above DRAM_HI until it is below DRAM_LO (03 R113). -/
def State.poolCheck (s : State) : State :=
  { s with rgn := { s.rgn with shrink := s.poolAbove s.dramHi || (s.rgn.shrink && !s.poolBelow s.dramLo) } }
/-- May a page's DRAM copy be evicted (03 R113, R115, R118)? -/
def State.mayEvict (s : State) (p : Nat) : Bool :=
  let r := s.regionOfPage p
  let w := s.page p
  r.evictable && r.dur ≠ .v && w.d && !w.q && !w.moving && s.flashCurrent p
/-- Eviction order: COLD before FLOAT, then lowest HEAT (03 R113). -/
def State.evictKey (s : State) (p : Nat) : Nat := (if (s.regionOfPage p).place = 3 then 0 else 16) + (s.page p).heat
def State.evictLoop (s : State) : List Nat → State
  | [] => s
  | p :: t =>
    if s.poolBelow s.dramLo then s
    else ((s.dropDram p).bump F.RGN_DEMOTE_CNT_VALUE F.RGN_TBL_STATUS_DEMOTE_SAT 56).evictLoop t
/-- Eviction once the pool is above DRAM_HI, until it is below DRAM_LO (03 R113). -/
def State.dramEvict (s : State) : State :=
  if !s.mayMove || s.dramBusy then s else
  let s := s.poolCheck
  if !s.rgn.shrink then s
  else (s.evictLoop (sortBy s.evictKey false ((s.rgn.pages.filter fun kv => s.mayEvict kv.1).map (·.1)))).poolCheck
/-- May a V page be spilled (03 R113)? -/
def State.maySpill (s : State) (p : Nat) : Bool :=
  let r := s.regionOfPage p
  let w := s.page p
  r.dur = .v && r.evictable && r.served && w.d && !w.q && !w.moving
/-- A V page is spilled: its flash copy is written, then its DRAM copy is released; the first page in the order of eviction goes first
(03 R113; not while flash is full, 08 R294). -/
def State.spill (s : State) (p : Nat) : State :=
  match s.regionAt p with
  | none => s
  | some i =>
    let s := s.poolCheck
    if !s.mayMove || s.dramBusy || !s.rgn.shrink || !s.maySpill p || s.bit F.FTC_STATUS_SPACE_FULL ||
        s.rgn.pages.any (fun kv => s.maySpill kv.1 && s.evictKey kv.1 < s.evictKey p) then s
    else
      let bad := s.integ.poison.filter fun l => l / 64 = p
      let x := s.extentForm i (!bad.isEmpty)
      let log := x.2.logOnly p
      let n := x.2.place (logUse log) (x.1.2 + 1)
      let s := n.2.install ⟨p, i, (s.region i).rgen, memPage n.2.dram.data p, bad, [], n.2.mapOf p, false, log, x.1.1, x.1.2, 0, n.2.now⟩ n.1
      ((s.dropDram p).bump F.RGN_DEMOTE_CNT_VALUE F.RGN_TBL_STATUS_DEMOTE_SAT 56).poolCheck

/-- A V page under QUAY_PIN has its Quay copy only (03 R106). -/
def Region.hotOnly (r : Region) : Bool := r.quayPin && r.dur = .v
def State.keepHot (s : State) (p : Nat) : State := (s.dropDram p).trim p
/-- The hot-area copy of a page is written from its flash copy. -/
def State.fillHot (s : State) (p : Nat) : State :=
  let s := s.ensureHot p
  let s := { s with quay := { s.quay with hot := memSetPage s.quay.hot p (memPage s.flash.data p) } }
  s.setPage p { s.page p with q := true }
/-- A page read from flash goes where its rank has it (03 R105, R106, R113): a V page loses its flash copy. -/
def State.fillFrom (s : State) (p : Nat) : State :=
  let r := s.regionOfPage p
  if r.hotOnly then (s.fillHot p).trim p
  else
    let s := s.fillDram p (memPage s.flash.data p) (s.restricted p r)
    let s := if s.hotHere r then s.fillHot p else s
    if r.dur = .v then s.trim p else s
/-- A move is complete: one update switches the page to its destination (03 R116). -/
def State.moveDone (s : State) (p : Nat) : State :=
  match s.rgn.moves.find? fun m => m.page = p with
  | none => s
  | some m =>
    if !s.mayMove || s.dramBusy then s else
    let bytes := s.copyPage p
    let s := { s with rgn := { s.rgn with moves := s.rgn.moves.filter fun x => x.page ≠ p } }
    let s := s.setPage p { s.page p with moving := false }
    match m.dest with
    | .quay =>
      let s := { s with quay := { s.quay with hot := memSetPage s.quay.hot p bytes } }
      let s := (s.setPage p { s.page p with q := true }).bump F.RGN_PROMOTE_CNT_VALUE F.RGN_TBL_STATUS_PROMOTE_SAT 55
      if (s.regionOfPage p).hotOnly then s.keepHot p else s
    | .dram =>
      let s := if m.frame = 0 then s else s.setFrame p m.frame
      s.fillDram p bytes (s.restricted p (s.regionOfPage p))
    | .quayDrop =>
      ((s.fillDram p bytes true).dropHot p).bump F.RGN_DEMOTE_CNT_VALUE F.RGN_TBL_STATUS_DEMOTE_SAT 56

/-- Rebuild a restore-pending word from its map entry (08 R307); what it owes to tide entries and to the snoop filter since stays. -/
def State.restoreWord (s : State) (p : Nat) : State :=
  let e := s.mapOf p
  let w := { PageWord.fresh with tpin := (s.page p).tpin, sf := (s.page p).sf }
  if mapValid e then s.setPage p { w with zero := false, f := true, cmps := mapForm e, poison := (s.page p).poison, mir := (s.page p).mir }
  else s.setPage p w
/-- A page has been read from flash: a restore rebuilds its word; an accessed page, or one whose rank requires it, gets its DRAM copy;
the requests and reads that waited go on (03 R113; 05 R203; 08 R307, R308). -/
def State.fetchDone (s : State) (p : Nat) : State :=
  if !s.fetching p || !s.running || s.dramBusy || s.flash.mirrorFetch.contains p then s else
  let fill := s.flash.fetches.any fun f => f.page = p && f.fill
  let s := { s with flash := { s.flash with fetches := s.flash.fetches.filter fun f => f.page ≠ p } }
  let s := if (s.page p).restorePending then s.restoreWord p else s
  let s := if (s.page p).f && !(s.page p).d && fill then s.fillFrom p else s
  (s.answerWaits fun w => w.page = p && !s.parked w.line).runPageWaiters p
/-- The page-state word of a page arrives (05 R184, R193): from the Quay page-state cache, or by an access to its home copy in DRAM, which
waits for a frequency change (03 R126). Where in DRAM a word's home copy lies no rule says: a free value (log 89). -/
def State.wordDone (s : State) (p : Nat) (quay : Bool) : State :=
  if !(s.rgn.psWait.any fun w => w.page = p) || s.inYard p || !s.memActive then s
  else if quay then (s.yardFill p).runFetched p { core := 212 }
  else if s.dramBusy then s
  else
    let r := s.free (installedBytes s.dram.pop)
    let a := r.2.dramAccess r.1
    (a.2.yardFill p).runFetched p { core := 246, ddr := a.1 }

/-- Class of a page in the background restore (08 R308). -/
def State.restoreClass (s : State) (p : Nat) : Nat :=
  let r := s.regionOfPage p
  if r.quayPin || r.place = 1 || r.strict then 1
  else if s.flash.unfolded.contains p || s.flash.mirrorFetch.contains p then 2
  else if r.place = 2 then 3 else 4
/-- Restore the next restore-pending page; RESTORE_DONE when none is left (08 R308). -/
def State.restoreNext (s : State) : State :=
  if !s.mayMove || s.dramBusy then s else
  match sortBy s.restoreClass false ((s.rgn.pages.filter fun kv => kv.2.restorePending).map (·.1)) with
  | [] => if s.bit F.FTC_STATUS_RESTORE_DONE then s else (s.setBit F.FTC_STATUS_RESTORE_DONE true).raise 373
  | p :: _ =>
    if s.flash.mirrorFetch.contains p then s.startRestore p .c4 else
    let s := s.restoreWord p
    let r := s.regionOfPage p
    let s := if (s.page p).f && (r.needsDram || r.quayPin) then s.fillFrom p else s
    if s.fetching p then s.fetchDone p else s

end Sys2Proof.Machine
end

