-- ==== Sys2Proof/Machine/IntegFx.lean ====
section
/-! DEFINITION. Data integrity: corrected and uncorrectable errors, recovery, merge buffers, scrub, evacuation, check units (10_integrity_and_check_units.md; 07 R261 to R265). -/
namespace Sys2Proof.Machine

/-! ### Locations (10, LOC by tier) -/

def dramLoc (p : DimmPop) (da : Nat) : Nat :=
  let a := daDecode p da
  let n := max 1 (p.height * p.pr)
  a.ch + 16 * a.sub + 32 * (a.rank / n) + 64 * (a.rank % n / max 1 p.height) + 128 * (a.rank % max 1 p.height) + 512 * a.bg +
    4096 * a.ba + 2 ^ 14 * a.row + 2 ^ 32 * (a.cb * 16)
def quayLoc (qa : Nat) : Nat :=
  let a := qaDecode qa
  a.ch + 32 * a.bank + 2048 * a.row + 2 ^ 25 * a.cb
/-- Block, flash page and codeword of a sector; CE and LUN hold the die's number in its channel (log 20). -/
def State.flashLoc (s : State) (sector : Nat) : Nat :=
  let n := max 1 s.flash.pop.blockSectors
  let b := sector / n
  let d := s.blockDie b
  d.1 + d.2 % 16 * 32 + b % max 1 s.flash.pop.dieBlocks * 512 + sector % n / 16 % 4096 * 2 ^ 25 + sector / 4 % 4 * 2 ^ 37
def tierNum : Tier → Nat
  | .sram => 0 | .quay => 1 | .dram => 2 | .flash => 3 | .settings => 0
/-- The tier that serves a line now (05 R188). -/
def State.tierOf (s : State) (p : Nat) : Option Tier :=
  let w := s.page p
  if w.q || w.qstg then some .quay else if s.dValid p then some .dram else if w.f then some .flash else none
/-- LOC of a line's copy in a tier. -/
def State.locOf (s : State) (line : Nat) (t : Tier) : Nat :=
  let p := line / 64
  match t with
  | .quay => quayLoc ((if (s.page p).q then sget 0 s.quay.hotQa p else sget 0 s.quay.stgQa p) - 1 + line % 64 * 64)
  | .dram => dramLoc s.dram.pop ((s.frameOf p - 1) * 4096 + line % 64 * 64)
  | .flash => s.flashLoc (mapSector (s.mapOf p))
  | _ => 0

/-- The failing x4 device of a corrected DRAM line is the memory's to say: a free value, 0 to 9 (R391). -/
def State.deviceOf (s : State) (t : Tier) : Nat × State := match t with | .dram => s.free 10 | _ => (0xFF, s)
/-- A corrected value is written back: the copy keeps its data, the correction is counted and logged (R362, R363). -/
def State.correctedWriteback (s : State) (line : Nat) : State :=
  if !s.running then s else
  match s.tierOf (line / 64) with
  | some t =>
    let d := s.deviceOf t
    (d.2.countCe (tierNum t)).logErr (some (64 * line)) (s.locOf line t) t .corrected .demand d.1 0
  | none => s

/-! ### Recovery (R375 to R378) -/

/-- Is the flash copy of a page a source (R375 step 4)? Stores of a write-through class that it lacks are in the Landing queue still. -/
def State.flashHolds (s : State) (p : Nat) : Bool := (s.page p).f && (s.page p).pdk = .clean
/-- Steps of R375 that apply when the copy in `bad` has failed; a failing flash copy has had its retries (08 R284). In SAVE no Ethernet port
reaches the twin (R404; 11 R434). -/
def State.recSteps (s : State) (line : Nat) (bad : Tier) (whole : Bool) : List Nat :=
  let p := line / 64
  let w := s.page p
  (if s.fullLanding line && !whole then [1] else []) ++ (if (w.q || w.qstg) && bad ≠ .quay then [2] else []) ++
    (if s.dValid p && bad ≠ .dram then [3] else []) ++
    (if s.flashHolds p then (if bad = .flash then [5] else [4, 5]) else []) ++ (if s.twinHas p && s.power ≠ 1 then [6] else [])
/-- A line as flash has it, under the stores drained since that are not durable yet. -/
def State.flashLine (s : State) (line : Nat) : Line :=
  overlay ((s.pers.landing.filter fun e => e.line = line && e.drained).map fun e => (e.data, e.mask, e.poison)) (memLine s.flash.data line)
/-- What a step's copy holds, Landing entries left out. -/
def State.stepLine (s : State) (line step : Nat) : Line :=
  match step with
  | 1 => s.lineNow line
  | 2 => if (s.page (line / 64)).q then memLine s.quay.hot line else memLine s.quay.staged line
  | 3 => memLine s.dram.data line
  | _ => s.flashLine line
/-- Entries of a page that have drained and are not acknowledged drain again: the DRAM copy is rebuilt under them. -/
def State.undrain (s : State) (p : Nat) : State :=
  { s with pers := { s.pers with
    landing := s.pers.landing.map fun e : LandEntry => if e.line / 64 = p then { e with drained := false } else e } }
/-- The failed copy is rewritten; a flash copy through the flusher path, a spilled V page by its DRAM copy (R378; 08 R286). -/
def State.rewriteCopy (s : State) (line : Nat) (t : Tier) (data : Line) : State :=
  let p := line / 64
  let all := BitVec.allOnes 64
  match t with
  | .quay =>
    if (s.page p).q then { s with quay := { s.quay with hot := memPutLine s.quay.hot line data all } }
    else { s with quay := { s.quay with staged := memPutLine s.quay.staged line data all } }
  | .dram => { s with dram := { s.dram with data := memPutLine s.dram.data line data all } }
  | .sram =>
    let f := fun e : LandEntry => if e.line = line && !e.drained then { e with data := data, mask := all } else e
    { s with pers := { s.pers with landing := s.pers.landing.map f } }
  | _ =>
    let s := if s.dValid p then s else s.fillFrom p
    if (s.regionOfPage p).dur = .v then s else s.oweWt p
def State.addRecovery (s : State) (r : Recovery) : State := { s with integ := { s.integ with recov := s.integ.recov ++ [r] } }
def State.endRecovery (s : State) (r : Recovery) : State :=
  { s with integ := { s.integ with recov := s.integ.recov.filter fun x => x ≠ r } }
/-- Lines that a recovery is about. -/
def Recovery.lines (r : Recovery) : List Nat := if r.whole then (List.range 64).map (64 * r.page + ·) else [r.line]
def State.rsetOf (s : State) (p : Nat) : Nat := match s.regionAt p with | some i => (s.region i).rset | none => 0
/-- A recovery asks the twin for its lines and waits (R375 step 6). -/
def State.askTwin (s : State) (r : Recovery) : State :=
  ((s.endRecovery r).addRecovery { r with twinSince := some s.now }).fetchTwin (s.rsetOf r.page) r.lines
/-- A recovery is over: reads and requests that it parked go on. -/
def State.unpark (s : State) (r : Recovery) : State :=
  let s := s.endRecovery r
  (s.answerWaits fun w => (w.line = r.line || ((r.whole || r.shared) && w.page = r.page)) && !s.parked w.line).runPageWaiters r.page
/-- The lines of the failed unit that no full Landing entry covers are poisoned, and one record goes to each host that sees the region
(R375 step 7, R380, R382; 07 R264). -/
def State.poisonUnit (s : State) (r : Recovery) : State :=
  let s := s.poisonLines (r.lines.filter fun l => r.tier = .sram || !s.fullLanding l)
  match s.regionAt r.page with
  | some i => s.recordAll (s.region i) .failure (.generalMedia (if r.whole || r.shared then 4096 * r.page else 64 * r.line))
  | none => s
/-- The failed copy of a recovery is rewritten. Whether its location fails again when the rewrite of a DRAM or Quay line is read back is the
memory's own, a free value: then it is logged a second time, and not retired (R378, R379; log 112). -/
def State.rewriteFailed (s : State) (r : Recovery) (step : Nat) (data : Line) : State :=
  let s := s.rewriteCopy r.line r.tier data
  if r.tier = .dram || r.tier = .quay then
    let k := s.free 2
    if k.1 = 1 then k.2.logErr (some (64 * r.line)) (k.2.locOf r.line r.tier) r.tier .ueRecovered r.source 0xFF step else k.2
  else s
/-- A copy has been found: the failed copy is rewritten, the parked reads are answered (R377, R378). -/
def State.recovered (s : State) (r : Recovery) (step : Nat) (data : Line) : State :=
  let s := s.logErr (some (64 * r.line)) (s.locOf r.line r.tier) r.tier .ueRecovered r.source 0xFF step
  let s := if (s.regionOfPage r.page).strict && (step = 4 || step = 5) then (s.fillDram r.page (memPage s.flash.data r.page) true).undrain r.page
    else s
  (s.rewriteFailed r step data).unpark r
/-- No copy is left (R375 step 7). -/
def State.unrecovered (s : State) (r : Recovery) : State :=
  ((s.logErr (some (64 * r.line)) (s.locOf r.line r.tier) r.tier .uePoisoned r.source 0xFF 0).poisonUnit r).unpark r
/-- The copies have been tried; `bad` names the steps whose copy also failed. Step 6 asks the twin and waits (R375, R376). -/
def State.resolve (s : State) (r : Recovery) (bad : List Nat) : State :=
  match (s.recSteps r.line r.tier r.whole).filter fun k => !bad.contains k with
  | [] => s.unrecovered r
  | 6 :: _ => s.askTwin r
  | k :: _ => s.recovered r k (s.stepLine r.line k)
/-- SOURCE of the reader (R391). -/
def readerSource : UeReader → ErrSource
  | .demand => .demand | .flush => .flush | .move => .move | .check => .check
/-- May a read be recovered: in FULL, or one of the save engine in SAVE (R375, R404)? -/
def State.mayRecover (s : State) : Bool := s.running || (s.power = 1 && !s.clk.inReset)
/-- A read meets an uncorrectable error: it is counted and the line's reads are parked (R376). Staged pages follow 07 R261. A read of DRAM
waits for a frequency change first (R404). -/
def State.ueRecovery (s : State) (u : UeRead) : State :=
  let p := u.line / 64
  if !s.mayRecover || s.parked u.line || (s.page p).qstg then s else
  match s.tierOf p with
  | none => s
  | some t =>
    if t = .dram && s.dramBusy then s
    else (s.countUe (tierNum t)).addRecovery ⟨p, u.line, t, false, t = .flash, true, (readerSource u.reader), none, s.now⟩
def State.ueResolved (s : State) (line : Nat) (bad : List Nat) : State :=
  match s.integ.recov.find? fun r => r.line = line && !r.shared && r.twinSince.isNone with
  | none => s
  | some r => if s.dramBusy then s else s.resolve r bad

/-! ### Shared staged pages (07 R261 to R265) -/

/-- Orders of R261 that apply when the copy in `bad` has failed; the staged copy is another one when it was the hot-area copy. -/
def State.stagedSteps (s : State) (p : Nat) (bad : Tier) : List Nat :=
  let w := s.page p
  (if w.qstg && (bad ≠ .quay || w.q) then [1] else []) ++ (if s.dValid p && bad ≠ .dram then [2] else []) ++
    (if s.flashHolds p then (if bad = .flash then [4] else [3, 4]) else []) ++ (if s.twinHas p then [5] else [])
/-- What the copy of an order holds. -/
def State.orderLine (s : State) (line order : Nat) : Line :=
  match order with
  | 1 => memLine s.quay.staged line
  | 2 => memLine s.dram.data line
  | _ => s.flashLine line
/-- The page is recovered: into the staging area, and into the copy that was lost; a flash copy is rewritten (R263, R265). -/
def State.stagedOk (s : State) (r : Recovery) (order : Nat) (data : Line) : State :=
  let s := s.logErr (some (64 * r.line)) (s.locOf r.line r.tier) r.tier .ueRecovered r.source 0xFF order
  let s := (s.bump F.TIDE_UE_CNT_VALUE F.TIDE_CNT_STATUS_UE_SAT 70).raise 67
  let s := if r.whole then s else { s with quay := { s.quay with staged := memPutLine s.quay.staged r.line data (BitVec.allOnes 64) } }
  let s := if r.tier = .quay && !(s.page r.page).q then s else s.rewriteFailed r order data
  s.unpark r
/-- No copy is left: poison, and one record for the page (R264). -/
def State.stagedLost (s : State) (r : Recovery) : State :=
  let s := (s.logErr (some (64 * r.line)) (s.locOf r.line r.tier) r.tier .uePoisoned r.source 0xFF 0).poisonUnit r
  ((s.bump F.TIDE_POISON_CNT_VALUE F.TIDE_CNT_STATUS_POISON_SAT 71).raise 68).unpark r
/-- The copies are tried in the order of R261; order 5 asks the twin and waits. -/
def State.resolveStaged (s : State) (r : Recovery) (bad : List Nat) : State :=
  match (s.stagedSteps r.page r.tier).filter fun k => !bad.contains k with
  | [] => s.stagedLost r
  | 5 :: _ => s.askTwin r
  | k :: _ => s.stagedOk r k (s.orderLine r.line k)
/-- A staging copy, or a read of a staged page, meets an uncorrectable error in the copy that serves it: the page's reads are parked, and
the copies tried. -/
def State.stagedUe (s : State) (page line : Nat) (bad : List Nat) : State :=
  let copying := s.copies.any fun c => c.page = page
  if !s.running || line / 64 ≠ page || !((s.page page).qstg || copying) || s.parked line then s else
  match s.tierOf page with
  | none => s
  | some t =>
    let r : Recovery := ⟨page, line, t, true, t = .flash, true, .staging, none, s.now⟩
    ((s.countUe (tierNum t)).addRecovery r).resolveStaged r bad

/-! ### Answers of the twin's mirror (R375 step 6, R380; 02 R53; 07 R264) -/

/-- Does a request to the twin for a line of a page still wait? -/
def State.twinOwes (s : State) (p : Nat) : Bool := s.twin.fwd.any fun e => e.line / 64 = p && e.req = .sweep
/-- The requests for a recovery's lines end. -/
def State.dropTwinAsk (s : State) (p : Nat) (line : Option Nat) : State :=
  { s with twin := { s.twin with
    fwd := s.twin.fwd.filter fun e => !(e.req = BiReq.sweep && (match line with | some l => e.line = l | none => e.line / 64 = p)) } }
/-- The twin cannot supply what a recovery asked for. -/
def State.noMirror (s : State) (r : Recovery) : State :=
  let s := s.dropTwinAsk r.page (if r.whole then none else some r.line)
  if r.shared then s.stagedLost r else s.unrecovered r
/-- Every line of a page has come from the twin into its DRAM frame; stores that are not acknowledged drain over it. -/
def State.fromTwin (s : State) (p : Nat) : State :=
  let s := s.ensureFrame p true
  (s.setPage p { s.page p with zero := false, d := true }).undrain p
/-- A page restored from the twin after an incomplete save has its data, or is lost; what waited for it goes on (02 R53). -/
def State.mirrorFetched (s : State) (p : Nat) : State :=
  let s := { s with flash := { s.flash with mirrorFetch := s.flash.mirrorFetch.filter (· ≠ p),
                                            fetches := s.flash.fetches.filter fun f => f.page ≠ p } }
  (s.answerWaits fun w => w.page = p).runPageWaiters p
/-- The twin's answer to a recovery or a restore: data, or nothing it can supply; then an M page is handled as an L page is (02 R53). -/
def State.twinSupplied (s : State) (line : Nat) (data : Option Line) : State :=
  let p := line / 64
  let put := fun d : Line => { s with dram := { s.dram with data := memPutLine s.dram.data line d (BitVec.allOnes 64) } }
  match s.integ.recov.find? fun r => r.twinSince.isSome && (r.line = line || (r.whole && r.page = p)) with
  | some r =>
    match data with
    | none => s.noMirror r
    | some d =>
      if !r.whole then (if r.shared then s.stagedOk r 5 d else s.recovered r 6 d)
      else if s.twinOwes p then put d
      else let s := (put d).fromTwin p; if r.shared then s.stagedOk r 5 d else s.recovered r 6 (memLine s.dram.data r.line)
  | none =>
    if !s.flash.mirrorFetch.contains p then s else
    match data with
    | some d => if s.twinOwes p then put d else (((put d).fromTwin p).oweWt p).mirrorFetched p
    | none => ((s.dropTwinAsk p none).losePage p).mirrorFetched p
/-- A request for a page or line from the twin's mirror has run out of its allowance: 1,000 µs (07 R261 sequence; 02 R53 within
5.0 ms), or the twin is no longer PAIRED. -/
def State.mirrorTimeout (s : State) (p : Nat) : State :=
  match s.integ.recov.find? fun r => r.page = p && r.twinSince.isSome with
  | some r => if s.isPaired && s.now - r.twinSince.getD 0 < us 1000 then s else s.noMirror r
  | none =>
    match s.flash.fetches.find? fun f => f.page = p && s.flash.mirrorFetch.contains p with
    | none => s
    | some f => if s.isPaired && s.now - f.time < ms 5 then s else ((s.dropTwinAsk p none).losePage p).mirrorFetched p

/-! ### Patrol scrub, the poison list (R389, R390, R374) -/

/-- Lines, or words, of a store that patrol scrub walks. -/
def State.scrubSize (s : State) (tier : Nat) : Nat :=
  match tier with
  | 0 => 8388608
  | 1 => 0x600000000 / 64
  | 2 => installedBytes s.dram.pop / 64
  | 4 => 4096
  | _ => 0
/-- The page whose copy lies at a line of DRAM or of the Quay. -/
def State.scrubPage (s : State) (tier k : Nat) : Option Nat :=
  let at_ := fun (m : SMap Nat) (v : Nat) => (m.find? fun kv => kv.2 = v).map (·.1)
  let qa1 := k / 64 * 4096 + 1
  match tier with
  | 1 => (at_ s.quay.hotQa qa1).orElse fun _ => at_ s.quay.stgQa qa1
  | 2 => at_ s.dram.frame (k / 64 + 1)
  | _ => none
/-- Does scrub skip a line: a frame that is retired, in self-refresh, on a DIMM that holds nothing, or of a ZERO page (R389, R390)? -/
def State.scrubSkips (s : State) (tier k : Nat) : Bool :=
  (match s.scrubPage tier k with | some p => (s.page p).zero | none => false) ||
    (tier = 2 && (s.dram.retired.contains (k / 64) || s.dram.retiredRanks.contains (s.rankOf (k / 64)) ||
      s.dram.lost.contains (s.dimmOf (k / 64)) || s.dram.unswept.contains (s.dimmOf (k / 64)))) ||
    (tier = 1 && (s.integ.quayRetired.contains (k / 64) || s.quay.lost.contains (qaDecode (k * 64)).ch))
/-- The first line of a store from `k` on, page by page, that scrub does not skip. -/
def State.scrubNext (s : State) (tier n : Nat) : Nat → Nat → Option Nat
  | 0, _ => none
  | fuel + 1, k =>
    if n ≤ k then none
    else if s.scrubSkips tier k then s.scrubNext tier n fuel (k / 64 * 64 + 64) else some k
/-- The next line that scrub reads in a store: when the store ends it goes on at its first line. -/
def State.scrubLine (s : State) (tier : Nat) : Option Nat :=
  let n := s.scrubSize tier
  (s.scrubNext tier n (n / 64 + 1) (sget 0 s.integ.scrubPos tier)).orElse fun _ => s.scrubNext tier n (n / 64 + 1) 0
/-- An uncorrectable line that scrub finds is recovered at once, with no read parked (R390). -/
def State.scrubUe (s : State) (line : Nat) (tier : Tier) (bad : List Nat) : State :=
  let p := line / 64
  if s.parked line then s else
  let s := s.countUe (tierNum tier)
  if (s.page p).qstg then
    let r : Recovery := ⟨p, line, tier, true, false, false, .scrub, none, s.now⟩
    (s.addRecovery r).resolveStaged r bad
  else
    let r : Recovery := ⟨p, line, tier, false, false, false, .scrub, none, s.now⟩
    (s.addRecovery r).resolve r bad
/-- The pages that carry poison, in order of DLA. -/
def State.poisonPages (s : State) : List PoisonPage :=
  s.integ.poison.foldl (fun l ln => insPoison ⟨ln / 64, s.poisonMask (ln / 64)⟩ l) []
/-- The background pass over every page-state word (R374). -/
def State.poisonRebuild (s : State) : State :=
  if !s.mayMove || !s.bit F.INT_POISON_LIST_OVERFLOW then s else
  let l := s.poisonPages
  if 65536 < l.length then s else
  (({ s with integ := { s.integ with list := l } }).fset F.INT_POISON_LIST_ENTRIES l.length).setBit F.INT_POISON_LIST_OVERFLOW false

/-! ### Evacuation (R387, R388) -/

/-- `State.bump` by more than one. -/
def State.bumpBy (s : State) (cnt sat : Fld) (src n : Nat) : State :=
  let v := s.fget cnt
  let top := 2 ^ cnt.width - 1
  if n = 0 || v = top then s
  else if top ≤ v + n then ((s.fset cnt top).setBit sat true).raise src
  else s.fset cnt (v + n)
/-- Pages with a frame in a rank. -/
def State.rankPages (s : State) (ch rank : Nat) : List Nat :=
  (s.dram.frame.filter fun kv => s.rankOf (kv.2 - 1) = ch * 16 + rank).map (·.1)
/-- A page moves to another frame that its restriction allows. -/
def State.reframe (s : State) (p : Nat) : State :=
  match s.nextFrame (s.restricted p (s.regionOfPage p)) with
  | some n => s.setFrame p (n + 1)
  | none => s
/-- Frames of one logical rank. -/
def State.rankFrames (s : State) : Nat :=
  s.dram.pop.bytes / max 1 (s.dram.pop.height * s.dram.pop.pr) / 4096
/-- The evacuation is complete: its pages have moved, the rank's frames are retired (R387, R388). -/
def State.evacDone (s : State) : State :=
  match s.integ.evac with
  | none => s
  | some e =>
    if !s.mayMove || s.dramBusy then s else
    let s := { s with dram := { s.dram with retiredRanks := insNat (e.ch * 16 + e.rank) s.dram.retiredRanks } }
    let s := (s.rankPages e.ch e.rank).foldl State.reframe s
    let s := { s with integ := { s.integ with evac := none } }
    let s := s.bumpBy F.INT_RETIRE_CNT_VALUE F.INT_CNT_STATUS_RETIRE_SAT 412 s.rankFrames
    let n := max 1 (s.dram.pop.height * s.dram.pop.pr)
    let loc := e.ch + 32 * (e.rank / n) + 64 * (e.rank % n / max 1 s.dram.pop.height) + 128 * (e.rank % max 1 s.dram.pop.height)
    ((s.logErr none loc .dram .spared .move 0xFF 0).setBit F.INT_STATUS_EVAC_BUSY false).raise 404

/-! ### Check units (R396 to R405) -/

def State.chkState (s : State) (u : Nat) : Nat := s.fget (F.INT_CHK_STATUS_STATE u)
/-- RESULT follows VALUE (R397). -/
def State.setChkValue (s : State) (u v : Nat) : State :=
  let k := crcKind (s.fget (F.INT_CHK_CTRL_POLY u))
  (s.fset (F.INT_CHK_VALUE_VALUE u) (v % 2 ^ k.width)).fset (F.INT_CHK_RESULT_VALUE u) (k.result (v % 2 ^ k.width))
/-- The unit leaves RUNNING (R401, R406). -/
def State.chkEnd (s : State) (u st : Nat) : State :=
  let o := sget ChkOwner.empty s.integ.chk u
  let s := { s with integ := { s.integ with chk := sput ChkOwner.empty s.integ.chk u { o with stop := false } } }
  (s.fset (F.INT_CHK_STATUS_STATE u) st).raise (405 + u)
/-- A scan begins (R397, R398). -/
def State.chkBegin (s : State) (u : Nat) : State :=
  (s.fset (F.INT_CHK_CUR_VALUE u) (s.fget (F.INT_CHK_START_VALUE u))).fset (F.INT_CHK_STATUS_STATE u) 1
/-- A write of 1 to START: from START, LEN and VALUE; the owner is the appliance firmware (R405). -/
def State.chkStart (s : State) (u : Nat) : State :=
  if 4 ≤ u || !s.running || s.chkState u = 1 then s else
  let s := { s with integ := { s.integ with chk := sput ChkOwner.empty s.integ.chk u ChkOwner.empty } }
  let s := (s.fset (F.INT_CHK_CTRL_OWNER u) 0xFFFF).setBit (F.INT_CHK_CTRL_OWNER_KIND u) false
  (s.setChkValue u (s.fget (F.INT_CHK_VALUE_VALUE u))).chkBegin u
/-- The scan stops after the line in progress (R401). -/
def State.chkStop (s : State) (u : Nat) : State :=
  if 4 ≤ u || s.chkState u ≠ 1 then s else
  let o := sget ChkOwner.empty s.integ.chk u
  { s with integ := { s.integ with chk := sput ChkOwner.empty s.integ.chk u { o with stop := true } } }
/-- Is a region visible to the owner of a scan (R401; 04 R140, R142)? -/
def State.chkSees (s : State) (u : Nat) (r : Region) : Bool :=
  let o := s.fget (F.INT_CHK_CTRL_OWNER u)
  if s.bit (F.INT_CHK_CTRL_OWNER_KIND u) then
    o = 0 || match sget none s.ute.ctxs o with
    | some c => (match c.owner with | .ld n => s.visibleTo r n | .hostId n => s.visibleTo r n | _ => true)
    | none => false
  else o = 0xFFFF || s.visibleTo r o
/-- Feed the bytes of a line that lie in the range. -/
def State.chkFeed (s : State) (u line cur stop : Nat) : State :=
  let k := crcKind (s.fget (F.INT_CHK_CTRL_POLY u))
  let l := s.lineNow line
  let bytes := (List.range (stop - cur)).map fun i => lineByte l ((cur + i) % 64)
  (s.setChkValue u (k.run (s.fget (F.INT_CHK_VALUE_VALUE u)) bytes)).fset (F.INT_CHK_CUR_VALUE u) stop
/-- A scan's next line (R398 to R401); a page that waits for its restore is fetched first, a line parked for a recovery waits for it, and DRAM
for a frequency change (R404; 07 R262). -/
def State.chkLine (s : State) (u : Nat) : State :=
  if 4 ≤ u || s.chkState u ≠ 1 || !s.running then s else
  let cur := s.fget (F.INT_CHK_CUR_VALUE u)
  let fin := s.fget (F.INT_CHK_START_VALUE u) + s.fget (F.INT_CHK_LEN_VALUE u)
  if fin ≤ cur then s.chkEnd u 2 else
  match s.regionAt (cur / 4096) with
  | none => s.chkEnd u 5
  | some i =>
    if !((s.region i).served && s.chkSees u (s.region i)) then s.chkEnd u 5
    else if s.parked (cur / 64) then s
    else if s.poisonNow (cur / 64) then s.chkEnd u 4
    else if (s.page (cur / 4096)).restorePending then s.startRestore (cur / 4096) .c4
    else if s.dramBusy && s.tierOf (cur / 4096) = some .dram then s
    else
      let s := s.chkFeed u (cur / 64) cur (min fin (cur / 64 * 64 + 64))
      if fin ≤ s.fget (F.INT_CHK_CUR_VALUE u) then s.chkEnd u 2
      else if (sget ChkOwner.empty s.integ.chk u).stop then s.chkEnd u 3
      else s
/-- Every scan stops (R404). -/
def State.chkStopAll (s : State) : State :=
  (List.range 4).foldl (fun a u => if a.chkState u = 1 then a.chkEnd u 3 else a) s

end Sys2Proof.Machine
end

