-- ==== Sys2Proof/Machine/FlashFx.lean ====
section
/-! DEFINITION. The flash tier's own events: codeword reads, stripes, collection, levelling, relocation, scrub, retirement, channel loss, restore, map load, folding (08_flash_tier.md). -/
namespace Sys2Proof.Machine

/-- Block that holds a sector. -/
def State.blockOf (s : State) (sector : Nat) : Nat := sector / max 1 s.flash.pop.blockSectors
/-- Count a read of a page's block (R296). -/
def State.countBlockRead (s : State) (p : Nat) : State :=
  let b := s.blockOf (mapSector (s.mapOf p))
  s.setBlock b { s.block b with reads := (s.block b).reads + 1 }
/-- Is a page being read for staging (07 R261)? -/
def State.readForStaging (s : State) (p : Nat) : Bool := s.copies.any fun c => c.page = p
/-- A codeword read of a page in flight ends: hard decode, soft retries, a rebuild, or failure (R284, R286; 10 R375; 07 R261). Reads that
wait for a line it has decoded are answered (05 R203); the twin is asked for the whole page. -/
def State.flashRead (s : State) (p : Nat) (o : CodewordResult) : State :=
  let e := s.mapOf p
  if !(s.fetching p || s.readForStaging p) || !mapValid e || !(s.running || s.clk.joining) then s else
  let s := s.countBlockRead p
  let s := if (s.page p).restorePending then s.restoreWord p else s
  let ready := fun a : State => a.answerWaits fun w => w.page = p && !a.parked w.line
  let loc := s.flashLoc (mapSector e)
  let src : ErrSource := if s.readForStaging p then .staging else .demand
  match o with
  | .hard => ready s
  | .soft n =>
    if n = 0 || 7 < n then s else
    let s := s.bump F.FTC_RETRY_CNT_VALUE F.FTC_CNT_STATUS_RETRY_SAT 374
    ready ((s.countCe 3).logErr (some (4096 * p)) loc .flash .corrected src 0xFF 0)
  | .failed rebuilt =>
    let s := s.countUe 3
    if rebuilt then
      let s := s.bump F.FTC_REBUILD_CNT_VALUE F.FTC_CNT_STATUS_REBUILD_SAT 375
      let s := s.retireBlock (s.blockOf (mapSector e)) src
      let s := s.logErr (some (4096 * p)) loc .flash .ueRecovered src 0xFF (if src = .staging then 4 else 5)
      let s := if src = .staging then (s.bump F.TIDE_UE_CNT_VALUE F.TIDE_CNT_STATUS_UE_SAT 70).raise 67 else s
      ready (s.rewriteCopy (64 * p) .flash 0)
    else
      let r : Recovery := ⟨p, 64 * p, .flash, src = .staging, true, true, src, none, s.now⟩
      if s.dValid p && src = .staging then (s.addRecovery r).stagedOk r 2 (memLine s.dram.data (64 * p))
      else if s.twinHas p then (s.addRecovery r).askTwin r
      else if src = .staging then s.stagedLost r else s.unrecovered r

/-- Stripes are closed: parity is written over the members present, and the flushes that they hold may become durable (R289). -/
def State.closeStripes (s : State) (which : OpenStripe → Bool) : State :=
  { s with flash := { s.flash with stripes :=
      (s.flash.stripes.map fun x => if which x then { x with closed := true } else x).filter fun x => !(x.closed && x.pages.isEmpty) } }
/-- A stripe has stayed open for its time (R289). -/
def State.stripeClose (s : State) (n : Nat) : State :=
  match s.flash.stripes.find? fun x => x.number = n with
  | none => s
  | some x =>
    if s.now - x.since < us (if x.log then 100 else 400) then s
    else s.closeStripes fun y => y.number = n

/-- Pages whose extent lies in a block. -/
def State.blockPages (s : State) (b : Nat) : List Nat :=
  (s.flash.map.filter fun kv => mapValid kv.2 && s.blockOf (mapSector kv.2) = b).map (·.1)
/-- A map entry points at a new place, in a block of the write log or not. -/
def moveEntry (e : BitVec 64) (sector : Nat) (log : Bool) : BitVec 64 :=
  let w := BitVec.ofNat 64 (e.toNat / 2 ^ 37 * 2 ^ 37 + sector % 2 ^ 37) &&& ~~~(1#64 <<< 59)
  if log then w ||| (1#64 <<< 59) else w
/-- One extent moves to a native block, or to the log with fewer than 8 channels in service (R285); a flush of the page under way keeps its
claim, and pages of a DRAINING region are trimmed (R279, R311). -/
def State.relocate (s : State) (p : Nat) : State :=
  match s.regionAt p with
  | none => s
  | some i =>
    if (s.region i).state = .draining then s.trim p
    else if s.inFlush p then s
    else
      let log := s.channelsUp.length < 8
      let len := (s.mapOf p).toNat / 2 ^ 53 % 4 + 1
      let n := s.place (logUse log) len
      (n.2.setMap p (moveEntry (n.2.mapOf p) n.1 log)).useBlock n.1 len (logUse log)
/-- Wear of an erase, in twelfths: one in SLC mode wears 1 ÷ BPC (R295). -/
def State.eraseWear (s : State) (u : BlockUse) : Nat := if u.slc then 12 / max 1 s.flash.pop.bpc else 12
/-- A block is erased and joins the free pool (R293). A block whose erase fails is retired (R298):
whether it does is the medium's own, a free value (log 90). -/
def State.eraseBlock (s : State) (b : Nat) : State :=
  let u := s.free 2
  let s := u.2
  if u.1 = 1 then s.retireBlock b .move else
  let x := s.block b
  let s := s.setBlock b { x with use := .free, wear := x.wear + s.eraseWear x.use, reads := 0, opened := false, fill := 0 }
  (s.setFree (s.flash.freeBytes + s.blockBytes)).setWear
/-- May flash background work run (03 R126; R292)? -/
def State.mayRelocate (s : State) : Bool := s.mayMove && s.bit F.CLK_STATUS_MEM_ACTIVE
/-- Does a block hold extents that may be moved? -/
def State.movable (s : State) (b : Nat) : Bool :=
  let x := s.block b
  (x.use = .native || x.use = .writeLog) && !x.bad
/-- Move every valid extent of a block, then erase it when nothing is left in it. -/
def State.emptyBlock (s : State) (b : Nat) : State :=
  let s := (s.blockPages b).foldl State.relocate s
  if (s.blockPages b).isEmpty then s.eraseBlock b else s
/-- Sectors of a block that valid extents take. -/
def State.validSectors (s : State) (b : Nat) : Nat :=
  ((s.flash.map.filter fun kv => mapValid kv.2 && s.blockOf (mapSector kv.2) = b).map fun kv => kv.2.toNat / 2 ^ 53 % 4 + 1).sum
/-- Is a block collected before another: fewer valid sectors, then the lower erase count (R293)? -/
def State.victimBefore (s : State) (a b : Nat) : Bool :=
  s.validSectors a < s.validSectors b || (s.validSectors a = s.validSectors b && (s.block a).wear < (s.block b).wear)
/-- Garbage collection of the victim block (R293). -/
def State.garbageCollect (s : State) (b : Nat) : State :=
  if !s.mayRelocate || !s.movable b || (s.block b).opened ||
      s.flash.blocks.any (fun kv => s.movable kv.1 && !kv.2.opened && s.victimBefore kv.1 b) then s
  else s.emptyBlock b
/-- Erase counts in twelfths over the blocks in service. -/
def State.wears (s : State) : List Nat := (s.flash.blocks.filter fun kv => !kv.2.bad).map (·.2.wear)
/-- May anything but garbage collection and folding issue programs: not while flash is full (R294)? -/
def State.mayProgram (s : State) : Bool := s.mayRelocate && !s.bit F.FTC_STATUS_SPACE_FULL
/-- Static wear levelling: the least-worn block's data moves when the spread exceeds WL_DELTA, 0 acting as 1 (R295). -/
def State.wearLevel (s : State) (b : Nat) : State :=
  let total := s.totalBlocks
  let hi := s.wears.foldl max 0
  let lo := if s.flash.blocks.length < total then 0 else s.wears.foldl min hi
  if !s.mayProgram || !s.movable b || (s.block b).opened || (s.block b).wear ≠ lo ||
      hi - lo ≤ 12 * max 1 (s.fget F.FTC_MEDIA_CTRL_WL_DELTA) then s
  else s.emptyBlock b
def State.countReloc (s : State) : State := s.bump F.FTC_RELOC_CNT_VALUE F.FTC_CNT_STATUS_RELOC_SAT 377
/-- A block whose read counter has reached the profile's threshold is relocated; an open block after it closes (R296, R311). -/
def State.disturbRelocate (s : State) (b : Nat) : State :=
  if !s.mayProgram || !s.movable b || (s.block b).opened || (s.block b).reads < s.flash.pop.disturb then s
  else (s.emptyBlock b).countReloc
/-- Blocks that hold programmed pages, those programmed longest ago first (R297). -/
def State.oldBlocks (s : State) : List Nat :=
  sortBy (fun b => (s.block b).since) false
    ((s.flash.blocks.filter fun kv : Nat × Block => !kv.2.bad && kv.2.use ≠ .free && kv.2.use ≠ .reserved).map Prod.fst)
/-- A full retention pass begins; after an AON power-on reset it takes the oldest blocks first (R297). -/
def State.scrubAll (s : State) (oldFirst : Bool) : State :=
  { s with flash := { s.flash with scrubPass := s.oldBlocks, scrubOld := oldFirst, scrubDue := false } }
/-- Retention scrub has read a block; a weak one is relocated (R297). -/
def State.retentionScrub (s : State) (b : Nat) (weak : Bool) : State :=
  let x := s.block b
  if !s.mayRelocate || x.bad || x.use = .free || (s.flash.scrubOld && !s.flash.scrubPass.isEmpty && s.flash.scrubPass.head? ≠ some b) then s else
  let s := { s with flash := { s.flash with scrubPass := s.flash.scrubPass.filter (· ≠ b) } }
  let s := s.setBlock b { x with reads := x.reads + 1 }
  if weak && s.mayProgram && s.movable b && !x.opened then (s.emptyBlock b).countReloc else s

/-! ### The work of the dies (R292, R293) -/

/-- Work that a die takes. -/
inductive DieWork where
  | save | hostRead | gcFloor | flush | background
deriving DecidableEq, Repr
/-- Rank in the order of R292. -/
def DieWork.rank : DieWork → Nat
  | .save => 1 | .hostRead => 2 | .gcFloor => 3 | .flush => 4 | .background => 5
/-- Garbage collection's share of rank 5 in percent: none above HIGH, where it runs on idle dies only; 0 to 50 between LOW and HIGH; at or
below LOW the floor of one program slot in four counts (R292, R293). -/
def State.gcShare (s : State) : Nat :=
  let free := s.fget F.FTC_FREE_VALUE * 100 / max 1 (s.fget F.FTC_RAW_VALUE)
  if s.gcHigh < free then 0 else if free ≤ s.gcLow then 50 else 50 * (s.gcHigh - free) / (s.gcHigh - s.gcLow)
def State.gcFloor (s : State) : Bool := s.bit F.FTC_STATUS_SPACE_LOW
/-- Share of background flusher programs in percent of the program slots (R313). -/
def State.flushShare (s : State) : Nat := min 90 (s.fget F.FTC_CFG_FLUSH_BG)

/-- Pages whose extent lies on a retired die (R299). -/
def State.rebuildPages (s : State) : List Nat :=
  if s.flash.deadDies.isEmpty then [] else
  (s.flash.map.filter fun kv : Nat × BitVec 64 =>
    let d := s.blockDie (s.blockOf (mapSector kv.2))
    mapValid kv.2 && s.flash.deadDies.contains (d.1 * 32 + d.2) && (s.regionAt kv.1).isSome && !s.inFlush kv.1).map Prod.fst
/-- The extent to be rebuilt next from its stripe, not while flash is full (R294, R299). -/
def State.rebuildNext (s : State) : Option Nat :=
  if s.flash.deadDies.isEmpty || !s.mayProgram then none else s.rebuildPages.head?
/-- A die stops answering, or holds too many bad blocks: it is retired. Its extents are rebuilt from their stripes (`rebuildNext`); until then
each read of one is rebuilt (R286, R299, R300). -/
def State.dieRetire (s : State) (ch die : Nat) : State :=
  if s.clk.inReset || 32 ≤ ch || 32 ≤ die || s.fget (F.FTC_CH_STATUS_STATE ch) = 0 then s else
  s.retireDie ch die .demand
/-- Channels in service, and the groups that have one (R285, R313). -/
def State.setChannels (s : State) : State :=
  let up := s.channelsUp
  (s.fset F.FTC_STATUS_CH_IN_SERVICE up.length).fset F.FTC_STATUS_GROUPS
    (up.foldl (fun m c => m ||| 2 ^ (c / 8)) 0)
/-- A channel leaves service: the stripes open on it are closed with the members present, and what lay on it is rebuilt, by writing it
again (R285, R311, R314). -/
def State.channelLoss (s : State) (ch : Nat) : State :=
  if s.clk.inReset || 32 ≤ ch || s.fget (F.FTC_CH_STATUS_STATE ch) ≠ 2 then s else
  let s := (s.fset (F.FTC_CH_STATUS_STATE ch) 3).setChannels
  let s := s.closeStripes fun _ => true
  let lost := fun y : Nat × Nat × Nat => y.2.1 = ch
  let pages := (s.flash.stripes.flatMap fun x => x.pages.filter lost).map (·.1)
  let s := { s with flash := { s.flash with stripes := s.flash.stripes.map fun x => { x with pages := x.pages.filter fun y => !lost y } } }
  let s := pages.foldl State.flushAgain s
  (s.logErr none ch .flash .lost .demand 0xFF 0).raise 371

/-- The whole map has been loaded into the reserve, which is DRAM (R309, R312, R314). -/
def State.mapLoad (s : State) : State :=
  if !s.mayMove || s.dramBusy || s.bit F.FTC_STATUS_MAP_LOADED then s
  else (({ s with flash := { s.flash with mapLoaded := true } }).setBit F.FTC_STATUS_MAP_LOADED true).raise 372
/-- A block leaves the Loft and is erased; the Loft takes a free block in its place, so FTC_FREE stays (R293, R301). One whose erase fails is
retired, and the block that the Loft takes leaves FTC_FREE. -/
def State.loftErase (s : State) (b : Nat) : State :=
  let x := s.block b
  let u := s.free 2
  let s := u.2
  if u.1 = 1 then let s := s.retireBlock b .move; s.setFree (s.flash.freeBytes - s.blockBytes)
  else (s.setBlock b { x with use := .free, wear := x.wear + s.eraseWear x.use, reads := 0, opened := false, fill := 0 }).setWear
/-- Blocks of the Loft that hold no extent any more. -/
def State.loftEmptied (s : State) : List Nat :=
  (s.flash.blocks.filter fun kv : Nat × Block => kv.2.use.loft && !kv.2.bad && !s.flash.rehBlocks.contains kv.1 && (s.blockPages kv.1).isEmpty).map Prod.fst
/-- One Loft extent is folded into a native block, and a block that this empties leaves the Loft; a page of which a write is under way waits
for its end. FOLD_DONE when none is left (R279, R301, R310). -/
def State.foldExtent (s : State) : State :=
  if !s.mayMove then s else
  match s.flash.unfolded with
  | [] => s.setBit F.FTC_STATUS_FOLD_DONE true
  | p :: t =>
    if s.inFlush p then { s with flash := { s.flash with unfolded := t ++ [p] } } else
    let s := { s with flash := { s.flash with unfolded := t } }
    let inLoft := s.flash.loft.index.any fun e => e.page = p && mapValid (s.mapOf p) && mapSector (s.mapOf p) = e.sector
    let s := if inLoft then s.relocate p else s
    let s := s.loftEmptied.foldl State.loftErase s
    let s := s.setFree s.flash.freeBytes
    if t.isEmpty then
      ({ s with flash := { s.flash with loft := { LoftSave.empty with half := s.flash.loft.half }, loftData := [] } }).setBit F.FTC_STATUS_FOLD_DONE true
    else s
/-- The blocks that a rehearsal wrote are erased; they stay the Loft's (11 R423). -/
def State.rehErase (s : State) : State :=
  if !s.mayMove then s else
  match s.flash.rehBlocks with
  | [] => s
  | b :: t => ({ s with flash := { s.flash with rehBlocks := t } }).loftErase b
/-- The factory mark of a block is read on a first start-up; a marked block is bad from then on (R298; 17 R650). -/
def State.factoryMark (s : State) (b : Nat) (bad : Bool) : State :=
  let x := s.block b
  if s.clk.inReset || x.markRead || !s.bit F.CLK_STATUS_FIRST then s
  else
    let s := if bad && !x.bad && x.use = .free then s.setFree (s.flash.freeBytes - s.blockBytes) else s
    s.setBlock b { x with markRead := true, bad := x.bad || bad, use := if bad then .reserved else x.use }

end Sys2Proof.Machine
end

