-- ==== Sys2Proof/Machine/TideFx.lean ====
section
/-! DEFINITION. Tide events: idle sharers, staging copies, freed copies (07_tide_tables.md R242 to R256, R266). -/
namespace Sys2Proof.Machine

/-- No newer or equal update for IDLE × 100 ms: the sharer becomes DORMANT (R242, R243). -/
def State.sharerIdle (s : State) (h : Nat) : State :=
  let x := s.sharer h
  let idle := s.fget F.TIDE_CTRL_IDLE
  if x.state ≠ .active || idle = 0 || s.now - x.seen < ms (100 * idle) then s else s.makeDormant h
/-- May staging run: FULL, out of reset (R266)? -/
def State.mayStage (s : State) : Bool := s.mayMove
/-- Does a page wait for its copy? -/
def State.needsCopy (s : State) (i p : Nat) : Bool := !s.countsStaged i p && !s.copies.any fun c => c.page = p
/-- Is the source of a page's copy at hand: not in a fetch or a restore of it, nor in DRAM during a frequency change (R266)? -/
def State.copySource (s : State) (p : Nat) : Bool :=
  let w := s.page p
  !w.restorePending && (w.q || !(s.dValid p && s.dramBusy))
/-- Begin the copy of a page: how many lines it has taken when a store next meets it is a free value (log 16). -/
def State.startCopy (s : State) (p : Nat) (tc : TClass) : State :=
  let s := s.ensureStg p
  let w := s.page p
  let wait := { s with copies := s.copies ++ [(⟨p, 0, tc⟩ : StageCopy)] }
  if w.restorePending then wait.startRestore p tc
  else if !w.q && !s.dValid p && w.f then wait.startFetch p .staging tc
  else if !s.copySource p then wait
  else
    let pr := s.progress
    { pr.2 with copies := pr.2.copies ++ [(⟨p, pr.1, tc⟩ : StageCopy)],
                quay := { pr.2.quay with staged := memSetPage pr.2.quay.staged p (maskLines (pr.2.copyPage p) pr.1) } }
/-- Issue the next copy of an entry, in ascending DLA order (R250); in C3 while the entry is LATE (R256). -/
def State.nextCopy (s : State) (slot : Nat) : State :=
  let e := s.entry slot
  if !e.staging || e.staged then s else
  match e.pages.find? (s.needsCopy e.region) with
  | some p => s.startCopy p (if e.late then .c3 else .c4)
  | none => s
/-- Staging of the next eligible entry begins (R248, R249, R251). -/
def State.stagingBegin (s : State) : State :=
  if !s.mayStage then s else
  match s.nextStaging with
  | none => s
  | some (t, i) =>
    let x := s.table t
    let slot := x.first + i
    let e := s.entry slot
    let s := s.setTable t { x with used := x.used + (e.lenM1 + 1) }
    let s := s.setEntry slot { e with staging := true }
    let s := e.pages.foldl (fun a p => let w := a.page p; a.setPage p { w with tpin := w.tpin + 1 }) s
    (s.checkEntry slot).nextCopy slot
/-- The bytes of a page with its Landing entries over them (R250). -/
def State.mergedPage (s : State) (m : SMap Byte) (p : Nat) : SMap Byte :=
  (s.landOf p).foldl (fun a e => memPutLine a e.line e.data e.mask) m
/-- A page's copy is complete: QSTG, the count, its entries, the reads that joined it, and the next copy of every entry that waited for it
(R250 to R252, R259). A fetch that the page's DRAM copy needs too goes on. -/
def State.copyDone (s : State) (p : Nat) : State :=
  if !s.mayStage || !(s.copies.any fun c => c.page = p) || s.integ.recov.any (fun r => r.page = p) || !s.copySource p then s else
  let s := { s with copies := s.copies.filter (fun c : StageCopy => c.page ≠ p),
                    flash := { s.flash with fetches := s.flash.fetches.filter fun f : FlashFetch => !(f.page = p && !f.fill) } }
  let m := s.mergedPage (memSetPage s.quay.staged p (s.copyPage p)) p
  let s := { s with quay := { s.quay with staged := m } }
  let s := s.setPage p { s.page p with qstg := true }
  let s := s.fset F.TIDE_STAGED_BYTES_VALUE (s.fget F.TIDE_STAGED_BYTES_VALUE + 4096)
  let s := (s.checkPage p).answerWaits fun w => w.page = p && !s.parked w.line
  ((s.entries.filter fun kv => kv.2.staging && !kv.2.staged && kv.2.has p).map (·.1)).foldl State.nextCopy s
/-- The staged copy of a page is lost with its Quay channel: its page is served from home, its entries are no longer STAGED and copy it
again (R266). -/
def State.restage (s : State) (p : Nat) : State :=
  let s := s.dropStaged p
  let mine := (s.entries.filter fun kv => kv.2.staging && kv.2.has p).map (·.1)
  let s := mine.foldl (fun a k => a.setEntry k { a.entry k with staged := false }) s
  mine.foldl State.nextCopy s
/-- A staged copy that nothing pins is freed (R253, R255). -/
def State.copyFree (s : State) (p : Nat) : State :=
  if (s.page p).tpin ≠ 0 || s.clk.inReset then s else s.dropStaged p
/-- Entry to STANDBY: staged copies are freed and every entry is released (R266). -/
def State.tideStandby (s : State) : State :=
  let s := (s.tide.map (·.1)).foldl (fun a t =>
    (List.range (a.table t).count).foldl (fun b e => b.releaseEntry t ((a.table t).first + e)) a) s
  ((s.rgn.pages.filter fun kv => kv.2.qstg).map (·.1)).foldl State.dropStaged { s with copies := [] }

end Sys2Proof.Machine
end

