-- ==== Sys2Proof/Machine/DramFx.lean ====
section
/-! DEFINITION. Events of the DRAM and Quay controllers: refresh, thermal readings, pauses, write mode and panic, frequency change, lost DIMMs and Quay channels, the return from STANDBY (09; 10 R380 to R384). -/
namespace Sys2Proof.Machine

/-- Is a channel in service? -/
def State.dmcUp (s : State) (ch : Nat) : Bool := ch < 12 && !s.clk.inReset && s.fget (F.DMC_STATUS_STATE ch) = 2

/-! ### Refresh (R330 to R332, R355) -/

/-- Do two bank keys lie in one channel and rank with bank index `ba`, whatever the subchannel and bank group? -/
def sameBankOf (key ch rank ba : Nat) : Bool := key / 1024 = ch && key / 32 % 16 = rank && key % 4 = ba
/-- DIMM of a logical rank, channel × 2 + slot: the rank's high bits (R319). -/
def State.dimmOfRank (s : State) (ch rank : Nat) : Nat := ch * 2 + rank / (s.dram.pop.height * s.dram.pop.pr)
/-- tREFI ÷ 4 of a rank, in CORE cycles: 3,900 ns, or 1,950 ns while its DIMM's thermal sensor reads above 85 °C (R330). -/
def State.refStep (s : State) (ch rank : Nat) : Nat := if s.dram.hot.contains (s.dimmOfRank ch rank) then 975 else 1950
/-- Time at which a rank's next REFsb falls due; it never owes more than 8 (R331), and a frequency change clears its debts (R342). -/
def State.refDue (s : State) (ch rank : Nat) : Nat :=
  let r := sget RankRef.empty s.dram.refresh (ch * 16 + rank)
  max (if r.due = 0 then s.dram.t0 + s.refStep ch rank else r.due) (s.now - 7 * s.refStep ch rank)
/-- Does a queued request need a bank that a REFsb would close? -/
def State.refWanted (s : State) (ch rank ba : Nat) : Bool :=
  [ch * 2, ch * 2 + 1].any fun k =>
    ((s.subOf k).reads.any fun x => sameBankOf (s.bankAt x.da) ch rank ba) || (s.subOf k).writes.any fun x => sameBankOf (s.bankAt x.da) ch rank ba
/-- tRFCsb of the set in force, in CORE cycles; its register counts in units of 4 ns (R359). -/
def State.rfcTime (s : State) (ch : Nat) : Nat := ns (4 * s.fget (F.DMC_TSET_RFCSB ch (s.fget F.DMC_FREQ_SET)))
/-- A due REFsb is issued: as soon as no queued request needs its banks, or regardless once it is 2 × tREFI overdue. It closes its bank in
all 8 bank groups of the rank for tRFCsb, lowers the counts of ACTs of those banks by RAAIMT (JEDEC DDR5, log 23), and the index cycles
through 0 to 3 (R330, R331, R333). -/
def State.refresh (s : State) (ch rank : Nat) : State :=
  let r := sget RankRef.empty s.dram.refresh (ch * 16 + rank)
  let due := s.refDue ch rank
  if !s.dmcUp ch || rankCount s.dram.pop ≤ rank || s.dramBusy || s.now < due ||
      (s.refWanted ch rank r.bank && s.now < due + 8 * s.refStep ch rank) || s.dram.lost.contains (s.dimmOfRank ch rank) then s else
  let till := s.now + s.rfcTime ch
  let banks := [0, 1].flatMap fun sub => (List.range 8).map fun bg => ((ch * 2 + sub) * 16 + rank) * 32 + bg * 4 + r.bank
  { s with dram := { s.dram with
    rows := sdrop (fun k => sameBankOf k ch rank r.bank) s.dram.rows,
    busy := banks.foldl (fun m k => sput 0 m k (max till (sget 0 m k))) s.dram.busy,
    raa := banks.foldl (fun m k => sput 0 m k (sget 0 m k - s.dram.pop.raaimt)) s.dram.raa,
    refresh := sput RankRef.empty s.dram.refresh (ch * 16 + rank) ⟨(r.bank + 1) % 4, due + s.refStep ch rank⟩ } }
/-- RFMsb to a bank whose rolling count has reached RAAIMT, once the bank is idle; it closes the row, lowers the count by RAAIMT and holds
the bank for tRFMsb, equal to tRFCsb (R332, R333; JEDEC DDR5, log 23). -/
def State.refreshManage (s : State) (ch bank : Nat) : State :=
  if !s.dmcUp ch || s.dramBusy || s.dram.pop.raaimt = 0 || bank / 1024 ≠ ch || sget 0 s.dram.raa bank < s.dram.pop.raaimt || s.now < sget 0 s.dram.busy bank then s else
  let s := { s with dram := { s.dram with
    rows := sput none s.dram.rows bank none, raa := sput 0 s.dram.raa bank (sget 0 s.dram.raa bank - s.dram.pop.raaimt),
    busy := sput 0 s.dram.busy bank (s.now + s.rfcTime ch) } }
  s.bump (F.DMC_RFM_CNT_VALUE ch) (F.DMC_CNT_STATUS_RFM_SAT ch) (256 + 8 * ch + 4)
/-- A DIMM's thermal sensor is read, in 0.01 °C: above 85 °C its refresh interval is 1,950 ns. THERM_HOT of its channel says that one of its
DIMMs reads so (R330, R360). -/
def State.dimmThermal (s : State) (ch slot : Nat) (temp : Int) : State :=
  if !s.dmcUp ch || s.dram.pop.dpc ≤ slot || s.dram.lost.contains (ch * 2 + slot) then s else
  let f := F.DMC_STATUS_THERM_HOT ch
  let d := ch * 2 + slot
  let s := { s with dram := { s.dram with hot := if 8500 < temp then insNat d s.dram.hot else s.dram.hot.filter (· ≠ d) } }
  let hot : Bool := s.dram.hot.any fun x => x / 2 = ch
  let was := s.bit f
  let s := s.setBit f hot
  if hot && !was then s.raise (256 + 8 * ch + 2) else s
/-- Quarters of a CORE cycle between two refreshes of a pseudo-channel: 3,900 ns ÷ 48, half of it while the stack is hot (R355). -/
def State.quayRefStep (s : State) : Nat := if s.bit F.HBC_STATUS_THERM_HOT then 325 else 650
/-- One bank of each pseudo-channel in service is refreshed when that falls due: its row closes, and it is held for a time that the spec
does not state (R355; log 99). -/
def State.quayRefresh (s : State) : State :=
  if s.clk.inReset || s.power ≠ 0 && s.power ≠ 1 then s else
  let b := s.quay.refBank
  if 4 * s.now < s.quay.refAt then s else
  let banks := ((List.range 16).filter fun c => !s.quay.lost.contains c).map fun c => c * 48 + b
  { s with quay := { s.quay with
    rows := sdrop (fun k => k % 48 = b) s.quay.rows,
    busy := banks.foldl (fun m k => sput 0 m k (max (s.now + Config.quayRefreshTime) (sget 0 m k))) s.quay.busy,
    refBank := (b + 1) % 48, refAt := (if s.quay.refAt = 0 then 4 * s.now else s.quay.refAt) + s.quayRefStep } }
/-- The stack's temperature readout, in 0.01 °C (R355, R360). -/
def State.hbmThermal (s : State) (temp : Int) : State :=
  if s.clk.inReset then s else
  let hot : Bool := 8500 < temp
  let was := s.bit F.HBC_STATUS_THERM_HOT
  let s := s.setBit F.HBC_STATUS_THERM_HOT hot
  if hot && !was then s.raise 354 else s

/-! ### Retraining, rows, panic (R323, R328, R335 to R337) -/

/-- Start of channel c's pause number n from T0, in CORE cycles: the first at c × 80 µs, the rest from 1 ms on (R335). -/
def pauseAt (c n : Nat) : Nat := if n = 0 then us (c * 80) else ms 1 + c * ms 16 / 12 + (n - 1) * ms 16
/-- Lanes of a channel whose delay moves at a pause: by at most one step, held at 8 (R336). Which way a lane has drifted the spec
leaves to the probe: a free value. -/
def State.moveLanes (s : State) (ch : Nat) : List Nat → State
  | [] => s
  | l :: ls =>
    let r := s.free 3
    let key := ch * 16 + l
    let at_ := (sget 0 r.2.dram.lanes key)
    let v := (if at_ = 0 then 9 else at_) + r.1
    let held := v < 2 || 18 < v
    let v := max 2 (min 18 v) - 1
    let s := { r.2 with dram := { r.2.dram with lanes := sput 0 r.2.dram.lanes key (if v = 9 then 0 else v) } }
    let f := F.DMC_STATUS_RETRAIN_LIMIT ch
    let s := if held && !s.bit f then (s.setBit f true).raise (256 + 8 * ch + 1) else s
    s.moveLanes ch ls
/-- A channel's scheduled retraining pause: every bank is precharged, each byte lane moves by at most one step (R335 to R337). -/
def State.retrainPause (s : State) (ch : Nat) : State :=
  let n := sget 0 s.dram.pauses ch
  if !s.dmcUp ch || !s.running || s.dramBusy || s.now < s.dram.t0 + pauseAt ch n then s else
  let s := { s with dram := { s.dram with
    rows := sdrop (fun k => k / 1024 = ch) s.dram.rows, pauses := sput 0 s.dram.pauses ch (n + 1) } }
  let s := s.bump (F.DMC_RETRAIN_CNT_VALUE ch) (F.DMC_CNT_STATUS_RETRAIN_SAT ch) (256 + 8 * ch + 5)
  s.moveLanes ch (List.range 10)
/-- A row without an access for IDLE cycles is closed (R323). -/
def State.rowIdle (s : State) (ch bank : Nat) : State :=
  match sget none s.dram.rows bank with
  | none => s
  | some r =>
    if bank / 1024 ≠ ch || (s.now - r.used) * s.ddrMhz < s.fget F.DMC_PAGE_CTRL_IDLE * 2000 then s
    else { s with dram := { s.dram with rows := sput none s.dram.rows bank none } }
/-- A panic episode has lasted MAX ns, at least 200 (R328); in SAVE it has no limit (R329). -/
def State.panicExpiry (s : State) (ch port : Nat) : State :=
  let key := ch * 2 + port
  let pt := sget RtPort.empty s.dram.ports key
  if 12 ≤ ch || 2 ≤ port || !pt.panic || s.power = 1 || s.now - pt.since < ns (max 200 (s.fget F.DMC_PANIC_CTRL_MAX)) then s else
  let s := { s with dram := { s.dram with ports := sput RtPort.empty s.dram.ports key { pt with panic := false, ended := s.now } } }
  s.setBit (F.DMC_STATUS_PANIC ch)
    ((s.rtPort ch 0).panic || (s.rtPort ch 1).panic)

/-! ### Accesses (R321 to R326; 05 R186, R187) -/

/-- A picked write leaves its queue and its port's buffer; write mode ends at LOW, or with the command when it began for want of reads
(R324, R326). The write that now is within the first 64 has entered the queue: a V store is accepted then (05 R192; R321). -/
def State.wroteOne (s : State) (key : Nat) (w : DmcWrite) : State :=
  let c := s.subOf key
  let ws := c.writes.erase w
  let mode := if c.atHigh then s.wqLow < ws.length else ws.length ≠ 0 && c.reads.isEmpty
  let s := s.setSub key { c with writes := ws, writeMode := mode, atHigh := c.atHigh && mode }
  let s := if key < 24 then s.portLess (key / 2) w.port else s
  match ws[63]? with
  | some n => match n.ack with
    | some a => (s.setSub key { s.subOf key with writes := ws.set 63 { n with ack := none } }).complete a.1 a.2.1 a.2.2.1 s.now false a.2.2.2
    | none => s
  | none => s
/-- A column command of a controller ends. Where its address is queued it acts if the pick takes it (R322): a read gets its data, a write
leaves its queue. Any other address is an access of the controller's own, whose bank's row opens. -/
def State.accessDone (s : State) (addr : Nat) : State :=
  let key := s.subKey addr
  let c := s.subOf key
  if !(c.reads.any fun r => r.da = addr) && !(c.writes.any fun w => w.da = addr) then (s.access addr).2 else
  match s.pick key with
  | none => s
  | some x =>
    if x.da ≠ addr then s else
    let s := s.passOver key x
    let a := s.access addr
    let s := a.2
    let c := s.subOf key
    if x.read then
      match c.reads.find? fun r => r.da = addr with
      | some r => (s.setSub key { c with reads := c.reads.erase r }).serveQueued r a.1
      | none => s
    else
      match c.writes.find? fun w => w.da = addr with
      | some w => s.wroteOne key w
      | none => s
/-- An access to DRAM (R321 to R326). -/
def State.dramDone (s : State) (da : Nat) : State :=
  if !s.dmcUp (daDecode s.dram.pop da).ch || s.dramBusy || installedBytes s.dram.pop ≤ da then s else s.accessDone da
/-- A Quay access: both pseudo-channels of one channel, one row of one bank, under the same rules (R351, R352, R354). -/
def State.quayDone (s : State) (qa : Nat) : State :=
  if s.clk.inReset || 0x600000000 ≤ qa || s.quay.lost.contains (qaDecode qa).ch || !(s.power = 0 || s.power = 1) then s
  else s.accessDone (quaySpace + qa)

/-! ### Frequency change (R339 to R342) -/

/-- A change begins: the DMCs stop, every bank is precharged (R342). -/
def State.freqBegin (s : State) (set : Nat) (slot : Option Nat) : State :=
  ({ s with dram := { s.dram with change := some ⟨set, s.now, slot⟩, rows := [] } }).setBit F.DMC_FREQ_BUSY true
/-- Begin the next change that waits, unless one runs or a rehearsal does (R339). -/
def State.freqNext (s : State) : State :=
  if s.dram.change.isSome || s.epc.reh.phase ≠ .idle then s else
  match s.dram.changeWait with
  | [] => s
  | (k, slot) :: t => ({ s with dram := { s.dram with changeWait := t } }).freqBegin k slot
/-- Step 9: SET changes, BUSY clears, the pauses restart, DMC_FREQ_DONE is raised; the reply of the command follows (R341, R342), and what
waited for DRAM goes on. -/
def State.freqDone (s : State) : State :=
  match s.dram.change with
  | none => s
  | some c =>
    if s.clk.inReset then s else
    let s := { s with dram := { s.dram with change := none, refresh := [], pauses := [], t0 := s.now } }
    let s := ((s.fset F.DMC_FREQ_SET c.set).setBit F.DMC_FREQ_BUSY false).raise 352
    let s := match c.slot with
      | some id => { s with cmd := { s.cmd with slots := s.cmd.slots.map fun x : CmdSlot => if x.id = id then { x with wait := .ready } else x } }
      | none => s
    let s := ((s.rgn.psWait.map PsWait.page).filter s.inYard).foldl State.runPageWaiters s
    s.freqNext

/-! ### Lost DIMMs (R348; 10 R380 to R382) -/

/-- Is any DIMM left on a channel? -/
def State.chanLost (s : State) (ch : Nat) : Bool :=
  (List.range s.dram.pop.dpc).all fun d => s.dram.lost.contains (ch * 2 + d)
/-- Requests queued for frames go back to recovery (R348): reads wait for their page, writes leave their ports' buffers, Landing entries whose
writes these were drain again, and V stores that were accepted into no queue yet are completed. -/
def State.dropQueued (s : State) (keys : List Nat) (lost : Nat → Bool) : State :=
  keys.foldl (fun a key =>
    let c := a.subOf key
    let rs := c.reads.filter fun r => lost (r.da / 4096)
    let ws := c.writes.filter fun w => lost (w.da / 4096)
    let a := a.setSub key { c with reads := c.reads.filter (fun r => !lost (r.da / 4096)), writes := c.writes.filter fun w => !lost (w.da / 4096) }
    let again := fun e : LandEntry => if ws.any (fun w => w.land = some e.id) then { e with drained := false } else e
    let a := { a with rgn := { a.rgn with waits := a.rgn.waits ++ rs.map fun r => (⟨r.line / 64, r.line, r.req, r.cap⟩ : WaitRead) },
                      pers := { a.pers with landing := a.pers.landing.map again } }
    ws.foldl (fun a w =>
      let a := if key < 24 then a.portLess (key / 2) w.port else a
      match w.ack with | some k => a.complete k.1 k.2.1 k.2.2.1 a.now false none | none => a) a) s
/-- A DIMM is lost: its channel leaves service when it was the last, DMC_CH_DOWN is raised, the loss is logged (R348; 10 R391). Its
pages are re-homed one by one. -/
def State.dimmLoss (s : State) (ch slot : Nat) : State :=
  let d := ch * 2 + slot
  if 12 ≤ ch || s.dram.pop.dpc ≤ slot || s.clk.inReset || s.dram.lost.contains d then s else
  let s := { s with dram := { s.dram with lost := insNat d s.dram.lost } }
  let s := s.setFbit (F.DMC_STATUS_DIMM_PWR ch) slot false
  let s := if s.chanLost ch then s.fset (F.DMC_STATUS_STATE ch) 4 else s
  let s := s.dropQueued [ch * 2, ch * 2 + 1] fun f => s.dimmOf f = d
  (s.logErr none (ch + 32 * slot) .dram .lost .demand 0xFF 0).raise (256 + 8 * ch)
/-- A frame for a page that is re-homed: with none free, CLEAN copies of COLD pages, then of FLOAT pages, are evicted (10 R382). -/
def State.homeFrame (s : State) (p : Nat) (restricted : Bool) : State :=
  let s := match s.nextFrame restricted with
    | some _ => s
    | none => match sortBy s.evictKey false ((s.rgn.pages.filter fun kv : Nat × PageWord => s.mayEvict kv.1).map (Prod.fst : Nat × PageWord → Nat)) with
      | v :: _ => (s.dropDram v).bump F.RGN_DEMOTE_CNT_VALUE F.RGN_TBL_STATUS_DEMOTE_SAT 56
      | [] => s
  s.ensureFrame p restricted
/-- Lines that stores have drained over since the snapshot of a page was taken (10 R381). -/
def State.drainedAfter (s : State) (p : Nat) : List Nat :=
  match s.pers.flushes.find? fun x => x.page = p && !x.wt with
  | some f => ((List.range 64).filter fun k => f.after.getLsbD k).map (64 * p + ·)
  | none => []
/-- The lines of a re-homed page that nothing covers are poisoned, with one record for the page (10 R380 to R382). -/
def State.loseLines (s : State) (p : Nat) (lines : List Nat) : State :=
  match lines.filter fun l => !s.fullLanding l with
  | [] => s
  | ls => (s.poisonLines ls).recordAll (s.regionOfPage p) .failure (.generalMedia (4096 * p))
/-- What a re-homed page's waiters go on with. -/
def State.homeDone (s : State) (p : Nat) : State := (s.answerWaits fun w => w.page = p && !s.parked w.line).runPageWaiters p
/-- Re-home a page of a lost DIMM from its best remaining copy (10 R380 to R382). Stores in the Landing queue that are not acknowledged drain
again; a page that never had a flash copy and is CLEAN holds such stores alone. A page that the twin answers for waits for it. -/
def State.rehome (s : State) (p : Nat) : State :=
  if !s.homeLost p || !s.mayMove || s.dramBusy then s else
  let w := s.page p
  let r := s.regionOfPage p
  let s := (s.setFrame p 0).undrain p
  let snap := (s.pers.flushes.find? fun x => x.page = p && !x.wt).map (·.snap)
  let all := (List.range 64).map (64 * p + ·)
  let fill := fun bytes : SMap Byte => (s.homeFrame p true).fillDram p bytes true
  if !w.d then s
  else if w.q || w.qstg then ((s.homeFrame p (s.restricted p r)).fillDram p (s.copyPage p) (s.restricted p r)).homeDone p
  else if r.dur = .v then ((fill []).loseLines p all).homeDone p
  else if w.pdk = .clean && w.f then
    let s := (s.setPage p { w with d := false })
    let s := { s with dram := { s.dram with data := memDropPage s.dram.data p } }
    let want := r.needsDram || !(s.landOf p).isEmpty || (s.rgn.waits.any fun x => x.page = p)
    let s := if want then s.startFetch p .restore .c4 else s
    s.runPageWaiters p
  else if w.pdk = .flushing && snap.isSome then (fill (snap.getD [])).homeDone p
  else if s.twinHas p then ((s.homeFrame p true).addRecovery ⟨p, 64 * p, .dram, false, true, true, .demand, none, s.now⟩).askTwin
    ⟨p, 64 * p, .dram, false, true, true, .demand, none, s.now⟩
  else if w.pdk = .redirty && snap.isSome then ((fill (snap.getD [])).loseLines p (s.drainedAfter p)).homeDone p
  else if w.pdk = .clean then (fill []).homeDone p
  else ((fill []).loseLines p all).homeDone p

/-! ### Lost Quay channels (R357; 10 R383; 07 R266) -/

/-- Does the 256 B granule of a line at a Quay frame lie on a channel? -/
def granuleOn (qa1 line ch : Nat) : Bool := qa1 ≠ 0 && (qaDecode (qa1 - 1 + line % 64 * 64)).ch = ch
/-- A hot page leaves the lost Quay: a V page of a QUAY_PIN region goes to DRAM, its lost granule's lines poisoned, with a record (R32; 10
R383). -/
def State.quayDemote (s : State) (ch p : Nat) : State :=
  let qa := sget 0 s.quay.hotQa p
  if (s.page p).d then s.dropHot p
  else
    let gone := ((List.range 64).map (64 * p + ·)).filter fun l => granuleOn qa l ch
    let s := s.fillDram p (memPage s.quay.hot p) true
    (s.dropHot p).loseLines p gone
/-- A Quay channel is fenced: hot pages are demoted, staged copies go and are staged again, page-state words and filter sets of the
channel are lost, and QUAY_DEGRADED is set (R357; 10 R383; 07 R266). -/
def State.quayLoss (s : State) (ch : Nat) : State :=
  if 16 ≤ ch || s.clk.inReset || s.quay.lost.contains ch then s else
  let s := { s with quay := { s.quay with lost := insNat ch s.quay.lost, rows := sdrop (fun k => k / 48 = ch) s.quay.rows } }
  let s := s.fset (F.HBC_CH_STATUS_STATE ch) 3
  let s := s.setFbit F.HBC_STATUS_IN_SERVICE ch false
  let s := s.setBit F.INT_STATUS_QUAY_DEGRADED true
  let s := s.dropQueued [24 + ch] fun _ => true
  let s := ((s.rgn.pages.filter fun kv => kv.2.q).map (·.1)).foldl (fun a p => a.quayDemote ch p) s
  let s := ((s.rgn.pages.filter fun kv => kv.2.qstg).map (·.1)).foldl State.restage s
  let s := (s.rgn.waits.map WaitRead.page).foldl (fun a p => a.answerWaits fun w => w.page = p && !a.parked w.line && !a.fetching p) s
  let sets := (s.cxl.sf.filter fun e => (qaDecode (sfQa e.line)).ch = ch).map fun e => e.line % 2 ^ 21
  let s := { s with integ := { s.integ with degraded := sets.foldl (fun l x => insNat x l) s.integ.degraded } }
  (s.logErr none ch .quay .lost .demand 0xFF 0).raise 353

/-! ### After STANDBY (R345 to R347) -/

/-- The background pass clears D on the pages whose copy was on a DIMM outside the mask (R347). -/
def State.dClearPass (s : State) : State :=
  if !s.mayMove || !s.dram.dClear then s else
  let gone := (s.dram.frame.filter fun kv => s.dram.unswept.contains (s.dimmOf (kv.2 - 1))).map (·.1)
  let s := gone.foldl State.dropDram s
  { s with dram := { s.dram with dClear := false } }
/-- The DIMMs outside the mask have been initialised and swept: their frames are free to take once D has been cleared (R346, R347). -/
def State.outsideReturn (s : State) : State :=
  if !s.mayMove || s.dram.unswept.isEmpty || s.dram.dClear then s else
  let s := s.dram.unswept.foldl (fun a d => a.setFbit (F.DMC_STATUS_DIMM_PWR (d / 2)) (d % 2) true) s
  { s with dram := { s.dram with unswept := [] } }

end Sys2Proof.Machine
end

