-- ==== Sys2Proof/Machine/CmdCore.lean ====
section
/-! DEFINITION. Command packets: checks, rights, tokens, replies, slots and streams (14_command_packets.md R540 to R557, R753). -/
namespace Sys2Proof.Machine

/-! ### Status codes (R557) -/
namespace St
def success : Nat := 0x00
def badCrc : Nat := 0x10
def badVersion : Nat := 0x11
def badLength : Nat := 0x12
def unknownOpcode : Nat := 0x13
def badParam : Nat := 0x14
def notPermitted : Nat := 0x20
def claimStale : Nat := 0x21
def notOwner : Nat := 0x22
def busy : Nat := 0x30
def tagBusy : Nat := 0x31
def wrongState : Nat := 0x32
def mode : Nat := 0x33
def noResource : Nat := 0x34
def budget : Nat := 0x35
def notFound : Nat := 0x36
def conflict : Nat := 0x37
def imageErr : Nat := 0x40
def frozen : Nat := 0x41
end St

/-- What an opcode's own part yields: a status with DETAIL, the state after it, the reply payload, and what its reply waits for. -/
structure CmdRes where
  status : Nat
  detail : Nat
  s : State
  reply : List Byte
  wait : Option CmdWait
/-- A refusal changes nothing (R551). -/
def refuse (st detail : Nat) (s : State) : CmdRes := ⟨st, detail, s, [], none⟩
def done (s : State) (reply : List Byte) : CmdRes := ⟨St.success, 0, s, reply, none⟩
def later (s : State) (reply : List Byte) (w : CmdWait) : CmdRes := ⟨St.success, 0, s, reply, some w⟩
/-- The opcode's own checks in the order of its table; the first that fails decides (R541 step 9). -/
def guarded (cs : List (Bool × Nat × Nat)) (s : State) (k : CmdRes) : CmdRes :=
  match cs.find? fun x => x.1 with
  | some x => refuse x.2.1 x.2.2 s
  | none => k
/-- A BAD_PARAM check of one field: DETAIL is its payload offset (R753). -/
def param (bad : Bool) (off : Nat) : Bool × Nat × Nat := (bad, St.badParam, off)
def check (bad : Bool) (st : Nat) : Bool × Nat × Nat := (bad, st, 0)

end Sys2Proof.Machine
namespace Sys2Proof
open Machine
/-- A little-endian field of `n` bytes at a payload offset. -/
def Cmd.fld (c : Cmd) (off n : Nat) : Nat := leNat ((c.payload.drop off).take n)
/-- Reserved payload bytes: a check for each that is not 0. -/
def Cmd.zeros (c : Cmd) (off n : Nat) : List (Bool × Nat × Nat) :=
  (List.range n).map fun i => param (c.fld (off + i) 1 ≠ 0) (off + i)

/-- Header bytes 0x00 to 0x1B of a command (R540). -/
def Cmd.header (c : Cmd) (op : Nat) : List Byte :=
  [c.ver, c.flags] ++ natBytes 2 op ++ natBytes 4 c.tag.toNat ++ natBytes 8 c.token.toNat ++ natBytes 4 c.len ++
    natBytes 8 c.reserved.toNat
/-- The CRC a command must carry (R540). -/
def Cmd.crcOk (c : Cmd) (op : Nat) : Bool := crcOf 0 (c.header op ++ c.payload) = c.crc.toNat

/-- Step 5 of R541: the header offset of the first byte at fault (R753). -/
def Cmd.headerFault (c : Cmd) (size : Bool) : Option Nat :=
  if c.flags.toNat / 2 ≠ 0 then some 0x8001
  else if !size then some 0x8010
  else ((List.range 8).find? fun i => c.reserved.toNat / 256 ^ i % 256 ≠ 0).map (0x8014 + ·)
end Sys2Proof
namespace Sys2Proof.Machine

/-- Opcode data that the shared checks need. -/
structure CmdDef where
  /-- LEN matches the opcode's payload -/
  size : Cmd → Bool
  /-- host carriers may issue it (R549) -/
  host : Bool
  /-- rights of a host carrier on the objects named: 0, or the status that refuses (R549, R756) -/
  rights : Cmd → State → Nat → Nat
  /-- refusals for the current mode: 0, or a status (R563) -/
  mode : Cmd → State → Nat
  /-- maximum handling time in µs -/
  max : Cmd → Nat
  run : Cmd → State → CmdRes

/-- Is a carrier a management carrier (R549)? -/
def State.isMgmt (s : State) : Carrier → Bool
  | .mailbox ld => if s.gfam then ld = 0 else s.fbit F.CMD_MGMT_LD_MASK ld
  | _ => true
/-- The LD of a host carrier. -/
def State.hostLd (s : State) (c : Cmd) : Option Nat :=
  match c.carrier with
  | .mailbox ld => if s.isMgmt c.carrier then none else some ld
  | _ => none
/-- Claim epoch of this unit. -/
def State.claimEpoch (s : State) : Nat := s.fget F.TWN_CLAIM_EPOCH_EPOCH
/-- EPOCH and UNIT of a claim number (12 R461). -/
def tokenEpoch (t : BitVec 64) : Nat := t.toNat / 2 ^ 12 % 2 ^ 32
def tokenUnit (t : BitVec 64) : Bool := t.getLsbD 0
/-- The token of R556. -/
def State.tokenOk (s : State) (t : BitVec 64) : Bool := tokenEpoch t = s.claimEpoch && tokenUnit t = s.unit

/-- Opcodes that are served from the end of step 1 to memory active (17 R643). -/
def earlyOp (op : Nat) : Bool := op / 256 = 0x08 || op / 256 = 0x09 || op / 256 = 0x0B || op = 0x0C02
/-- Steps 1 to 9 of R541. -/
def State.checkCmd (s : State) (op : Nat) (d : Option CmdDef) (c : Cmd) : CmdRes :=
  if c.byteCount ≠ 32 + c.len || 4096 < c.len then refuse St.badLength 0 s
  else if !c.crcOk op then refuse St.badCrc 0 s
  else if c.ver ≠ 1 then refuse St.badVersion 0 s
  else match d with
    | none => refuse St.unknownOpcode 0 s
    | some d =>
      match c.headerFault (d.size c) with
      | some off => refuse St.badParam off s
      | none =>
        let host := s.hostLd c
        let r := match host with | some ld => if d.host then d.rights c s ld else St.notPermitted | none => 0
        if r ≠ 0 then refuse r 0 s
        else if c.flags.getLsbD 0 && op ≠ 0x0601 && !s.tokenOk c.token then refuse St.claimStale 0 s
        else
          let m := if !s.memActive && !earlyOp op then St.mode else d.mode c s
          if m ≠ 0 then refuse m 0 s else d.run c s

/-! ### Replies (R540, R542, R548) -/

def replyHeader (r : Reply) : List Byte :=
  [1, 0x80] ++ natBytes 2 r.op ++ natBytes 4 r.tag.toNat ++ natBytes 2 r.status ++ natBytes 2 r.detail ++
    natBytes 4 r.epoch ++ natBytes 4 r.payload.length ++ natBytes 4 r.time ++ natBytes 4 0
/-- The reply packet as bytes. -/
def replyBytes (r : Reply) : List Byte :=
  replyHeader r ++ natBytes 4 (crcOf 0 ((replyHeader r) ++ r.payload)) ++ r.payload
/-- Reply packet of a carrier as it leaves. -/
def State.deliver (s : State) (r : Reply) : State :=
  match r.carrier with
  | .mailbox ld => (s.emit (.reply r)).emit (.mbox ld .success (replyBytes r))
  | _ => s.emit (.reply r)
/-- CMD_LAST_ERR.CARRIER. -/
def carrierCode : Carrier → Nat
  | .mailbox _ => 0 | .mctp _ => 1 | .ut _ _ => 2
/-- Count an answer other than SUCCESS (R564). -/
def State.countRefused (s : State) (r : Reply) : State :=
  if r.status = 0 then s else
  let s := if r.status = St.badCrc then s.bump F.CMD_CRC_ERR_CNT_VALUE F.CMD_CNT_STATUS_CRC_SAT 35 else s
  let s := s.bump F.CMD_REFUSED_CNT_VALUE F.CMD_CNT_STATUS_REFUSED_SAT 36
  ((s.fset F.CMD_LAST_ERR_OPCODE r.op).fset F.CMD_LAST_ERR_CARRIER (carrierCode r.carrier)).fset F.CMD_LAST_ERR_STATUS r.status
/-- Build a reply: TIME is the handling time, which the spec bounds by `max` µs and leaves open: a free value (R550). -/
def State.mkReply (s : State) (op max : Nat) (c : Cmd) (st detail : Nat) (payload : List Byte) : Reply × State :=
  let t := s.free (max + 1)
  (⟨c.carrier, op, c.tag, st, detail, s.claimEpoch, t.1, if st = 0 then payload else []⟩, t.2)
/-- A background command of an LD's mailbox has completed: in MULTI-HEADED its mailbox interrupt (16 R618). -/
def State.mboxIrq (s : State) (ld : Nat) : State := if s.gfam then s else s.emit (.msix ld Config.mailboxVector.toNat)
/-- Answer a command that entered handling: count it, keep it for 1 s (R548) unless it failed its CRC or its length, when a resend may keep
its tag (R562; log 109), and send it, or store it for a mailbox's Get Parmos Reply when it ran in the background (R544). -/
def State.answer (s : State) (op max : Nat) (c : Cmd) (st detail : Nat) (payload : List Byte) : State :=
  let r := s.mkReply op max c st detail payload
  let s := r.2.countRefused r.1
  let old := s.cmd.answered.filter fun a => s.now - a.at_ < sec 1
  let keep := if st = St.badCrc || st = St.badLength then old else old ++ [⟨c.tag, c.crc, s.now, r.1⟩]
  let s := { s with cmd := { s.cmd with answered := keep } }
  match c.carrier with
  | .mailbox ld => if 2000 < max then { s with cmd := { s.cmd with stored := sput none s.cmd.stored ld (some r.1) } }.mboxIrq ld else s.deliver r.1
  | _ => s.deliver r.1

/-! ### Slots and streams (R545 to R547) -/

/-- IN_HANDLING: the slots of commands, and those whose buffers hold the packets of UT messages not yet whole (R546, R758). -/
def State.countSlots (s : State) : State := s.fset F.CMD_STATUS_IN_HANDLING (s.cmd.slots.length + s.ute.cmds.length)
def State.setSlots (s : State) (l : List CmdSlot) : State := ({ s with cmd := { s.cmd with slots := l } }).countSlots
/-- Slots of one tag stream. -/
def State.streamSlots (s : State) (k : Carrier) : List CmdSlot := s.cmd.slots.filter fun x => x.cmd.carrier = k
/-- Slots in use of those that MCTP and UT share: a UT message takes its slot's buffer with its first packet (R758). -/
def State.sharedSlots (s : State) : Nat :=
  (s.cmd.slots.filter fun x => match x.cmd.carrier with | .mailbox _ => false | _ => true).length + s.ute.cmds.length
/-- Is there no room for a command of a carrier (R543, R546)? -/
def State.noSlot (s : State) (k : Carrier) : Bool :=
  match k with
  | .mailbox _ => !(s.streamSlots k).isEmpty
  | .mctp _ => 32 ≤ s.sharedSlots || 8 ≤ (s.streamSlots k).length
  | .ut node ctx => 32 ≤ s.sharedSlots || 16 ≤ (s.streamSlots k).length + (s.ute.cmds.filter fun x => x.node = node && x.srcCtx = ctx).length
/-- Put a command into a slot. -/
def State.takeSlot (s : State) (op : Nat) (c : Cmd) (w : CmdWait) (reply : List Byte) : State :=
  let x : CmdSlot := ⟨s.cmd.nextId, op, c, s.now, w, reply⟩
  { s.setSlots (s.cmd.slots ++ [x]) with cmd := { (s.setSlots (s.cmd.slots ++ [x])).cmd with nextId := s.cmd.nextId + 1 } }
/-- Run a command's checks and effect, then answer it or keep it in a slot until its reply is due (R541, R552). -/
def State.handle (s : State) (op : Nat) (d : Option CmdDef) (c : Cmd) : State :=
  let r := s.checkCmd op d c
  let max := match d with | some d => d.max c | none => 100
  match r.wait with
  | none => r.s.answer op max c r.status r.detail r.reply
  | some w => r.s.takeSlot op c w r.reply
/-- Do carriers serve now (17 R643; R563)? -/
def State.carriersUp (s : State) : Bool :=
  !s.clk.inReset && (s.power = 0 || s.power = 2) && s.clk.move ≠ .draining && (s.memActive || 2 ≤ s.fget F.CLK_STATUS_STEP)
/-- A command packet arrives on its carrier: repeats, slots and tags first, then handling or its place behind the stream (R545 to
R548). Between step 1 and memory active only groups 0x08, 0x09, 0x0B and POWER_STATE_SET are served (17 R643). -/
def State.arrive (s : State) (op : Nat) (d : Option CmdDef) (c : Cmd) : State :=
  if !s.carriersUp || (match c.carrier with | .mailbox ld => s.gfam && ld ≠ 0 || !s.gfam && !s.lds.contains ld | _ => false) then s else
  let busy := match c.carrier with | .mailbox _ => s.noSlot c.carrier | _ => false
  let s := if busy then s else s.raise (32 + carrierCode c.carrier)
  match (match c.carrier with
      | .mailbox _ => none
      | k => s.cmd.answered.find? fun a : Answered => a.reply.carrier = k && a.tag = c.tag && a.crc = c.crc && s.now - a.at_ < sec 1) with
  | some a => s.deliver a.reply
  | none =>
    if s.noSlot c.carrier then
      match c.carrier with
      | .mailbox ld => s.emit (.mbox ld .busy [])
      | .mctp _ => let r := s.mkReply op 0 c St.busy 0 []; (r.2.countRefused r.1).deliver r.1
      | .ut _ _ => s
    else if (s.streamSlots c.carrier).any fun x => x.cmd.tag = c.tag then
      let r := s.mkReply op 0 c St.tagBusy 0 []
      (r.2.countRefused r.1).deliver r.1
    else
      let bg := match c.carrier, d with | .mailbox ld, some d => if 2000 < d.max c then some ld else none | _, _ => none
      let s := match bg with
        | some ld => s.emit (.mbox ld .backgroundStarted [])
        | none => s
      if s.ccx.restart.isSome then s.takeSlot op c (.restart false) []
      else if (s.streamSlots c.carrier).isEmpty then s.handle op d c
      else s.takeSlot op c .behind []

end Sys2Proof.Machine
end

