-- ==== Sys2Proof/Machine/CmdRegion.lean ====
section
/-! DEFINITION. Region commands, budgets, flag changes, the end of a drain (03 R91 to R124; 14 R558 group 0x01). -/
namespace Sys2Proof.Machine

/-! ### Budgets (03 R119, R120) -/

def State.cmpFactor (s : State) : Nat := max 16 (min 32 (s.fget F.RGN_CAP_CTRL_CMP_FACTOR))
def Region.chargeQuay (r : Region) : Nat := if r.quayPin then r.bytes else 0
def Region.chargeDram (r : Region) : Nat := r.bytes / 1024 + (if r.needsDram then r.bytes else 0)
def State.chargeFlash (s : State) (r : Region) : Nat :=
  if r.dur ≠ .v || r.evictable then
    if s.cmpOn r then (r.bytes * 16 + s.cmpFactor * 4096 - 1) / (s.cmpFactor * 4096) * 4096 else r.bytes
  else 0
/-- Budgets in use. -/
def State.useQuay (s : State) : Nat := (s.rgn.regions.map fun kv => if kv.2.state = .free then 0 else kv.2.chargeQuay).sum
def State.useDram (s : State) : Nat := (s.rgn.regions.map fun kv => if kv.2.state = .free then 0 else kv.2.chargeDram).sum
def State.useFlash (s : State) : Nat := (s.rgn.regions.map fun kv => if kv.2.state = .free then 0 else s.chargeFlash kv.2).sum
/-- Is any budget above its capacity? -/
def State.overBudget (s : State) : Bool :=
  s.fget F.RGN_CAP_QUAY_VALUE < s.useQuay || s.fget F.RGN_CAP_DRAM_VALUE < s.useDram || s.fget F.RGN_CAP_FLASH_VALUE < s.useFlash
/-- RGN_USE follows the regions; OVERCOMMIT ends with the overcommitment (R120). -/
def State.setUse (s : State) : State :=
  let s := ((s.fset F.RGN_USE_QUAY_VALUE s.useQuay).fset F.RGN_USE_DRAM_VALUE s.useDram).fset F.RGN_USE_FLASH_VALUE s.useFlash
  if s.overBudget then s else s.setBit F.RGN_TBL_STATUS_OVERCOMMIT false
/-- The test at start-up and after a write to CMP_FACTOR (R120). -/
def State.testOvercommit (s : State) : State :=
  let s := s.setUse
  if s.overBudget && !s.bit F.RGN_TBL_STATUS_OVERCOMMIT then (s.setBit F.RGN_TBL_STATUS_OVERCOMMIT true).raise 53 else s
/-- Would a change from `o` to `n` break one budget: above its capacity, and the change adds to it? -/
def overOne (use cap o n : Nat) : Bool := cap < use - o + n && o < n
def State.budgetFails (s : State) (o n : Option Region) : Bool :=
  let f := fun (g : Region → Nat) (r : Option Region) => match r with | some r => g r | none => 0
  overOne s.useQuay (s.fget F.RGN_CAP_QUAY_VALUE) (f Region.chargeQuay o) (f Region.chargeQuay n) ||
    overOne s.useDram (s.fget F.RGN_CAP_DRAM_VALUE) (f Region.chargeDram o) (f Region.chargeDram n) ||
    overOne s.useFlash (s.fget F.RGN_CAP_FLASH_VALUE) (f s.chargeFlash o) (f s.chargeFlash n)

/-! ### Sets (12 R443 to R445) -/

/-- A local set's home, in force, is this unit. -/
def State.homeHere (s : State) (set : Nat) : Bool := s.rgn.home.getLsbD set = s.unit
/-- May this unit change regions of a set: it owns a mirrored set, or is home to a local one? -/
def State.ownsSet (s : State) (set : Nat) : Bool := if s.isMirrored set then s.owns set else s.homeHere set
/-- Does a DUR match the kind of a set (R443)? -/
def State.kindOk (s : State) (dur : Dur) (set : Nat) : Bool := (dur = .m) = s.isMirrored set

/-! ### REGION_CREATE (03 R93, R98, R755; 14) -/

def setsOverlap (b1 n1 b2 n2 : Nat) : Bool := b1 < b2 + n2 && b2 < b1 + n1
/-- Is an index free: in this table, and for a mirrored set in what the twin has reported (R755)? -/
def State.indexFree (s : State) (mirrored : Bool) (i : Nat) : Bool :=
  (s.region i).state = .free && !(mirrored && s.rgn.twinEntries.any fun e => e.index = i)
/-- Does a range of 256 MiB units fit at a base, below the top 256 MiB (R92, R755; 19 R694)? -/
def State.baseFits (s : State) (mirrored : Bool) (n b : Nat) : Bool :=
  b + n ≤ 0xFFFFF && !(s.rgn.regions.any fun kv => kv.2.state ≠ .free && setsOverlap b n kv.2.base (kv.2.sizeM1 + 1)) &&
    !(mirrored && s.rgn.twinEntries.any fun e => setsOverlap b n e.base (e.sizeM1 + 1))
/-- The lowest base at which a region fits: 0, or the end of another range (R93). -/
def State.lowestBase (s : State) (mirrored : Bool) (n : Nat) : Option Nat :=
  let ends := (s.rgn.regions.filter fun kv => kv.2.state ≠ .free).map (fun kv => kv.2.base + kv.2.sizeM1 + 1) ++
    s.rgn.twinEntries.map fun e => e.base + e.sizeM1 + 1
  ((0 :: ends).filter (s.baseFits mirrored n)).foldl (fun m b => match m with | none => some b | some x => some (min x b)) none
/-- Type code of a dynamic-capacity region (04 R147). -/
def dcCode (r : Region) : Nat := 1 + (if r.dur = .v then 0 else 1) + (if r.shr then 2 else 0)
/-- The change is on both units before the reply leaves (R96, R552). -/
def State.regionDone (s : State) (set : Nat) (reply : List Byte) : CmdRes :=
  if s.isMirrored set && s.isPaired then later s reply (.notice s.twin.txNext) else done s reply
/-- The region a create command asks for, before its place is known. -/
def createRegion (c : Cmd) : Region :=
  ⟨if c.fld 7 1 % 2 = 1 then .offered else .active, 0, c.fld 0 4, c.fld 6 1 % 64, c.fld 7 1 % 2 = 1, BitVec.ofNat 9 (c.fld 4 2), c.fld 8 2, 0⟩
/-- Write the entry and everything that goes with it. -/
def State.placeRegion (s : State) (i : Nat) (r : Region) : State :=
  let s := (s.setRegion i r).setUse
  let s := { s with rgn := { s.rgn with pages := sdrop r.hasPage s.rgn.pages, yard := sdrop r.hasPage s.rgn.yard,
                                        offered := sput 0 s.rgn.offered i s.now } }
  let s := if r.dc then s.recordAll r .dynCap (.addCapacity i r.base r.sizeM1) else s
  s.raise 52
/-- REGION_CREATE. Which dynamic-capacity region takes an extent the spec does not state: a free value (log 24). -/
def cmdRegionCreate (c : Cmd) (s : State) : CmdRes :=
  let r := createRegion c
  let k := s.free 8
  let slot := 8 * c.fld 8 2 + k.1
  let t := sget 0 s.rgn.dcTypes slot
  let m := s.isMirrored r.rset
  let idx := findFrom (s.indexFree m) 4096 0
  let base := s.lowestBase m (r.sizeM1 + 1)
  guarded ([param (262143 < c.fld 0 4) 0, param (512 ≤ c.fld 4 2 || c.fld 4 2 % 4 = 3) 4,
      param (r.dc && t ≠ 0 && t ≠ dcCode r) 4, param (63 < c.fld 6 1 || !s.kindOk r.dur r.rset) 6, param (1 < c.fld 7 1) 7,
      param (64 ≤ c.fld 8 2 && c.fld 8 2 ≠ 0xFFFF) 8] ++ c.zeros 0x0A 6 ++
      [check (s.budgetFails none (some r)) St.budget, check (idx.isNone || base.isNone) St.noResource,
        check (!s.ownsSet r.rset) St.notOwner]) s
    (match idx, base with
      | some i, some b =>
        let r := { r with base := b, rgen := (s.region i).rgen }
        let s := if r.dc then { k.2 with rgn := { k.2.rgn with dcTypes := sput 0 k.2.rgn.dcTypes slot (dcCode r) } } else s
        (s.placeRegion i r).regionDone r.rset
          (natBytes 2 i ++ natBytes 2 r.rgen ++ natBytes 1 (if r.dc then 1 else 2) ++ natBytes 3 0 ++ natBytes 8 r.dla)
      | _, _ => refuse St.noResource 0 s)
def defRegionCreate : CmdDef :=
  { size := fun c => c.len = 16, host := false, rights := fun _ _ _ => 0,
    mode := fun c s => if s.power = 2 || s.inHold then St.mode
      else if c.fld 6 1 < 64 && s.isMirrored (c.fld 6 1) && !s.owns (c.fld 6 1) then St.notOwner else 0,
    max := fun c => 10000 + 5 * (c.fld 0 4 + 1) + 1000, run := cmdRegionCreate }

/-! ### REGION_SET_FLAGS (03 R121, R122) -/

/-- Mode refusals of the commands on an existing region (14 R563). -/
def regionMode (c : Cmd) (s : State) : Nat :=
  let r := s.region (c.fld 0 2)
  if s.power = 2 || s.inHold then St.mode
  else if r.state ≠ .free && s.isMirrored r.rset && !s.owns r.rset then St.notOwner else 0
/-- No such region: the entry is FREE, or RGEN differs. -/
def State.noRegion (s : State) (c : Cmd) : Bool :=
  4096 ≤ c.fld 0 2 || (s.region (c.fld 0 2)).state = .free || (s.region (c.fld 0 2)).rgen ≠ c.fld 2 2
/-- Pages of a region whose word is not as at creation. -/
def State.pagesOf (s : State) (r : Region) : List Nat := (s.rgn.pages.filter fun kv => r.hasPage kv.1).map (·.1)
/-- May a page be in the hot area under a region's flags (03 R105)? -/
def Region.hotAllowed (r : Region) : Bool := r.quayPin || r.place = 2
/-- Does a page owe a rewrite of its flash copy: its extent's ENC is not the region's (R121)? -/
def State.owesEnc (s : State) (r : Region) (p : Nat) : Bool := mapValid (s.mapOf p) && (s.mapOf p).getLsbD 60 ≠ r.enc
/-- Does a page meet a region's flags (03 R98, R105, R106)? -/
def State.meets (s : State) (r : Region) (p : Nat) : Bool :=
  let w := s.page p
  w.zero || (!w.moving && (!s.hotHere r || w.q) && (r.hotAllowed || !w.q) && (!r.needsDram || w.d) && (!r.hotOnly || (!w.d && !w.f)) &&
    !s.owesEnc r p)
/-- Begin what a page needs to meet its region's new flags (03 R116, R121). -/
def State.beginMeet (s : State) (r : Region) (p : Nat) : State :=
  let w := s.page p
  let fetch := if w.restorePending then s.startRestore p .c4 else s.startFetch p .fetch .c4
  if w.zero || w.moving then s
  else if s.hotHere r && !w.q then (if w.d then (s.ensureHot p).startMove p .quay 0 else fetch)
  else if r.hotOnly && (w.d || w.f) then s.keepHot p
  else if r.needsDram && !w.d then
    (if w.q then (s.ensureFrame p true).startMove p (if r.hotAllowed then .dram else .quayDrop) 0 else fetch)
  else if w.q && !r.hotAllowed then
    (if w.d then s.dropHot p else (s.ensureFrame p true).startMove p .quayDrop 0)
  else s
/-- Paddock bytes of a region's pages. -/
def State.pdkOf (s : State) (r : Region) : Nat := 4096 * ((s.pagesOf r).filter fun p => (s.page p).pdk ≠ .clean).length
/-- A change of DUR between L and M: MIR, the M count, tide entries; the pages of a region that becomes M are copied to the twin (R121; 12
R454, R455). -/
def State.changeDur (s : State) (i : Nat) (o n : Region) : State :=
  if o.dur = n.dur then s else
  let s := s.voidRegion i
  let b := s.pdkOf n
  if n.dur = .m then
    let s := ((s.pagesOf n).foldl (fun a p => let w := a.page p; if w.zero then a else a.setPage p { w with mir := .unmirrored }) s).setPdk
      s.pdkBytes (s.pdkMBytes + b)
    if s.isPaired then
      { s with twin := { s.twin with resync := s.twin.resync ||| (1#64 <<< n.rset) } }.setBit F.TWN_STATUS_RESYNC true
    else s
  else ((s.pagesOf n).foldl (fun a p => a.setPage p { a.page p with mir := .notM }) s).setPdk s.pdkBytes (s.pdkMBytes - b)
/-- REGION_SET_FLAGS. DESIGN CHOICE (log 92): R121 accepts LAT STRICT to TOLERANT 'always', R119 holds every REGION_SET_FLAGS to the budgets;
the model refuses with BUDGET when a V region under FLOAT or COLD gains a flash charge that does not fit. -/
def cmdRegionSetFlags (c : Cmd) (s : State) : CmdRes :=
  let i := c.fld 0 2
  let o := s.region i
  let n : Region := { o with flags := BitVec.ofNat 9 (c.fld 4 2), rset := c.fld 6 1 % 64 }
  let lm := o.dur ≠ n.dur
  guarded ([check (s.noRegion c) St.notFound,
      param (512 ≤ c.fld 4 2 || c.fld 4 2 % 4 = 3 || (lm && (o.dur = .v || n.dur = .v))) 4,
      param (63 < c.fld 6 1 || !s.kindOk n.dur n.rset || (!lm && n.rset ≠ o.rset)) 6] ++ c.zeros 7 1 ++
      [check (o.state ≠ .active) St.wrongState, check (o.shr ≠ n.shr && s.isMapped o) St.wrongState,
        check (o.rmo && !n.rmo && s.tideRefs i) St.wrongState, check (s.budgetFails (some o) (some n)) St.budget,
        check (!s.ownsSet o.rset || !s.ownsSet n.rset) St.notOwner]) s
    (let enc := o.enc ≠ n.enc
     let s := s.changeDur i o n
     let s := if o.rmo && !n.rmo then ((s.pagesOf n).filter fun p => (s.page p).qstg).foldl State.dropStaged s else s
     let retype := (n.dur = .m && lm) || o.place ≠ n.place || (!o.strict && n.strict) || enc
     let s := (s.setRegion i { n with state := if retype then .retyping else .active }).setUse
     let s := if retype then ((s.pagesOf n).foldl (fun a p => a.beginMeet n p) s).raise 52 else s
     let s := ((s.entries.filter fun kv => kv.2.region = i).map (·.1)).foldl State.checkEntry s
     s.regionDone (if n.dur = .m then n.rset else o.rset) (natBytes 1 (if retype then 3 else 2)))
def defRegionSetFlags : CmdDef :=
  { size := fun c => c.len = 8, host := false, rights := fun _ _ _ => 0, mode := regionMode, max := fun _ => 11000,
    run := cmdRegionSetFlags }
/-- A page's flash copy is rewritten under the region's ENC (R121): a new place, the ENC bit as the region has it. A flush of the page under
way writes it so itself (08 R279). -/
def State.rewriteEnc (s : State) (r : Region) (p : Nat) : State :=
  let e := s.mapOf p
  if !s.owesEnc r p || s.inFlush p then s else
  let log := s.channelsUp.length < 8
  let len := e.toNat / 2 ^ 53 % 4 + 1
  let n := s.place (logUse log) len
  let w := moveEntry e n.1 log &&& ~~~(1#64 <<< 60)
  (n.2.setMap p (if r.enc then w ||| (1#64 <<< 60) else w)).useBlock n.1 len (logUse log)
/-- A RETYPING region whose pages have all moved: the flash copies still owed under ENC are rewritten, and it is ACTIVE (R98, R121). The owner of a mirrored set changes its table alone (12 R445). -/
def State.retypeDone (s : State) (i : Nat) : State :=
  let r := s.region i
  if r.state ≠ .retyping || !s.mayMove || (r.dur = .m && !s.owns r.rset) then s else
  let s1 := ((s.flash.map.map (·.1)).filter r.hasPage).foldl (fun a p => a.rewriteEnc r p) s
  if (s1.pagesOf r).all (s1.meets r) && !((s1.flash.map.map (·.1)).any fun p => r.hasPage p && s1.owesEnc r p) && !(r.dur = .m && s1.isPaired && (s1.pagesOf r).any fun p => (s1.page p).mir = .unmirrored)
  then s1.setRState i .active else (s1.pagesOf r).foldl (fun a p => a.beginMeet r p) s1

/-! ### REGION_DELETE, REGION_DC_RELEASE, REGION_QUERY, the end of a drain -/

def cmdRegionDelete (c : Cmd) (s : State) : CmdRes :=
  let i := c.fld 0 2
  let r := s.region i
  guarded [check (s.noRegion c) St.notFound,
      check (if r.dc then r.state ≠ .offered else !(r.state = .active || r.state = .retyping)) St.wrongState,
      check (!r.dc && (s.isMapped r || s.tideRefs i)) St.wrongState, check (!s.ownsSet r.rset) St.notOwner] s
    ((s.enterDraining i).regionDone r.rset [])
def defRegionDelete : CmdDef :=
  { size := fun c => c.len = 4, host := false, rights := fun _ _ _ => 0, mode := regionMode, max := fun _ => 10000,
    run := cmdRegionDelete }
def cmdRegionDcRelease (c : Cmd) (s : State) : CmdRes :=
  let i := c.fld 0 2
  let r := s.region i
  guarded [check (s.noRegion c) St.notFound, check (!r.dc || !(r.state = .active || r.state = .retyping)) St.wrongState,
      check (!s.ownsSet r.rset) St.notOwner] s
    ((s.enterReleasing i).regionDone r.rset [])
def defRegionDcRelease : CmdDef :=
  { size := fun c => c.len = 4, host := false, rights := fun _ _ _ => 0, mode := regionMode, max := fun _ => 10000,
    run := cmdRegionDcRelease }
def RState.code : RState → Nat
  | .free => 0 | .offered => 1 | .active => 2 | .retyping => 3 | .releasing => 4 | .draining => 5
/-- The 16 B of an entry (R97). -/
def Region.bytes16 (r : Region) : List Byte :=
  natBytes 4 (r.state.code * 2 ^ 29 + r.base) ++ natBytes 4 r.sizeM1 ++
    natBytes 4 (r.rset * 2 ^ 16 + (if r.dc then 512 else 0) + r.flags.toNat) ++ natBytes 4 (r.ld * 65536 + r.rgen)
def cmdRegionQuery (c : Cmd) (s : State) : CmdRes :=
  let i := c.fld 0 2
  let r := s.region i
  let hidden := match s.hostLd c with | some ld => !s.visibleTo r ld | none => false
  guarded (c.zeros 2 2 ++ [check (4096 ≤ i || r.state = .free || hidden) St.notFound]) s (done s r.bytes16)
def defRegionQuery : CmdDef :=
  { size := fun c => c.len = 4, host := true, rights := fun _ _ _ => 0, mode := fun _ s => if s.power = 2 then St.mode else 0,
    max := fun _ => 100, run := cmdRegionQuery }

/-- One page of a drained region is discarded: it leaves the paddock unflushed, its copies and its poison go (R98, R99). -/
def State.discardPage (s : State) (isM : Bool) (p : Nat) : State :=
  let s := if (s.page p).pdk = .clean then s else s.leavePdk isM
  let s := (((s.dropStaged p).dropHot p).dropDram p).trim p
  let s := s.unpoisonPage p
  { s with rgn := { s.rgn with pages := sput PageWord.fresh s.rgn.pages p PageWord.fresh, yard := sput 0 s.rgn.yard p 0 },
           pers := { s.pers with list := s.pers.list.filter fun e => e.1 ≠ p, wtPages := s.pers.wtPages.filter (· ≠ p) } }
/-- Every page of a DRAINING region has been discarded: FREE, budgets released, RGEN one more; the rest of a FREE entry reads 0 (R94, R98,
R127). -/
def State.drainDone (s : State) (i : Nat) : State :=
  let r := s.region i
  if r.state ≠ .draining || !s.mayMove then s else
  let s := (s.pagesOf r).foldl (fun a p => a.discardPage (r.dur = .m) p) s
  let s := { s with pers := { s.pers with landing := s.pers.landing.map fun e : LandEntry => if e.region = i then { e with drained := true } else e,
                                          flushes := s.pers.flushes.filter fun f => f.region ≠ i } }
  let s := s.settleAcks
  let s := (s.setRegion i { Region.empty with rgen := (r.rgen + 1) % 65536 }).setUse
  (s.raise 52).stretchExit

end Sys2Proof.Machine
end

