-- ==== Sys2Proof/Machine/CmdTide.lean ====
section
/-! DEFINITION. Tide commands (07 R237 to R247; 14 R558 group 0x02, R756). -/
namespace Sys2Proof.Machine

/-! ### Rights of host carriers (14 R756) -/

/-- Entries of a table. -/
def State.entriesOf (s : State) (t : Nat) : List TideEntry := (List.range (s.table t).count).map fun e => s.entry ((s.table t).first + e)
/-- May an LD see a table: every region its entries name is visible to it? -/
def State.seesTable (s : State) (t ld : Nat) : Bool := (s.entriesOf t).all fun e => s.visibleTo (s.region e.region) ld
/-- Does an LD own a UT context? -/
def State.ldOwnsCtx (s : State) (ctx ld : Nat) : Bool :=
  match sget none s.ute.ctxs ctx with | some x => x.owner = .ld ld | none => false
/-- Rights on a table that only its owner may change. -/
def tableRights (c : Cmd) (s : State) (ld : Nat) : Nat :=
  let t := c.fld 0 1
  let x := s.table t
  if 64 ≤ t || x.state = .free then 0
  else if x.owner = some ld then 0
  else if s.seesTable t ld then St.notPermitted else St.notFound
/-- Rights on a sharer. -/
def sharerRights (c : Cmd) (s : State) (ld : Nat) : Nat :=
  let x := s.sharer (c.fld 0 2)
  if x.state = .free then 0
  else if (if x.peer then s.ldOwnsCtx x.id ld else x.id = ld) then 0
  else if s.seesTable x.table ld then St.notPermitted else St.notFound

/-! ### Tables -/

/-- Pages of the staging area (R241; 09 R353). -/
def State.stagePages (s : State) : Nat := min 64 (s.latched F.TIDE_CTRL_STAGE_SIZE) * 65536
/-- Quotas of the tables in use. -/
def State.quotas (s : State) : Nat := (s.tide.map fun kv => if kv.2.state = .free then 0 else kv.2.quota).sum
/-- Is a run of n entry slots free? -/
def State.slotsFree (s : State) (n first : Nat) : Bool :=
  first + n ≤ 8192 && !s.tide.any fun kv => kv.2.state ≠ .free && setsOverlap first n kv.2.first kv.2.slots
/-- The lowest run of free slots that fits (14 R558). -/
def State.lowestRun (s : State) (n : Nat) : Option Nat :=
  ((0 :: (s.tide.filter fun kv => kv.2.state ≠ .free).map fun kv => kv.2.first + kv.2.slots).filter (s.slotsFree n)).foldl
    (fun m b => match m with | none => some b | some x => some (min x b)) none
/-- TIDE_TABLE_CREATE. DESIGN CHOICE (log 79): it takes the FREE table with the lowest number; the spec names only the run of entry slots. -/
def cmdTableCreate (c : Cmd) (s : State) : CmdRes :=
  let n := c.fld 0 2
  let rset := c.fld 3 1
  let t := (List.range 64).find? fun t => (s.table t).state = .free
  let run := s.lowestRun n
  guarded ([param (n = 0 || 4096 < n) 0, param (63 < c.fld 2 1) 2, param (63 < rset) 3, param (3 < c.fld 8 1) 8] ++ c.zeros 9 3 ++
      [check (t.isNone || run.isNone) St.noResource, check (s.stagePages < s.quotas + c.fld 4 4) St.budget,
        check (!s.ownsSet rset) St.notOwner]) s
    (match t, run with
      | some t, some first =>
        let x : TideTable := ⟨.building, s.hostLd c, c.fld 8 1 / 2 % 2 = 1, c.fld 8 1 % 2 = 1, rset, c.fld 2 1, first, n, 0, c.fld 4 4, 0,
          (s.table t).lateCnt, (s.table t).lateSat⟩
        done (s.setTable t x)
          (natBytes 1 t ++ natBytes 1 0 ++ natBytes 2 first)
      | _, _ => refuse St.noResource 0 s)
def defTableCreate : CmdDef :=
  { size := fun c => c.len = 12, host := true, rights := fun _ _ _ => 0,
    mode := fun c s => if c.fld 3 1 < 64 && s.isMirrored (c.fld 3 1) && !s.owns (c.fld 3 1) then St.notOwner else 0,
    max := fun _ => 1000, run := cmdTableCreate }

/-- The k-th entry of a TIDE_ENTRY_ADD, its region filled in (R241). -/
def State.entryAt (s : State) (c : Cmd) (k : Nat) : TideEntry :=
  let p := c.fld (8 + 16 * k) 8 / 4096
  ⟨p, c.fld (16 + 16 * k) 4, (s.regionAt p).getD 0, false, false, false, false⟩
/-- The largest number of entries, among `es`, that cover one page of entry `e` (R109). -/
def coverMax (es : List TideEntry) (e : TideEntry) : Nat :=
  let at_ := e.page :: (es.filter fun x => e.page ≤ x.page && x.page ≤ e.page + e.lenM1).map (·.page)
  at_.foldl (fun m p => max m (es.filter fun x => x.has p).length) 0
/-- Every entry registered. DESIGN CHOICE (log 80): all of them count towards the 255 of R109, those that are VOID or not staged included;
the spec does not say which do. -/
def State.allEntries (s : State) : List TideEntry :=
  s.tide.flatMap fun kv => if kv.2.state = .free then [] else s.entriesOf kv.1
/-- Does the k-th entry break R239, R241 or R109? -/
def State.entryBad (s : State) (c : Cmd) (rset : Nat) (k : Nat) : Bool :=
  let o := 8 + 16 * k
  let e := s.entryAt c k
  let before := (List.range k).map (s.entryAt c)
  c.fld o 8 % 4096 ≠ 0 || 2 ^ 48 ≤ c.fld o 8 || 2 ^ 20 ≤ c.fld (o + 8) 4 || c.fld (o + 12) 4 ≠ 0 ||
    (match s.regionAt e.page with
      | none => true
      | some i =>
        let r := s.region i
        !(r.hasPage (e.page + e.lenM1)) || !r.rmo || !(r.state = .active || r.state = .retyping) || r.rset ≠ rset ||
          (match s.hostLd c with | some ld => !s.visibleTo r ld | none => false)) ||
    255 < coverMax (s.allEntries ++ before ++ [e]) e
/-- TIDE_ENTRY_ADD: all K entries, or none. -/
def cmdEntryAdd (c : Cmd) (s : State) : CmdRes :=
  let t := c.fld 0 1
  let x := s.table t
  let k := c.fld 1 1
  guarded ([check (64 ≤ t || x.state ≠ .building) St.wrongState, check (x.slots < x.count + k) St.noResource, param (k = 0) 1] ++
      c.zeros 2 6 ++ (List.range k).map fun j => param (s.entryBad c x.rset j) (8 + 16 * j)) s
    (let s' := (List.range k).foldl (fun a j => a.setEntry (x.first + x.count + j) (s.entryAt c j)) s
     done (s'.setTable t { x with count := x.count + k }) (natBytes 2 (x.count + k)))
def defEntryAdd : CmdDef :=
  { size := fun c => 8 ≤ c.len && c.len = 8 + 16 * c.fld 1 1, host := true, rights := tableRights, mode := fun _ _ => 0,
    max := fun _ => 5000, run := cmdEntryAdd }

/-- W_max: the pages of the largest window (R241). -/
def State.wMax (s : State) (t : Nat) : Nat :=
  let x := s.table t
  let size := fun i => (s.entry (x.first + i)).lenM1 + 1
  ((List.range x.count).map fun i => ((List.range (min x.lead (x.count - 1) + 1)).map fun j => size ((i + j) % x.count)).sum).foldl max 0
/-- TIDE_TABLE_OPEN. -/
def cmdTableOpen (c : Cmd) (s : State) : CmdRes :=
  let t := c.fld 0 1
  let x := s.table t
  guarded (c.zeros 1 3 ++ [check (64 ≤ t || x.state ≠ .building || x.count = 0) St.wrongState, check (x.quota < s.wMax t) St.budget]) s
    (done (s.setTable t { x with state := .live }) [])
def defTableOpen : CmdDef :=
  { size := fun c => c.len = 4, host := true, rights := tableRights, mode := fun _ _ => 0, max := fun _ => 2000, run := cmdTableOpen }
/-- TIDE_TABLE_CLOSE: BUILDING to FREE, or LIVE through CLOSING to FREE once its entries are released (R242). -/
def cmdTableClose (c : Cmd) (s : State) : CmdRes :=
  let t := c.fld 0 1
  let x := s.table t
  guarded (c.zeros 1 3 ++ [check (64 ≤ t || x.state = .free) St.notFound]) s
    (match x.state with
      | .live => done (s.closeTable t) []
      | .building =>
        let s := (List.range x.count).foldl (fun a e => a.setEntry (x.first + e) TideEntry.empty) s
        done (s.setTable t x.freed) []
      | _ => done s [])
def defTableClose : CmdDef :=
  { size := fun c => c.len = 4, host := true, rights := tableRights, mode := fun _ _ => 0, max := fun _ => 1000, run := cmdTableClose }

/-! ### Sharers -/

/-- Does the sharer that a join names exist, and who sees for it? -/
def State.sharerSees (s : State) (peer : Bool) (id : Nat) (r : Region) : Bool :=
  if peer then
    match sget none s.ute.ctxs id with
    | some x => (match x.owner with | .ld n => s.visibleTo r n | .hostId n => s.visibleTo r n | _ => true)
    | none => false
  else s.visibleTo r id
def State.sharerExists (s : State) (peer : Bool) (id : Nat) : Bool :=
  if peer then (sget none s.ute.ctxs id).isSome else if s.gfam then s.boundHosts.contains id else s.lds.contains id
/-- Is a step line good: aligned, in a served V region that the sharer sees, and not in use (R242)? -/
def State.stepLineOk (s : State) (peer : Bool) (id dla : Nat) : Bool :=
  dla % 64 = 0 && dla < 2 ^ 48 && !(s.sharers.any fun kv => kv.2.state ≠ .free && kv.2.stepLine = dla / 64) &&
    match s.regionAt (dla / 4096) with
    | some i => (s.region i).dur = .v && (s.region i).served && s.sharerSees peer id (s.region i)
    | none => false
/-- TIDE_SHARER_JOIN. DESIGN CHOICE (log 79): it takes the free sharer slot with the lowest number; the spec names none. -/
def cmdSharerJoin (c : Cmd) (s : State) : CmdRes :=
  let t := c.fld 0 1
  let x := s.table t
  let peer := c.fld 1 1 = 1
  let id := c.fld 2 2
  let h := (List.range 4096).find? fun h => (s.sharer h).state = .free
  guarded [check (64 ≤ t || x.state ≠ .live) St.wrongState,
      check (h.isNone || 1024 ≤ (s.sharers.filter fun kv => kv.2.state ≠ .free && kv.2.table = t).length) St.noResource,
      param (1 < c.fld 1 1) 1, param (!s.sharerExists peer id) 2, param (!s.stepLineOk peer id (c.fld 8 8)) 8] s
    (match h with
      | some h =>
        let y : Sharer := ⟨.active, t, peer, id, c.fld 4 4, c.fld 8 8 / 64, s.now, none⟩
        done (((s.setSharer h y).retune t).lateTest h y) (natBytes 2 h)
      | none => refuse St.noResource 0 s)
/-- A host carrier may name only its own LD, or a context it owns, at a LIVE table it sees (14 R756). -/
def joinRights (c : Cmd) (s : State) (ld : Nat) : Nat :=
  let t := c.fld 0 1
  if 64 ≤ t || (s.table t).state = .free then 0
  else if (s.table t).owner ≠ some ld && !s.seesTable t ld then St.notFound
  else if (if c.fld 1 1 = 1 then s.ldOwnsCtx (c.fld 2 2) ld else c.fld 2 2 = ld) then 0
  else St.notPermitted
def defSharerJoin : CmdDef :=
  { size := fun c => c.len = 16, host := true, rights := joinRights, mode := fun _ _ => 0, max := fun _ => 1000, run := cmdSharerJoin }
/-- TIDE_SHARER_LEAVE. -/
def cmdSharerLeave (c : Cmd) (s : State) : CmdRes :=
  let h := c.fld 0 2
  guarded (c.zeros 2 2 ++ [check (4096 ≤ h || (s.sharer h).state = .free) St.notFound]) s (done (s.freeSharer h) [])
def defSharerLeave : CmdDef :=
  { size := fun c => c.len = 4, host := true, rights := sharerRights, mode := fun _ _ => 0, max := fun _ => 1000, run := cmdSharerLeave }
/-- TIDE_STEP_SET. -/
def cmdStepSet (c : Cmd) (s : State) : CmdRes :=
  let h := c.fld 0 2
  guarded (c.zeros 2 2 ++ [check (4096 ≤ h || (s.sharer h).state = .free) St.notFound]) s (done (s.stepUpdate h (c.fld 4 4)) [])
def defStepSet : CmdDef :=
  { size := fun c => c.len = 8, host := true, rights := sharerRights, mode := fun _ _ => 0, max := fun _ => 100, run := cmdStepSet }

end Sys2Proof.Machine
end

