-- ==== Sys2Proof/Machine/SetFx.lean ====
section
/-! DEFINITION. Stored registers as whole values, and the settings cells: words, writes, banks, group writes, freezing (18 R654 to R669; 19 R705). -/
namespace Sys2Proof.Machine

/-! ### Stored registers as whole values -/

def FieldSpec.at (f : FieldSpec) (off : Nat) : Fld := ⟨off, f.hi, f.lo⟩
/-- The register at an offset, from its fields; reserved bits read 0 (19 R689). -/
def State.regValue (s : State) (sp : RegSpec) (off : Nat) : Nat := (sp.fields.map fun f => s.fget (f.at off) * 2 ^ f.lo).sum
/-- Fields that hold a value: one whose type is W1S acts on a 1 and reads 0 (00 R14). -/
def RegSpec.held (sp : RegSpec) : List FieldSpec := sp.fields.filter fun f => f.acc ≠ .w1s
/-- Load every field of a register that holds a value. -/
def State.loadReg (s : State) (sp : RegSpec) (off v : Nat) : State :=
  sp.held.foldl (fun a f => a.fset (f.at off) (v / 2 ^ f.lo)) s
/-- Replace 32-bit word k of a value. -/
def putWord32 (v k w : Nat) : Nat := v - v / 2 ^ (32 * k) % 2 ^ 32 * 2 ^ (32 * k) + w % 2 ^ 32 * 2 ^ (32 * k)
def word32 (v k : Nat) : Nat := v / 2 ^ (32 * k) % 2 ^ 32
/-- Settings words of one instance of a register. -/
def RegSpec.words (sp : RegSpec) : Nat := sp.bits / 32
/-- Offset of an instance, by its ascending index (18 R656). -/
def RegSpec.offOf (sp : RegSpec) (n : Nat) : Nat := sp.base + sp.s1 * (n / sp.n2) + sp.s2 * (n % sp.n2)

/-! ### Words -/

/-- The register mapped onto a settings word, its offset, and which word of it this is (18 R656; 19 R705). -/
def wordReg (w : Nat) : Option (RegSpec × Nat × Nat) :=
  match regTable.find? fun sp => match sp.word with | some b => b ≤ w && w < b + sp.words * sp.n1 * sp.n2 | none => false with
  | some sp => match sp.word with
    | some b => some (sp, sp.offOf ((w - b) / sp.words), (w - b) % sp.words)
    | none => none
  | none => none
/-- Words that only their own command or hardware writes (18 R662, R663). -/
def ownWord (w : Nat) : Bool :=
  (0x202 ≤ w && w ≤ 0x224) || (0x300 ≤ w && w ≤ 0x307) || w = 0x285 || (0x124 ≤ w && w ≤ 0x13B) || (0x3BF ≤ w && w ≤ 0x3FF)
/-- Words that read 0 through SET_WORD and SETTINGS_READ (18 R662, R663). -/
def hiddenWord (w : Nat) : Bool := (0x300 ≤ w && w ≤ 0x307) || (0x3BF ≤ w && w ≤ 0x3FF)
/-- Words that hold something: mapped, named in R655, or the appliance's. -/
def assignedWord (w : Nat) : Bool :=
  (wordReg w).isSome || ownWord w || (0x184 ≤ w && w ≤ 0x1A3) || (0x400 ≤ w && w ≤ 0xFFF)
/-- Bits of a word that a mapped register gives a meaning. -/
def wordMask (w v : Nat) : Nat :=
  match wordReg w with
  | some (sp, _, k) => word32 ((sp.held.map fun f => v * 2 ^ (32 * k) / 2 ^ f.lo % 2 ^ (f.hi + 1 - f.lo) * 2 ^ f.lo).sum) k
  | none => v % 2 ^ 32
def State.cell (s : State) (w : Nat) : Nat := sget 0 s.sets.cells w
def State.wcount (s : State) (w : Nat) : Nat := sget 0 s.sets.counts w
def State.frozenWord (s : State) (w : Nat) : Bool := 10000000 ≤ s.wcount w
/-- A word of the DIMM population record, from the recorded population (09 R317; log 102). -/
def State.dimmRecord (s : State) (w : Nat) : Nat :=
  if 0x124 ≤ w && w ≤ 0x13B then
    match s.dram.recorded with
    | some p =>
      (Config.dimmWord [p.dpc, p.pr, p.height, p.ncb, p.rowBits, p.bytes, p.dense.toNat, p.clPs, p.rcdPs, p.rpPs, p.rfcsbPs] (w - 0x124)).toNat
    | none => 0
  else 0
/-- A word as its register or `live` holds it; slot 0 of the watcher is fixed (16 R614). -/
def State.wordValue (s : State) (w : Nat) : Nat :=
  match wordReg w with
  | some (sp, off, k) => if w = 0x2A0 then 0x400001B1 else word32 (s.regValue sp off) k
  | none => if sget 0 s.sets.live w = 0 then s.dimmRecord w else sget 0 s.sets.live w
/-- A word as software reads it. -/
def State.wordRead (s : State) (w : Nat) : Nat := if hiddenWord w || !assignedWord w then 0 else s.wordValue w
/-- SET_WCNT of a word; the write that recorded the population counts in its words (R664). -/
def State.wcntRead (s : State) (w : Nat) : Nat :=
  (if s.frozenWord w then 2 ^ 31 else 0) + (if s.sets.ue.contains w then 2 ^ 30 else 0) + s.wcount w + (if s.dimmRecord w = 0 then 0 else 1)

/-- EN of a head's link was written: 0 holds it DOWN as after a failure, 1 starts a training attempt (04 R176). -/
def State.linkEnable (s : State) (h : Nat) : State :=
  let st := s.linkState h
  if s.clk.inReset || !s.present h then s
  else if !s.bit (lnk F.CXP_LNK_CFG_EN h) then (if st = 2 then s.fset (lnk F.CXP_LNK_STATUS_STATE h) 1 else if st = 5 then s else s.linkDown h)
  else if st = 1 then s.fset (lnk F.CXP_LNK_STATUS_STATE h) (s.trainState h) else s
/-- What follows from a new value of a mapped register at once (R659): the budgets (03 R120), a link's EN (04 R176), the watcher's
slots (16 R614), whose slot 0 is fixed. -/
def State.wordHook (s : State) (w : Nat) : State :=
  if w = 0x41 then s.testOvercommit
  else if 0xA0 ≤ w && w ≤ 0xAF then s.linkEnable (w - 0xA0)
  else if 0x2A1 ≤ w && w ≤ 0x2BF then
    { s with icu := { s.icu with sel := sput 0 s.icu.sel (w - 0x2A0) (BitVec.ofNat 32 (s.wordValue w)) } }
  else s
/-- A new value as reads return it from the cycle its write arrives (R659). -/
def State.setLive (s : State) (w v : Nat) : State :=
  (match wordReg w with
    | some (sp, off, k) => s.loadReg sp off (putWord32 (s.regValue sp off) k v)
    | none => { s with sets := { s.sets with live := sput 0 s.sets.live w (v % 2 ^ 32) } }).wordHook w

/-! ### Writes to the array -/

def State.setWrites (s : State) (l : List SetWrite) (g : List GroupWrite) : State :=
  ({ s with sets := { s.sets with writes := l, groups := g } }).setBit F.SET_STATUS_BUSY (!(l.isEmpty && g.isEmpty))
/-- Is a write to words of a range on its way? -/
def State.wordsBusy (s : State) (first n : Nat) : Bool :=
  (s.sets.writes.any fun x => first ≤ x.word && x.word < first + n) || s.sets.groups.any fun g => g.first < first + n && first < g.first + g.values.length
/-- The EPC cycle of a time: 40 CORE cycles (17 R623). -/
def epcCycle (t : Nat) : Nat := t / 40
/-- Issue the next write of a bank, once the EPC cycle of its arrival has ended: one equal to the stored word completes without issuing (R658,
R660). -/
def issueFrom (cell : Nat → Nat) (now bank : Nat) : List SetWrite → List SetWrite
  | [] => []
  | x :: t =>
    if x.word % 16 ≠ bank then x :: issueFrom cell now bank t
    else if x.issued.isSome || epcCycle now ≤ x.cycle then x :: t
    else if x.value.toNat = cell x.word then issueFrom cell now bank t
    else { x with issued := some now } :: t
/-- A write ignored under R657, R663 or R665. -/
def State.denied (s : State) : State := s.bump F.SET_DENIED_CNT_VALUE F.SET_STATUS_DENIED_SAT 594
/-- Writes that wait in a bank for a word that has frozen meanwhile are not persisted (R665). -/
def State.dropFrozen (s : State) (bank : Nat) : State :=
  let gone := s.sets.writes.filter fun x => x.word % 16 = bank && x.issued.isNone && s.frozenWord x.word
  gone.foldl (fun a _ => a.denied) (s.setWrites (s.sets.writes.filter fun x => !gone.contains x) s.sets.groups)
def State.issueBank (s : State) (bank : Nat) : State :=
  let s := s.dropFrozen bank
  s.setWrites (issueFrom s.cell s.now bank s.sets.writes) s.sets.groups
/-- The banks whose next write is due are given it, once its EPC cycle has ended (R658). -/
def State.issueDue (s : State) : State :=
  (s.sets.writes.filter fun x => x.issued.isNone && decide (x.cycle < epcCycle s.now)).foldl (fun a x => a.issueBank (x.word % 16)) s
/-- The place of a write among those waiting: in arrival order, but within one EPC cycle the AON island's before the main island's (R658). -/
def placeWrite (x : SetWrite) : List SetWrite → List SetWrite
  | [] => [x]
  | y :: t => if !x.main && y.main && y.issued.isNone && x.cycle = y.cycle then x :: y :: t else y :: placeWrite x t
/-- A write enters its bank's queue. -/
def State.queueWord (s : State) (w v : Nat) (main : Bool) : State :=
  s.setWrites (placeWrite ⟨w, BitVec.ofNat 32 v, epcCycle s.now, main, none⟩ s.sets.writes) s.sets.groups
/-- A write to a word arrives, from a party that may write it: a frozen word changes only its register (R665). -/
def State.arriveWord (s : State) (w v : Nat) (main : Bool) : State :=
  if s.frozenWord w then (s.setLive w v).denied else (s.setLive w v).queueWord w (wordMask w v) main
/-- A software write to a word (R657, R663). The word of the watcher's slot 0 backs fields that are read-only (16 R622). -/
def State.softWord (s : State) (w v : Nat) : State :=
  if !assignedWord w || ownWord w then s.denied else if w = 0x2A0 then s else s.arriveWord w v true

/-- The word and its counter are persistent together (R658, R664); a frozen word can never be written again (R665). -/
def State.storeCell (s : State) (w v : Nat) : State :=
  if s.frozenWord w then s.denied else
  let n := s.wcount w + 1
  let s := { s with sets := { s.sets with cells := sput 0 s.sets.cells w v, counts := sput 0 s.sets.counts w n,
                                          ue := s.sets.ue.filter (· ≠ w), bad := s.sets.bad.filter (· ≠ w) } }
  let s := if n = 9000000 then s.raise 593 else s
  if n = 10000000 then (s.fset F.SET_STATUS_FROZEN (s.fget F.SET_STATUS_FROZEN + 1)).raise 592 else s

/-- A write that completes in place; one equal to the stored word is not counted (R660). -/
def State.storeNew (s : State) (w v : Nat) : State := if s.cell w = v then s else s.storeCell w v

/-! ### Group writes (R662) -/

/-- The words that stage k of a group writes, with their values. -/
def GroupWrite.stageWords (g : GroupWrite) (k : Nat) : List (Nat × Nat) :=
  let n := g.values.length
  let vs := (List.range n).zip (g.values.map BitVec.toNat)
  match k with
  | 1 => vs.map fun x => (0x3C0 + x.1, x.2)
  | 2 => [(0x3BF, 2 ^ 31 + g.first * 2 ^ 16 + n)]
  | 3 => vs.map fun x => (g.first + x.1, x.2)
  | _ => [(0x3BF, 0)]
/-- One write of a stage; a frozen target keeps its value. The first stage arrives with the group. The later ones follow the stage before with
no further cycle: DEDUCED from the bound of R662, which counts 2.1 µs for each round of a stage and nothing between. -/
def State.stageWrite (s : State) (g : GroupWrite) (w v : Nat) : State :=
  if s.frozenWord w then s.denied
  else if g.stage = 1 then s.queueWord w v (g.why ≠ .rehearsal)
  else (s.setWrites (s.sets.writes ++ [⟨w, BitVec.ofNat 32 v, epcCycle s.now - 1, false, none⟩]) s.sets.groups).issueBank (w % 16)
/-- Queue the writes of a stage. -/
def State.startStage (s : State) (g : GroupWrite) : State := (g.stageWords g.stage).foldl (fun a x => a.stageWrite g x.1 x.2) s
/-- The lowest frozen word among the commit word and the staging words: while there is one, no group write is persisted (R662). -/
def State.stagingCold (s : State) : Option Nat := ((List.range 65).map (0x3BF + ·)).find? s.frozenWord
/-- A group write arrives: the registers take the new values at once. -/
def State.groupWrite (s : State) (first : Nat) (values : List Nat) (why : GroupWhy) : State :=
  let s := ((List.range values.length).zip values).foldl (fun a x => a.setLive (first + x.1) x.2) s
  if s.stagingCold.isSome then s.denied else
  let vs := ((List.range values.length).zip values).map fun x => wordMask (first + x.1) x.2
  let g : GroupWrite := ⟨first, vs.map (BitVec.ofNat 32), 1, s.now, why⟩
  let idle := s.sets.groups.isEmpty
  let s := s.setWrites s.sets.writes (s.sets.groups ++ [g])
  if idle then s.startStage g else s
/-- The stage of the running group has completed: the next one issues, and after the last the next group starts. -/
def State.groupStageDone (s : State) : State :=
  match s.sets.groups with
  | [] => s
  | g :: rest =>
    if (g.stageWords g.stage).any fun x => s.sets.writes.any fun y => y.word = x.1 then s
    else if g.stage < 4 then
      let g' := { g with stage := g.stage + 1 }
      (s.setWrites s.sets.writes (g' :: rest)).startStage g'
    else
      let s := s.setWrites s.sets.writes rest
      match rest with | g2 :: _ => s.startStage g2 | [] => s
/-- SETTINGS_WRITE_DONE: 2.1 µs after issue (R658). -/
def State.setWriteDone (s : State) (w : Nat) : State :=
  match s.sets.writes.find? fun x => x.word = w && x.issued.isSome with
  | some x =>
    match x.issued with
    | some t =>
      if s.now < t + ns 2100 then s else
      (((s.storeCell w x.value.toNat).setWrites (s.sets.writes.erase x) s.sets.groups).issueBank (w % 16))
    | none => s
  | none => s

/-! ### Resets and start-up -/

/-- Words as registers present them after a main-island reset: the value of a write on its way, else the stored one, or the factory value of
a word whose read is uncorrectable (R659, R666). -/
def State.reloadWord (s : State) (w : Nat) : State :=
  let v := match (s.sets.writes.filter fun x => x.word = w).getLast? with
    | some x => x.value.toNat
    | none => if s.sets.ue.contains w then sget 0 factoryCells w else s.cell w
  match wordReg w with
  | some (sp, off, k) => s.loadReg sp off (putWord32 (s.regValue sp off) k v)
  | none => { s with sets := { s.sets with live := sput 0 s.sets.live w v } }
/-- Every word is read again; one that is still beyond correction shows in UE (R666). -/
def State.reloadWords (s : State) : State :=
  let s := { s with sets := { s.sets with ue := s.sets.bad } }
  let s := (List.range 0x400).foldl State.reloadWord s
  (s.sets.cells.filter fun kv => 0x400 ≤ kv.1).foldl (fun a kv => a.reloadWord kv.1) s
/-- An AON power-on reset cuts the writes on their way: each word in the array is as it was, or as its write leaves it (R661). -/
def State.settingsCut (s : State) : State :=
  let s := (s.sets.writes.filter fun x => x.issued.isSome).foldl (fun a x =>
    let k := a.free 2
    if k.1 = 1 then k.2.storeCell x.word x.value.toNat else k.2) s
  s.setWrites [] []
/-- Step 1 of a start-up completes a group write whose commit word is valid (R662). -/
def State.groupRecover (s : State) : State :=
  let c := s.cell 0x3BF
  if c / 2 ^ 31 % 2 = 0 then s else
  let s := (List.range (c % 64)).foldl (fun a i => a.storeNew (c / 2 ^ 16 % 4096 + i) (a.cell (0x3C0 + i))) s
  s.storeCell 0x3BF 0

end Sys2Proof.Machine
end

