-- ==== Sys2Proof/Machine/RecFx.lean ====
section
/-! DEFINITION. The event recorder: arming, epochs, records, transfers (18_settings_cells_and_recorder.md R670 to R684). -/
namespace Sys2Proof.Machine

def State.setEpoch (s : State) (e : Epoch) : State := { s with recd := { s.recd with epoch := e } }
def State.armed (s : State) : Bool := s.bit F.REC_STATUS_ARMED
/-- A signed value in two bytes. -/
def int2 (i : Int) : List Byte := natBytes 2 (i % 65536).toNat
/-- Does any count field of the epoch hold its largest value (R683)? -/
def Epoch.full (e : Epoch) : Bool :=
  e.sat || e.merged = 0xFFFF || e.saves = 0xFFFF || e.saveInc = 0xFFFF || e.claims = 0xFFFFFFFF ||
    (e.lat.any fun kv => kv.2 = 2 ^ 56 - 1) || (e.ce.any fun kv => kv.2 = 0xFFFFFFFF) || e.ue.any fun kv => kv.2 = 0xFFFFFFFF
/-- Bytes 0x00 to 0xFB of a record (R684). -/
def State.recordBody (s : State) (n reasons : Nat) : List Byte :=
  let e := s.recd.epoch
  let flags := reasons + (if s.bit F.REC_STATUS_LOST then 32 else 0) + (if e.full then 64 else 0) + (if e.xtal then 128 else 0)
  natBytes 2 1 ++ natBytes 2 flags ++ natBytes 4 n ++ natBytes 4 (s.fget F.REC_OPEN_HOURS_VALUE) ++ natBytes 4 (s.fget F.REC_HOURS_VALUE) ++
    natBytes 4 (s.fget F.REC_CYCLES_VALUE) ++ natBytes 2 e.merged ++ natBytes 2 0 ++ int2 e.tjMin ++ int2 e.tjMax ++ int2 e.packMin ++
    int2 e.packMax ++ int2 e.vaonMin ++ int2 e.vaonMax ++ (e.rails.flatMap fun r => int2 r.1 ++ int2 r.2) ++
    ((List.range 16).flatMap fun i => natBytes 7 (sget 0 e.lat i)) ++ natBytes 8 e.pdkPeak ++ natBytes 2 e.saves ++ natBytes 2 e.saveInc ++
    natBytes 4 e.saveMin ++ natBytes 4 e.saveMax ++ ((List.range 4).flatMap fun i => natBytes 4 (sget 0 e.ce i)) ++
    ((List.range 4).flatMap fun i => natBytes 4 (sget 0 e.ue i)) ++ natBytes 4 e.claims ++ natBytes 2 e.wearMin ++ natBytes 2 e.wearMax ++
    natBytes 8 0
/-- Slot of record n (R678). -/
def recSlot (n : Nat) : Nat := if n < 256 then n else 256 + n % 256
/-- Write record number n: the position first, then the slot (R678, R679). -/
def State.writeRecord (s : State) (reasons : Nat) : State :=
  let n := s.recd.next
  let body := s.recordBody n reasons
  let s := ((s.fset F.REC_STATUS_NEWEST (recSlot n)).fset F.REC_STATUS_KEPT (min 256 (n + 1))).fset F.REC_STATUS_CIRC (min 256 (n + 1 - 256))
  let s := { s with recd := { s.recd with next := n + 1, epoch := Epoch.new,
                                          slots := sput [] s.recd.slots (recSlot n) (body ++ natBytes 4 (crcOf 0 body)) } }
  let s := (s.setBit F.REC_STATUS_LOST false).raise 608
  if n = 255 then s.raise 609 else s
/-- Paddock peak of the open epoch (02 R89). -/
def State.recPeak (s : State) : State :=
  if s.epochOpen then s.setEpoch { s.recd.epoch with pdkPeak := max s.recd.epoch.pdkPeak (s.fget F.RGN_PDK_BYTES_VALUE) } else s
/-- Open an epoch: REC_OPEN_HOURS takes REC_HOURS, but after a merged close it keeps its value (R674, R676). Its paddock peak begins with what
the paddock holds. -/
def State.openEpoch (s : State) : State :=
  if !s.armed || s.epochOpen then s else
  let s := (s.setBit F.REC_STATUS_OPEN true).recPeak
  if s.recd.epoch.reasons ≠ 0 then s else s.fset F.REC_OPEN_HOURS_VALUE (s.fget F.REC_HOURS_VALUE)
/-- Close the epoch: `why` is the FLAGS bit of R684, 0 to 4, for conditions 1 to 5 of R675. -/
def State.closeEpoch (s : State) (why : Nat) : State :=
  if !s.epochOpen then s else
  let e := s.recd.epoch
  let reasons := e.reasons ||| 2 ^ why
  let s := s.setBit F.REC_STATUS_OPEN false
  if s.fget F.REC_HOURS_VALUE = s.fget F.REC_OPEN_HOURS_VALUE && why ≠ 0 then
    if why = 4 then ((s.setEpoch Epoch.new).setBit F.REC_STATUS_LOST true).raise 610
    else s.setEpoch { e with merged := min 0xFFFF (e.merged + 1), reasons := reasons }
  else
    let s := s.writeRecord reasons
    if why = 0 then s.openEpoch else s
/-- RECORDER_ARM: the single arming write (R671). -/
def State.recArm (s : State) : State :=
  if s.armed then s else
  ({ s with recd := Recorder.reset }).setBit F.REC_STATUS_ARMED true
/-- One more 1/16 hour (R672), and the 24-hour close (R675). -/
def State.hoursTick (s : State) (rc : Bool) : State :=
  if !s.armed then s else
  let s := s.bumpQuiet F.REC_HOURS_VALUE
  let s := if rc then s.setEpoch { s.recd.epoch with xtal := true } else s
  if s.fget F.REC_OPEN_HOURS_VALUE + 384 ≤ s.fget F.REC_HOURS_VALUE then s.closeEpoch 0 else s

/-! ### Accumulation (R680 to R683) -/

def lower (x : Int) (m : Int) : Int := if x < m then x else m
def higher (x : Int) (m : Int) : Int := if m < x then x else m
/-- Add gathered counts to the epoch's, saturating. -/
def addCounts (top : Nat) (m acc : SMap Nat) : SMap Nat := acc.foldl (fun a kv => sput 0 a kv.1 (min top (sget 0 a kv.1 + kv.2))) m
/-- The minima and maxima with one more sample each. -/
def addRails : List (Int × Int) → List Int → List (Int × Int)
  | r :: rs, x :: xs => (lower x r.1, higher x r.2) :: addRails rs xs
  | rs, _ => rs
/-- RECORDER_TRANSFER: every 100 ms (R680). -/
def State.recTransfer (s : State) (x : RecSample) : State :=
  if s.clk.inReset || !s.epochOpen then s else
  let e := s.recd.epoch
  let a := s.recd.acc
  let e : Epoch := { e with
    tjMin := lower x.tj e.tjMin, tjMax := higher x.tj e.tjMax, rails := addRails e.rails x.rails, lat := addCounts (2 ^ 56 - 1) e.lat a.lat,
    ce := addCounts 0xFFFFFFFF e.ce a.ce, ue := addCounts 0xFFFFFFFF e.ue a.ue, wearMin := s.fget F.FTC_WEAR_MIN,
    wearMax := s.fget F.FTC_WEAR_MAX }
  ({ s with recd := { s.recd with epoch := e, acc := ⟨[], [], []⟩ } }).recPeak
/-- A claim-epoch increment (R680). -/
def State.recClaim (s : State) : State :=
  if s.armed then s.setEpoch { s.recd.epoch with claims := min 0xFFFFFFFF (s.recd.epoch.claims + 1) } else s
/-- A pack-temperature sample pair and a VAON sample count also while no epoch is open (R681). -/
def State.recPack (s : State) (tmin tmax : Int) : State :=
  if s.armed then s.setEpoch { s.recd.epoch with packMin := lower tmin s.recd.epoch.packMin, packMax := higher tmax s.recd.epoch.packMax } else s
def State.recVaon (s : State) (mv : Int) : State :=
  if s.armed then s.setEpoch { s.recd.epoch with vaonMin := lower mv s.recd.epoch.vaonMin, vaonMax := higher mv s.recd.epoch.vaonMax } else s
/-- Entry to SAVE, and its commit after `d` CORE cycles. -/
def State.recSave (s : State) : State :=
  let s := { s with recd := { s.recd with saveAt := some s.now } }.recPeak
  if s.armed then s.setEpoch { s.recd.epoch with saves := min 0xFFFF (s.recd.epoch.saves + 1) } else s
def State.recCommit (s : State) : State :=
  match s.recd.saveAt with
  | none => s
  | some t =>
    let d := min 0xFFFFFFFF (toUs (s.now - t))
    let e := s.recd.epoch
    let s := if s.armed then s.setEpoch { e with saveMin := if e.saveMin = 0 then d else min e.saveMin d, saveMax := max e.saveMax d } else s
    { s with recd := { s.recd with saveAt := none } }
/-- The power went before the commit (R681). -/
def State.recCut (s : State) : State :=
  match s.recd.saveAt with
  | none => s
  | some _ =>
    let e := s.recd.epoch
    let s := if s.armed then s.setEpoch { e with saveInc := min 0xFFFF (e.saveInc + 1) } else s
    { s with recd := { s.recd with saveAt := none } }

end Sys2Proof.Machine
end

