-- ==== Sys2Proof/Machine/EpcFx.lean ====
section
/-! DEFINITION. The energy-pack controller: frames, the energy model, charger and heater, rehearsals, VAON (11_energy_pack_and_power_loss.md R407 to R429, R437 to R440). -/
namespace Sys2Proof.Machine

def State.setEpc (s : State) (e : Epc) : State := { s with epc := e }
/-- A 16-bit value as a signed number. -/
def sgn16 (n : Nat) : Int := if n % 65536 < 32768 then (n % 65536 : Nat) else (n % 65536 : Nat) - 65536

/-! ### The pack profile (R410, R411) -/

def State.eNom (s : State) : Nat := s.prof 0 31 0
def State.qNom (s : State) : Nat := s.prof 1 31 0
def State.groupsN (s : State) : Nat := s.prof 2 31 24
def State.sMax (s : State) : Nat := s.prof 2 15 8
def State.sMin (s : State) : Nat := s.prof 2 7 0
def State.hInit (s : State) : Nat := s.prof 3 15 0
def State.vChg (s : State) : Nat := s.prof 4 31 16
def State.iChgMax (s : State) : Nat := s.prof 5 31 16
/-- Temperatures of words 6 to 8 in 0.01 °C. -/
def State.profT (s : State) (w : Nat) (high : Bool) : Int := 10 * sgn16 (if high then s.prof w 31 16 else s.prof w 15 0)
def State.iRest (s : State) : Nat := s.prof 9 31 16
/-- Entry i of the D table (words 10 to 13) or the OCV table (words 14 to 17), high half first. -/
def State.profTab (s : State) (first i : Nat) : Nat := if i % 2 = 0 then s.prof (first + i / 2) 31 16 else s.prof (first + i / 2) 15 0
/-- The limits of R410: the index of the first word at fault (R753), among words 0 to 31. -/
def profileFault (w : Nat → Nat) : Option Nat :=
  let groups := bitsOf (w 2) 31 24
  let reserve := bitsOf (w 2) 23 16
  let sMax := bitsOf (w 2) 15 8
  let sMin := bitsOf (w 2) 7 0
  let eta := bitsOf (w 3) 31 16
  if groups < 2 || 16 < groups || reserve < (100 + groups - 1) / groups || sMax ≤ sMin then some 2
  else if eta < 500 || 1000 < eta then some 3
  else if bitsOf (w 4) 15 0 < 8000 || 60000 < bitsOf (w 4) 31 16 then some 4
  else (List.range 14).findSome? fun i => if w (18 + i) ≠ 0 then some (18 + i) else none

/-! ### Fractions -/

/-- A fraction in lowest terms. -/
def Frac.mk' (n : Int) (d : Nat) : Frac := let g := Nat.gcd n.natAbs d; if g = 0 then ⟨0, 1⟩ else ⟨n / (g : Int), d / g⟩
def Frac.add (a b : Frac) : Frac := Frac.mk' (a.num * b.den + b.num * a.den) (a.den * b.den)
def Frac.le (a b : Frac) : Bool := a.num * b.den ≤ b.num * a.den
/-- Held within 0 and 1. -/
def Frac.unit (a : Frac) : Frac := if a.num < 0 then ⟨0, 1⟩ else if (a.den : Int) < a.num then ⟨1, 1⟩ else a
/-- A whole number of permille, rounded down. -/
def Frac.permille (a : Frac) : Nat := (a.num * 1000 / (a.den : Int)).toNat
/-- Linear interpolation between two points at x. -/
def lerp (x0 x1 y0 y1 x : Int) : Frac := Frac.mk' (y0 * (x1 - x0) + (y1 - y0) * (x - x0)) (x1 - x0).toNat

/-- Derating temperatures of the D table, °C (words 10 to 13). -/
def deratingT : List Int := [-20, -10, 0, 10, 20, 35, 50, 60]
/-- Percents of charge of the OCV table. -/
def ocvP : List Int := [0, 15, 30, 45, 60, 75, 90, 100]
/-- D at a temperature in 0.01 °C, in permille, held below −20 °C and above 60 °C (R412). -/
def State.derating (s : State) (t : Int) : Frac :=
  let y := fun i => ((s.profTab 10 i : Nat) : Int)
  let x := fun i => 100 * deratingT.getD i 60
  if t ≤ x 0 then ⟨y 0, 1⟩ else
  match (List.range 7).find? fun i => x i ≤ t && t ≤ x (i + 1) with
  | some i => lerp (x i) (x (i + 1)) (y i) (y (i + 1)) t
  | none => ⟨y 7, 1⟩
/-- S from the OCV table inverted at a voltage (R413). Outside the table and on a flat part of it the spec states no result:
a free value (log 25). -/
def State.ocvInverse (s : State) (v : Nat) : Frac × State :=
  let x := fun i => ((s.profTab 14 i : Nat) : Int)
  match (List.range 7).find? fun i => x i < x (i + 1) && x i ≤ (v : Int) && (v : Int) ≤ x (i + 1) with
  | some i => (Frac.mk' (lerp (x i) (x (i + 1)) (ocvP.getD i 0) (ocvP.getD (i + 1) 100) v).num
      (100 * (lerp (x i) (x (i + 1)) (ocvP.getD i 0) (ocvP.getD (i + 1) 100) v).den), s)
  | none => let k := s.free 1001; (Frac.mk' k.1 1000, k.2)

/-! ### Claim gates of the actuators (R422; 12 R471, R472) -/

def State.gate (s : State) (i : Nat) : Bool := s.fbit F.EPC_STATUS_GATES i
def State.feFail (s : State) : Bool := s.bit F.EPC_STATUS_FE_FAIL
def State.packFault (s : State) : Bool := s.bit F.EPC_STATUS_PACK_FAULT
/-- HOLD_SW as driven: high only with its gate, or on a power failure while the gate is free (R472). -/
def State.setHold (s : State) (b : Bool) : State := s.setBit F.EPC_DRIVE_HOLD b
/-- Charger and heater to their inactive levels (R430). -/
def State.actuatorsOff (s : State) : State :=
  ((((s.setBit F.EPC_DRIVE_CHG false).setBit F.EPC_STATUS_CHARGING false).fset F.EPC_DRIVE_ISET_DUTY 0).fset F.EPC_DRIVE_HEAT_DUTY 0).setBit
    F.EPC_STATUS_HEATING false

/-! ### State of health (R411, R414, R415) -/

/-- H changes: its register, and its settings word when the permille value changes. -/
def State.setHealth (s : State) (h : Frac) : State :=
  let s := s.setEpc { s.epc with soh := h }
  let pm := h.permille
  let s := s.fset F.EPC_MODEL_H pm
  if s.wordValue 0x224 = pm then s else s.arriveWord 0x224 pm false
/-- S changes. -/
def State.setCharge (s : State) (x : Frac) : State := (s.setEpc { s.epc with soc := x }).fset F.EPC_MODEL_S x.permille

/-! ### Requests for a rehearsal (R426, R427) -/

def State.setReh (s : State) (r : Rehearsal) : State := s.setEpc { s.epc with reh := r }
/-- A rehearsal is requested; a request that already waits stands. -/
def State.requestReh (s : State) : State :=
  let r := s.epc.reh
  if r.request.isSome then s else s.setReh { r with request := some s.now, postponed := none }
/-- A rehearsal ends without success. HOLD_SW stays with a power failure. -/
def State.failReh (s : State) (result : Nat) (keepHold : Bool) : State :=
  let r := s.epc.reh
  if r.phase = .idle then s else
  let s := s.setReh { r with phase := .idle, gTwin := none, ended := false, joinAt := none }
  let s := if keepHold then s else s.setHold false
  let s := ((s.setBit F.EPC_STATUS_REH_BUSY false).setBit F.EPC_STATUS_REH_FAIL true).fset F.EPC_REH_LAST_RESULT result
  (s.raise 435).freqNext

/-- The main island leaves service: a rehearsal in progress is over, without a RESULT. DEDUCED: R427 names three failures, and none is this (log
108). HOLD_SW falls with it. -/
def State.endReh (s : State) : State :=
  if s.epc.reh.phase = .idle then s else
  ((s.setReh { s.epc.reh with phase := .idle, gTwin := none, ended := false, joinAt := none }).setHold false).setBit F.EPC_STATUS_REH_BUSY false

/-! ### Conditions of the charger and the heater (R418, R420, R439) -/

/-- Actuators rest in SAVE, in AON-ONLY, and while input power fails (R439). -/
def State.actuatorsMay (s : State) : Bool := s.clk.pfailN && (s.clk.inReset || s.power = 0 || s.power = 2)
def State.hot (s : State) : Bool := s.profT 7 false < s.epc.read.tmax
/-- S compared with a percent. -/
def State.socBelow (s : State) (pct : Int) : Bool := s.epc.soc.num * 100 < pct * (s.epc.soc.den : Int)
/-- CHG_EN's conditions (R418). -/
def State.mayCharge (s : State) : Bool :=
  let r := s.epc.read
  s.actuatorsMay && s.gate 0 && s.profT 6 true ≤ r.tmin && r.tmax ≤ s.profT 6 false && s.socBelow s.sMax && !s.feFail && !s.packFault && !s.hot
/-- CHG_EN and the heater drop as soon as a condition of theirs fails (R418, R420). -/
def State.guardDrive (s : State) : State :=
  let s := if s.bit F.EPC_DRIVE_CHG && !s.mayCharge then
      ((s.setBit F.EPC_DRIVE_CHG false).setBit F.EPC_STATUS_CHARGING false).fset F.EPC_DRIVE_ISET_DUTY 0
    else s
  if s.bit F.EPC_STATUS_HEATING && (!(s.actuatorsMay && s.gate 1) || s.hot) then
    (s.fset F.EPC_DRIVE_HEAT_DUTY 0).setBit F.EPC_STATUS_HEATING false
  else s

/-! ### Measurement frames (R407 to R409) -/

/-- CRC-8 with polynomial 0x07 and initial value 0 (R408). -/
def crc8Byte (v : Nat) (b : Byte) : Nat :=
  (List.range 8).foldl (fun a _ => if 128 ≤ a then (a * 2 % 256) ^^^ 7 else a * 2) (v ^^^ b.toNat)
def crc8 (bs : List Byte) : Nat := bs.foldl crc8Byte 0
/-- An unsigned field of a frame. -/
def frameFld (bs : List Byte) (off n : Nat) : Nat := leNat ((bs.drop off).take n)
/-- The SPI loop answers in place of the front-end (21 R737). -/
def State.spiLoop (s : State) : Bool := (sget LbSlot.empty s.test.slots 80).depth = 1
/-- FE_FAIL is set: reads of the pack can no longer be trusted. A rehearsal fails (R427). -/
def State.setFeFail (s : State) : State :=
  if s.feFail then s else
  ((s.setBit F.EPC_STATUS_FE_FAIL true).raise 438).failReh 5 false
/-- A frame that fails its checks (R409). -/
def State.rejectFrame (s : State) (seq : Option Nat) : State :=
  let s := s.bump F.EPC_FE_ERR_CNT_VALUE F.EPC_CNT_STATUS_FE_ERR_SAT 441
  let n := s.epc.rejects + 1
  let s := s.setEpc { s.epc with rejects := n, accepts := 0, lastSeq := seq }
  if 3 ≤ n then s.setFeFail else s
/-- GROUP_FAULT bits that become 1: H is scaled, the fault is raised and a rehearsal is scheduled (R415). -/
def State.groupFaults (s : State) (bits : Nat) : State :=
  let new := (List.range 16).filter fun g => bits.testBit g && !s.epc.groups.testBit g
  let s := s.setEpc { s.epc with groups := bits }
  new.foldl (fun a _ =>
    let n := a.groupsN
    let h := a.epc.soh
    let a := if n = 0 then a else a.setHealth (Frac.mk' (h.num * ((n - 1 : Nat) : Int)) (h.den * n))
    let a := a.setEpc { a.epc with groupDrop := true }
    ((a.setBit F.EPC_STATUS_GROUP_FAULT true).raise 436).requestReh) s
/-- Charge counted over `dt` ms (R412). With Q_NOM or H at 0 the quotient has no value: S is then free, once it is known (log 25). -/
def State.countCharge (s : State) (ib : Int) (dt : Nat) : State :=
  let h := s.epc.soh
  if s.epc.socUnknown then s
  else if s.qNom = 0 || h.num ≤ 0 then let k := s.free 1001; k.2.setCharge (Frac.mk' k.1 1000)
  else s.setCharge (s.epc.soc.add (Frac.mk' (ib * (dt : Int) * (h.den : Int)) (3600000 * s.qNom * h.num.toNat))).unit
/-- Energy of one frame in 10 nJ: what the pack gives, less what it takes. -/
def addEnergy (e v : Nat) (ib : Int) : Nat := ((e : Int) - (v : Int) * ib).toNat
/-- Phase A begins; with a shared pack the twin is asked to join (R423, R428). -/
def State.phaseA (s : State) : State :=
  let r := s.epc.reh
  let s := s.setReh { r with phase := .a, since := s.now, eA := 0, eB := 0, gB := 0, gTwin := none, ended := false, number := r.number + 1 }
  if s.latched F.EPC_CFG_SHARED ≠ 0 && s.isPaired then s.twinCtl 7 5 0 (natBytes 4 (r.number + 1) ++ natBytes 4 0) else s
/-- An accepted frame: `tick` for the 1 ms reads, over which S and the energies are counted. -/
def State.acceptFrame (s : State) (bs : List Byte) (tick : Bool) : State :=
  let v := frameFld bs 4 2
  let ib := sgn16 (frameFld bs 6 2)
  let ts := (List.range 4).map fun i => sgn16 (frameFld bs (8 + 2 * i) 2)
  let tmin := ts.foldl (fun a x => lower x a) (ts.getD 0 0)
  let tmax := ts.foldl (fun a x => higher x a) (ts.getD 0 0)
  let dt := if s.power = 3 then 1000 else 1
  let rest := if ib.natAbs < s.iRest then (if tick then s.epc.restMs + dt else s.epc.restMs) else 0
  let s := s.setEpc { s.epc with lastSeq := some (frameFld bs 16 2), rejects := 0, accepts := s.epc.accepts + 1, seen := true,
                                 read := ⟨frameFld bs 2 2, v, ib, tmin, tmax⟩, restMs := rest }
  let s := if s.feFail && 10 ≤ s.epc.accepts then s.setBit F.EPC_STATUS_FE_FAIL false else s
  let s := ((s.fset F.EPC_PACK_VI_VBUS v).fset F.EPC_PACK_VI_IBAT (frameFld bs 6 2)).recPack tmin tmax
  let s := (s.fset F.EPC_PACK_T_TMIN (tmin % 65536).toNat).fset F.EPC_PACK_T_TMAX (tmax % 65536).toNat
  let s := s.groupFaults (frameFld bs 2 2)
  if !tick then s else
  let s := s.countCharge ib dt
  let s := s.setEpc { s.epc with chargeIn := (((s.epc.chargeIn : Nat) : Int) + ib * (dt : Int)).toNat }
  let s := if s.fget F.EPC_STATUS_PF_STATE = 1 then s.setEpc { s.epc with rideEnergy := addEnergy s.epc.rideEnergy v ib } else s
  let r := s.epc.reh
  match r.phase with
  | .transfer => if ib < -((s.iRest : Nat) : Int) then s.phaseA else s
  | .a => s.setReh { r with eA := addEnergy r.eA v ib }
  | .b => if r.ended then s else s.setReh { r with eB := addEnergy r.eB v ib }
  | .idle => s
/-- A read of the front-end: the command byte, then a frame or none (R407, R409). -/
def State.readFrame (s : State) (f : Frame) (tick : Bool) : State :=
  if !s.clk.vaon || !s.clk.aonRstN then s else
  let s := s.emit (.pack 0xA5)
  match (if s.spiLoop then none else f.bytes) with
  | none => ((s.setEpc { s.epc with accepts := 0 }).setFeFail).guardDrive
  | some bs =>
    let crcOk := bs.length = 20 && crc8 (bs.take 19) = frameFld bs 19 1
    let s := if !crcOk then s.rejectFrame s.epc.lastSeq
      else if s.epc.lastSeq = some (frameFld bs 16 2) || 32768 ≤ frameFld bs 0 2 then s.rejectFrame (some (frameFld bs 16 2))
      else s.acceptFrame bs tick
    s.guardDrive

/-! ### The energy model (R412, R416, R424, R429) -/

/-- SHARE in force. -/
def State.share (s : State) : Nat := max 10 (min 100 (s.fget F.EPC_CFG_SHARE))
/-- RIDE in force, in 10 ms. -/
def State.rideTime (s : State) : Nat := min 1000 (s.fget F.EPC_CFG_RIDE)
/-- E_use before faults: a multiple of 100 J. -/
def State.modelEnergy (s : State) : Nat :=
  let h := s.epc.soh
  let x := s.epc.soc
  let d := s.derating s.epc.read.tmin
  let above : Int := x.num * 100 - (s.sMin : Int) * (x.den : Int)
  let num : Nat := s.eNom * h.num.toNat * above.toNat * s.prof 3 31 16 * d.num.toNat * s.share
  let den : Nat := h.den * (x.den * 100) * 1000 * (d.den * 1000) * 100
  num / (den * 100) * 100
/-- E_fix in J: a multiple of 10 (R424). -/
def State.fixEnergy (s : State) : Nat :=
  let gFix := 73 * 2 ^ 20 + s.pCap / 256
  let p := s.fget F.EPC_P_RUN_P_RUN
  let c := s.fget F.EPC_C_SAVE_C_SAVE
  let num := p * (10 * s.rideTime + 1) * 10 * 2 ^ 30 + c * gFix * 10000
  let den := 100000 * 2 ^ 30
  (num + den * 10 - 1) / (den * 10) * 10
/-- ENERGY_MODEL_UPDATE: every 100 ms, E_use, C_save and E_fix together (R416), and the paddock limit they give (02 R65, R68). -/
def State.modelUpdate (s : State) : State :=
  if !s.clk.vaon || !s.clk.aonRstN then s else
  let raw := s.modelEnergy
  let prev := s.epc.prevUse
  let sudden := !s.feFail && !s.epc.groupDrop && s.reserve * prev < (prev - raw) * 100
  let s := if sudden && !s.packFault then (s.setBit F.EPC_STATUS_PACK_FAULT true).raise 437 else s
  let s := s.setEpc { s.epc with prevUse := raw, groupDrop := false, faultHeld := s.epc.faultHeld || sudden }
  let use := if s.feFail || s.packFault || s.epc.faultHeld then 0 else raw
  let s := (s.fset F.EPC_E_USE_VALUE use).fset F.EPC_E_FIX_VALUE s.fixEnergy
  let s := (s.setBit F.EPC_STATUS_COLD (s.epc.read.tmin < s.profT 6 true)).setBit F.EPC_STATUS_HOT (s.profT 7 false < s.epc.read.tmax)
  let s := s.guardDrive
  if s.clk.inReset || s.epc.frozen then s else s.applyLimit (s.limitFor use)

/-- REST_CORRECTION: after 600 s of rest, S from the OCV table; a charge of at least 0.20 between two corrections also gives H
(R413, R414). -/
def State.restCorrection (s : State) : State :=
  if s.epc.restMs < 600000 || s.feFail then s else
  let k := s.ocvInverse s.epc.read.vbus
  let old := s.epc.lastRest
  let q := s.epc.chargeIn
  let s := (k.2.setEpc { k.2.epc with restMs := 0, lastRest := some k.1, chargeIn := 0, socUnknown := false }).setCharge k.1
  match old with
  | none => s
  | some o =>
    let ds := k.1.add ⟨-o.num, o.den⟩
    if ds.num * 5 < (ds.den : Int) || s.qNom = 0 || q = 0 then s else
    let h := Frac.mk' ((q : Int) * (ds.den : Int)) (3600000 * s.qNom * ds.num.toNat)
    s.setHealth (if h.le ⟨s.hInit, 1000⟩ then h else Frac.mk' s.hInit 1000)
/-- HEALTH_FADE: at each 24 operating hours (R414). -/
def State.healthFade (s : State) : State :=
  if s.fget F.REC_HOURS_VALUE < s.epc.fadeAt + 384 then s else
  let s := s.setEpc { s.epc with fadeAt := s.epc.fadeAt + 384 }
  s.setHealth ((s.epc.soh.add (Frac.mk' (-((s.prof 9 15 0 : Nat) : Int)) 1000000)).unit)

/-! ### Charger and heater (R418 to R420) -/

/-- VBUS ≥ V_CHG and IBAT < I_CHG_MAX ÷ 20 (R419). -/
def State.tapered (s : State) : Bool := s.vChg ≤ s.epc.read.vbus && s.epc.read.ibat * 20 < ((s.iChgMax : Nat) : Int)
/-- CHARGE_CURRENT_LOOP: the enable by R418 and R419; the duty follows a loop of which the spec gives the time constant only, so its
value is free (log 26). -/
def State.chargeCurrent (s : State) : State :=
  if !s.clk.vaon then s else
  let full := !s.socBelow s.sMax
  let ended := if full then true else s.epc.chgEnded && !(s.socBelow (s.sMax - 5) || s.epc.soc.num * 100 = ((s.sMax : Int) - 5) * (s.epc.soc.den : Int))
  let s := s.setEpc { s.epc with chgEnded := ended }
  let on := s.mayCharge && !ended && !s.tapered
  let k := if on then s.free 1024 else (0, s)
  let s := (k.2.setBit F.EPC_DRIVE_CHG on).setBit F.EPC_STATUS_CHARGING on
  s.fset F.EPC_DRIVE_ISET_DUTY k.1
/-- The target I_CHG_MAX × k, in 10 mA × 4 (R419). -/
def State.chargeTarget (s : State) : Nat := if s.epc.read.tmin ≤ s.profT 6 true + 1000 then s.iChgMax else 4 * s.iChgMax
/-- CHARGE_VOLTAGE_LOOP: while VBUS ≥ V_CHG the target is lowered; by how much the spec leaves open (log 26). -/
def State.chargeVoltage (s : State) : State :=
  if !s.clk.vaon then s
  else if s.vChg ≤ s.epc.read.vbus && s.epc.vTarget ≠ 0 then
    let k := s.free s.epc.vTarget
    k.2.setEpc { k.2.epc with vTarget := k.1 }
  else s.setEpc { s.epc with vTarget := s.chargeTarget }
/-- HEATER_LOOP: every 1 s (R420). Between the two thresholds: PI with 250 permille per °C and an integral time of 300 s. -/
def State.heaterLoop (s : State) : State :=
  if !s.clk.vaon then s else
  let t := s.epc.read.tmin
  let target := s.profT 7 true
  let e := target - t
  let between := -100 < e && e ≤ 200
  let sum := if between then s.epc.heatInt + e else s.epc.heatInt
  let pi : Int := (75000 * e + 250 * sum) / 30000
  let duty : Nat := if !(s.actuatorsMay && s.gate 1) || s.hot then 0 else if 200 < e then 1000 else if e ≤ -100 then 0 else min 1000 pi.toNat
  let s := s.setEpc { s.epc with heatInt := sum }
  (s.fset F.EPC_DRIVE_HEAT_DUTY duty).setBit F.EPC_STATUS_HEATING (duty ≠ 0)

/-! ### Save rehearsal (R423 to R428) -/

/-- Every condition of R425, and no frequency change (R439). DEDUCED: a set GROUP_FAULT is no bar, since R415 schedules a rehearsal after
each group fault (log 100). -/
def State.rehReady (s : State) : Bool :=
  let r := s.epc.read
  s.running && s.eNom ≠ 0 && s.clk.pfailN && !s.socBelow ((s.sMax : Int) - 2) && s.profT 8 true ≤ r.tmin && r.tmax ≤ s.profT 8 false &&
    !s.feFail && !s.packFault && !s.hot && s.gate 2 && !s.bit F.DMC_FREQ_BUSY && s.rehFits
/-- REHEARSAL_START. -/
def State.rehStart (s : State) : State :=
  let r := s.epc.reh
  if r.request.isNone || r.phase ≠ .idle || !s.rehReady then s else
  ((s.setReh { r with request := none, phase := .transfer, since := s.now }).setHold true).setBit F.EPC_STATUS_REH_BUSY true
/-- REHEARSAL_POSTPONE: the conditions have not held for 60 s. With E_NOM 0 the request stands (17 R649). -/
def State.rehPostpone (s : State) : State :=
  let r := s.epc.reh
  match r.request with
  | none => s
  | some t =>
    if s.now < t + sec 60 || r.phase ≠ .idle || s.rehReady || s.eNom = 0 then s else
    (s.setReh { r with request := none, postponed := some s.now }).fset F.EPC_REH_LAST_RESULT 4
/-- REHEARSAL_RETRY: 1 hour after the postponement. -/
def State.rehRetry (s : State) : State :=
  match s.epc.reh.postponed with
  | none => s
  | some t => if s.now < t + sec 3600 then s else s.requestReh
/-- REH_TRANSFER_TIMEOUT. -/
def State.rehTimeout (s : State) : State :=
  let r := s.epc.reh
  if r.phase ≠ .transfer || s.now < r.since + ms 200 then s else s.failReh 2 false
/-- REH_PHASE_A_END: after 1.000 s. -/
def State.phaseAEnd (s : State) : State :=
  let r := s.epc.reh
  if r.phase ≠ .a || s.now < r.since + sec 1 then s else s.setReh { r with phase := .b, since := s.now, eB := 0, gB := 0 }
/-- Release: C_save and P_run are computed and stored (R424). A result beyond 16 bits is free (log 25). -/
def State.rehFinish (s : State) : State :=
  let r := s.epc.reh
  let g := r.gB + r.gTwin.getD 0
  let c := (r.eB * 2 ^ 30 + g * 10 ^ 7 - 1) / (g * 10 ^ 7)
  let p := (r.eA + 10 ^ 7 - 1) / 10 ^ 7
  let kc := if c < 65536 then (c, s) else s.free 65536
  let kp := if p < 65536 then (p, kc.2) else kc.2.free 65536
  let s := kp.2.groupWrite 0x202 [kc.1, kp.1] .rehearsal
  let s := (s.fset F.EPC_REH_LAST_GIB (min 65535 (r.gB * 10 / 2 ^ 30))).fset F.EPC_REH_LAST_RESULT 1
  let s := s.setEpc { s.epc with faultHeld := s.epc.faultHeld && s.packFault,
                                 reh := { r with phase := .idle, gTwin := none, ended := false, joinAt := none, lastEnergy := some (r.eA + r.eB),
                                                 lastSuccess := s.fget F.REC_HOURS_VALUE, periodic := false } }
  (((s.setHold false).setBit F.EPC_STATUS_REH_BUSY false).raise 434).freqNext
/-- A free block of the next save's half of the Loft is written (R423). -/
def State.rehBlock (s : State) : State :=
  let b := s.freeBlock
  match b.1 with
  | none => b.2
  | some k =>
    let s := b.2.useBlock (k * s.flash.pop.blockSectors) (s.room .loftA) (if s.flash.loft.half then .loftA else .loftB)
    { s with flash := { s.flash with rehBlocks := s.flash.rehBlocks ++ [k] } }
/-- Phase B ends with g bytes written: their blocks are noted, a shared rehearsal exchanges its bytes with the twin. -/
def State.phaseBWritten (s : State) (r : Rehearsal) (g : Nat) : State :=
  let n := if s.blockBytes = 0 then 0 else g * s.flash.pop.bpc / s.blockBytes + 1
  let s := (List.range n).foldl (fun a _ => a.rehBlock) s
  let shared := s.latched F.EPC_CFG_SHARED ≠ 0 && s.isPaired
  let s := s.setReh { r with gB := g, ended := true }
  let s := if shared then s.twinCtl 8 5 0 (natBytes 4 r.number ++ natBytes 4 0 ++ natBytes 8 g) else s
  if shared && r.gTwin.isNone then s else s.rehFinish
/-- REH_PHASE_B_END: after 2.000 s, or once 10 % of a Loft half is written; the bytes written before 2.000 s, and the blocks they
took, the spec leaves to the device: free values (log 26). A shared rehearsal waits for the twin's bytes. -/
def State.phaseBEnd (s : State) : State :=
  let r := s.epc.reh
  if r.phase ≠ .b || r.ended then s else
  let top := max 1 (s.pCap / 10)
  if s.now < r.since + sec 2 then s.phaseBWritten r top
  else
    let k := s.free top
    k.2.phaseBWritten r (k.1 + 1)
/-- SHARED_REHEARSAL_PHASE_A: DELAY after a REH_JOIN (R428). -/
def State.sharedPhaseA (s : State) : State :=
  let r := s.epc.reh
  match r.joinAt with
  | none => s
  | some t =>
    if s.now < t || r.phase ≠ .idle then s else
    (s.setReh { r with phase := .a, since := s.now, eA := 0, eB := 0, gB := 0, gTwin := none, ended := false, joinAt := none, request := none }).setBit
      F.EPC_STATUS_REH_BUSY true

/-! ### VAON and software writes (R437, R440) -/

/-- VAON_SAMPLE: every 100 ms. -/
def State.vaonSample (s : State) (mv : Nat) : State :=
  let mv := mv % 65536
  let s := (s.fset F.EPC_VAON_NOW mv).fset F.EPC_VAON_MIN (min mv (s.fget F.EPC_VAON_MIN))
  let s := s.recVaon mv
  if mv < 2800 then (s.setBit F.EPC_STATUS_VAON_LOW true).raise 439 else s
/-- A software write of any value to EPC_C_SAVE or EPC_P_RUN. -/
def State.saveCostWrite (s : State) : State := (s.groupWrite 0x202 [0, 0] .saveCost).requestReh
/-- OPERATING_HOURS_TICK: one more 1/16 hour, and the periodic rehearsal (R426; 18 R672). -/
def State.operatingTick (s : State) : State :=
  if s.clk.inReset || s.power = 3 then s else
  let s := s.hoursTick (s.bit F.CLK_STATUS_XTAL_FAIL)
  let d := s.fget F.EPC_REH_CTRL_DAYS
  if d ≠ 0 && s.epc.reh.lastEnergy.isSome && !s.epc.reh.periodic && s.epc.reh.lastSuccess + d * 384 ≤ s.fget F.REC_HOURS_VALUE then
    (s.setReh { s.epc.reh with periodic := true }).requestReh
  else s

end Sys2Proof.Machine
end

