-- ==== Sys2Proof/Machine/TwinFx.lean ====
section
/-! DEFINITION. Twin operation: heartbeats, the claim bus, twin states, failover, handover, resync and the mirror stream (12_twin_operation_and_claims.md; 13 R530 to R534). -/
namespace Sys2Proof.Machine

def State.setTwin (s : State) (t : Twin) : State := { s with twin := t }

/-! ### What the unit holds (R445, R461, R471) -/

/-- The mirrored sets (R443). -/
def State.mirrored (s : State) : BitVec 64 := s.rgn.kind
/-- Serving gates this unit holds: TWN_RSET_OWN. -/
def State.ownMap (s : State) : BitVec 64 := BitVec.ofNat 64 (s.fget F.TWN_RSET_OWN_MAP)
def State.staleMap (s : State) : BitVec 64 := BitVec.ofNat 64 (s.fget F.TWN_RSET_STALE_MAP)
def State.setStale (s : State) (m : BitVec 64) : State := s.fset F.TWN_RSET_STALE_MAP m.toNat
/-- Actuator gates held. -/
def State.actMap (s : State) : BitVec 3 := BitVec.ofNat 3 (s.fget F.EPC_STATUS_GATES)
/-- EPC_CFG.SHARED: the actuator gates are on the bus (R471). -/
def State.shared (s : State) : Bool := s.latched F.EPC_CFG_SHARED ≠ 0
/-- MODE = 1 at start-up: a paired installation. -/
def State.paired2 (s : State) : Bool := s.latched F.TWN_CFG_MODE ≠ 0
/-- Lanes in service; a unit with none sends and receives no frame (R466). -/
def State.lanes (s : State) : Nat := s.fget F.TWN_STATUS_LANES
def State.noLane (s : State) : Bool := s.lanes = 0
/-- HEALTH: links ACTIVE, DDR5 channels in service, flash channel groups in service (R461). -/
def State.health (s : State) : Nat :=
  ((List.range 16).filter fun h => s.linkState h = 4).length * 2048 +
    ((List.range 12).filter s.dmcUp).length * 128 +
    ((List.range 4).filter fun g => s.fbit F.FTC_STATUS_GROUPS g).length * 16
/-- The claim number at a level (R461). -/
def State.claimNumber (s : State) (raised : Bool) : BitVec 64 :=
  BitVec.ofNat 64 ((if raised then 8 else 2) * 2 ^ 60 + s.health * 2 ^ 44 + s.claimEpoch * 2 ^ 12 + if s.unit then 1 else 0)
/-- Does a raised claim wait for the bus? -/
def State.raising (s : State) : Bool := s.twin.want.any fun w => w.kind = .claim && w.raised
/-- TWN_CLAIM_NUM. -/
def State.claimNow (s : State) : BitVec 64 := s.claimNumber s.raising
/-- Gates are held without leases: SOLO, or under a grant (R471, R485). -/
def State.localGates (s : State) : Bool := s.twinState = 0 || s.bit F.TWN_STATUS_GRANTED
/-- The claim-epoch word is frozen (18 R669). -/
def State.epochFrozen (s : State) : Bool := s.frozenWord 0x285

/-- The claim epoch takes a value: its settings word is written and the recorder counts the change (R462; 18 R680). -/
def State.setClaimEpoch (s : State) (e : Nat) : State := (s.arriveWord 0x285 (e % 2 ^ 32) false).recClaim
def State.bumpEpoch (s : State) : State := s.setClaimEpoch (s.claimEpoch + 1)
/-- Has the write of the claim epoch completed (18 R668)? -/
def State.epochWritten (s : State) : Bool := !s.sets.writes.any fun w => w.word = 0x285

/-- A frame waits for an idle bus; one of the same kind and level is not queued twice. -/
def State.wantFrame (s : State) (w : WantFrame) : State :=
  if s.twin.want.any fun x => x.kind = w.kind && x.raised = w.raised && x.sets = w.sets && x.act = w.act then s
  else s.setTwin { s.twin with want := s.twin.want ++ [w] }
def State.dropWant (s : State) (p : WantFrame → Bool) : State :=
  s.setTwin { s.twin with want := s.twin.want.filter fun w => !p w }

/-! ### Changes of ownership (R445, R475 to R478, R482) -/

/-- Sets of a mask, in ascending order. -/
def setsOf (m : BitVec 64) : List Nat := (List.range 64).filter fun n => m.getLsbD n
/-- Region indices of a set. -/
def State.setRegions (s : State) (n : Nat) : List Nat :=
  (s.rgn.regions.filter fun kv => kv.2.state ≠ .free && kv.2.rset = n && kv.2.dur = .m).map (·.1)
/-- Pages of the regions of the sets in a mask that have a page-state word of their own. -/
def State.setPages (s : State) (m : BitVec 64) : List Nat :=
  (s.rgn.pages.filter fun kv => match s.regionAt kv.1 with
    | some i => (s.region i).dur = .m && m.getLsbD (s.region i).rset
    | none => false).map (·.1)
/-- The LDs, or access groups, to which a region of a set is visible. -/
def State.setOwners (s : State) (n : Nat) : List Nat :=
  ((s.setRegions n).flatMap fun i => s.logOwners (s.region i)).foldl (fun l x => insNat x l) []
/-- One record to each of them. -/
def State.recordSet (s : State) (n : Nat) (log : EvLog) (body : EvBody) : State :=
  (s.setOwners n).foldl (fun a ld => a.record log body ld) s
/-- The record of R478 for each set of a mask. -/
def State.ownerRecords (s : State) (m : BitVec 64) (newUnit : Bool) : State :=
  (setsOf m).foldl (fun a n => a.recordSet n .informational (.vendor 449 3 n (if newUnit then 1 else 0) a.claimEpoch)) s
/-- TWN_RSET_OWN changes: TWN_ROLE (R475). -/
def State.setOwn (s : State) (m : BitVec 64) : State :=
  if s.ownMap = m then s else (s.fset F.TWN_RSET_OWN_MAP m.toNat).raise 449
/-- The twin state changes: TWN_STATE (R475); stores accepted in HOLD run when it ends (04 R170). -/
def State.setTwinState (s : State) (n : Nat) : State :=
  if s.twinState = n then s else
  let hold := s.inHold
  let s := (s.fset F.TWN_STATUS_TWIN_STATE n).raise 448
  if hold then s.releaseHold else s
/-- A request that waits and that lost its set: a store past its lookup is dropped, the rest is looked up again (R477). -/
def dropLost (lost : Nat → Bool) : BiReq → Option BiReq
  | .write st => if lost st.region then none else some (.write st)
  | q => some q
/-- Unacknowledged stores of lost sets are never acknowledged; entries kept for the twin stay until the resync (R454, R477). -/
def State.dropSetStores (s : State) (m : BitVec 64) : State :=
  let lost := fun i => (s.region i).dur = .m && m.getLsbD (s.region i).rset
  let f := dropLost lost
  let gone := fun e : LandEntry => !e.acked && lost e.region
  let s := s.noteHolds (s.pers.landing.filter gone)
  { s with
    pers := { s.pers with
      landing := s.pers.landing.map fun e : LandEntry =>
        if gone e then { e with origin := .discarded, mseq := none, held := false, localOk := true, wt := false, twinOk := false } else e,
      ingress := s.pers.ingress.filter fun e => !lost e.region,
      holdQ := s.pers.holdQ.filterMap f },
    twin := { s.twin with takeWait := s.twin.takeWait.filterMap f },
    rgn := { s.rgn with
      psWait := s.rgn.psWait.filterMap fun w => (f w.req).map fun q => { w with req := q },
      standbyQ := s.rgn.standbyQ.filterMap f },
    cxl := { s.cxl with
      behind := s.cxl.behind.filterMap fun w => (f w.2).map fun q => (w.1, q),
      bi := s.cxl.bi.map fun b => match f b.req with | some q => { b with req := q } | none => { b with req := .sweep } } }
/-- Reads of lost sets that wait for their data are looked up again: a STALE copy serves no host (R454, R477). -/
def State.rereadSets (s : State) (m : BitVec 64) : State :=
  let lost := fun line : Nat => match s.regionAt (line / 64) with
    | some i => (s.region i).dur = .m && m.getLsbD (s.region i).rset
    | none => false
  let ws := (s.rgn.waits.filter fun w => lost w.line).map WaitRead.req
  let rs := (s.queues.flatMap fun c => c.reads.filter fun r => lost r.line).map DmcRead.req
  let keep := fun kv : Nat × SubChan => (kv.1, { kv.2 with reads := kv.2.reads.filter fun r => !lost r.line })
  ({ s with rgn := { s.rgn with waits := s.rgn.waits.filter fun w => !lost w.line },
            dram := { s.dram with subs := s.dram.subs.map keep },
            quay := { s.quay with subs := s.quay.subs.map keep } }).runAll 36 (ws ++ rs)
/-- The serving gates of a mask are lost without a release: serving stops, the copies are STALE, their tide tables close (R477; 07
R241, R242). Gates whose leases have lapsed in HOLD are lost when HOLD ends without them. -/
def State.loseSets (s : State) (m : BitVec 64) : State :=
  let m := m &&& (s.ownMap ||| if s.inHold then s.twin.before else 0)
  if m = 0 then s else
  let s := ((s.setOwn (s.ownMap &&& ~~~m)).setStale (s.staleMap ||| m)).dropSetStores m
  let s := s.setTwin { s.twin with taken := s.twin.taken &&& ~~~m, resync := s.twin.resync &&& ~~~m, before := s.twin.before &&& ~~~m }
  let s := s.setBit F.TWN_STATUS_RESYNC (s.twin.resync ≠ 0)
  (((setsOf m).foldl State.closeSet s).ownerRecords m (!s.unit)).rereadSets m
/-- Requests that waited for a CLAIM of this unit to act are looked up again. -/
def State.runTakeWait (s : State) : State := (s.setTwin { s.twin with takeWait := [] }).runAll 36 s.twin.takeWait
/-- At takeover every page of the sets with SF = 1 is unswept (R482), pages that the new owner keeps in the Quay begin to move there (03 R105,
R126), and forwarded requests for the sets run here (R481). -/
def State.takeover (s : State) (m : BitVec 64) : State :=
  let pages := (s.setPages m).filter fun p => (s.page p).sf && !s.twin.unswept.contains p
  let s := ((s.setPages m).filter fun p => (s.regionOfPage p).quayPin).foldl (fun a p => a.beginMeet (a.regionOfPage p) p) s
  let mine := fun e : FwdEntry => m.getLsbD e.set && e.req ≠ BiReq.sweep
  let run := s.twin.fwd.filter mine
  let s := s.setTwin { s.twin with taken := s.twin.taken &&& ~~~m, fwd := s.twin.fwd.filter (fun e => !mine e),
                                   unswept := pages.foldl (fun l p => insNat p l) s.twin.unswept }
  let s := s.setBit F.TWN_STATUS_REBUILD (!s.twin.unswept.isEmpty)
  s.runAll 36 (run.map (·.req))
/-- The serving gates of a mask are gained. Gains of a raised claim wait for the Harbourmaster's takeover (R481). -/
def State.gainSets (s : State) (m : BitVec 64) (later : Bool) : State :=
  let m := m &&& s.mirrored &&& ~~~s.ownMap
  if m = 0 then s else
  let s := (s.setOwn (s.ownMap ||| m)).setStale (s.staleMap &&& ~~~m)
  let copy := if s.isPaired then m &&& ~~~s.twin.released else 0
  let s := s.setTwin { s.twin with peerSets := s.twin.peerSets &&& ~~~m, released := s.twin.released &&& ~~~m,
                                   taken := if later then s.twin.taken ||| m else s.twin.taken,
                                   regionNotes := s.twin.regionNotes ++ (setsOf copy).flatMap s.setRegions,
                                   resync := s.twin.resync ||| copy }
  let s := (s.setBit F.TWN_STATUS_RESYNC (s.twin.resync ≠ 0)).ownerRecords m s.unit
  if later then s else s.takeover m
/-- The actuator gates held become a mask; a gate that goes leaves its pin (11 R422). -/
def State.setAct (s : State) (a : BitVec 3) : State :=
  let lost := s.actMap &&& ~~~a
  let s := s.fset F.EPC_STATUS_GATES a.toNat
  let s := if lost.getLsbD 0 || lost.getLsbD 1 then s.actuatorsOff else s
  if lost.getLsbD 2 then s.setHold false else s

/-- An entry kept for the twin takes a new number of the stream and is sent again. -/
def State.renumber (s : State) (e : LandEntry) : State :=
  let q := s.twin.txNext
  let ok := fun x : LandEntry => if x.id = e.id then { x with mseq := some q } else x
  { s.mirrorOut e.line e.data e.mask e.poison with pers := { s.pers with landing := s.pers.landing.map ok } }
/-- Both streams start again at sequence number 0, with the stores the twin has not confirmed; copies of pages start anew (log 27). -/
def State.restartStreams (s : State) : State :=
  let t := s.twin
  let s := { s with twin := { t with txNext := 0, txLines := [], epoch := 0, digest := 0, touched := [], past := [], pageNotes := [],
                                     regionNotes := [], rx := TwinRx.reset, landed := 0, markAt := s.now },
                    ute := { s.ute with mirrorTx := [] } }
  (s.pers.landing.filter fun e => e.cls = .m && !e.twinOk && e.mseq.isSome && s.owns (s.region e.region).rset).foldl State.renumber s
/-- A planned handover that cannot go on ends: its requests run as they now stand, its command is refused. -/
def State.abortHandover (s : State) : State :=
  match s.twin.handover with
  | none => s
  | some h =>
    let s := s.setTwin { s.twin with handover := none }
    let s := match s.cmd.slots.find? fun x => some x.id = h.slot with
      | some x => (s.setSlots (s.cmd.slots.filter fun y => y.id ≠ x.id)).answer x.op 2000 x.cmd St.wrongState 0 []
      | none => s
    s.runAll 36 h.waiting
/-- Entries kept for the twin are released, their stores acknowledged on the L condition and their pages unmirrored (R476; 02 R54). -/
def State.releaseKept (s : State) : State :=
  let kept := s.pers.landing.filter fun e => e.cls = .m && !e.twinOk && s.owns (s.region e.region).rset
  let ok := fun e : LandEntry => if kept.contains e then { e with twinOk := true, lat := if e.acked then e.lat else none } else e
  let s := { s with pers := { s.pers with landing := s.pers.landing.map ok } }
  let s := kept.foldl (fun a e => let p := e.line / 64; a.setPage p { a.page p with mir := .unmirrored }) s
  let open_ := (s.setPages s.ownMap).filter fun p => (s.page p).mir = .resync
  let s := open_.foldl (fun a p => a.setPage p { a.page p with mir := .unmirrored }) s
  s.settleAcks
def noTwinLimit : Nat := 2 ^ 64 - 1
/-- Requests in the forwarding table can no longer be forwarded (R480). -/
def State.stickFwd (s : State) : State :=
  s.setTwin { s.twin with fwd := s.twin.fwd.map fun e : FwdEntry => if e.stuck.isNone then { e with stuck := some s.now } else e }
/-- Entry to ALONE (R475, R476). -/
def State.enterAlone (s : State) : State :=
  if s.twinState = 2 then s else
  let s := (s.setTwinState 2).bump F.TWN_FAILOVER_CNT_VALUE F.TWN_CNT_STATUS_FAILOVER_SAT 455
  let s := (((s.setTwinLimit noTwinLimit false).releaseKept).restartStreams).stickFwd
  let s := s.setTwin { s.twin with resync := 0, keptPages := [], fwdFailed := 0 }
  (s.setBit F.TWN_STATUS_RESYNC false).abortHandover
/-- Entry to HOLD (R475, R484): what was held is remembered for R487. -/
def State.enterHold (s : State) : State :=
  if s.inHold then s else
  let s := s.setTwin { s.twin with before := s.ownMap, beforeAct := s.actMap }
  ((s.dropWant fun w => w.kind = .claim).setTwinState 3).stickFwd
/-- Entry to PAIRED: the twin's limit is unknown until its first acknowledgement (02 R76). -/
def State.enterPaired (s : State) : State :=
  if s.isPaired then s else (s.setTwinLimit 0 false).setTwinState 1

/-! ### Joining, losing and finding the twin (R458, R463, R475, R480, R487) -/

/-- SOLO at start-up: every gate is held locally (R471, R475). -/
def State.joinSolo (s : State) : State :=
  ((s.setOwn s.mirrored).setAct 7).setTwinLimit noTwinLimit false
/-- Free gates this unit may claim at ordinary among some sets. -/
def State.claimFree (s : State) (m : BitVec 64) : State :=
  if s.epochFrozen then s else
  let sets := m &&& s.mirrored &&& ~~~s.twin.peerSets &&& ~~~s.ownMap
  let act := if s.shared then ~~~s.twin.peerAct &&& ~~~s.actMap else 0
  if sets = 0 && act = 0 then s else s.wantFrame ⟨.claim, false, sets, act⟩
/-- Sets whose home is this unit (R443). -/
def State.homeSets (s : State) : BitVec 64 := if s.unit then s.rgn.home else ~~~s.rgn.home
/-- Start-up finds the twin: by heartbeats, or by its RENEW frames only (R475). -/
def State.joinPaired (s : State) (heartbeats : Bool) : State :=
  let s := { s with clk := { s.clk with joining := false } }
  let s := (s.setStale s.mirrored).enterPaired
  if heartbeats then s.claimFree s.homeSets else s
/-- A raised claim for every mirrored set and the actuators (R475); with the epoch word frozen nothing is taken (18 R669). -/
def State.raiseClaim (s : State) : State :=
  if s.epochFrozen || s.raising then s
  else s.wantFrame ⟨.claim, true, s.mirrored, if s.shared then 7 else 0⟩
/-- The twin is lost (R458, R459, R475); what waits in the reorder buffer goes (R488). -/
def State.twinLost (s : State) : State :=
  let s := s.setTwin { s.twin with seen := false, rx := { s.twin.rx with reorder := [] } }
  if !s.paired2 || s.clk.joining then s
  else if s.isPaired then
    if s.noLane then s.enterHold else s.stickFwd.raiseClaim
  else if s.twinState = 2 && s.noLane && !s.bit F.TWN_STATUS_GRANTED then s.enterHold
  else s
/-- Pages that entries kept here name, of sets this unit does not own (R454). -/
def State.keptList (s : State) : List Nat :=
  (s.pers.landing.filter fun e => e.cls = .m && !e.twinOk && !s.owns (s.region e.region).rset).foldl
    (fun l e => insNat (e.line / 64) l) []
/-- KEPT_LIST packets of up to 510 pages (13 R532). -/
def State.sendKept (s : State) : Nat → List Nat → State
  | 0, _ => s
  | _ + 1, [] => s
  | k + 1, ps =>
    (s.twinCtl 5 4 0 (natBytes 2 (ps.take 510).length ++ natBytes 6 0 ++ (ps.take 510).flatMap fun p => natBytes 8 (4096 * p))).sendKept k
      (ps.drop 510)
/-- Indices whose entries this unit reports when it meets its twin: of the sets it is to copy, its L and V regions, and those that have become
FREE (03 R96, R755; R451, R454). -/
def State.reportList (s : State) (own : BitVec 64) : List Nat :=
  (s.rgn.regions.filter fun kv =>
    if kv.2.state = .free then kv.2.rgen ≠ 0 else kv.2.dur ≠ .m || own.getLsbD kv.2.rset).map (·.1)
/-- PAIRED with the twin present: streams begin, the owner copies its sets, the other side names its kept pages (R454). -/
def State.rejoin (s : State) (copy : BitVec 64) : State :=
  let s := s.restartStreams
  let own := copy &&& s.ownMap
  let free := fun e : FwdEntry => { e with stuck := none }
  let s := s.setTwin { s.twin with resync := own, fwdFailed := 0, regionNotes := s.reportList own,
                                   fwd := s.twin.fwd.map free }
  let s := s.setBit F.TWN_STATUS_RESYNC (own ≠ 0)
  let s := s.twin.fwd.foldl (fun a e => a.sendFwd e true) s
  s.sendKept (s.keptList.length / 510 + 1) s.keptList
/-- Pages of some sets whose copy at the twin is not current (R479). -/
def State.unmirrored (s : State) (m : BitVec 64) : List Nat :=
  (s.setPages m).filter fun p => (s.page p).mir = .unmirrored || (s.page p).mir = .resync
/-- Every LD, or access group, that has an event log. -/
def State.everyLog (s : State) : List Nat :=
  if s.gfam then (List.range 64).filter fun g => s.boundHosts.any fun n => s.fget (F.CXP_GFAM_HOST_GROUP n) = g else s.lds
/-- Holdings when heartbeats return after HOLD or a grant (R487). A unit that yields names the pages written under its grant, as it names
those that it keeps, so that resync replaces them (log 116). -/
def State.settleHold (s : State) (peerGranted : Bool) : State :=
  let granted := s.bit F.TWN_STATUS_GRANTED
  let mine := s.claimEpoch
  let theirs := s.twin.peerEpoch
  let s := s.setBit F.TWN_STATUS_GRANTED false
  let yields := granted && peerGranted && mine = theirs && s.unit
  let loses := older 32 mine theirs || yields || (mine = theirs && peerGranted && !granted)
  if loses then
    let s := if yields then s.everyLog.foldl (fun a ld => a.record .fatal (.vendor 448 5 mine 0 0) ld) s else s
    let under := if yields then s.unmirrored s.ownMap else []
    let s := (s.loseSets s.ownMap).setStale s.mirrored
    let s := if s.shared then s.setAct 0 else s
    ((s.enterPaired).rejoin 0).sendKept (under.length / 510 + 1) under
  else if granted then ((s.setTwin { s.twin with ownRenew := s.now }).enterPaired).rejoin s.mirrored
  else
    let s := s.setOwn s.twin.before
    let s := if s.shared then s.setAct s.twin.beforeAct else s
    let s := s.setTwin { s.twin with ownRenew := s.now }
    (s.enterPaired).rejoin (if newer 32 mine theirs then s.mirrored else s.twin.resync)
/-- Heartbeats are there again (R475, R487). -/
def State.found (s : State) (peerGranted : Bool) : State :=
  let s := s.setTwin { s.twin with seen := true }
  if s.clk.joining then (s.joinPaired true).rejoin 0
  else if s.inHold || s.bit F.TWN_STATUS_GRANTED then s.settleHold peerGranted
  else if s.twinState = 2 then (s.enterPaired).rejoin s.mirrored
  else s.rejoin s.twin.resync

/-! ### Heartbeats (R456 to R459) -/

/-- The heartbeat frame. -/
def State.heartbeat (s : State) (saving : Bool) : List Byte :=
  let flags := (if s.unit then 32 else 0) + (if s.bit F.TWN_STATUS_GRANTED then 16 else 0) + s.twinState * 4 + (if saving then 2 else 0)
  let b := natBytes 1 1 ++ natBytes 1 flags ++ natBytes 2 s.twin.txSeq ++ natBytes 4 s.claimEpoch ++ natBytes 8 s.ownMap.toNat ++
    natBytes 1 s.actMap.toNat ++ natBytes 1 s.lanes ++ natBytes 2 s.health ++ natBytes 8 s.twin.peerSets.toNat
  b ++ natBytes 4 (crcOf 0 b)
/-- Send a heartbeat on both paths. -/
def State.sendHeartbeat (s : State) (saving : Bool) : State :=
  let s := s.setTwin { s.twin with txSeq := (s.twin.txSeq + 1) % 65536 }
  let b := s.heartbeat saving
  (s.emit (.sideHb b)).twinSend { hdrOf 0x15 0 with len := 32 } b none
/-- HEARTBEAT_SEND: every 100 µs, in FULL and STANDBY. -/
def State.heartbeatTick (s : State) : State :=
  if s.clk.inReset || !s.paired2 || !(s.power = 0 || s.power = 2) || s.twin.silent then s else s.sendHeartbeat false
/-- The entry to SAVE: one final heartbeat, then silence (R459). -/
def State.finalHeartbeat (s : State) : State :=
  if !s.paired2 || s.twin.silent then s else
  let s := s.sendHeartbeat true
  s.setTwin { s.twin with silent := true }
def hbFld (b : List Byte) (off n : Nat) : Nat := leNat ((b.drop off).take n)
/-- A heartbeat frame arrives on a path: it counts if its CRC passes and its SEQ is newer than the last counted on that path (R458; log
111). -/
def State.heartbeatIn (s : State) (side : Bool) (b : List Byte) : State :=
  let t := s.twin
  let seq := hbFld b 2 2
  let fresh := match (if side then t.sideSeq else t.mirSeq) with | some q => newer 16 seq q | none => true
  if b.length ≠ 32 || crcOf 0 (b.take 28) ≠ hbFld b 28 4 || !fresh || s.clk.inReset then s else
  let flags := hbFld b 1 1
  let t := { t with
    sideSeq := if side then some seq else t.sideSeq, sideTime := if side then s.now else t.sideTime,
    mirSeq := if side then t.mirSeq else some seq, mirTime := if side then t.mirTime else s.now,
    peerUnit := some (flags.testBit 5), peerEpoch := hbFld b 4 4, peerSets := BitVec.ofNat 64 (hbFld b 8 8),
    peerAct := BitVec.ofNat 3 (hbFld b 16 1), peerSeen := BitVec.ofNat 64 (hbFld b 20 8) }
  let s := (s.setTwin t).setBit (if side then F.TWN_STATUS_HB_SIDE else F.TWN_STATUS_HB_MIR) true
  if !s.paired2 then s else
  -- with every lane out of service a heartbeat renews the leases (R470)
  let s := if s.noLane then s.setTwin { s.twin with
      peerRenew := s.now, peerFree := false,
      ownRenew := if s.twin.peerSeen = s.ownMap then s.now else s.twin.ownRenew } else s
  if flags.testBit 1 then (if s.twin.seen then s.twinLost else s)
  else if s.twin.peerUnit = some s.unit then
    if s.bit F.TWN_STATUS_UNIT_CLASH then s
    else ({ s with clk := { s.clk with joining := false } }.setBit F.TWN_STATUS_UNIT_CLASH true).enterHold.raise 448
  else
    let s := s.setBit F.TWN_STATUS_UNIT_CLASH false
    if s.twin.seen && !s.inHold then s else s.found (flags.testBit 4)
/-- TWIN_HB_FRAME (R457). -/
def State.twinHbFrame (s : State) (f : HbFrame) : State :=
  if s.twin.aligned && f.codesOk then s.heartbeatIn true f.bytes else s
/-- TWIN_HB_ALIGNMENT_ACQUIRE and TWIN_HB_ALIGNMENT_LOSS (R457). -/
def State.hbAligned (s : State) (b : Bool) : State := s.setTwin { s.twin with aligned := b }
/-- HB_PATH_LOSS: one path silent for 1.0 ms (R458). -/
def State.hbPathLoss (s : State) (side : Bool) : State :=
  let f := if side then F.TWN_STATUS_HB_SIDE else F.TWN_STATUS_HB_MIR
  let last := if side then s.twin.sideTime else s.twin.mirTime
  if s.clk.inReset || !s.bit f || s.now - last < ms 1 then s else
  ((s.setBit f false).bump F.TWN_HB_LOSS_CNT_VALUE F.TWN_CNT_STATUS_HB_LOSS_SAT 459).raise 450
/-- TWIN_LOST: neither path carries a counted heartbeat (R458). -/
def State.twinLostEvent (s : State) : State :=
  if s.clk.inReset || !s.twin.seen || s.bit F.TWN_STATUS_HB_SIDE || s.bit F.TWN_STATUS_HB_MIR then s else s.twinLost

/-! ### The claim bus (R464 to R474) -/

/-- Bits of a value, most significant first. -/
def msbBits (v : Nat) : Nat → List Bool
  | 0 => []
  | n + 1 => v.testBit n :: msbBits v n
def kindCode : ClaimKind → Nat
  | .renew => 0 | .claim => 1 | .release => 2
/-- CRC field of a claim frame: over CLAIM to reserved, before stuffing (R464). -/
def frameCrc (k : ClaimKind) (claim sets : BitVec 64) (act : BitVec 3) : Nat :=
  let bits := msbBits claim.toNat 64 ++ msbBits (kindCode k) 2 ++ msbBits sets.toNat 64 ++ msbBits act.toNat 3 ++ msbBits 0 5
  (crcKind 3).result (bits.foldl (crcKind 3).stepBit (crcKind 3).init)

/-- A lane goes out of service (R473). -/
def State.laneOut (s : State) (l : Nat) : State :=
  if !s.fbit F.TWN_STATUS_LANES l then s else
  let s := ((s.setFbit F.TWN_STATUS_LANES l false).setFbit F.TWN_LANE_STATUS_EXCLUDED l true).raise 451
  let s := s.setTwin { s.twin with agree := sput 0 s.twin.agree l 0 }
  if s.noLane && !s.twin.seen && s.paired2 && !s.clk.joining && (s.isPaired || s.twinState = 2) && !s.bit F.TWN_STATUS_GRANTED
  then s.enterHold else s
/-- A lane returns to service; in HOLD with no heartbeat the unit claims (R473, R475). -/
def State.laneIn (s : State) (l : Nat) : State :=
  let s := (s.setFbit F.TWN_STATUS_LANES l true).setFbit F.TWN_LANE_STATUS_EXCLUDED l false
  let s := s.setTwin { s.twin with against := sput 0 s.twin.against l 0 }
  if s.inHold && !s.twin.seen then s.raiseClaim else s
/-- What a frame showed of one lane. -/
def State.laneSaw (s : State) (l : Nat) (bad silent : Bool) : State :=
  if s.fbit F.TWN_STATUS_LANES l then
    let n := if bad then sget 0 s.twin.against l + 1 else 0
    let s := s.setTwin { s.twin with against := sput 0 s.twin.against l n }
    if silent || 3 ≤ n then s.laneOut l else s
  else
    let n := if bad then 0 else sget 0 s.twin.agree l + 1
    let s := s.setTwin { s.twin with agree := sput 0 s.twin.agree l n }
    if 16 ≤ n then s.laneIn l else s
def State.lanesSaw (s : State) (bad silent : BitVec 3) : State :=
  [0, 1, 2].foldl (fun a l => a.laneSaw l (bad.getLsbD l) (silent.getLsbD l)) s
/-- LANE_STUCK_DOMINANT (R473). -/
def State.laneStuck (s : State) (l : Nat) : State :=
  if 3 ≤ l || !s.fbit F.TWN_STATUS_LANES l then s
  else (s.setFbit F.TWN_LANE_STATUS_STUCK l true).laneOut l
/-- Is a frame of the twin taken: VAON is up, a lane is in service, and its CRC passes (R466, R468)? -/
def State.frameTaken (s : State) (k : ClaimKind) (f : ClaimFrame) : Bool :=
  s.clk.vaon && !s.noLane && s.paired2 && frameCrc k f.claim f.sets f.act = f.crc.toNat
/-- A received RENEW restates the twin's holdings (R469, R470). -/
def State.renewIn (s : State) (f : ClaimFrame) : State :=
  let ok := s.frameTaken .renew f
  let s := s.lanesSaw f.bad 0
  if !ok then s else
  s.setTwin { s.twin with peerSets := f.sets, peerAct := f.act, peerRenew := s.now, peerFree := false, renewSeen := true }
/-- A received CLAIM: at ordinary it takes only what is free or the twin's; at raised, every serving gate and the free actuators
(R469, R477, R480). -/
def State.claimIn (s : State) (f : ClaimFrame) : State :=
  let ok := s.frameTaken .claim f
  let s := s.lanesSaw f.bad 0
  if !ok then s else
  let raised := 8 ≤ f.claim.toNat / 2 ^ 60
  let sets := if raised then f.sets else f.sets &&& ~~~s.ownMap
  let act := if s.shared then f.act &&& ~~~s.actMap else f.act
  let s := s.bumpEpoch
  let s := s.setTwin { s.twin with peerSets := s.twin.peerSets ||| sets, peerAct := s.twin.peerAct ||| act, peerRenew := s.now,
                                   peerFree := false, released := s.twin.released &&& ~~~sets }
  if raised then
    let s := s.dropWant fun w => w.kind = .claim && w.raised
    let s := s.setTwin { s.twin with taking := none }
    let s := ((s.loseSets sets).setStale (s.staleMap ||| (sets &&& s.mirrored)))
    let s := if s.paired2 && !s.clk.joining then s.enterPaired else s
    s.restartStreams.abortHandover.runTakeWait
  else match s.twin.handover with
    | none => s
    | some h =>
      -- the twin has taken the sets handed over: waiting requests are forwarded, the command is answered (R479 step 5)
      if !h.released || h.sets &&& ~~~sets ≠ 0 then s else
      let s := s.setTwin { s.twin with handover := none }
      let s := s.setSlots (s.cmd.slots.map fun x => if some x.id = h.slot then { x with wait := CmdWait.ready } else x)
      s.runAll 36 h.waiting
/-- A received RELEASE frees the twin's gates; sets whose copy here is current are claimed at ordinary (R468, R479 step 4). -/
def State.releaseIn (s : State) (f : ClaimFrame) : State :=
  let ok := s.frameTaken .release f
  let s := s.lanesSaw f.bad 0
  if !ok then s else
  let s := s.bumpEpoch
  let s := s.setTwin { s.twin with peerSets := s.twin.peerSets &&& ~~~f.sets, peerAct := s.twin.peerAct &&& ~~~f.act,
                                   released := s.twin.released ||| f.sets }
  if s.epochFrozen then s else
  let want := f.sets &&& s.mirrored &&& ~~~s.staleMap &&& ~~~s.ownMap
  if want = 0 then s else s.wantFrame ⟨.claim, false, want, 0⟩

/-- The effect at the sender of a CLAIM whose ACK sample was dominant (acked) or recessive (R468, R469). True when it takes
effect. An unacknowledged one takes free gates only; repeated, it takes effect again only for gates it had not (log 29). -/
def State.claimTakes (s : State) (w : WantFrame) (acked : Bool) : Bool × State :=
  let sets := if w.raised && acked then w.sets else w.sets &&& ~~~s.twin.peerSets
  let act := w.act &&& ~~~s.twin.peerAct
  let gain := sets &&& ~~~s.ownMap ≠ 0 || (s.shared && act &&& ~~~s.actMap ≠ 0)
  if !acked && !gain && (s.twinState = 2 || !w.raised) then (false, s) else
  let s := s.bumpEpoch
  (true, s.setTwin { s.twin with taking := some ⟨sets, act, s.claimEpoch, w.raised⟩, ownRenew := s.now,
                                 peerSets := if acked then s.twin.peerSets &&& ~~~sets else s.twin.peerSets })
/-- May a frame of a kind start: a lane is in service, fewer than four have started in the last ms, and the epoch word lets it
(R466, R474; 18 R669); in STANDBY no gate is claimed (R489). -/
def State.mayFrame (s : State) (k : ClaimKind) : Bool :=
  s.clk.vaon && !s.noLane && (s.twin.sent.filter fun t => s.now - t < ms 1).length < 4 && (k = .renew || !s.epochFrozen) &&
    (k ≠ .claim || (!s.clk.inReset && s.power = 0))
/-- CLAIM_FRAME_SENT. A frame without an ACK is sent again and counted: while the twin is there, its CRC failed at the twin (R468); a raised
CLAIM until its last gate is taken (R481; log 113). -/
def State.frameSent (s : State) (f : SentFrame) : State :=
  match s.twin.want.find? fun w => w.kind = f.kind with
  | none => s
  | some w =>
    if !s.mayFrame f.kind then s else
    let s := s.emit (.claim (s.claimNumber w.raised) w.kind w.sets w.act)
    let s := s.setTwin { s.twin with sent := (s.twin.sent.filter fun t => s.now - t < ms 1) ++ [s.now] }
    let s := match f.ending, w.kind with
      | .lost, _ => s
      | .acked, .renew => (s.setTwin { s.twin with ownRenew := s.now }).dropWant (· = w)
      | .unacked, .renew =>
        if s.twinState = 2 || (s.epochFrozen && !s.twin.seen) then
          (s.dropWant (· = w)).setTwin { (s.dropWant (· = w)).twin with ownRenew := s.now }
        else s.bump F.TWN_CLM_ERR_CNT_VALUE F.TWN_CNT_STATUS_CLM_ERR_SAT 457
      | .acked, .release => s.dropWant (· = w)
      | .unacked, .release => s.bump F.TWN_CLM_ERR_CNT_VALUE F.TWN_CNT_STATUS_CLM_ERR_SAT 457
      | .acked, .claim => ((s.claimTakes w true).2).dropWant (· = w)
      | .unacked, .claim =>
        let r := s.claimTakes w false
        let left := w.sets &&& s.twin.peerSets ≠ 0 || w.act &&& s.twin.peerAct ≠ 0
        if (left && w.raised) || s.twin.seen then r.2.bump F.TWN_CLM_ERR_CNT_VALUE F.TWN_CNT_STATUS_CLM_ERR_SAT 457 else r.2.dropWant (· = w)
    s.lanesSaw f.bad f.recessive
/-- EPOCH_WRITE_DONE: the unit begins to act on the gates it took (R468; 18 R668). -/
def State.epochDone (s : State) : State :=
  match s.twin.taking with
  | none => s
  | some t =>
    if !s.epochWritten then s else
    let s := s.setTwin { s.twin with taking := none }
    let s := if t.alone then s.enterAlone else s
    let s := s.gainSets t.sets t.alone
    (if s.shared then s.setAct (s.actMap ||| t.act) else s).runTakeWait
/-- Sets a RENEW restates: none in SAVE and AON-ONLY, where serving gates lapse (R489). -/
def State.renewSets (s : State) : BitVec 64 := if !s.clk.inReset && (s.power = 0 || s.power = 2) then s.ownMap else 0
/-- LEASE_RENEW_TIMER: the holder sends RENEW every 1.0 ms (R470). -/
def State.leaseRenew (s : State) : State :=
  let act := if s.shared && !s.clk.saved then s.actMap else 0
  if !s.paired2 || s.localGates || (s.renewSets = 0 && act = 0) || s.twin.want.any (·.kind = .renew) then s
  else s.wantFrame ⟨.renew, false, s.renewSets, act⟩
/-- LEASE_LAPSE_HOLDER: 3.9 ms after its last effective RENEW a holder stops acting (R470, R477). -/
def State.leaseLapse (s : State) : State :=
  let act := if s.shared then s.actMap else 0
  if !s.paired2 || s.localGates || s.clk.joining || (s.ownMap = 0 && act = 0) || s.now - s.twin.ownRenew < ns 3900000 then s else
  let s := if s.inHold then s.setOwn 0 else s.loseSets s.ownMap
  if s.shared then s.setAct 0 else s
/-- LEASE_LAPSE_OBSERVER: 4.0 ms after the last RENEW received the twin's gates are free (R470). -/
def State.peerLapse (s : State) : State :=
  if s.twin.peerFree || s.now - s.twin.peerRenew < ms 4 then s
  else s.setTwin { s.twin with peerFree := true, peerSets := 0, peerAct := 0 }
/-- JOIN_WAIT_EXPIRY (R475). -/
def State.joinExpiry (s : State) : State :=
  let jw := ms (max 1 (s.fget F.TWN_CFG_JOIN_WAIT))
  let t := s.now - s.twin.joinSince
  if !s.clk.joining || t < jw then s
  else if s.twin.renewSeen then s.joinPaired false
  else if s.noLane then { s with clk := { s.clk with joining := false } }.enterHold
  else if t < jw + ms 4 then s
  else
    let s := { s with clk := { s.clk with joining := false } }.enterAlone
    s.claimFree s.mirrored

/-! ### Commands and the takeover (R479, R481, R485) -/

/-- TWIN_GRANT (14, group 06). -/
def cmdTwinGrant (c : Cmd) (s : State) : CmdRes :=
  guarded [check (!c.flags.getLsbD 0) St.badParam,
      check (!(tokenUnit c.token = s.unit && newer 32 (tokenEpoch c.token) s.claimEpoch)) St.claimStale, check s.epochFrozen St.frozen] s
    (let s := (s.setClaimEpoch (tokenEpoch c.token)).setBit F.TWN_STATUS_GRANTED true
     let s := s.enterAlone
     let s := s.gainSets s.mirrored false
     let s := if s.shared then s.setAct 7 else s
     later s [] (.settings 0x285 1))
def defTwinGrant : CmdDef :=
  { size := fun c => c.len = 0, host := false, rights := fun _ _ _ => 0, mode := fun _ s => if s.inHold then 0 else St.mode,
    max := fun _ => 1000, run := cmdTwinGrant }
/-- TWIN_HANDOVER (14, group 06): its reply leaves once the twin's CLAIM has taken effect. -/
def cmdTwinHandover (c : Cmd) (s : State) : CmdRes :=
  let m := BitVec.ofNat 64 (c.fld 0 8)
  guarded [check (m &&& ~~~(s.ownMap &&& s.mirrored) ≠ 0) St.notOwner,
      check (s.twin.handover.isSome || m &&& s.twin.resync ≠ 0 || !(s.unmirrored m).isEmpty) St.wrongState, check s.epochFrozen St.frozen] s
    (if m = 0 then done s []
     else
      let s := s.setTwin { s.twin with handover := some ⟨m, false, [], some s.cmd.nextId⟩ }
      later s [] .handover)
def defTwinHandover : CmdDef :=
  { size := fun c => c.len = 8, host := false, rights := fun _ _ _ => 0, mode := fun _ s => if s.isPaired && s.power = 0 then 0 else St.mode,
    max := fun _ => 2000, run := cmdTwinHandover }
/-- HANDOVER_RELEASE: no kept entry of the sets is left; the gates go at the SOF of RELEASE (R468, R479 steps 2 and 3). -/
def State.handoverRelease (s : State) : State :=
  match s.twin.handover with
  | none => s
  | some h =>
    let named := fun i => (s.region i).dur = .m && h.sets.getLsbD (s.region i).rset
    let kept := (s.pers.landing.any fun e => e.cls = .m && !(e.acked && e.twinOk) && named e.region) || s.pers.ingress.any fun e => named e.region
    if h.released || kept || s.ccx.restart.isSome || !s.mayFrame .release then s else
    let s := s.setTwin { s.twin with handover := some { h with released := true }, peerSets := s.twin.peerSets &&& ~~~h.sets }
    let s := (s.setOwn (s.ownMap &&& ~~~h.sets)).bumpEpoch
    let s := ((setsOf h.sets).foldl State.closeSet s).ownerRecords h.sets (!s.unit)
    s.wantFrame ⟨.release, false, h.sets, 0⟩
/-- TAKEOVER: the Harbourmaster completes the takeover of the sets a raised claim gained (R481 step 6). -/
def State.takeoverEvent (s : State) : State :=
  if s.twin.taken = 0 || s.ccx.restart.isSome || !s.running then s else s.takeover s.twin.taken
/-- FWD_WAIT_EXPIRY (R480): a read is answered with poison, a store is dropped without a completion. -/
def State.fwdExpiry (s : State) (tag : Nat) : State :=
  match s.twin.fwd.find? fun e => e.tag = tag with
  | none => s
  | some e =>
    match e.stuck with
    | none => s
    | some t =>
      if s.now - t < ms (max 1 (s.fget F.TWN_CFG_FWD_WAIT)) || e.req = BiReq.sweep then s else
      let s := s.setTwin { s.twin with fwd := s.twin.fwd.filter fun x => x.tag ≠ tag }
      let s := s.bump F.TWN_FWD_FAIL_CNT_VALUE F.TWN_CNT_STATUS_FWD_FAIL_SAT 458
      let s := match e.req with
        | .read run r => s.sendPoison r (run.after s.now 50) { core := 84, phiIn := 1, phiOut := 1 }
        | .peer id line => s.gotLine id line none none
        | .core k line run _ => s.coreGot k line none run none
        | _ => s
      if s.twin.fwdFailed.getLsbD e.set then s else
      let s := s.setTwin { s.twin with fwdFailed := s.twin.fwdFailed ||| (1#64 <<< e.set) }
      (s.recordSet e.set .warning (.vendor 454 4 e.set 0 0)).raise 454
/-- SF_SWEEP_PAGE: the background sweep in ascending DLA order (R482). -/
def State.sfSweep (s : State) (p : Nat) : State :=
  if s.running && s.twin.unswept.head? = some p then s.sweepPage p else s

/-! ### The mirror stream as its writer (R449 to R455; 13 R530) -/

/-- EPOCH_MARK_TIMER: every 1 ms the epoch closes (R452, R453). -/
def State.epochMarkTick (s : State) : State :=
  if !s.isPaired || !s.running || s.now - s.twin.markAt < ms 1 then s else
  let t := s.twin
  let e : EpochRec := ⟨t.epoch, BitVec.ofNat 64 ((crcKind 2).result t.digest.toNat), t.touched, 65536 < t.touched.length⟩
  let s := s.setTwin { t with past := (e :: t.past).take 4, epoch := (t.epoch + 1) % 2 ^ 32, digest := 0, touched := [], markAt := s.now }
  s.twinCtl 1 0 t.txNext (natBytes 4 t.epoch ++ natBytes 4 t.txNext)
/-- Directory entry of a line. -/
def dirEntry (base : Nat) (l : MirrorLine) : Nat :=
  (if l.poison then 2 ^ 31 else 0) + (if l.st.mask = BitVec.allOnes 64 then 0 else 2 ^ 30) + (l.line - base) % 2 ^ 28
/-- Extension and lines of a MIRROR packet whose BASE is line `base`. -/
def mirrorPayload (base : Nat) (ls : List MirrorLine) : List Byte :=
  let dir := ls.flatMap fun l => natBytes 4 (dirEntry base l)
  let masks := (ls.filter fun l => l.st.mask ≠ BitVec.allOnes 64).flatMap fun l => natBytes 8 l.st.mask.toNat
  dir ++ List.replicate (256 - dir.length) 0 ++ masks ++ List.replicate (64 - masks.length) 0 ++
    ls.flatMap fun l => natBytes 64 l.st.data.toNat
/-- The region-table entry a REGION_NOTICE carries: all zero once FREE (13 R532). -/
def State.noticeEntry (s : State) (i : Nat) : List Byte :=
  if (s.region i).state = .free then List.replicate 16 0 else (s.region i).bytes16
/-- MIRROR_PACKET_SEND: the next packet of the stream, its lines first, then the notices that follow them (05 R194). -/
def State.mirrorSend (s : State) : State :=
  if !s.isPaired || !s.running || s.upLinks.isEmpty then s else
  let t := s.twin
  match t.txLines with
  | l :: _ =>
    let ls := packLines 64 l.line l.line 0 t.txLines
    let base := ls.foldl (fun m x => min m x.line) l.line
    let pl := mirrorPayload base ls
    let h := { hdrOf 0x10 0 with msn := l.seq, offset := 64 * base, len := ls.length,
                                 poison := ls.any (·.poison) }
    (s.setTwin { t with txLines := t.txLines.drop ls.length }).twinKeep ((l.seq + ls.length - 1) % 2 ^ 32) h pl
  | [] =>
    let after := (t.txNext + 2 ^ 32 - 1) % 2 ^ 32
    match t.regionNotes, t.pageNotes with
    | i :: is, _ => (s.setTwin { t with regionNotes := is }).twinCtl 3 0 after (natBytes 4 after ++ natBytes 2 i ++ natBytes 2 0 ++ s.noticeEntry i)
    | [], (p, sf) :: ps => (s.setTwin { t with pageNotes := ps }).twinCtl 2 0 after
        (natBytes 4 after ++ natBytes 4 0 ++ natBytes 8 (4096 * p) ++ natBytes 1 (if sf then 1 else 0) ++ natBytes 7 0)
    | [], [] => s
/-- RETX_TIMEOUT of a kept packet of the stream: it is sent again with RETX (13 R522, R532). -/
def State.mirrorResend (s : State) (i : Nat) : State :=
  match s.ute.mirrorTx[i]? with
  | none => s
  | some e => (s.bumpAt F.UTE_RETX_CNT_VALUE F.UTE_CNT_STATUS_SAT 0 109).twinSend { e.2.hdr with retx := true } e.2.payload none

/-- Pages in flight to the twin: a half of each is not answered yet. -/
def State.pageInFlight (s : State) (p : Nat) : Bool :=
  s.ute.mirrorTx.any fun e => ctlKind e.2 = 4 && leNat ((e.2.payload.drop 16).take 8) = 4096 * p
/-- Pages of the sets being copied that are not confirmed: UNMIRRORED, RESYNC, or kept by the other side (R454, R455). A colliding
region's pages stay out (03 R755). -/
def State.toCopy (s : State) : List Nat :=
  let ok := fun p => match s.regionAt p with | some i => !s.clashes i | none => false
  let kept := s.twin.keptPages.filter fun p => s.twin.resync.getLsbD (s.rsetOf p)
  (kept.foldl (fun l p => insNat p l) (s.unmirrored s.twin.resync)).filter ok
/-- The next page to copy: ascending, none that is in flight. -/
def State.nextCopyPage (s : State) : Option Nat :=
  (s.toCopy.foldl (fun l p => insNat p l) []).find? fun p => !s.pageInFlight p
def poison32 (m : BitVec 64) (half : Nat) : Nat := m.toNat / 2 ^ (32 * half) % 2 ^ 32
/-- One page in two halves, with the sequence number current at its snapshot (R455; 13 R532). -/
def State.sendPage (s : State) (p : Nat) : State :=
  let bytes := (List.range 64).flatMap fun k => natBytes 64 (s.lineNow (64 * p + k)).toNat
  let snap := s.twin.txNext
  let m := s.poisonMask p
  let body := fun h : Nat => natBytes 4 snap ++ natBytes 1 h ++ natBytes 3 0 ++ natBytes 8 (4096 * p) ++ natBytes 4 (poison32 m h) ++
    natBytes 4 0 ++ (bytes.drop (2048 * h)).take 2048
  let s := s.setPage p { s.page p with mir := .resync }
  let s := s.setTwin { s.twin with keptPages := s.twin.keptPages.filter (· ≠ p) }
  (s.twinCtl 4 4 0 (body 0)).twinCtl 4 4 0 (body 1)
/-- RESYNC_PAGE_SEND: the next page, or with none left the STALE_CLEAR for the sets that are done (R455). A page that only flash holds
is fetched first. -/
def State.resyncSend (s : State) : State :=
  if !s.isPaired || !s.running || s.twin.resync = 0 || s.upLinks.isEmpty then s else
  match s.nextCopyPage with
  | some p =>
    let w := s.page p
    if w.restorePending then s.startRestore p .c4
    else if w.f && !w.q && !w.qstg && !s.dValid p then s.startFetch p .fetch .c4
    else if s.dramBusy && !w.q then s
    else s.sendPage p
  | none =>
    if !s.toCopy.isEmpty || s.ute.mirrorTx.any (fun e => ctlKind e.2 = 4) || !s.twin.regionNotes.isEmpty then s else
    let clash := (setsOf s.twin.resync).filter fun n => (s.setRegions n).any s.clashes
    let left := clash.foldl (fun m n => m ||| (1#64 <<< n)) 0
    let fin := s.twin.resync &&& ~~~left
    if fin = 0 then s else
    let s := s.setTwin { s.twin with resync := left }
    ((s.setBit F.TWN_STATUS_RESYNC (left ≠ 0)).twinCtl 6 4 0 (natBytes 8 fin.toNat)).raise 453

/-- MIRROR_ACK: kept entries below LANDED are confirmed, the twin's limit and digest are taken (R449, R450, R453). -/
def State.mirrorAck (s : State) (pl : List Byte) : State :=
  let f := fun off n => leNat ((pl.drop off).take n)
  let landed := f 0 4
  let ok := fun e : LandEntry =>
    match e.mseq, e.origin with
    | some _, .mirrorIn _ => e
    | some q, _ => if newer 32 landed q then { e with twinOk := true } else e
    | none, _ => e
  let s := { s with pers := { s.pers with landing := s.pers.landing.map ok } }
  let s := { s with ute := { s.ute with mirrorTx := s.ute.mirrorTx.filter fun e => 4 ≤ ctlKind e.2 || !newer 32 landed e.1 } }
  let s := ((s.setTwin { s.twin with landed := landed }).setTwinLimit (f 16 8) true).settleAcks
  match s.twin.past.find? fun e => e.epoch = f 4 4 with
  | none => s
  | some e =>
    let s := s.setTwin { s.twin with past := s.twin.past.filter fun x => x.epoch ≠ e.epoch }
    if e.digest.toNat = f 8 8 then s else
    let s := (s.bump F.TWN_DIGEST_ERR_CNT_VALUE F.TWN_CNT_STATUS_DIGEST_ERR_SAT 456).raise 452
    let pages := (if e.overflow then s.setPages s.ownMap else e.pages).filter fun p => (s.page p).mir ≠ .notM && !(s.page p).zero
    let s := pages.foldl (fun a p => a.setPage p { a.page p with mir := .resync }) s
    let sets := pages.foldl (fun m p => m ||| (1#64 <<< s.rsetOf p)) 0#64
    (s.setTwin { s.twin with resync := s.twin.resync ||| (sets &&& s.ownMap) }).setBit F.TWN_STATUS_RESYNC true
/-- The ACK of a MIRROR_CTL of kinds 4 to 8; a page with both halves answered is mirrored (R455; 13 R532). -/
def State.ctlAck (s : State) (echo : Nat) : State :=
  match s.ute.mirrorTx.find? fun e => 4 ≤ ctlKind e.2 && e.1 = echo with
  | none => s
  | some e =>
    let s := { s with ute := { s.ute with mirrorTx := s.ute.mirrorTx.filter fun x => !(4 ≤ ctlKind x.2 && x.1 = echo) } }
    if ctlKind e.2 ≠ 4 then s else
    let p := leNat ((e.2.payload.drop 16).take 8) / 4096
    if s.pageInFlight p || (s.page p).mir ≠ .resync then s else s.setPage p { s.page p with mir := .mirrored }

/-! ### The mirror stream as its reader (R449, R451 to R455; 02 R75; 03 R755; 13 R530 to R532) -/

/-- A store of the stream lands here. -/
def State.landMirror (s : State) (l : MirrorLine) : State :=
  let s := s.setTwin { s.twin with rx := { s.twin.rx with
    digest := BitVec.ofNat 64 ((crcKind 2).run s.twin.rx.digest.toNat (digestBytes l.seq l.line l.st.data l.st.mask)) } }
  match s.regionAt (l.line / 64) with
  | none => s
  | some i =>
    if (s.region i).dur ≠ .m then s else
    let s := s.setTwin { s.twin with rx := { s.twin.rx with later := s.twin.rx.later ++ [l] } }
    let n := s.newId
    n.2.placeLine (n.2.ingressStore n.1 l.line l.st.data l.st.mask i (.mirrorIn l.seq) l.poison)
/-- A region-table entry from its 16 bytes (03 R97). -/
def regionOf (b : List Byte) : Region :=
  let w := fun k => leNat ((b.drop (4 * k)).take 4)
  let st : RState := match w 0 / 2 ^ 29 with
    | 1 => .offered | 2 => .active | 3 => .retyping | 4 => .releasing | 5 => .draining | _ => .free
  ⟨st, w 0 % 2 ^ 20, w 1, w 2 / 2 ^ 16 % 64, (w 2 / 512) % 2 = 1, BitVec.ofNat 9 (w 2), w 3 / 65536, w 3 % 65536⟩
/-- Do two ranges of DLA[47:28] overlap? -/
def rangesMeet (b1 n1 b2 n2 : Nat) : Bool := b1 < b2 + n2 + 1 && b2 < b1 + n1 + 1
/-- An L or V entry here that an entry of the owner meets in index or DLA range (03 R755). -/
def State.meetsLocal (s : State) (e : TwinEntry) : Bool :=
  s.rgn.regions.any fun kv => kv.2.state ≠ .free && kv.2.dur ≠ .m &&
    (kv.1 = e.index || rangesMeet kv.2.base kv.2.sizeM1 e.base e.sizeM1)
/-- ENTRY_CLASH follows the entries that still collide. -/
def State.settleClash (s : State) : State :=
  let l := s.twin.clash.filter fun e => s.meetsLocal e.1
  if l.length = s.twin.clash.length then s
  else (s.setTwin { s.twin with clash := l }).setBit F.TWN_STATUS_ENTRY_CLASH (!l.isEmpty)
/-- The mirror's copy of a region goes: its pages are discarded and its entry is FREE (03 R94, R98). Only the owner of its set may ask it. -/
def State.dropMirror (s : State) (i : Nat) : State :=
  let old := s.region i
  if old.state = .free || old.dur ≠ .m || s.owns old.rset || !s.twin.peerSets.getLsbD old.rset then s else
  let s := (s.pagesOf old).foldl (fun a p => a.discardPage true p) s
  let s := { s with pers := { s.pers with
    landing := s.pers.landing.filter (fun e => e.region ≠ i), ingress := s.pers.ingress.filter (fun e => e.region ≠ i),
    flushes := s.pers.flushes.filter fun f => f.region ≠ i } }
  ((s.putRegion i { Region.empty with rgen := (old.rgen + 1) % 65536 }).setUse.raise 52).stretchExit
/-- The own M regions that an entry of the twin kept apart: once it is gone the twin gets their entries, and their pages (03 R755). -/
def State.unclash (s : State) (i : Nat) : State :=
  match s.rgn.twinEntries.find? fun e => e.index = i with
  | none => s
  | some e =>
    let mine := (s.rgn.regions.filter fun kv => kv.2.state ≠ .free && kv.2.dur = .m && s.owns kv.2.rset &&
      (kv.1 = i || rangesMeet kv.2.base kv.2.sizeM1 e.base e.sizeM1)).map (·.1)
    let sets := mine.foldl (fun m j => m ||| (1#64 <<< (s.region j).rset)) 0#64
    let s := { s with rgn := { s.rgn with twinEntries := s.rgn.twinEntries.filter fun e => e.index ≠ i } }
    if mine.isEmpty || !s.isPaired then s else
    (s.setTwin { s.twin with regionNotes := s.twin.regionNotes ++ mine, resync := s.twin.resync ||| sets }).setBit F.TWN_STATUS_RESYNC true
/-- An entry of a set that the twin owns takes its place here: RGN_STATE and the budgets follow (03 R96, R98, R120). -/
def State.takeEntry (s : State) (i : Nat) (r : Region) : State :=
  let old := s.region i
  let s := (s.putRegion i r).setUse
  let s := (s.pagesOf r).foldl (fun a p => a.beginMeet r p) s
  if old.state = r.state then s else s.raise 52
/-- A REGION_NOTICE in its place: an L or V entry of the twin is recorded, an entry of a mirrored set is applied unless it collides. -/
def State.applyRegion (s : State) (i : Nat) (b : List Byte) : State :=
  let r := regionOf b
  let s := s.unclash i
  let s := s.setTwin { s.twin with clash := s.twin.clash.filter fun e => e.1.index ≠ i }
  let s := s.setBit F.TWN_STATUS_ENTRY_CLASH (!s.twin.clash.isEmpty)
  if r.state = .free then s.dropMirror i
  else if r.dur ≠ .m then
    let s := s.dropMirror i
    { s with rgn := { s.rgn with twinEntries := s.rgn.twinEntries ++ [⟨i, r.base, r.sizeM1⟩] } }
  else if s.owns r.rset then s
  else
    let e : TwinEntry := ⟨i, r.base, r.sizeM1⟩
    if s.meetsLocal e then
      let was := s.bit F.TWN_STATUS_ENTRY_CLASH
      let s := s.setTwin { s.twin with clash := s.twin.clash ++ [(e, r.rset)] }
      let s := s.setStale (s.staleMap ||| (1#64 <<< r.rset))
      if was then s else (s.setBit F.TWN_STATUS_ENTRY_CLASH true).raise 448
    else s.takeEntry i r
/-- A MIRROR_CTL of kinds 1 to 3 in its place in the stream. -/
def State.applyNote (s : State) (pl : List Byte) : State :=
  let f := fun off n => leNat ((pl.drop off).take n)
  match f 0 1 with
  | 1 =>
    let x := s.twin.rx
    let e := (f 8 4, BitVec.ofNat 64 ((crcKind 2).result x.digest.toNat), f 12 4)
    let done := (e :: x.done).take 4
    s.setTwin { s.twin with rx := { x with
      done := done, epoch := (f 8 4 + 1) % 2 ^ 32, digest := 0,
      later := if s.staleMap ≠ 0 then x.later else match done[3]? with
        | some o => x.later.filter fun l => !older 32 l.seq o.2.2
        | none => x.later } }
  | 2 =>
    let p := f 16 8 / 4096
    s.setPage p { s.page p with sf := f 24 1 % 2 = 1 }
  | 3 => s.applyRegion (f 12 2) ((pl.drop 16).take 16)
  | _ => s
/-- Does a store of the stream wait for its page's word or its page? Those after it wait behind it: they land in order (R449; 05 R196). -/
def State.mirrorWaits (s : State) : List Nat :=
  (s.rgn.psWait.map PsWait.req ++ s.pers.holdQ).filterMap fun q =>
    match q with
    | .write st => (match st.origin with | .mirrorIn n => some n | _ => none)
    | _ => none
/-- Everything whose turn has come: notes at the next number, then the store of that number. -/
def State.rxLoop (s : State) : Nat → State
  | 0 => s
  | k + 1 =>
    let x := s.twin.rx
    if !s.mirrorWaits.isEmpty then s else
    match x.notes.find? fun n => !newer 32 n.1 x.expect with
    | some n => ((s.setTwin { s.twin with rx := { x with notes := x.notes.erase n } }).applyNote n.2).rxLoop k
    | none =>
      match x.reorder.find? fun l => l.seq = x.expect with
      | some l =>
        ((s.setTwin { s.twin with rx := { x with reorder := x.reorder.filter (fun y => y.seq ≠ l.seq),
                                                 expect := (x.expect + 1) % 2 ^ 32 } }).landMirror l).rxLoop k
      | none => s
def State.rxRun (s : State) : State := s.rxLoop (s.twin.rx.notes.length + s.twin.rx.reorder.length + 1)
/-- Lines of a MIRROR packet. -/
def mirrorLines (h : UtHdr) (pl : List Byte) : List MirrorLine :=
  let dir := fun i => leNat ((pl.drop (4 * i)).take 4)
  (List.range h.len).map fun i =>
    let d := dir i
    let k := ((List.range i).filter fun j => (dir j).testBit 30).length
    let mask := if d.testBit 30 then BitVec.ofNat 64 (leNat ((pl.drop (256 + 8 * k)).take 8)) else BitVec.allOnes 64
    ⟨(h.msn + i) % 2 ^ 32, h.offset / 64 + d % 2 ^ 28, ⟨BitVec.ofNat 512 (leNat ((pl.drop (320 + 64 * i)).take 64)), mask⟩, d.testBit 31⟩
/-- A MIRROR packet: its lines land in sequence order, those ahead of a gap wait in the reorder buffer (R449). In HOLD they wait. -/
def State.mirrorIn (s : State) (h : UtHdr) (pl : List Byte) : State :=
  let x := s.twin.rx
  let ls := (mirrorLines h pl).filter fun l => !older 32 l.seq x.expect && !x.reorder.any fun r => r.seq = l.seq
  let s := s.setTwin { s.twin with rx := { x with reorder := x.reorder ++ ls } }
  if s.inHold then s else s.rxRun
/-- LANDED: every store below it has been landed and admitted (02 R75; 13 R531). -/
def State.landedSeq (s : State) : Nat :=
  let due := (s.pers.landing.filter fun e => !e.localOk).filterMap (fun e : LandEntry => match e.origin with | .mirrorIn q => some q | _ => none) ++
    s.pers.ingress.filterMap (fun e : IngressStore => match e.origin with | .mirrorIn q => some q | _ => none) ++ s.mirrorWaits
  due.foldl (fun m q => if older 32 q m then q else m) s.twin.rx.expect
/-- The epoch and digest that an acknowledgement reports: the newest epoch whose last store has landed (R453). DESIGN CHOICE (log 93): before
one has, the number before 0, with digest 0; no rule says what it reports then. -/
def State.doneEpoch (s : State) : Nat × BitVec 64 :=
  match s.twin.rx.done.find? fun e => !older 32 s.landedSeq e.2.2 with
  | some e => (e.1, e.2.1)
  | none => (2 ^ 32 - 1, 0)
/-- MIRROR_ACK_SEND. -/
def State.mirrorAckSend (s : State) : State :=
  if !s.isPaired || !s.running then s else
  let d := s.doneEpoch
  let pl := natBytes 4 s.landedSeq ++ natBytes 4 d.1 ++ natBytes 8 d.2.toNat ++ natBytes 8 s.pdkLimit ++ natBytes 8 0
  s.twinSend { hdrOf 0x11 2 with len := 32 } pl none
/-- A resync page with both halves: the copy in place of every other of the page, then the stream's later stores to it (R455). Stores that this
unit kept from before do not drain over it (R454). -/
def State.applyResync (s : State) (p snap : Nat) (a b : ResyncHalf) : State :=
  let bytes := a.bytes ++ b.bytes
  let pg : SMap Byte := sputAll 0 [] ((List.range 4096).zip bytes)
  let s := (s.dropHot p).dropStaged p
  let s := { s with pers := { s.pers with
    landing := s.pers.landing.map fun e : LandEntry => if e.line / 64 = p && !e.origin.isMirrorIn then { e with drained := true } else e } }
  let s := s.fillDram p pg true
  let s := s.setPage p { s.page p with zero := false, mir := .mirrored }
  let lines := (List.range 64).map (64 * p + ·)
  let bad := lines.filter fun l => (if l % 64 < 32 then a.poison.testBit (l % 32) else b.poison.testBit (l % 32))
  let s := (s.unpoisonPage p).poisonLines bad
  let redo := s.twin.rx.later.filter fun l => l.line / 64 = p && !older 32 l.seq snap
  let s : State := redo.foldl (fun (c : State) (l : MirrorLine) => (c.storePoison l.line l.poison l.st.mask).writeCopies l.line l.st.data l.st.mask) s
  if (s.page p).pdk ≠ .clean then s else if s.admitOk true true then s.admitPage p true else s.oweWt p
/-- A MIRROR_CTL of kinds 4 to 8, applied on arrival (13 R532). -/
def State.applyCtl (s : State) (pl : List Byte) : State :=
  let f := fun off n => leNat ((pl.drop off).take n)
  match f 0 1 with
  | 4 =>
    let h : ResyncHalf := ⟨f 16 8 / 4096, f 12 1, f 8 4, (pl.drop 32).take 2048, f 24 4⟩
    let rest := s.twin.rx.halves.filter fun x => x.page ≠ h.page
    match s.twin.rx.halves.find? fun x => x.page = h.page && x.snap = h.snap && x.half ≠ h.half with
    | some o =>
      let s := s.setTwin { s.twin with rx := { s.twin.rx with halves := rest } }
      match s.regionAt h.page with
      | some i => if (s.region i).dur ≠ .m || s.owns (s.region i).rset then s
        else s.applyResync h.page h.snap (if h.half = 0 then h else o) (if h.half = 0 then o else h)
      | none => s
    | none => s.setTwin { s.twin with rx := { s.twin.rx with halves := rest ++ [h] } }
  | 5 =>
    let ps := (List.range (min 510 (f 8 2))).map fun i => f (16 + 8 * i) 8 / 4096
    s.setTwin { s.twin with keptPages := ps.foldl (fun l p => insNat p l) s.twin.keptPages }
  | 6 =>
    let held := s.twin.clash.foldl (fun a e => a ||| (1#64 <<< e.2)) 0#64
    let m := BitVec.ofNat 64 (f 8 8) &&& ~~~held
    let s := s.setStale (s.staleMap &&& ~~~m)
    -- entries kept from before the sets were lost are covered by the copies (R454)
    let ok := fun e : LandEntry =>
      if e.cls = .m && e.mseq.isNone && !e.twinOk && m.getLsbD (s.region e.region).rset then { e with twinOk := true } else e
    ({ s with pers := { s.pers with landing := s.pers.landing.map ok } }).settleAcks
  | 7 =>
    let r := s.epc.reh
    s.setReh { r with number := f 8 4, joinAt := some (s.now + us (f 12 4)) }
  | 8 =>
    let r := s.epc.reh
    if r.phase = .idle || r.number ≠ f 8 4 then s else
    let s := s.setReh { r with gTwin := some (f 16 8) }
    if r.ended then s.rehFinish else s
  | _ => s
/-- Position in the stream of a MIRROR_CTL of kinds 1 to 3: it applies once the next expected number has reached it (13 R532). -/
def notePlace (pl : List Byte) : Nat :=
  let q := leNat ((pl.drop 8).take 4)
  if leNat (pl.take 1) = 1 then leNat ((pl.drop 12).take 4) else (q + 1) % 2 ^ 32
/-- A MIRROR_CTL of kinds 1 to 3 takes its place; a mark that has been applied is not applied again. -/
def State.noteIn (s : State) (pl : List Byte) : State :=
  let x := s.twin.rx
  let again := leNat (pl.take 1) = 1 && (x.notes.any (fun n => n.2 = pl) || older 32 (leNat ((pl.drop 8).take 4)) x.epoch)
  if again then s else
  let s := s.setTwin { s.twin with rx := { x with notes := x.notes ++ [(notePlace pl, pl)] } }
  if s.inHold then s else s.rxRun

/-- A sample of w (13 R534): the least of the last second, in ns rounded up, is UTE_TWIN_W. -/
def State.sampleW (s : State) (rtt : Nat) : State :=
  let v := (170 * rtt - 86016 + 509) / 510
  let l := (s.twin.wSamples.filter fun x => s.now - x.1 < sec 1) ++ [(s.now, min 0xFFFE v)]
  (s.setTwin { s.twin with wSamples := l }).fset F.UTE_TWIN_W_W (l.foldl (fun m x => min m x.2) 0xFFFF)

/-! ### Forwarded requests (R446 to R448; 13 R533) -/

/-- The path of a forwarded read, the owner's memory time left out: this unit does not learn it (R447; log 94). -/
def fwdReadPath : Lat := { core := 116, ute := 78, eth := 448, w := 2, phiIn := 1, phiOut := 1, phiTx := 2, phiRx := 2 }
/-- The path of a forwarded M store (R448). -/
def fwdStorePath : Lat := { core := 145, ute := 156, eth := 896, w := 4, phiIn := 1, phiTx := 4, phiRx := 4 }
/-- A FWD_RESP: the owner's answer goes out on the link that carried the request. -/
def State.fwdResp (s : State) (pl : List Byte) : State :=
  let f := fun off n => leNat ((pl.drop off).take n)
  match s.twin.fwd.find? fun e => e.tag = f 4 4 with
  | none => s
  | some e =>
    if f 0 1 = 3 && e.req ≠ BiReq.sweep then
      if e.stuck.isSome then s else
      s.setTwin { s.twin with fwd := s.twin.fwd.map fun x : FwdEntry => if x.tag = e.tag then { x with stuck := some s.now } else x }
    else
    let s := s.setTwin { s.twin with fwd := s.twin.fwd.filter fun x => x.tag ≠ e.tag }
    let poison : Bool := f 1 1 % 2 = 1
    let data := BitVec.ofNat 512 (f 16 64)
    let exact := fun run : Run => { run with exact := run.exact && e.stuck.isNone }
    match e.req with
    | .read run r =>
      let n := s.latCore (s.onHead r.head fwdReadPath)
      let run := { exact run with from_ := s.now, done := n - (34 + 8 + s.egressExtra r.head) }
      if poison then s.sendPoison r run fwdReadPath else s.sendDrs r run fwdReadPath data false
    | .store _ run _ st | .back _ run _ st =>
      if run.dead then s else
      s.sendNdr st.head ((s.holderOf st.head st.ld st.pbr).getD 0) st.tag run.since s.now true
        (if (exact run).exact then some (s.onHead st.head fwdStorePath) else none)
    | .write st => s.complete st.origin st.id st.time s.now true none
    | .peer id line => s.gotLine id line (if poison then none else some data) none
    | .core k line run _ => s.coreGot k line (if poison then none else some data) run none
    | .sweep => s.twinSupplied e.line (if poison || f 0 1 ≠ 1 then none else some (BitVec.ofNat 512 (f 16 64)))
    | _ => s

end Sys2Proof.Machine
end

