-- ==== Sys2Proof/Machine/UteRx.lean ====
section
/-! DEFINITION. The receiving side of the UT engine: packet checks, contexts and the Shed, berths, message entries, placement, answers (13_umond_transport.md). -/
namespace Sys2Proof.Machine

def State.setUte (s : State) (u : Ute) : State := { s with ute := u }
/-- UTE counter n of the register map (R538). -/
def uteCnt : Nat → Fld
  | 0 => F.UTE_RETX_CNT_VALUE | 1 => F.UTE_NACK_TX_CNT_VALUE | 2 => F.UTE_STALE_CNT_VALUE | 3 => F.UTE_CTX_MISS_CNT_VALUE
  | 4 => F.UTE_DROP_CNT_VALUE | 5 => F.UTE_DB_REJECT_CNT_VALUE | _ => F.UTE_MSG_FAIL_CNT_VALUE
def State.bumpUte (s : State) (n : Nat) : State := s.bumpAt (uteCnt n) F.UTE_CNT_STATUS_SAT n (109 + n)

/-! ### Settings as they act (R538) -/

def State.utMax (s : State) : Nat := if s.bit F.UTE_CFG_JUMBO then 8192 else 4096
def State.utRetry (s : State) : Nat := max 1 (s.fget F.UTE_SHED_CTRL_RETRY)
def State.mctHold (s : State) : Nat := ms (max 8 (s.fget F.UTE_TIMER_MCT_HOLD))
def State.msgLife (s : State) : Nat := ms (min (s.fget F.UTE_TIMER_LIFE) (max 8 (s.fget F.UTE_TIMER_MCT_HOLD) - 4))
def State.leaseUnits (s : State) (b : Berth) : Nat := if b.lease ≠ 0 then b.lease else max 1 (s.fget F.UTE_TIMER_LEASE)

/-! ### Contexts and berths (R502 to R512) -/

def State.ctx (s : State) (c : Nat) : Option UtCtx := sget none s.ute.ctxs c
def State.setCtx (s : State) (c : Nat) (x : Option UtCtx) : State := s.setUte { s.ute with ctxs := sput none s.ute.ctxs c x }
def State.berth (s : State) (c k : Nat) : Berth := sget Berth.empty s.ute.berths (8 * c + k)
def State.setBerth (s : State) (c k : Nat) (b : Berth) : State :=
  s.setUte { s.ute with berths := sput Berth.empty s.ute.berths (8 * c + k) b }
/-- Does the owner of a context see a region (R510)? -/
def State.ownerSees (s : State) (o : CtxOwner) (r : Region) : Bool :=
  match o with
  | .ld n => s.visibleTo r n
  | .hostId n => s.visibleTo r n
  | _ => true
/-- Does every byte of a range lie in regions that `ok` accepts? Regions are whole multiples of 256 MiB (03 R92). -/
def State.rangeIn (s : State) (ok : Region → Bool) (dla len : Nat) : Bool :=
  dla + len ≤ 2 ^ 48 && (List.range ((dla + len - 1) / 2 ^ 28 + 1 - dla / 2 ^ 28)).all fun k =>
    match s.regionAt ((dla / 2 ^ 28 + k) * 65536) with
    | some i => ok (s.region i)
    | none => false
/-- Served regions visible to an owner. -/
def State.servedTo (s : State) (o : CtxOwner) (dla len : Nat) : Bool := s.rangeIn (fun r => r.served && s.ownerSees o r) dla len
/-- A berth closes: its generation rises by 1 (R510). -/
def State.closeBerth (s : State) (c k : Nat) : State :=
  let b := s.berth c k
  s.setBerth c k { b with isOpen := false, gen := (b.gen + 1) % 2 ^ 32 }
/-- A berth whose lease has run out closes, and UTE_LEASE_EXPIRED is raised (R511). -/
def State.expireBerth (s : State) (c k : Nat) : State :=
  let b := s.berth c k
  if b.isOpen && b.expiry ≤ s.now then (s.closeBerth c k).raise 106 else s
/-- BERTH_LEASE_SWEEP (R511). -/
def State.leaseSweep (s : State) : State :=
  if s.clk.inReset then s else s.ute.berths.foldl (fun a kv => a.expireBerth (kv.1 / 8) (kv.1 % 8)) s
/-- The lease of an open berth restarts. -/
def State.renewBerth (s : State) (c k : Nat) : State :=
  let b := s.berth c k
  if b.isOpen then s.setBerth c k { b with expiry := s.now + ms (100 * s.leaseUnits b) } else s
/-- The Yard holds the record of a context; of 4,096 the least recently used with no packet in progress makes room (R503). -/
def State.touchCtx (s : State) (c : Nat) : State :=
  let rest := s.ute.cached.filter (· ≠ c)
  let busy := fun k => s.ute.placing.any (fun p => p.ctx = k) || s.ute.shed.any (fun p => p.pkt.hdr.dstCtx = k) ||
    s.ute.ops.any fun o => o.ctx = k
  let rest := if rest.length < 4096 then rest else
    match rest.reverse.find? fun k => !busy k with
    | some v => rest.filter (· ≠ v)
    | none => rest
  s.setUte { s.ute with cached := c :: rest }

/-! ### Answers (R499, R523) -/

/-- Path of an answer decided by the checks alone (R535). -/
def checkLat : Lat := { eth := 224, ute := 42, phiRx := 1, phiTx := 1 }
/-- An ACK. -/
def State.sendAck (s : State) (link : Nat) (h : UtHdr) (complete : Bool) (lat : Option Lat) : State :=
  let a := s.answerHdr h 0x08
  a.2.utSend link { a.1 with complete := complete } [] lat
/-- A NACK; in RETRY the RESIDENCE field holds the delay in µs (R499, R527). `extra` is what a context fetch added to its checks; none
where the packet waited. -/
def State.sendNackAfter (s : State) (link : Nat) (h : UtHdr) (code : Nat) (extra : Option Lat) : State :=
  let a := s.answerHdr h 0x09
  let s := a.2.bumpUte 1
  let s := if code = 2 || code = 3 then s.bumpUte 2 else s
  s.utSend link { a.1 with code := code, residence := if code = 1 then s.utRetry else a.1.residence } [] (extra.map checkLat.add)
/-- A NACK decided by the checks alone. -/
def State.sendNack (s : State) (link : Nat) (h : UtHdr) (code : Nat) : State := s.sendNackAfter link h code (some {})

/-! ### The checks every packet meets (R494, R501, R528, R536) -/

def utKnown (op : Nat) : Bool := (1 ≤ op && op ≤ 10) || (0x10 ≤ op && op ≤ 0x15) || op = 0x20 || op = 0x21
/-- Class of a packet by its opcode; MIRROR_CTL carries the class of its kind. -/
def utClass (h : UtHdr) : Nat :=
  match h.op with
  | 0x10 => 0 | 0x11 => 2 | 0x12 => h.cls | 0x20 => 5
  | 0x03 => 1 | 0x06 => 1 | 0x08 => 1 | 0x09 => 1 | 0x0A => 1 | 0x14 => 1 | 0x15 => 1 | 0x21 => 1
  | _ => 3
/-- Is the payload of the size that the opcode table gives? -/
def sizeOk (p : UtPkt) : Bool :=
  let n := p.payload.length
  match p.hdr.op with
  | 0x02 => n = 0 | 0x04 => n = 8 | 0x05 => n = 16 | 0x06 => n = 8 | 0x07 => n = 0 | 0x08 => n = 0 | 0x09 => n = 0 | 0x0A => n = 0
  | 0x11 => n = 32 | 0x15 => n = 32
  | 0x12 => (match leNat (p.payload.take 1) with
    | 1 => n = 16 | 2 => n = 32 | 3 => n = 32 | 4 => n = 2080 | 5 => n = 16 + 8 * leNat ((p.payload.drop 8).take 2)
    | 6 => n = 16 | 7 => n = 16 | 8 => n = 24 | _ => false)
  | _ => true
/-- The consistency checks of R501. -/
def State.utConsistent (s : State) (p : UtPkt) : Bool :=
  let h := p.hdr
  let n := p.payload.length
  h.pkt ≤ h.npktM1 && sizeOk p && (h.op = 0x10 || n ≤ s.utMax) &&
    (match h.op with
    | 0x01 => h.len = n | 0x03 => h.len = n | 0x13 => h.len = n | 0x20 => h.len = n
    | 0x10 => n = 320 + 64 * h.len && h.len ≤ 64
    | _ => true)
/-- A packet of opcode `op` on its link: the checks up to the context check; `k` is the rest. Answers are never answered. -/
def State.utRx (s : State) (p : UtPkt) (op : Nat) (k : State → State) : State :=
  let h := p.hdr
  let answer := h.op = 3 || h.op = 6 || h.op = 8 || h.op = 9 || h.op = 0x11 || h.op = 0x14 || h.op = 0x15 || h.op = 0x21
  if s.clk.inReset || !(s.power = 0 || s.power = 2) || 4 ≤ p.link || s.fget (F.UTE_LINK_STATUS_STATE p.link) ≠ 3 then s
  else if !p.frameOk || p.trailer ≠ utTrailer h p.payload || h.dstNode ≠ s.fget F.UTE_NET_NODE || h.ver ≠ 1 || !utKnown h.op then
    s.bumpUte 4
  else if h.op ≠ op then s
  else if !s.utConsistent p then
    (if answer then s else s.sendNack p.link h 5)
  else if (p.bufFull && (utClass h = 0 || 3 ≤ utClass h)) || (s.power = 2 && utClass h = 3) then s.sendNack p.link h 1
  else k s

/-! ### Contexts not in the Yard (R526, R527) -/

def slotsOf (p : UtPkt) : Nat := (64 + p.payload.length + 127) / 128
def State.setShed (s : State) (l : List Parked) : State :=
  (s.setUte { s.ute with shed := l }).fset F.UTE_STATUS_SHED_USED ((l.map (·.slots)).sum)
/-- A context's record in the Quay (R503; 09 R344). -/
def ctxQa (c : Nat) : Nat := 0x90000000 + 512 * c
/-- Fetch a context's record: the slower of its two granules (R526). -/
def State.ctxFetch (s : State) (c : Nat) : Lat × State :=
  let a := s.quayAccess (ctxQa c)
  let b := a.2.quayAccess (ctxQa c + 256)
  ({ ute := 76, hbm := max a.1 b.1 }, b.2)
/-- Park a packet and fetch its context's record, or refuse it for want of the slots of its class (R220, R527). -/
def State.park (s : State) (p : UtPkt) : State :=
  let c0 : Bool := utClass p.hdr = 0
  let used := ((s.ute.shed.filter fun x => x.c0 = c0).map (·.slots)).sum
  if (if c0 then 256 else 1792) < used + slotsOf p then
    let s := if s.ute.shedRefused then s else (s.setUte { s.ute with shedRefused := true }).raise 105
    s.sendNack p.link p.hdr 1
  else
    let s := s.setUte { s.ute with shedRefused := false }
    if s.ute.fetching.contains p.hdr.dstCtx then s.setShed (s.ute.shed ++ [⟨p, slotsOf p, c0, none⟩])
    else
      let f := s.ctxFetch p.hdr.dstCtx
      let s := f.2.setShed (f.2.ute.shed ++ [⟨p, slotsOf p, c0, some f.1⟩])
      (s.setUte { s.ute with fetching := s.ute.fetching ++ [p.hdr.dstCtx] }).bumpUte 3
/-- The context check of WRITE, READ, FADD, CAS and FLUSH (R502, R526); `k` runs with the record in the Yard. -/
def State.withCtx (s : State) (p : UtPkt) (extra : Option Lat) (k : State → UtCtx → State) : State :=
  let c := p.hdr.dstCtx
  if c < 2 then s.sendNack p.link p.hdr 7 else
  match s.ctx c with
  | none => s.sendNackAfter p.link p.hdr 7 extra
  | some x => if s.ute.cached.contains c && !s.ute.fetching.contains c then k (s.touchCtx c) x else s.park p

/-! ### Completions at the receiver (R508, R517) -/

/-- A completion record (R508). -/
def recordBytes (user : BitVec 64) (status op count : Nat) (result : BitVec 64) : List Byte :=
  natBytes 8 user.toNat ++ natBytes 2 status ++ natBytes 1 op ++ natBytes 1 0 ++ natBytes 4 count ++ natBytes 8 result.toNat ++ natBytes 8 0
def State.dueRecord (s : State) (c : Nat) (bytes : List Byte) (notify : Bool) : State :=
  s.setUte { s.ute with due := s.ute.due ++ [⟨c, bytes, notify⟩] }
/-- COUNT of a context rises by 1 (R507). -/
def State.addCount (s : State) (c : Nat) : State :=
  match s.ctx c with
  | some x => s.setCtx c (some { x with count := (x.count + 1) % 2 ^ 32 })
  | none => s
def State.countOf (s : State) (c : Nat) : Nat := match s.ctx c with | some x => x.count | none => 0

/-! ### Berth and message checks (R511, R514, R516) -/

/-- The berth check: 0, or the NACK code. -/
def State.berthCheck (s : State) (p : UtPkt) (x : UtCtx) : Nat :=
  let h := p.hdr
  let b := s.berth h.dstCtx h.berth
  let d := (b.gen + 2 ^ 32 - h.gen) % 2 ^ 32
  let bit := if h.op = 1 then 0 else if h.op = 2 then 1 else 2
  let n := max h.len 8
  let touched := if h.op = 4 || h.op = 5 then 8 else h.len
  if d ≠ 0 && d < 2 ^ 31 then (if h.op = 1 then 2 else 3)
  else if d ≠ 0 || !b.isOpen then 4
  else if !b.perm.getLsbD bit || b.lengthM1 + 1 < h.offset + n || ((h.op = 4 || h.op = 5) && (b.base + h.offset) % 8 ≠ 0) then 5
  else if touched ≠ 0 && !s.servedTo x.owner (b.base + h.offset) touched then 6
  else 0
def mctKey (c : Nat) (h : UtHdr) (e : MctEntry) : Bool := e.ctx = c && e.node = h.srcNode && e.srcCtx = h.srcCtx && e.msn = h.msn
def State.mctFind (s : State) (c : Nat) (h : UtHdr) : Option MctEntry := s.ute.mct.find? (mctKey c h)
/-- COMPLETE entries of the sender older than its ACK_FLOOR go (R516). -/
def State.mctFloor (s : State) (c : Nat) (h : UtHdr) : State :=
  s.setUte { s.ute with mct := s.ute.mct.filter fun e =>
    !(e.ctx = c && e.node = h.srcNode && e.srcCtx = h.srcCtx && e.complete && older 32 e.msn h.ackFloor) }
/-- Bits 0 to n of a bitmap are set. -/
def allSet (m : BitVec 64) (n : Nat) : Bool := (List.range (n + 1)).all fun i => m.getLsbD i
/-- The MCT check of R516: `again` answers an entry that is COMPLETE, `apply` applies the packet. -/
def State.withMct (s : State) (c : Nat) (p : UtPkt) (extra : Option Lat) (again : State → MctEntry → State) (apply : State → State) : State :=
  let h := p.hdr
  let s := s.mctFloor c h
  match s.mctFind c h with
  | some e =>
    if e.complete then again s e
    else if !e.atomic && e.data.getLsbD h.pkt then s.sendAck p.link h false (extra.map checkLat.add)
    else apply s
  | none =>
    if 16 ≤ (s.ute.mct.filter fun e => e.ctx = c).length then s.sendNackAfter p.link h 1 extra
    else apply (s.setUte { s.ute with mct := s.ute.mct ++
      [({ ctx := c, node := h.srcNode, srcCtx := h.srcCtx, msn := h.msn, data := 0, complete := false, atomic := h.op = 4 || h.op = 5,
          poison := false, berth := h.berth, bytes := 0, since := s.now } : MctEntry)] })

/-! ### Placement (R515) -/

/-- The bytes of a payload at a DLA that lie in a line, and their mask. -/
def sliceLine (dla : Nat) (bs : List Byte) (line : Nat) : Line × BitVec 64 :=
  let at_ := fun i => if dla ≤ 64 * line + i then bs[64 * line + i - dla]? else none
  let l := leNat ((List.range 64).map fun i => (at_ i).getD 0)
  let m := (List.range 64).foldl (fun m i => if (at_ i).isSome then m ||| (1#64 <<< i) else m) 0
  (BitVec.ofNat 512 l, m)
/-- Lines of a range. -/
def linesOf (dla len : Nat) : List Nat := if len = 0 then [] else (List.range ((dla + len - 1) / 64 + 1 - dla / 64)).map (dla / 64 + ·)
/-- Write bytes at a DLA as line stores of their region's class. -/
def State.placeBytes (s : State) (dla : Nat) (bs : List Byte) (pmask : BitVec 64) (o : Origin) : List IngressStore × State :=
  (linesOf dla bs.length).foldl (fun (a : List IngressStore × State) (line : Nat) =>
    match a.2.regionAt (line / 64) with
    | none => a
    | some i =>
      let n := a.2.newId
      let x := sliceLine dla bs line
      (a.1 ++ [n.2.ingressStore n.1 line x.1 x.2 i o (pmask.getLsbD (line - dla / 64))], n.2)) ([], s)
/-- The path of a packet's answer when its line `k` is the last to meet its condition: one line per CORE cycle, 23 cycles of landing for a V
line and 25 for another (R535). No rule counts a snoop filter's part in it. -/
def lineLat (extra : Lat) (cls : Dur) (k : Nat) : Lat :=
  Lat.add { eth := 224, ute := 42, core := 6 + k + (if cls = .v then 23 else 25), phiRx := 1, phiTx := 1 } extra
/-- A packet's line stores, each with its path. -/
def State.pathsOf (s : State) (extra : Option Lat) (sts : List IngressStore) : List IngressStore :=
  (List.range sts.length).zip sts |>.map fun x =>
    { x.2 with lat := if (s.region x.2.region).shr then none else extra.map fun f : Lat => lineLat f x.2.cls x.1 }
/-- The packet's lines have all met their acknowledgement point: the bitmap, the message, the ACK (R516, R517). -/
def State.placed (s : State) (pl : Placing) : State :=
  let lat := pl.lat
  match s.mctFind pl.ctx pl.hdr with
  | none => s.sendAck pl.link pl.hdr false lat
  | some e =>
    if e.atomic then
      let s := s.setMct pl.ctx pl.hdr fun e => { e with complete := true, since := s.now }
      s.atomicResp pl.link pl.hdr e.data false
    else
      let data := e.data ||| (1#64 <<< pl.pkt)
      let bytes := e.bytes + pl.hdr.len
      if !allSet data pl.hdr.npktM1 then
        (s.setMct pl.ctx pl.hdr fun e => { e with data := data, bytes := bytes }).sendAck pl.link pl.hdr false lat
      else
        let s := s.setMct pl.ctx pl.hdr fun e => { e with data := data, bytes := bytes, complete := true, since := s.now }
        let b := s.berth pl.ctx e.berth
        let s := if b.perm.getLsbD 3 then s.addCount pl.ctx else s
        let s := if b.perm.getLsbD 4 then s.dueRecord pl.ctx (recordBytes 0 0 0x81 (s.countOf pl.ctx) (BitVec.ofNat 64 bytes)) false else s
        s.sendAck pl.link pl.hdr true lat
/-- Take a packet's placing out once nothing is left of it. -/
def State.endPlacing (s : State) (pl : Placing) : State :=
  (s.setUte { s.ute with placing := s.ute.placing.filter fun x => x ≠ pl }).placed pl
/-- A packet that nothing is left of. -/
def State.placedOne (s : State) : Option Placing := s.ute.placing.find? fun pl => pl.left.isEmpty

/-- A WRITE past the context check. -/
def State.serveWrite (s : State) (p : UtPkt) (x : UtCtx) (extra : Option Lat) : State :=
  let h := p.hdr
  let c := h.dstCtx
  if s.inHold then s.sendNackAfter p.link h 1 extra else
  let s := s.expireBerth c h.berth
  let e := s.berthCheck p x
  if e ≠ 0 then s.sendNackAfter p.link h e extra else
  s.withMct c p extra (fun a _ => a.sendAck p.link h true (extra.map checkLat.add)) fun a =>
    let dla := (a.berth c h.berth).base + h.offset
    let w := a.placeBytes dla p.payload (if h.poison then h.pmask else 0) (.peer h.srcNode c h.msn h.pkt)
    let pl : Placing := ⟨c, h.srcNode, h.srcCtx, h.msn, h.pkt, w.1.map (·.id), h, p.link, a.now, some {}⟩
    let a := w.2.setUte { w.2.ute with placing := w.2.ute.placing ++ [pl] }
    let a := (a.pathsOf extra w.1).foldl State.placeLine a
    match a.placedOne with
    | some q => a.endPlacing q
    | none => a
/-- Begin a peer's operation and run its lines. The path of a READ of one line: its checks, the source read, the build (R535, R757); for the
data of more lines to be in the UTE no rule gives the time. -/
def State.beginOp (s : State) (p : UtPkt) (dla len : Nat) (atomic : Bool) (extra : Option Lat) : State :=
  let n := s.newId
  let ls := linesOf dla len
  let o : PeerOp := ⟨n.1, p.hdr.dstCtx, p.hdr, p.link, dla, atomic, BitVec.ofNat 64 (leNat (p.payload.take 8)),
    BitVec.ofNat 64 (leNat ((p.payload.drop 8).take 8)), ls, [],
    if atomic || ls.length ≠ 1 then none else extra.map (Lat.add { eth := 224, ute := 58, core := 28, phiRx := 1, phiTx := 1 })⟩
  let s := n.2.setUte { n.2.ute with ops := n.2.ute.ops ++ [o] }
  ls.foldl (fun a l => a.peerLine n.1 l) s
/-- A READ past the context check (R519, R757). -/
def State.serveUtRead (s : State) (p : UtPkt) (x : UtCtx) (extra : Option Lat) : State :=
  let h := p.hdr
  let s := s.expireBerth h.dstCtx h.berth
  let e := s.berthCheck p x
  if e ≠ 0 then s.sendNackAfter p.link h e extra
  else s.beginOp p ((s.berth h.dstCtx h.berth).base + h.offset) h.len false extra
/-- A FADD or CAS past the context check (R516, R518). -/
def State.serveAtomic (s : State) (p : UtPkt) (x : UtCtx) (extra : Option Lat) : State :=
  let h := p.hdr
  if s.inHold then s.sendNackAfter p.link h 1 extra else
  let s := s.expireBerth h.dstCtx h.berth
  let e := s.berthCheck p x
  if e ≠ 0 then s.sendNackAfter p.link h e extra else
  s.withMct h.dstCtx p extra (fun a e => a.atomicResp p.link h (if e.poison then 0 else e.data) e.poison) fun a =>
    if a.ute.ops.any (fun o => o.atomic && o.ctx = h.dstCtx && o.hdr.srcNode = h.srcNode && o.hdr.srcCtx = h.srcCtx && o.hdr.msn = h.msn) ||
        a.ute.placing.any (fun q => q.ctx = h.dstCtx && q.node = h.srcNode && q.srcCtx = h.srcCtx && q.msn = h.msn) then a
    else a.beginOp p ((a.berth h.dstCtx h.berth).base + h.offset) 8 true extra
/-- A FLUSH waits for every packet the context accepted before it (R520). -/
def State.serveFlush (s : State) (p : UtPkt) (_x : UtCtx) : State :=
  let c := p.hdr.dstCtx
  let before := (s.ute.placing.filter fun q => q.ctx = c).map fun q => (q.node, q.srcCtx, q.msn, q.pkt)
  let ops := (s.ute.ops.filter fun o => o.ctx = c && o.atomic).map (·.id)
  s.setUte { s.ute with flushes := s.ute.flushes ++ [⟨c, p.hdr, p.link, before, ops⟩] }
def State.flushReady (s : State) (f : FlushWait) : Bool :=
  !s.ute.placing.any (fun q => q.ctx = f.ctx && f.before.contains (q.node, q.srcCtx, q.msn, q.pkt)) &&
    !s.ute.ops.any fun o => f.ops.contains o.id
/-- UT_FLUSH_ANSWER: one ACK with COMPLETE (R520). -/
def State.flushAnswer (s : State) (c : Nat) : State :=
  match s.ute.flushes.find? fun f => f.ctx = c && s.flushReady f with
  | none => s
  | some f => (s.setUte { s.ute with flushes := s.ute.flushes.erase f }).sendAck f.link f.hdr true none

/-- A packet whose context's record is in the Yard. -/
def State.serveCtx (s : State) (p : UtPkt) (x : UtCtx) (extra : Option Lat) : State :=
  match p.hdr.op with
  | 1 => s.serveWrite p x extra
  | 2 => s.serveUtRead p x extra
  | 4 => s.serveAtomic p x extra
  | 5 => s.serveAtomic p x extra
  | 7 => s.serveFlush p x
  | _ => s
/-- A request packet of a context. -/
def State.utRequest (s : State) (p : UtPkt) (op : Nat) : State := s.utRx p op fun a => a.withCtx p (some {}) fun b x => b.serveCtx p x (some {})
/-- CONTEXT_FETCH_DONE: the record is installed, the parked packets resume in arrival order (R526). -/
def State.ctxFetched (s : State) (c : Nat) : State :=
  if !s.ute.fetching.contains c then s else
  let mine := s.ute.shed.filter fun x => x.pkt.hdr.dstCtx = c
  let s := s.setShed (s.ute.shed.filter fun x => x.pkt.hdr.dstCtx ≠ c)
  let s := (s.setUte { s.ute with fetching := s.ute.fetching.filter (· ≠ c) }).touchCtx c
  mine.foldl (fun (a : State) (x : Parked) => a.withCtx x.pkt x.extra fun b y => b.serveCtx x.pkt y x.extra) s

/-- The lines a READ has got, what a poisoned one holds a free value: the spec leaves it open. -/
def State.fillGot (s : State) : List (Nat × Option Line) → List (Nat × Option Line × Line) × State
  | [] => ([], s)
  | g :: gs =>
    let x := match g.2 with
      | some d => ((g.1, g.2, d), s)
      | none => let f := s.free (2 ^ 512); ((g.1, g.2, BitVec.ofNat 512 f.1), f.2)
    let r := x.2.fillGot gs
    (x.1 :: r.1, r.2)
/-- Bytes `off` to `off + n` of a READ's range, from its lines: data and poison mask. -/
def readSlice (o : PeerOp) (ls : List (Nat × Option Line × Line)) (off n : Nat) : List Byte × BitVec 64 :=
  let a := o.dla + off
  let line := fun l => ls.find? fun g => g.1 = l
  let bytes := (List.range n).map fun i => match line ((a + i) / 64) with | some g => lineByte g.2.2 ((a + i) % 64) | none => 0
  let bad := (linesOf a n).filter fun l => match line l with | some g => g.2.1.isNone | none => true
  (bytes, bad.foldl (fun m l => m ||| (1#64 <<< (l - a / 64))) 0)
/-- One READ_RESP. -/
def State.readResp (s : State) (o : PeerOp) (ls : List (Nat × Option Line × Line)) (off n : Nat) : State :=
  let x := readSlice o ls off n
  let r := s.answerHdr o.hdr 0x03
  r.2.utSend o.link { r.1 with offset := o.hdr.offset + off, len := n, poison := x.2 ≠ 0, pmask := x.2 } x.1 o.lat
/-- The READ_RESPs of a READ whose lines are all at hand, in ascending OFFSET; one of 8,192 B with poison goes in two (R500, R757). -/
def State.readDone (s : State) (o : PeerOp) : State :=
  let P := s.utMax
  let f := (s.dropOp o.id).fillGot o.got
  let s := f.2
  (List.range ((o.hdr.len + P - 1) / P)).foldl (fun a i =>
    let n := min P (o.hdr.len - i * P)
    if 4096 < n && (readSlice o f.1 (i * P) n).2 ≠ 0 then (a.readResp o f.1 (i * P) 4096).readResp o f.1 (i * P + 4096) (n - 4096)
    else a.readResp o f.1 (i * P) n) s
/-- MCT_HOLD_EXPIRY (R516); the buffer of an abandoned command message goes with its entry. -/
def State.mctExpire (s : State) (c node srcCtx msn : Nat) : State :=
  match s.ute.mct.find? fun e => e.ctx = c && e.node = node && e.srcCtx = srcCtx && e.msn = msn with
  | none => s
  | some e =>
    if s.now - e.since < s.mctHold then s else
    (s.setUte { s.ute with mct := s.ute.mct.erase e,
                           cmds := s.ute.cmds.filter fun x => !(c = 0 && x.node = node && x.srcCtx = srcCtx && x.msn = msn) }).countSlots
/-- A PROBE is answered whatever context it names (R502). -/
def State.utProbe (s : State) (p : UtPkt) : State := s.utRx p 0x0A fun a => a.sendAck p.link p.hdr false (some checkLat)

/-! ### The twin's context (R502, R530 to R533, R536) -/

/-- Context 1 is open while the twin unit may use it: PAIRED, HOLD and the wait for the twin at start-up. -/
def State.twinCtxOpen (s : State) : Bool := s.paired2 && (s.isPaired || s.inHold || s.clk.joining)
/-- Packets of context 1. -/
def State.twinRx (s : State) (p : UtPkt) (op : Nat) (k : State → State) : State :=
  s.utRx p op fun a => if p.hdr.dstCtx = 1 && a.twinCtxOpen then k a else if op = 0x11 || op = 0x14 then a else a.sendNack p.link p.hdr 7
/-- A MIRROR_CTL of a kind: kinds 1 to 3 take their place in the stream, kinds 4 to 8 are applied and answered (R532). -/
def State.utCtl (s : State) (p : UtPkt) (kind : Nat) : State :=
  s.twinRx p 0x12 fun a =>
    if ctlKind p ≠ kind then a
    else if kind ≤ 3 then a.noteIn p.payload
    else (a.applyCtl p.payload).sendAck p.link p.hdr false none
/-- A sample of w from an answer of the twin (R534). -/
def State.twinSample (s : State) (p : UtPkt) : State :=
  if p.hdr.srcNode = Config.twinNode % 65536 && p.payload.length ≤ 384 then
    s.sampleW ((s.uteTime + 2 ^ 33 - p.hdr.echoTime - p.hdr.residence) % 2 ^ 32)
  else s
/-- UT_FWD_REQ: a store is applied once through its MCT entry (R516, R533). -/
def State.utFwdReq (s : State) (p : UtPkt) : State :=
  s.twinRx p 0x13 fun a =>
    let f := fun off n => leNat ((p.payload.drop off).take n)
    let line := f 8 8 / 64
    if f 0 1 = 1 then a.runFwd a.now (f 4 4) line (f 2 2) ((f 1 1).testBit 1) ((f 1 1).testBit 2)
    else
      let h := { hdrOf 0x14 1 with msn := f 4 4 }
      let answer := fun (b : State) kind => b.twinSend { h with len := 16 } (fwdRespBytes kind (f 4 4) false none) none
      match a.regionAt (line / 64) with
      | none => answer a 3
      | some i =>
        let rg := a.region i
        if !(rg.served && rg.dur = .m && (a.servesStore rg || a.handed rg.rset)) then answer a 3 else
        match a.mctFind 1 p.hdr with
        | some e => if e.complete then answer a 2 else a
        | none =>
          let e : MctEntry := { ctx := 1, node := p.hdr.srcNode, srcCtx := p.hdr.srcCtx, msn := p.hdr.msn, data := 0, complete := false,
                                atomic := false, poison := false, berth := 0, bytes := f 4 4, since := a.now }
          let n := (a.setUte { a.ute with mct := a.ute.mct ++ [e] }).newId
          n.2.placeLine (n.2.ingressStore n.1 line (BitVec.ofNat 512 (f 32 64)) (BitVec.ofNat 64 (f 16 8)) i (.forwarded (f 4 4))
            ((f 1 1).testBit 0))
/-- A forwarded store has been acknowledged: its entry is COMPLETE and the twin is answered (12 R446, R448). -/
def State.fwdAcked (s : State) (tag : Nat) : State :=
  let s := { s with pers := { s.pers with fwdAcks := s.pers.fwdAcks.erase tag } }
  let g := fun e : MctEntry => if e.ctx = 1 && e.bytes = tag && !e.complete then { e with complete := true, since := s.now } else e
  let s := s.setUte { s.ute with mct := s.ute.mct.map g }
  s.twinSend { hdrOf 0x14 1 with msn := tag, len := 16 } (fwdRespBytes 2 tag false none) none

/-! ### Command packets (R502; 14 R758) -/

/-- A command packet in a CMD message's bytes: opcode and packet. -/
def cmdOf (node ctx : Nat) (bytes : List Byte) : Nat × Cmd :=
  let f := fun off n => leNat ((bytes.drop off).take n)
  (f 2 2, { carrier := .ut node ctx, byteCount := bytes.length, ver := BitVec.ofNat 8 (f 0 1), flags := BitVec.ofNat 8 (f 1 1),
            tag := BitVec.ofNat 32 (f 4 4), token := BitVec.ofNat 64 (f 8 8), len := f 16 4, reserved := BitVec.ofNat 64 (f 20 8),
            crc := BitVec.ofNat 32 (f 28 4), payload := bytes.drop 32 })
/-- Is a source a destination whose MGMT flag is set (R502)? -/
def State.mgmtNode (s : State) (node : Nat) : Bool :=
  s.ute.dests.any fun kv => match kv.2 with | some d => d.node = node && d.mgmt | none => false
/-- A CMD packet: taken into a slot's buffer, answered by an ACK; a whole message yields its command (14 R758). -/
def State.utCmd (s : State) (p : UtPkt) (run : State → Nat → Cmd → State) : State :=
  s.utRx p 0x20 fun a =>
    let h := p.hdr
    if h.dstCtx ≠ 0 || !a.mgmtNode h.srcNode then a.sendNack p.link h 7
    else if (a.mctFind 0 h).isNone && a.noSlot (.ut h.srcNode h.srcCtx) then a.sendNack p.link h 1
    else a.withMct 0 p (some {}) (fun b _ => b.sendAck p.link h true (some checkLat)) fun b =>
      let buf := fun x : CmdBuf => x.node = h.srcNode && x.srcCtx = h.srcCtx && x.msn = h.msn
      let old := (b.ute.cmds.find? buf).getD ⟨h.srcNode, h.srcCtx, h.msn, [], 0⟩
      let new := { old with bytes := memPutBytes old.bytes h.offset p.payload, len := max old.len (h.offset + p.payload.length) }
      let data := (match b.mctFind 0 h with | some e => e.data | none => 0) ||| (1#64 <<< h.pkt)
      let rest := b.ute.cmds.filter fun x => !buf x
      if !allSet data h.npktM1 then
        ((b.setMct 0 h fun e => { e with data := data }).setUte { (b.setMct 0 h fun e => { e with data := data }).ute with cmds := rest ++ [new] }).countSlots.sendAck
          p.link h false none
      else
        let b := b.setMct 0 h fun e => { e with data := data, complete := true, since := b.now }
        let b := (b.setUte { b.ute with cmds := rest }).countSlots.sendAck p.link h true none
        let x := cmdOf h.srcNode h.srcCtx (memBytes new.bytes 0 new.len)
        run b x.1 x.2

end Sys2Proof.Machine
end

