-- ==== Sys2Proof/Machine/UteTx.lean ====
section
/-! DEFINITION. The sending side of the UT engine: descriptors, messages, paths, congestion control, completions, doorbells, contexts and their commands (13_umond_transport.md R496, R502 to R510, R521 to R525, R537; 14 R558 group 0x03). -/
namespace Sys2Proof.Machine

/-! ### Destinations and paths (R496, R497, R524, R525) -/

def State.dest (s : State) (d : Nat) : Option Dest := sget none s.ute.dests d
/-- Enabled local links of a destination. -/
def Dest.linkList (d : Dest) : List Nat := (List.range 4).filter fun l => d.links.getLsbD l
/-- Remote address of path p (R496). -/
def Dest.remote (d : Dest) (p : Nat) : Option Nat := d.addrs[p % max 1 d.addrs.length]?
/-- Link of path p. -/
def Dest.link (d : Dest) (p : Nat) : Nat := d.linkList.getD (p % max 1 d.linkList.length) 0
def State.wInit (s : State) : Nat := 4096 * max 1 (min 0x40 (s.fget F.UTE_CC_CTRL_WINIT))
def State.wMin (s : State) : Nat := 68 + s.utMax
def ccMax : Nat := 2 ^ 20
def destMax : Nat := 2 ^ 23
/-- LOW, HIGH in UTE cycles (250 ns are 375), and STEP in bytes (R538). -/
def State.ccLow (s : State) : Nat := max 1 (s.fget F.UTE_CC_CTRL_LOW)
def State.ccHigh (s : State) : Nat := max (s.ccLow + 1) (s.fget F.UTE_CC_CTRL_HIGH)
def State.ccStep (s : State) : Nat := 256 * max 1 (s.fget F.UTE_CC_CTRL_STEP)
/-- A path at cache fill (R525). -/
def State.newPath (s : State) : PathState := ⟨s.wInit, none, none, 0, s.uteTime, 0, false, 0⟩
def DestState.path (x : DestState) (s : State) (p : Nat) : PathState := sget s.newPath x.paths p
/-- The cached state of a destination, first in the least-recently-used order; 8,192 are kept (R497). -/
def State.cacheDest (s : State) (d : Nat) : DestState × State :=
  match s.ute.cache.find? fun x => x.dest = d with
  | some x => (x, s.setUte { s.ute with cache := x :: s.ute.cache.filter fun y => y.dest ≠ d })
  | none =>
    let n := match s.dest d with | some e => e.npath | none => 1
    let x : DestState := ⟨d, none, none, s.now, (List.range n).map fun p => (p, s.newPath), n - 1⟩
    (x, s.setUte { s.ute with cache := (x :: s.ute.cache).take 8192 })
def State.setDestState (s : State) (x : DestState) : State :=
  s.setUte { s.ute with cache := s.ute.cache.map fun y => if y.dest = x.dest then x else y }
def State.setPath (s : State) (d p : Nat) (f : PathState → PathState) : State :=
  let r := s.cacheDest d
  r.2.setDestState { r.1 with paths := (r.1.paths.filter fun kv => kv.1 ≠ p) ++ [(p, f (r.1.path s p))] }
/-- Is a path down: marked, or its link is not up? -/
def State.pathDown (s : State) (x : DestState) (e : Dest) (p : Nat) : Bool :=
  (x.path s p).down || s.fget (F.UTE_LINK_STATUS_STATE (e.link p)) ≠ 3
/-- Paths of a destination after the last used, in turn. -/
def turn (n last : Nat) : List Nat := (List.range n).map fun i => (last + 1 + i) % n
/-- The path a packet of `bytes` takes: the first after the last used whose window and the destination limit allow it, other than
`avoid` where there is another; with every path down, the next in turn (R521, R524, R525). -/
def State.choosePath (s : State) (d bytes : Nat) (avoid : Option Nat) : Option Nat × State :=
  match s.dest d with
  | none => (none, s)
  | some e =>
    let r := s.cacheDest d
    let x := r.1
    let s := r.2
    if e.linkList.isEmpty then (none, s) else
    let ps := turn e.npath x.lastPath
    let up := ps.filter fun p => !s.pathDown x e p
    if up.isEmpty then
      ((ps.find? fun p => some p ≠ avoid || e.npath = 1), s)
    else
      let total := (x.paths.map fun kv => kv.2.inflight).sum
      let cand := if (up.filter fun p => some p ≠ avoid).isEmpty then up else up.filter fun p => some p ≠ avoid
      ((cand.find? fun p => (x.path s p).inflight + bytes ≤ (x.path s p).w && total + bytes ≤ destMax), s)
/-- An answer to a packet of a path: RTT, base, smoothed RTT, and at a round's end the window (R525). -/
def State.ccAnswer (s : State) (d p : Nat) (h : UtHdr) : State :=
  let now := s.uteTime
  let rtt := (now + 2 ^ 33 - h.echoTime - (if h.op = 9 && h.code = 1 then 0 else h.residence)) % 2 ^ 32
  let r := s.cacheDest d
  let x := r.1
  let s := r.2
  let turn10 := sec 10 ≤ s.now - x.nextSince
  let base := match x.base with
    | none => rtt
    | some b => min (if turn10 then x.next.getD b else b) rtt
  let next := if turn10 then some rtt else some (match x.next with | some n => min n rtt | none => rtt)
  let s := s.setDestState { x with base := some base, next := next, nextSince := if turn10 then s.now else x.nextSince }
  s.setPath d p fun y =>
    let srtt := match y.srtt with | none => rtt | some v => ((8 * v + rtt) - v) / 8
    let q := match y.qmin with | none => rtt - base | some m => min m (rtt - base)
    let y := { y with srtt := some srtt, qmin := some q, timeouts := 0 }
    if older 32 h.echoTime y.round then y else
    let low := 375 * s.ccLow
    let high := 375 * s.ccHigh
    let w := if q ≤ low then min (y.w + s.ccStep) ccMax
      else if high ≤ q then max (y.w - y.w * min 8 (1 + (q - high) / low) / 16) s.wMin
      else if y.qlast < q then max (y.w - y.w / 16) s.wMin
      else y.w
    { y with w := w, qlast := q, qmin := none, round := now }
/-- A timeout of a packet of a path; the third in a row marks the path down (R524, R525). -/
def State.ccTimeout (s : State) (d p : Nat) : State :=
  let was := ((s.cacheDest d).1.path s p).down
  let n := ((s.cacheDest d).1.path s p).timeouts + 1
  let s := s.setPath d p fun y => { y with w := s.wMin, qmin := none, round := s.uteTime, timeouts := n, down := y.down || 3 ≤ n }
  if 3 ≤ n && !was then s.raise 104 else s
/-- Retransmission timeout of a packet in CORE cycles (R522). -/
def State.rto (s : State) (d p sends : Nat) : Nat :=
  let base := max (us (max 8 (s.fget F.UTE_RETX_CTRL_MIN_RTO))) (3 * (((s.cacheDest d).1.path s p).srtt.getD 0) * 4 / 3)
  base * 2 ^ (sends - 1)

/-! ### Completions (R507 to R509, R517, 16 R619) -/

/-- WAITs whose target COUNT has been reached complete; each completion may satisfy others (R508). -/
def State.waitLoop (s : State) : Nat → State
  | 0 => s
  | k + 1 =>
    match s.ute.waits.find? fun w => let c := s.countOf w.watched; c = w.target || newer 32 c w.target with
    | none => s.fset F.UTE_STATUS_WAITS s.ute.waits.length
    | some w =>
      let s := (s.setUte { s.ute with waits := s.ute.waits.filter fun v => v ≠ w }).addCount w.ctx
      let s := if w.flags.getLsbD 1 then s
        else s.dueRecord w.ctx (recordBytes w.user 0 6 (s.countOf w.ctx) 0) (w.flags.getLsbD 2)
      s.waitLoop k
def State.runWaits (s : State) : State := s.waitLoop (s.ute.waits.length + 1)
/-- A descriptor completes: COUNT, its record unless NO_CQE asks for errors only, its notification (R507). -/
def State.completeDesc (s : State) (c op : Nat) (flags : BitVec 8) (user : BitVec 64) (status : Nat) (result : BitVec 64)
    (always : Bool) : State :=
  let s := s.addCount c
  let s := if always || status ≠ 0 || !flags.getLsbD 1 then
      s.dueRecord c (recordBytes user status op (s.countOf c) result) (flags.getLsbD 2)
    else s
  s.runWaits
/-- Notification of a context (16 R619). -/
def State.notify (s : State) (c : Nat) : State :=
  match s.ctx c with
  | none => s
  | some x =>
    match x.owner with
    | .ld n => if s.bit (F.ICU_HOST_UTVEC_EN n) then s.emit (.msix n (s.fget (F.ICU_HOST_UTVEC_VECTOR n))) else s
    | .firmware => s.raise 117
    | _ => s
/-- The next due record enters its completion queue, if the queue has room (R507). -/
def State.writeDue (s : State) (d : DueRecord) : State :=
  let rest := s.ute.due.erase d
  match s.ctx d.ctx with
  | none => s.setUte { s.ute with due := rest }
  | some x =>
    let s := s.setUte { s.ute with due := rest }
    let s := s.setCtx d.ctx (some { x with cqProd := (x.cqProd + 1) % 2 ^ 32, countRec := leNat ((d.bytes.drop 12).take 4) })
    let w := s.placeBytes (x.cqBase + 32 * (x.cqProd % x.cqN)) d.bytes 0 (.internal .c3)
    let s := w.1.foldl State.placeLine w.2
    if d.notify then s.notify d.ctx else s
def State.dueReady (s : State) (d : DueRecord) : Bool :=
  match s.ctx d.ctx with
  | none => true
  | some x => (x.cqProd + 2 ^ 32 - x.cqCons) % 2 ^ 32 < x.cqN

/-! ### Messages (R506, R522, R523) -/

/-- Messages outstanding of a context. -/
def State.outstanding (s : State) (c : Nat) : Nat := (s.ute.msgs.filter fun m => m.ctx = c).length
/-- Packets and bytes of a message. -/
def pktCount (len unit : Nat) : Nat := max 1 ((len + unit - 1) / unit)
/-- Add one message of a descriptor. -/
def State.addMsg (s : State) (d : DescRun) (unit len : Nat) : State :=
  match s.ctx d.ctx with
  | none => s
  | some x =>
    let n := if d.op = 1 || d.op = 2 then pktCount len unit else 1
    let m : MsgRun := { ctx := d.ctx, msn := x.nextMsn, dest := d.dest, dstCtx := d.dstCtx, op := d.op, berth := d.berth, gen := d.gen,
                        npkt := n, unit := unit, done := 0, complete := false, remote := d.remote + d.split, local_ := d.local_ + d.split,
                        len := len, opnd1 := d.opnd1, opnd2 := d.opnd2, got := [], poisoned := false, first := none }
    let tx := (List.range n).map fun k =>
      ({ ctx := d.ctx, msn := x.nextMsn, pkt := k, dest := d.dest, path := 0, bytes := 0, sends := 0, sentAt := 0, inflight := false,
         retryAt := none } : TxPkt)
    let d' := { d with left := d.left ++ [x.nextMsn], split := d.split + len }
    let s := s.setCtx d.ctx (some { x with nextMsn := (x.nextMsn + 1) % 2 ^ 32 })
    s.setUte { s.ute with msgs := s.ute.msgs ++ [m], tx := s.ute.tx ++ tx,
                          descs := s.ute.descs.map fun y => if y.ctx = d.ctx && y.index = d.index then d' else y }
/-- Messages a descriptor still has to start. -/
def DescRun.todo (d : DescRun) (unit : Nat) : Nat := if d.op = 1 || d.op = 2 then (d.len - d.split + 64 * unit - 1) / (64 * unit) else 0
/-- Bytes of a full packet of a descriptor: a WRITE of poisoned lines sends no more than 4,096 B in one (R500). -/
def State.unitOf (s : State) (op dla len : Nat) : Nat :=
  if op = 1 && (linesOf dla len).any s.poisonNow then 4096 else s.utMax
/-- Start messages while the limits of R506 allow. -/
def State.splitLoop (s : State) (c index : Nat) : Nat → State
  | 0 => s
  | k + 1 =>
    match s.ute.descs.find? fun d => d.ctx = c && d.index = index with
    | none => s
    | some d =>
      let u := s.unitOf d.op d.local_ d.len
      if d.todo u = 0 || 256 ≤ s.outstanding c || 16384 ≤ s.ute.msgs.length then s
      else (s.addMsg d u (min (64 * u) (d.len - d.split))).splitLoop c index k
/-- Give back a packet's bytes in flight. -/
def State.landTx (s : State) (t : TxPkt) : State :=
  if t.inflight then s.setPath t.dest t.path fun y => { y with inflight := y.inflight - t.bytes } else s
/-- A message ends with a status: its packets go; its descriptor completes with its last message or its first failure (R506, R522,
R523). -/
def State.endMsg (s : State) (m : MsgRun) (status : Nat) (result : BitVec 64) : State :=
  let mine := fun t : TxPkt => t.ctx = m.ctx && t.msn = m.msn
  let s := (s.ute.tx.filter mine).foldl State.landTx s
  let s := s.setUte { s.ute with tx := s.ute.tx.filter (fun t => !mine t),
                                 msgs := s.ute.msgs.filter fun x => !(x.ctx = m.ctx && x.msn = m.msn) }
  match s.ute.descs.find? fun d => d.ctx = m.ctx && d.left.contains m.msn with
  | none => s
  | some d =>
    let d' := { d with left := d.left.filter (· ≠ m.msn), poisoned := d.poisoned || m.poisoned,
                       result := if d.op = 2 then d.result + BitVec.ofNat 64 m.len else result }
    let s := s.setUte { s.ute with descs := s.ute.descs.map fun y => if y = d then d' else y }
    if status ≠ 0 then
      -- the rest of a failed descriptor ends with it
      let rest := s.ute.msgs.filter fun x => x.ctx = m.ctx && d'.left.contains x.msn
      let gone := fun t : TxPkt => t.ctx = m.ctx && d'.left.contains t.msn
      let s := (s.ute.tx.filter gone).foldl State.landTx s
      let s := s.setUte { s.ute with tx := s.ute.tx.filter (fun t => !gone t), msgs := s.ute.msgs.filter (fun x => !rest.contains x),
                                     descs := s.ute.descs.filter fun y => !(y.ctx = d'.ctx && y.index = d'.index) }
      s.completeDesc d.ctx d.op d.flags d.user status (if d.op = 2 then d.result else 0) false
    else
      let s := s.splitLoop d.ctx d.index 256
      let u := s.unitOf d.op d.local_ d.len
      match s.ute.descs.find? fun y => y.ctx = d.ctx && y.index = d.index with
      | none => s
      | some y =>
        if !y.left.isEmpty || y.todo u ≠ 0 then s else
        let s := s.setUte { s.ute with descs := s.ute.descs.filter fun z => z ≠ y }
        s.completeDesc d.ctx d.op d.flags d.user (if y.poisoned then 9 else 0) y.result false
/-- The UTE abandons a message (R522). -/
def State.abandon (s : State) (m : MsgRun) : State := ((s.bumpUte 6).raise 107).endMsg m 7 0
def State.msg (s : State) (c msn : Nat) : Option MsgRun := s.ute.msgs.find? fun m => m.ctx = c && m.msn = msn
def State.txOf (s : State) (c msn pkt : Nat) : Option TxPkt := s.ute.tx.find? fun t => t.ctx = c && t.msn = msn && t.pkt = pkt
def State.setTx (s : State) (t : TxPkt) : State :=
  s.setUte { s.ute with tx := s.ute.tx.map fun x => if x.ctx = t.ctx && x.msn = t.msn && x.pkt = t.pkt then t else x }
def State.setMsg (s : State) (m : MsgRun) : State :=
  s.setUte { s.ute with msgs := s.ute.msgs.map fun x => if x.ctx = m.ctx && x.msn = m.msn then m else x }
/-- A packet has its answer. -/
def State.doneTx (s : State) (t : TxPkt) : State :=
  let s := s.landTx t
  s.setUte { s.ute with tx := s.ute.tx.filter fun x => !(x.ctx = t.ctx && x.msn = t.msn && x.pkt = t.pkt) }
/-- Are all packets of a message answered? -/
def State.allDone (s : State) (m : MsgRun) : Bool := !s.ute.tx.any fun t => t.ctx = m.ctx && t.msn = m.msn

/-! ### Sending (R499, R521, R525) -/

/-- Oldest message of a context that is not finished (R499). -/
def State.ackFloorOf (s : State) (c : Nat) : Nat :=
  match s.ctx c with
  | none => 0
  | some x => (s.ute.msgs.filter fun m => m.ctx = c).foldl (fun a m => if older 32 m.msn a then m.msn else a) x.nextMsn
/-- The lines of a range as they are read now: what a poisoned one holds the spec leaves open, so its bytes are free values. -/
def State.readLines (s : State) : List Nat → List (Nat × Line × Bool) × State
  | [] => ([], s)
  | l :: ls =>
    let x := if s.poisonNow l then let f := s.free (2 ^ 512); ((l, BitVec.ofNat 512 f.1, true), f.2) else ((l, s.lineNow l, false), s)
    let r := x.2.readLines ls
    (x.1 :: r.1, r.2)
/-- Bytes of a range from its lines, and the mask of its poisoned lines. -/
def bytesOf (ls : List (Nat × Line × Bool)) (a n : Nat) : List Byte × BitVec 64 :=
  ((List.range n).map fun i => match ls.find? fun x => x.1 = (a + i) / 64 with | some x => lineByte x.2.1 ((a + i) % 64) | none => 0,
   (ls.filter fun x => x.2.2).foldl (fun k x => k ||| (1#64 <<< (x.1 - a / 64))) 0#64)
/-- Header and payload of a packet of a message, from the lines of its source. -/
def State.txPacket (s : State) (m : MsgRun) (t : TxPkt) (node : Nat) (ls : List (Nat × Line × Bool)) : UtHdr × List Byte :=
  let off := t.pkt * m.unit
  let n := min m.unit (m.len - off)
  let op := match m.op with | 1 => 1 | 2 => 2 | 3 => 4 | 4 => 5 | _ => 7
  let h := { hdrOf op 3 with srcCtx := m.ctx, dstNode := node, dstCtx := m.dstCtx, msn := m.msn, pkt := t.pkt, npktM1 := m.npkt - 1,
                             berth := m.berth, gen := m.gen, ackFloor := s.ackFloorOf m.ctx, retx := t.sends ≠ 0 }
  match m.op with
  | 1 =>
    let x := bytesOf ls (m.local_ + off) n
    ({ h with offset := m.remote + off, len := n, poison := x.2 ≠ 0, pmask := x.2 }, x.1)
  | 2 => ({ h with offset := m.remote + off, len := n }, [])
  | 3 => ({ h with offset := m.remote, len := 8 }, natBytes 8 m.opnd1.toNat)
  | 4 => ({ h with offset := m.remote, len := 16 }, natBytes 8 m.opnd1.toNat ++ natBytes 8 m.opnd2.toNat)
  | _ => (h, [])
/-- Send a packet on a path. -/
def State.emitTx (s : State) (m : MsgRun) (t : TxPkt) (p : Nat) : State :=
  match s.dest m.dest with
  | none => s
  | some e =>
    let src := if m.op = 1 then linesOf (m.local_ + t.pkt * m.unit) (min m.unit (m.len - t.pkt * m.unit)) else []
    let ls := s.readLines src
    let s := ls.2
    let x := s.txPacket m t e.node ls.1
    let bytes := 68 + x.2.length
    let s := s.setMsg { m with first := match m.first with | some v => some v | none => some s.now }
    let s := s.setTx { t with path := p, bytes := bytes, sends := t.sends + 1, sentAt := s.now, inflight := true, retryAt := none }
    let s := s.setPath m.dest p fun y => { y with inflight := y.inflight + bytes }
    let r := s.cacheDest m.dest
    let s := r.2.setDestState { r.1 with lastPath := p }
    let s := if t.sends = 0 then s else s.bumpUte 0
    s.utSend (e.link p) { x.1 with path := p } x.2 none (e.remote p)
/-- Does the engine send now? Not on its way into or out of STANDBY (06 R234). -/
def State.uteSends (s : State) : Bool := s.running && (s.clk.move = .none || s.clk.move = .draining)
/-- PACKET_SEND: on the first path whose window and the destination limit allow it (R521, R525). -/
def State.packetSend (s : State) (c msn pkt : Nat) : State :=
  match s.msg c msn, s.txOf c msn pkt with
  | some m, some t =>
    if !s.uteSends || t.inflight || t.retryAt.isSome then s else
    let n := (s.txPacket m t 0 []).2.length + 68
    let r := s.choosePath m.dest n (if t.sends = 0 then none else some t.path)
    match r.1 with
    | some p => r.2.emitTx m t p
    | none => r.2
  | _, _ => s
/-- RETX_TIMEOUT: sent again on another path, or abandoned (R521, R522, R524). Context 1's packets are named by their place in the
list of packets kept. -/
def State.retxTimeout (s : State) (c msn pkt : Nat) : State :=
  if c = 1 then (if s.isPaired && s.running then s.mirrorResend pkt else s) else
  match s.msg c msn, s.txOf c msn pkt with
  | some m, some t =>
    if !t.inflight || s.now - t.sentAt < s.rto t.dest t.path t.sends then s else
    let s := (s.landTx t).ccTimeout t.dest t.path
    if s.fget F.UTE_RETX_CTRL_MAX < t.sends then s.abandon m
    else (s.setTx { t with inflight := false }).packetSend c msn pkt
  | _, _ => s
/-- MESSAGE_LIFE_EXPIRY (R513, R522). -/
def State.lifeExpiry (s : State) (c msn : Nat) : State :=
  match s.msg c msn with
  | none => s
  | some m => match m.first with
    | none => s
    | some t => if s.now - t < s.msgLife then s else s.abandon m
/-- RETRY_RESEND: on the same path (R523). -/
def State.retryResend (s : State) (c msn pkt : Nat) : State :=
  match s.msg c msn, s.txOf c msn pkt with
  | some m, some t =>
    match t.retryAt with
    | none => s
    | some w => if s.now < w || !s.uteSends then s else s.emitTx m t t.path
  | _, _ => s
/-- PATH_PROBE_TIMER: a PROBE on every down path whose link is up (R524). -/
def State.probeTick (s : State) : State :=
  if !s.uteSends then s else
  s.ute.cache.foldl (fun a x =>
    match a.dest x.dest with
    | none => a
    | some e =>
      ((List.range e.npath).filter fun p => (x.path a p).down && a.fget (F.UTE_LINK_STATUS_STATE (e.link p)) = 3).foldl
        (fun b p => b.utSend (e.link p) { hdrOf 0x0A 1 with dstNode := e.node, path := p, msn := x.dest } [] none (e.remote p)) a) s

/-! ### Answers (R523) -/

/-- The answer to a packet in flight: congestion control first. -/
def State.answered (s : State) (h : UtHdr) (k : State → MsgRun → TxPkt → State) : State :=
  match s.msg h.dstCtx h.msn, s.txOf h.dstCtx h.msn h.pkt with
  | some m, some t => if t.sends = 0 then s else k (s.ccAnswer t.dest t.path h) m t
  | _, _ => s
/-- The first ACK of a PROBE returns its path to service (R524): the ACK returns the probe's PATH and MSN. -/
def State.probeAck (s : State) (h : UtHdr) : State :=
  match s.ute.cache.find? fun x => x.dest = h.msn && (match s.dest x.dest with | some e => e.node = h.srcNode | none => false) with
  | none => s
  | some x => if (x.path s h.path).down then s.setPath x.dest h.path fun y => { y with down := false, timeouts := 0 } else s
/-- UT_ACK. -/
def State.utAck (s : State) (p : UtPkt) : State :=
  s.utRx p 0x08 fun a =>
    let h := p.hdr
    if h.dstCtx = 1 then (a.twinSample p).ctlAck h.echoTime
    else if h.dstCtx = 0 then a.probeAck h
    else a.answered h fun b m t =>
      let b := b.doneTx t
      let m := { m with complete := m.complete || h.complete }
      let b := b.setMsg m
      if m.complete && b.allDone m then b.endMsg m 0 0 else b
/-- UT_NACK. -/
def State.utNack (s : State) (p : UtPkt) : State :=
  s.utRx p 0x09 fun a =>
    let h := p.hdr
    a.answered h fun b m t =>
      match h.code with
      | 1 => (b.landTx t).setTx { t with inflight := false, retryAt := some (b.now + us h.residence) }
      | 2 => b.endMsg m 1 0
      | 3 => b.endMsg m 2 0
      | 4 => b.endMsg m 3 0
      | 5 => b.endMsg m 4 0
      | 6 => b.endMsg m 5 0
      | 7 => b.endMsg m 6 0
      | _ => b
/-- Write data of a READ or an atomic at its local address. -/
def State.placeLocal (s : State) (dla : Nat) (bs : List Byte) (pmask : BitVec 64) : State :=
  let w := s.placeBytes dla bs pmask (.internal .c3)
  w.1.foldl State.placeLine w.2
/-- UT_READ_RESP: placed by its OFFSET; data already received are discarded (R523, R757). -/
def State.utReadResp (s : State) (p : UtPkt) : State :=
  s.utRx p 0x03 fun a =>
    let h := p.hdr
    a.answered h fun b m t =>
      let off := h.offset - m.remote
      if m.op ≠ 2 || h.offset < m.remote || m.len < off + h.len || m.got.any (fun g => g.1 = off) then b else
      let b := b.placeLocal (m.local_ + off) p.payload (if h.poison then h.pmask else 0)
      let m := { m with got := m.got ++ [(off, h.len)], poisoned := m.poisoned || (h.poison && h.pmask ≠ 0) }
      let b := b.setMsg m
      let lo := t.pkt * m.unit
      let need := min m.unit (m.len - lo)
      let have_ := ((m.got.filter fun g => lo ≤ g.1 && g.1 < lo + m.unit).map (·.2)).sum
      if have_ < need then b else
      let b := b.doneTx t
      if b.allDone m then b.endMsg m 0 0 else b
/-- UT_ATOMIC_RESP: the old value goes to LOCAL_DLA; a poisoned answer writes nothing (R518). -/
def State.utAtomicResp (s : State) (p : UtPkt) : State :=
  s.utRx p 0x06 fun a =>
    a.answered p.hdr fun b m t =>
      if m.op ≠ 3 && m.op ≠ 4 then b else
      if p.hdr.poison then (b.doneTx t).endMsg m 9 0
      else ((b.placeLocal m.local_ p.payload 0).doneTx t).endMsg m 0 (BitVec.ofNat 64 (leNat p.payload))

/-! ### Descriptors (R505 to R509, R520) -/

/-- The next descriptor of a queue, as bytes. -/
def State.descAt (s : State) (x : UtCtx) : List Byte := natBytes 64 (s.lineNow (x.sqBase / 64 + x.sqCons % x.sqN)).toNat
/-- Status of a descriptor that completes as it starts: 0, BAD_DESC or UNMAPPED (R509). -/
def State.descFault (s : State) (x : UtCtx) (b : List Byte) : Nat :=
  let f := fun off n => leNat ((b.drop off).take n)
  let op := f 0 1
  let len := f 12 4
  let dla := f 24 8
  let bad := op = 0 || 6 < op || 8 ≤ f 1 1 || f 7 1 ≠ 0 || f 56 8 ≠ 0 || ((op = 1 || op = 2) && len = 0) ||
    (op ≠ 6 && (s.dest (f 2 2)).isNone) || ((op = 3 || op = 4) && dla % 8 ≠ 0) ||
    (op = 6 && match s.ctx (f 32 2) with | some y => y.owner ≠ x.owner | none => true)
  let n := if op = 1 || op = 2 then len else if op = 3 || op = 4 then 8 else 0
  if bad then 10 else if n ≠ 0 && !s.servedTo x.owner dla n then 5 else 0
/-- Does a queue wait at a WAIT (R508)? -/
def State.blocked (s : State) (c : Nat) : Bool := s.ute.waits.any (fun w => w.ctx = c) || s.ute.waitRetry.any fun w => w.ctx = c
/-- Start the next descriptor of a context, whose OP is `op` (R506 to R509, R520). A descriptor whose OP names no operation is taken by
whichever row comes. -/
def State.descStart (s : State) (c op : Nat) : State :=
  match s.ctx c with
  | none => s
  | some x =>
    if !s.uteSends || s.clk.move = .draining || x.closing || c < 2 || x.sqCons = x.sqProd || s.blocked c then s else
    let b := s.descAt x
    let f := fun off n => leNat ((b.drop off).take n)
    let flags := BitVec.ofNat 8 (f 1 1)
    let dop := f 0 1
    if dop ≠ op && 1 ≤ dop && dop ≤ 6 then s
    else if flags.getLsbD 0 && s.ute.descs.any (fun d => d.ctx = c) then s
    else
    let user := BitVec.ofNat 64 (f 48 8)
    let next := s.setCtx c (some { x with sqCons := (x.sqCons + 1) % 2 ^ 32 })
    let fault := s.descFault x b
    if fault ≠ 0 then next.completeDesc c dop flags user fault 0 true
    else if dop = 6 then
      let w : WaitRun := ⟨c, x.sqCons, f 32 2, f 36 4, flags, user⟩
      if s.ute.waits.length < 4096 then (next.setUte { next.ute with waits := next.ute.waits ++ [w] }).runWaits
      else next.setUte { next.ute with waitRetry := next.ute.waitRetry ++ [w] }
    else if dop = 5 && s.ute.tx.any (fun t => t.ctx = c && t.sends = 0 && match s.msg c t.msn with
        | some m => m.dest = f 2 2 && m.dstCtx = f 4 2
        | none => false) then s
    else
      let u := s.unitOf dop (f 24 8) (f 12 4)
      let n := if dop = 1 || dop = 2 then min 256 ((f 12 4 + 64 * u - 1) / (64 * u)) else 1
      if 256 < s.outstanding c + n || 16384 < s.ute.msgs.length + n then s else
      let d : DescRun := { ctx := c, index := x.sqCons, op := dop, flags := flags, dest := f 2 2, dstCtx := f 4 2, local_ := f 24 8,
                           user := user, berth := f 6 1, gen := f 8 4, remote := f 16 8, len := if dop = 1 || dop = 2 then f 12 4 else 8,
                           split := 0, opnd1 := BitVec.ofNat 64 (f 32 8), opnd2 := BitVec.ofNat 64 (f 40 8), left := [], poisoned := false,
                           result := 0 }
      let s := next.setUte { next.ute with descs := next.ute.descs ++ [d] }
      if dop = 1 || dop = 2 then s.splitLoop c x.sqCons 256 else s.addMsg d u (if dop = 5 then 0 else 8)
/-- WAIT_SLOT_RETRY (R508). -/
def State.waitSlot (s : State) : State :=
  match s.ute.waitRetry with
  | [] => s
  | w :: ws =>
    if 4096 ≤ s.ute.waits.length then s
    else (s.setUte { s.ute with waitRetry := ws, waits := s.ute.waits ++ [w] }).runWaits

/-! ### Doorbells (R504, R509; 19 R695, R704) -/

def State.dbReject (s : State) : State := s.bumpUte 5
/-- A doorbell field of a context is written by its owner. -/
def State.doorbell (s : State) (c off v : Nat) : State :=
  match s.ctx c with
  | none => s.dbReject
  | some x =>
    match off with
    | 0 => if x.sqN < (v + 2 ^ 32 - x.sqCons) % 2 ^ 32 then s.dbReject else s.setCtx c (some { x with sqProd := v % 2 ^ 32 })
    | 4 => if (x.cqProd + 2 ^ 32 - x.cqCons) % 2 ^ 32 < (v + 2 ^ 32 - x.cqCons) % 2 ^ 32 then s.dbReject
      else s.setCtx c (some { x with cqCons := v % 2 ^ 32 })
    | 8 => (List.range 8).foldl (fun a k => a.renewBerth c k) s
    | _ => s
/-- Does a register agent own a context (R504)? Agents 0 to 63 are LDs; the Stevedores run appliance firmware (19). -/
def CtxOwner.isAgent (o : CtxOwner) (agent : Nat) : Bool :=
  match o with
  | .ld n => n = agent
  | .firmware => 64 ≤ agent && agent < 72
  | _ => false
/-- A doorbell write of an agent. -/
def State.doorbellWrite (s : State) (agent c off v : Nat) : State :=
  if s.clk.inReset || !(s.power = 0 || s.power = 2) then s else
  match (if c < 2 then none else s.ctx c) with
  | none => s.dbReject
  | some x => if x.owner.isAgent agent then s.doorbell c off v else s.dbReject
/-- STATE of a context: UTE_CTX_STATUS (R538). -/
def State.ctxStatus (s : State) (c : Nat) : Nat :=
  let berths := ((List.range 8).map fun k => if (s.berth c k).isOpen then 2 ^ k else 0).sum
  let cachedBit := if s.ute.cached.contains c then 2 ^ 29 else 0
  match s.ctx c with
  | none =>
    if c = 1 && s.twinCtxOpen || c = 0 && s.carriersUp then 2 ^ 30 + 2 ^ 29 else 0
  | some x => (if x.closing then 2 ^ 31 else 2 ^ 30) + cachedBit + (if s.blocked c then 2 ^ 28 else 0) +
      (if x.wasReset then 2 ^ 27 else 0) + berths * 2 ^ 16 + min 256 (s.outstanding c)
/-- A 4 B word of a context's doorbell page (R504; 19 R704). -/
def State.doorbellRead (s : State) (c off : Nat) (owner : Bool) : Nat :=
  if c < 2 then 0 else
  match s.ctx c with
  | none => if off = 0x14 then s.ctxStatus c else 0
  | some x => if !owner then 0 else if off = 0x10 then x.count else if off = 0x14 then s.ctxStatus c else 0

/-- Does a host ID own a context (19 R695)? -/
def State.hostOwns (s : State) (c host : Nat) : Bool :=
  match (if c < 2 then none else s.ctx c) with
  | some x => x.owner = .hostId host
  | none => false
/-- The line of a doorbell page that a host reads: zeros for one that does not own the context (19 R695). -/
def State.pageLine (s : State) (c off host : Nat) : Line :=
  BitVec.ofNat 512 ((List.range 16).map fun k => s.doorbellRead c (off + 4 * k) (s.hostOwns c host) * 2 ^ (32 * k)).sum
/-- A store to the aperture: the 4 B fields of the page that its mask covers whole, in ascending offset; its completion leaves after 64 CORE
cycles (19 R695). -/
def State.apertureStore (s : State) (run : Run) (st : HostStore) : State :=
  match s.aperture st.head st.ld st.pbr st.addr with
  | none => s
  | some (c, off, host) =>
    let s := if !s.hostOwns c host then s.dbReject else
      (List.range 16).foldl (fun a k =>
        if (st.mask.toNat >>> (4 * k)) % 16 = 15 then a.doorbell c (off + 4 * k) ((st.data.toNat >>> (32 * k)) % 2 ^ 32) else a) s
    let l := s.onHead st.head { core := 64, phiIn := 1 }
    if run.dead then s else
    (s.leaveAt ⟨st.head / 4, false, true, st.head, host, run.since, s.dueOf run l,
        some (.ndr st.head st.tag (if run.exact && s.statedOn st.head then some l else none))⟩).bothPhases
/-- A read of the aperture; the time it takes no rule states: a free value (log 95). -/
def State.apertureRead (s : State) (run : Run) (r : HostRead) : State :=
  match s.aperture r.head r.ld r.pbr r.addr with
  | none => s
  | some (c, off, host) =>
    let d := s.pageLine c off host
    let t := s.free (2 ^ 20)
    t.2.sendDrs r { run with exact := false } { core := t.1 } d false
/-- The oldest access to the aperture is carried out. -/
def State.runDoorbell (s : State) (req : BiReq) : State :=
  let s := { s with cxl := { s.cxl with doorbells := s.cxl.doorbells.drop 1 } }
  match req with
  | .read run r => s.apertureRead run r
  | .store _ run _ st | .back _ run _ st => s.apertureStore run st
  | _ => s

/-! ### Closing and losing contexts (R503, R537) -/

/-- Close every berth of a context. -/
def State.closeBerths (s : State) (c : Nat) : State :=
  (List.range 8).foldl (fun a k => if (a.berth c k).isOpen then a.closeBerth c k else a) s
/-- A context whose messages have ended is closed; sharers that are its peer become DORMANT (07 R243). -/
def State.closeCtx (s : State) (c : Nat) : State :=
  let s := s.closeBerths c
  let s := s.setUte { s.ute with
    ctxs := sput none s.ute.ctxs c none, cached := s.ute.cached.filter (· ≠ c), mct := s.ute.mct.filter (fun e => e.ctx ≠ c),
    descs := s.ute.descs.filter (fun d => d.ctx ≠ c), msgs := s.ute.msgs.filter (fun m => m.ctx ≠ c),
    tx := s.ute.tx.filter (fun t => t.ctx ≠ c), due := s.ute.due.filter (fun d => d.ctx ≠ c),
    waits := s.ute.waits.filter (fun w => w.ctx ≠ c), waitRetry := s.ute.waitRetry.filter fun w => w.ctx ≠ c }
  let s := s.fset F.UTE_STATUS_WAITS s.ute.waits.length
  ((s.sharers.filter fun kv => kv.2.peer && kv.2.id = c).map (·.1)).foldl State.makeDormant s
/-- Contexts an owner holds close with it (R537). -/
def State.closeOwned (s : State) (o : CtxOwner) : State :=
  ((s.ute.ctxs.filter fun kv => match kv.2 with | some x => x.owner = o | none => false).map (·.1)).foldl State.closeCtx s
/-- A context is reset (R537). -/
def State.resetCtx (s : State) (c : Nat) : State :=
  match s.ctx c with
  | none => s
  | some _ =>
    let runs := s.ute.descs.filter fun d => d.ctx = c
    let waits := (s.ute.waits ++ s.ute.waitRetry).filter fun w => w.ctx = c
    let s := (s.ute.tx.filter fun t => t.ctx = c).foldl State.landTx s
    let s := s.setUte { s.ute with
      mct := s.ute.mct.filter (fun e => e.ctx ≠ c), descs := s.ute.descs.filter (fun d => d.ctx ≠ c),
      msgs := s.ute.msgs.filter (fun m => m.ctx ≠ c), tx := s.ute.tx.filter (fun t => t.ctx ≠ c),
      waits := s.ute.waits.filter (fun w => w.ctx ≠ c), waitRetry := s.ute.waitRetry.filter fun w => w.ctx ≠ c }
    let s := s.fset F.UTE_STATUS_WAITS s.ute.waits.length
    let s := (List.range 8).foldl (fun a k =>
      let b := a.berth c k
      (a.setBerth c k { b with gen := (b.gen + 1) % 2 ^ 32 }).renewBerth c k) s
    let s := runs.foldl (fun a d => a.completeDesc c d.op d.flags d.user 8 0 false) s
    let s := waits.foldl (fun a w => a.completeDesc c 6 w.flags w.user 8 0 false) s
    match s.ctx c with
    | none => s
    | some x =>
      let last := match (s.ute.due.filter fun d => d.ctx = c).getLast? with | some d => leNat ((d.bytes.drop 12).take 4) | none => x.countRec
      (s.setCtx c (some { x with count := last, wasReset := true })).raise 108
/-- Contexts whose backing lay on a lost Quay channel and that the Yard does not hold are reset (10 R383). -/
def State.resetUncached (s : State) : State :=
  ((s.ute.ctxs.filter fun kv => kv.2.isSome && !s.ute.cached.contains kv.1).map (·.1)).foldl State.resetCtx s

/-! ### Links (R524, R539) -/

/-- ETH_LINK_DOWN: the link's paths are down, their packets go out again elsewhere (R524). -/
def State.ethDown (s : State) (l : Nat) : State :=
  if 4 ≤ l || s.clk.inReset || s.fget (F.UTE_LINK_STATUS_STATE l) ≠ 3 then s else
  let s := (s.fset (F.UTE_LINK_STATUS_STATE l) 1).raise (100 + l)
  let lost := s.ute.tx.filter fun t => t.inflight && match s.dest t.dest with | some e => e.link t.path = l | none => false
  let s := lost.foldl (fun a t => (a.landTx t).setTx { t with inflight := false }) s
  lost.foldl (fun a t => a.packetSend t.ctx t.msn t.pkt) s
/-- ETH_LINK_UP. -/
def State.ethUp (s : State) (l : Nat) : State :=
  let st := s.fget (F.UTE_LINK_STATUS_STATE l)
  if 4 ≤ l || s.clk.inReset || !(s.power = 0 || s.power = 2) || !(st = 1 || st = 2) then s
  else (s.fset (F.UTE_LINK_STATUS_STATE l) 3).raise (96 + l)
/-- SLOW_PATH_PACKET: ARP, neighbour discovery and ICMP go to firmware (R492). -/
def State.slowPath (s : State) (l : Nat) : State :=
  if s.clk.inReset || s.power ≠ 0 || 4 ≤ l || s.fget (F.UTE_LINK_STATUS_STATE l) ≠ 3 then s else s.emit (.slow l)

/-! ### Commands of group 0x03 (R502, R510; 14 R558) -/

/-- Owner that a UT_CTX_OPEN names. -/
def ownerOf (kind id : Nat) : CtxOwner := match kind with | 0 => .ld id | 1 => .hostId id | _ => .firmware
def State.lowestCtx (s : State) : Option Nat := (List.range 65534).find? (fun i => (s.ctx (i + 2)).isNone) |>.map (· + 2)
def queueOk (n : Nat) : Bool := [16, 32, 64, 128, 256, 512, 1024, 2048, 4096].contains n
/-- A queue: 64 B aligned in V regions visible to the owner. -/
def State.queueIn (s : State) (o : CtxOwner) (dla bytes : Nat) : Bool :=
  dla % 64 = 0 && s.rangeIn (fun r => r.served && r.dur = .v && s.ownerSees o r) dla bytes
def ctxRights (off : Nat) (c : Cmd) (s : State) (ld : Nat) : Nat :=
  match s.ctx (c.fld off 2) with | some x => if x.owner = .ld ld then 0 else St.notPermitted | none => 0
def utMode (_ : Cmd) (s : State) : Nat := if s.power = 2 then St.mode else 0
/-- UT_CTX_OPEN. -/
def cmdCtxOpen (c : Cmd) (s : State) : CmdRes :=
  let o := ownerOf (c.fld 2 1) (c.fld 4 2)
  let n := if c.fld 0 2 = 0 then s.lowestCtx else if (s.ctx (c.fld 0 2)).isNone && c.fld 0 2 ≠ 1 then some (c.fld 0 2) else none
  let idBad := match o with
    | .ld k => s.gfam || !s.lds.contains k
    | .hostId k => !s.gfam || !s.boundHosts.contains k
    | _ => false
  guarded ([param (2 < c.fld 2 1) 2, param (c.fld 3 1 ≠ 0) 3, param idBad 4, param (!queueOk (c.fld 6 2)) 6,
      param (!s.queueIn o (c.fld 8 8) (64 * c.fld 6 2)) 8, param (!queueOk (c.fld 16 2)) 16] ++ c.zeros 18 6 ++
      [param (!s.queueIn o (c.fld 24 8) (32 * c.fld 16 2)) 24, check n.isNone St.noResource]) s
    (match n with
      | none => refuse St.noResource 0 s
      | some k =>
        let x : UtCtx := { owner := o, sqBase := c.fld 8 8, sqN := c.fld 6 2, cqBase := c.fld 24 8, cqN := c.fld 16 2, sqProd := 0,
                           sqCons := 0, cqProd := 0, cqCons := 0, nextMsn := 0, ackFloor := 0, count := 0, countRec := 0,
                           wasReset := false, closing := false }
        done ((s.setCtx k (some x)).touchCtx k) (natBytes 2 k))
def defCtxOpen : CmdDef :=
  { size := fun c => c.len = 32, host := true,
    rights := fun c _ ld => if c.fld 2 1 = 0 && c.fld 4 2 = ld then 0 else St.notPermitted, mode := utMode, max := fun _ => 1000,
    run := cmdCtxOpen }
/-- UT_CTX_CLOSE: the reply leaves once the messages have ended. -/
def cmdCtxClose (c : Cmd) (s : State) : CmdRes :=
  let k := c.fld 0 2
  match s.ctx k with
  | none => guarded (c.zeros 2 2) s (refuse St.notFound 0 s)
  | some x =>
    guarded (c.zeros 2 2 ++ [check x.closing St.notFound]) s
      (later ((s.setCtx k (some { x with closing := true })).closeBerths k) [] (.ctxClose k))
def defCtxClose : CmdDef :=
  { size := fun c => c.len = 4, host := true, rights := ctxRights 0, mode := utMode, max := fun _ => 257000, run := cmdCtxClose }
/-- UT_BERTH_OPEN. -/
def cmdBerthOpen (c : Cmd) (s : State) : CmdRes :=
  let k := c.fld 0 2
  let len := c.fld 16 8
  match s.ctx k with
  | none => refuse St.notFound 0 s
  | some x =>
    guarded ([check x.closing St.notFound, param (7 < c.fld 2 1) 2, param (32 ≤ c.fld 3 1) 3] ++ c.zeros 6 2 ++
        [param (len = 0 || 2 ^ 40 < len) 16,
          param (!s.rangeIn (fun r => r.state ≠ .free && s.ownerSees x.owner r) (c.fld 8 8) len) 8]) s
      (let i := c.fld 2 1
       let g := ((s.berth k i).gen + 1) % 2 ^ 32
       let b : Berth := ⟨true, c.fld 8 8, len - 1, g, BitVec.ofNat 8 (c.fld 3 1), c.fld 4 2, 0⟩
       done ((s.setBerth k i b).renewBerth k i) (natBytes 4 g))
def defBerthOpen : CmdDef :=
  { size := fun c => c.len = 24, host := true, rights := ctxRights 0, mode := utMode, max := fun _ => 200, run := cmdBerthOpen }
/-- UT_BERTH_CLOSE. -/
def cmdBerthClose (c : Cmd) (s : State) : CmdRes :=
  let k := c.fld 0 2
  let i := c.fld 2 1
  guarded [param (7 < i) 2, param (c.fld 3 1 ≠ 0) 3, check ((s.ctx k).isNone || !(s.berth k i).isOpen) St.notFound] s
    (let s := s.closeBerth k i
     done s (natBytes 4 (s.berth k i).gen))
def defBerthClose : CmdDef :=
  { size := fun c => c.len = 4, host := true, rights := ctxRights 0, mode := utMode, max := fun _ => 200, run := cmdBerthClose }
/-- UT_BERTH_RENEW. -/
def cmdBerthRenew (c : Cmd) (s : State) : CmdRes :=
  let k := c.fld 0 2
  guarded [param (c.fld 3 1 ≠ 0) 3, check (s.ctx k).isNone St.notFound] s
    (done ((List.range 8).foldl (fun a i => if (c.fld 2 1).testBit i then a.renewBerth k i else a) s) [])
def defBerthRenew : CmdDef :=
  { size := fun c => c.len = 4, host := true, rights := ctxRights 0, mode := utMode, max := fun _ => 100, run := cmdBerthRenew }
/-- Does a link exist (R494)? -/
def State.linkExists (s : State) (l : Nat) : Bool := s.fget (F.UTE_LINK_STATUS_STATE l) ≠ 0
/-- UT_DEST_SET: the entry's cached state returns to the defaults (R497). A mask without an existing link is out of range. -/
def cmdDestSet (c : Cmd) (s : State) : CmdRes :=
  let d := c.fld 0 2
  let links := c.fld 5 1
  let bad := links = 0 || 16 ≤ links || (List.range 4).any fun l => links.testBit l && !s.linkExists l
  guarded [param (c.fld 4 1 = 0 || 64 < c.fld 4 1) 4, param bad 5, param (4 ≤ c.fld 6 1) 6, param (c.fld 7 1 ≠ 0) 7] s
    (let e : Dest := ⟨c.fld 2 2, c.fld 8 16 :: (if (c.fld 6 1).testBit 1 then [c.fld 24 16] else []), c.fld 4 1,
      BitVec.ofNat 4 links, (c.fld 6 1).testBit 0⟩
     let s := s.setUte { s.ute with dests := sput none s.ute.dests d (some e), cache := s.ute.cache.filter fun x => x.dest ≠ d }
     done s [])
def defDestSet : CmdDef :=
  { size := fun c => c.len = 40, host := false, rights := fun _ _ _ => 0, mode := utMode, max := fun _ => 200, run := cmdDestSet }

end Sys2Proof.Machine
end

