-- ==== Sys2Proof/Machine/CcxFx.lean ====
section
/-! DEFINITION. Effects at the control complex: core address windows, data caches, voted lanes, timers, errors in cores (15_control_complex.md). -/
namespace Sys2Proof.Machine

def State.setCcx (s : State) (c : Ccx) : State := { s with ccx := c }
def State.coreAt (s : State) (k : Nat) : Core := sget Core.empty s.ccx.cores k

/-! ### The cache of one core (R573 to R581) -/

/-- The valid entries with their index, ascending. -/
def Core.entries (c : Core) : List (Nat × CacheLine) := c.cache.filterMap fun kv => kv.2.map fun e => (kv.1, e)
def Core.findLine (c : Core) (line : Nat) : Option (Nat × CacheLine) := c.entries.find? fun e => e.2.line = line
def Core.entry (c : Core) (i : Nat) : Option CacheLine := sget none c.cache i
def Core.putEntry (c : Core) (i : Nat) (e : Option CacheLine) : Core := { c with cache := sput none c.cache i e }
/-- The least recently used entry that is not locked. -/
def Core.lru (c : Core) : Nat :=
  match (c.entries.filter fun e => !e.2.locked).foldl (fun m e => match m with
      | none => some e
      | some x => if e.2.used < x.2.used then some e else some x) none with
  | some e => e.1
  | none => 0
/-- The victim (R574): an invalid entry of the lowest index, else the least recently used that is not locked. -/
def Core.victimAt (c : Core) : Nat := ((List.range 48).find? fun i => (c.entry i).isNone).getD c.lru
/-- The cycles that writing out the victim takes (R574). -/
def Core.outCycles (c : Core) : Nat := match c.entry c.victimAt with | some e => if e.zp then 3 else 0 | none => 0
def Core.zpCount (c : Core) : Nat := (c.entries.filter fun e => e.2.zp).length
def Core.lockCount (c : Core) : Nat := (c.entries.filter fun e => e.2.locked).length

/-- Store a core's record; CCX_CACHE_STATUS.ZP and LOCKED follow its cache. -/
def State.putCore (s : State) (k : Nat) (c : Core) : State :=
  let s := s.setCcx { s.ccx with cores := sput Core.empty s.ccx.cores k c }
  (s.fset (F.CCX_CACHE_STATUS_ZP k) c.zpCount).fset (F.CCX_CACHE_STATUS_LOCKED k) c.lockCount

/-! ### Windows (R568, R570, R571) -/

/-- Where a core address leads, with the offset there. -/
inductive CoreWin where
  | localMem (off : Nat)
  | rom (off : Nat)
  | own (off : Nat)
  | bar0 (off : Nat)
  | yard (off : Nat)
  | quay (qa : Nat)
  | dram (da : Nat)
  | dla (a : Nat)
  | outside
deriving DecidableEq, Repr

/-- The core address map (R568). -/
def State.coreWin (s : State) (k a : Nat) : CoreWin :=
  if a < (if k = 8 then 0x80000 else 0x40000) then .localMem a
  else if 0x80000 ≤ a && a < 0x90000 then .rom (a - 0x80000)
  else if 0x0F000000 ≤ a && a < 0x0F000100 then .own (a - 0x0F000000)
  else if 0x10000000 ≤ a && a < 0x14000000 then .bar0 (a - 0x10000000)
  else if 0x20000000 ≤ a && a < 0x24000000 then .yard (a - 0x20000000)
  else if 0x004000000000 ≤ a && a < 0x004600000000 then .quay (a - 0x004000000000)
  else if 0x080000000000 ≤ a && a < 0x080000000000 + installedBytes s.dram.pop then .dram (a - 0x080000000000)
  else if dlaWindow ≤ a && a < 2 * dlaWindow then .dla (a - dlaWindow)
  else .outside
def CoreWin.cached : CoreWin → Bool
  | .rom _ => true | .yard _ => true | .quay _ => true | .dram _ => true | .dla _ => true
  | _ => false

/-- The page whose copy a frame holds: the page number of a frame table whose value is address + 1 or frame + 1. -/
def pageOfFrame (m : SMap Nat) (v : Nat) : Option Nat := (m.find? fun kv => kv.2 = v).map (·.1)
/-- The line of the snoop filter at a Quay address (09 R344). -/
def sfAt (qa : Nat) : Option Nat := if 0x80000000 ≤ qa && qa < 0x90000000 then some ((qa - 0x80000000) / 64) else none
/-- The line that the Quay holds at an address: in the snoop filter, the hot area, the staging area, or of no page. -/
def State.quayLine (s : State) (qa : Nat) : Line :=
  match sfAt qa with
  | some n => s.sfLine n
  | none =>
  let base := qa - qa % 4096 + 1
  match pageOfFrame s.quay.hotQa base with
  | some p => memLine s.quay.hot (64 * p + qa % 4096 / 64)
  | none =>
    match pageOfFrame s.quay.stgQa base with
    | some p => memLine s.quay.staged (64 * p + qa % 4096 / 64)
    | none => memLine s.ccx.quayRaw (qa / 64)
def State.dramLine (s : State) (da : Nat) : Line :=
  match pageOfFrame s.dram.frame (da / 4096 + 1) with
  | some p => memLine s.dram.data (64 * p + da % 4096 / 64)
  | none => memLine s.ccx.dramRaw (da / 64)
/-- Masked stores through the two windows. -/
def State.quayPut (s : State) (qa : Nat) (l : Line) (m : BitVec 64) : State :=
  match sfAt qa with
  | some n => s.sfPutLine n (Sys2Proof.Machine.mergeLine (s.sfLine n) l m 64)
  | none =>
  let base := qa - qa % 4096 + 1
  match pageOfFrame s.quay.hotQa base with
  | some p => { s with quay := { s.quay with hot := memPutLine s.quay.hot (64 * p + qa % 4096 / 64) l m } }
  | none =>
    match pageOfFrame s.quay.stgQa base with
    | some p => { s with quay := { s.quay with staged := memPutLine s.quay.staged (64 * p + qa % 4096 / 64) l m } }
    | none => s.setCcx { s.ccx with quayRaw := memPutLine s.ccx.quayRaw (qa / 64) l m }
def State.dramPut (s : State) (da : Nat) (l : Line) (m : BitVec 64) : State :=
  match pageOfFrame s.dram.frame (da / 4096 + 1) with
  | some p => { s with dram := { s.dram with data := memPutLine s.dram.data (64 * p + da % 4096 / 64) l m } }
  | none => s.setCcx { s.ccx with dramRaw := memPutLine s.ccx.dramRaw (da / 64) l m }

/-- Class of the accesses that core k issues now (R567; 6 and 7 act as 5). -/
def State.coreClass (s : State) (k : Nat) : TClass :=
  match s.fget (F.CCX_CORE_CLASS_CLASS k) with
  | 0 => .c0 | 1 => .c1 | 2 => .c2 | 3 => .c3 | 4 => .c4 | _ => .c5
/-- A store through the DLA window: a store of the region that holds the line, under the rules of host stores (R570). -/
def State.dlaPut (s : State) (line : Nat) (l : Line) (m : BitVec 64) (poison : Bool) (tc : TClass) : State :=
  match s.regionAt (line / 64) with
  | none => s.countUnmapped
  | some i =>
    let rg := s.region i
    if !rg.served then s.countUnmapped else
    let n := s.newId
    n.2.placeLine (n.2.ingressStore n.1 line l m i (.internal tc) poison)
/-- A store that leaves core k, of class `tc`: line `n` of its addresses. -/
def State.coreMemPut (s : State) (k n : Nat) (l : Line) (m : BitVec 64) (poison : Bool) (tc : TClass) : State :=
  let ps := s.ccx.poison.filter fun x => x ≠ n || m ≠ BitVec.allOnes 64
  let mark := fun a : State => a.setCcx { a.ccx with poison := if poison then insNat n ps else ps }
  match s.coreWin k (64 * n) with
  | .yard o => mark ((s.mergeLine (o / 64) l m false).setCcx { s.ccx with yard := memPutLine s.ccx.yard (o / 64) l m })
  | .quay qa => mark (s.quayPut qa l m)
  | .dram da => mark (s.dramPut da l m)
  | .dla a => s.dlaPut (a / 64) l m poison tc
  | _ => s

/-- Bytes of the boot ROM (log 34). -/
def romLine (off : Nat) : Line := BitVec.ofNat 512 (leNat ((List.range 64).map fun i => Config.bootRom (off / 64 * 64 + i)))
/-- Cycles of core k's domain. -/
def domCycles (k n : Nat) : Lat := if k = 8 then { sup := n } else { svc := n }
/-- The stated time of an access outside local memory (R571); none where the table gives none or the access waits, and for the DLA, whose
lookup and fetch steps are known when the line comes. -/
def State.coreLat (s : State) (k n : Nat) : Option Lat :=
  match s.coreWin k (64 * n) with
  | .yard _ => some (domCycles k (if k = 8 then 31 else 44))
  | .quay qa => some { coreMemLat k with hbm := (s.quayAccess qa).1 }
  | .dram da => if s.bit F.DMC_FREQ_BUSY then none else some { coreMemLat k with ddr := (s.dramAccess da).1 }
  | _ => none
/-- Core k is kept busy for a stated count: a store, or an operation on its cache (R569, R571, R573, R577, R580, R582). -/
def State.coreBusy (s : State) (k : Nat) (lat : Lat) : State := s.emit (.coreBusy k lat)
/-- Ask for line `n` of core k's addresses: the boot ROM, the Yard, the Quay and DRAM answer at once, the DLA when its page can. An access to the
DRAM window waits out a frequency change (R595). -/
def State.coreAsk (s : State) (k n : Nat) (tc : TClass) : State :=
  let d := fun l : Line => if s.ccx.poison.contains n then none else some l
  let lat := match (s.coreAt k).wait with | some w => if s.now = w.since then s.coreLat k n else none | none => none
  match s.coreWin k (64 * n) with
  | .rom o => s.coreGotAt k n (some (romLine o)) none
  | .yard o =>
    let bad := (List.range 8).any fun i => s.integ.badWords.contains (o / 64 * 8 + i)
    s.coreGotAt k n (if bad then none else d (memLine s.ccx.yard (o / 64))) lat
  | .quay qa => (s.quayAccess qa).2.coreGotAt k n (d (s.quayLine qa)) lat
  | .dram da => if s.bit F.DMC_FREQ_BUSY then s else (s.dramAccess da).2.coreGotAt k n (d (s.dramLine da)) lat
  | .dla a => s.coreLine k (a / 64) (Run.start s.now) tc
  | _ => s.coreGotAt k n (some 0) none

/-! ### Loads and stores (R573 to R576) -/

/-- Bytes `off` to `off + n - 1` of a line. -/
def lineSlice (l : Line) (off n : Nat) : List Byte := (List.range n).map fun i => lineByte l (off + i)
/-- Bytes placed in a line, with their mask. -/
def placeSlice (off : Nat) (bs : List Byte) : Line × BitVec 64 :=
  (BitVec.ofNat 512 (leNat bs * 2 ^ (8 * off)), BitVec.ofNat 64 ((2 ^ bs.length - 1) * 2 ^ off))
/-- Merge bytes into a line. -/
def putSlice (l : Line) (off : Nat) (bs : List Byte) : Line := let x := placeSlice off bs; mergeLine l x.1 x.2 64

/-- The oldest store leaves core k (R575). -/
def State.issueStore (s : State) (k : Nat) : State :=
  let c := s.coreAt k
  match c.sbuf with
  | [] => s
  | e :: rest =>
    let x := placeSlice (e.addr % 64) e.bytes
    (s.putCore k { c with sbuf := rest }).coreMemPut k (e.addr / 64) x.1 x.2 false e.tc
/-- Stores leave in program order until `m` of them have left. -/
def State.issueStores (s : State) (k : Nat) : Nat → State
  | 0 => s
  | m + 1 => (s.issueStore k).issueStores k m
/-- How many stores must leave before a load of a line may issue its fill (R575). -/
def Core.ahead (c : Core) (line : Nat) : Nat :=
  ((List.range c.sbuf.length).zip c.sbuf).foldl (fun m x => if x.2.addr / 64 = line then x.1 + 1 else m) 0

/-- Write out entry i if it is zero-pending (R578); it stays valid and is clean. -/
def State.writeOut (s : State) (k i : Nat) : State :=
  let c := s.coreAt k
  match c.entry i with
  | some e => if e.zp then (s.putCore k (c.putEntry i (some { e with zp := false }))).coreMemPut k e.line e.data (BitVec.allOnes 64) false (s.coreClass k) else s
  | none => s
/-- Put a line into the cache; its victim is written out first if it is zero-pending, else dropped (R574). -/
def State.allocate (s : State) (k line : Nat) (data : Line) (locked zp : Bool) : State :=
  let i := (s.coreAt k).victimAt
  let s := s.writeOut k i
  let c := s.coreAt k
  let side := c.side.filter fun x : SideLine => x.line ≠ line
  s.putCore k { c.putEntry i (some ⟨line, data, locked, zp, c.stamp⟩) with stamp := c.stamp + 1, side := side }
/-- Request a line into the side buffer, which replaces its oldest entry first (R576). -/
def State.prefetch (s : State) (k line : Nat) : State :=
  let c := s.coreAt k
  if !(s.coreWin k (64 * line)).cached || (c.findLine line).isSome || c.side.any (fun x => x.line = line) then s else
  let side := (if c.side.length < 4 then c.side else c.side.drop 1) ++ [⟨line, none, s.coreClass k⟩]
  s.putCore k { c with side := side }
/-- The fill or read that blocks core k has come: the access completes. A poisoned line's data are a free value. -/
def State.finishWait (s : State) (k : Nat) : State :=
  match (s.coreAt k).wait with
  | none => s
  | some w =>
    match w.got with
    | none => s
    | some d =>
      let f := match d with
        | some l => (l, s)
        | none => let r := s.free (2 ^ 512); (BitVec.ofNat 512 r.1, r.2)
      let lat := w.lat.map (·.add (domCycles k w.out))
      let s := f.2.putCore k { f.2.coreAt k with wait := none }
      let s := match w.why with
        | .uncached => s
        | .load => s.allocate k w.line f.1 false false
        | .lock => s.allocate k w.line f.1 true false
      if w.size = 0 then s else s.emit (.core k (lineSlice f.1 (w.addr % 64) w.size) lat)
/-- Block core k until line `addr / 64` has come. -/
def State.blockOn (s : State) (k addr size : Nat) (why : FillFor) (ask : Bool) : State :=
  let s := s.putCore k { s.coreAt k with wait := some ⟨addr / 64, addr, size, why, s.now, 0, none, none⟩ }
  if ask then (s.coreAsk k (addr / 64) (s.coreClass k)).finishWait k else s
/-- A miss (R573 to R576): the stores of its line leave, a zero-pending victim is written out, then the fill is issued; the next line is
requested into the side buffer. -/
def State.missOn (s : State) (k addr size : Nat) (why : FillFor) : State :=
  let line := addr / 64
  let s := s.issueStores k ((s.coreAt k).ahead line)
  let v := (s.coreAt k).victimAt
  let s := (s.writeOut k v).putCore k
    { (s.writeOut k v).coreAt k with wait := some ⟨line, addr, size, why, s.now, (s.coreAt k).outCycles, none, none⟩ }
  let s := (s.coreAsk k line (s.coreClass k)).finishWait k
  if s.bit (F.CCX_CACHE_CTRL_PF_EN k) then s.prefetch k (line + 1) else s
/-- Does an access of core k wait out a frequency change (R595)? -/
def State.coreHeld (s : State) (k : Nat) : Bool :=
  match (s.coreAt k).wait with
  | some w => w.got.isNone && (match s.coreWin k (64 * w.line) with | .dram _ => true | _ => false)
  | none => false
/-- A core whose access to the DRAM window may go now that the change has ended. -/
def State.coreFree (s : State) : Option Nat := if s.bit F.DMC_FREQ_BUSY then none else (List.range 9).find? s.coreHeld
/-- It goes. -/
def State.coreGo (s : State) (k : Nat) : State :=
  match (s.coreAt k).wait with
  | some w => s.coreAsk k w.line (s.coreClass k)
  | none => s
/-- Is the cache of core k enabled? -/
def State.cacheOn (s : State) (k : Nat) : Bool := s.bit (F.CCX_CACHE_CTRL_EN k)
/-- A load from a cached row. -/
def State.cachedLoad (s : State) (k addr size : Nat) : State :=
  let line := addr / 64
  if !s.cacheOn k then ((s.issueStores k 8).blockOn k addr size .uncached true)
  else
    let c := s.coreAt k
    match c.findLine line with
    | some e =>
      (s.putCore k { c.putEntry e.1 (some { e.2 with used := c.stamp }) with stamp := c.stamp + 1 }).emit
        (.core k (lineSlice e.2.data (addr % 64) size) (some (domCycles k 2)))
    | none =>
      match c.side.find? fun x => x.line = line with
      | some ⟨_, some d, _⟩ =>
        (s.allocate k line d false false).emit (.core k (lineSlice d (addr % 64) size) (some (domCycles k (3 + c.outCycles))))
      | some ⟨_, none, _⟩ => s.blockOn k addr size .load false
      | none => s.missOn k addr size .load
/-- A store to a cached row; a full store buffer first lets its oldest entry go. -/
def State.cachedStore (s : State) (k addr : Nat) (bs : List Byte) : State :=
  let line := addr / 64
  if !s.cacheOn k then
    let x := placeSlice (addr % 64) bs
    let t := (s.issueStores k 8).coreMemPut k line x.1 x.2 false (s.coreClass k)
    match s.coreLat k line with
    | some l => t.coreBusy k l
    | none => t
  else
    let push := fun a : State =>
      let a := if (a.coreAt k).sbuf.length < 8 then a.coreBusy k (domCycles k 1) else a.issueStore k
      let c := a.coreAt k
      a.putCore k { c with sbuf := c.sbuf ++ [⟨addr, bs, s.coreClass k⟩] }
    let c := s.coreAt k
    match c.findLine line with
    | some e =>
      let c' : Core := { c.putEntry e.1 (some { e.2 with data := putSlice e.2.data (addr % 64) bs, used := c.stamp }) with stamp := c.stamp + 1 }
      let s := s.putCore k c'
      if e.2.zp then s.coreBusy k (domCycles k 1) else push s
    | none =>
      let f := fun x : SideLine => if x.line = line then { x with data := x.data.map fun d => putSlice d (addr % 64) bs } else x
      push (s.putCore k { c with side := c.side.map f })
/-- PREFETCH_FILL: the oldest prefetch in flight arrives. -/
def State.prefetchFill (s : State) (k : Nat) : State :=
  match (s.coreAt k).side.find? fun x => x.data.isNone with
  | none => s
  | some x => (s.coreAsk k x.line x.tc).finishWait k

/-! ### Operations on the cache (R576 to R582) -/

/-- Core k is the Harbourmaster at the join of a resynchronisation: it executes no instruction (R586). -/
def State.inJoin (s : State) (k : Nat) : Bool := k = 8 && match s.ccx.resync with | some r => r.join.isSome | none => false
def State.opAddr (s : State) (k : Nat) : Nat := s.fget (F.CCX_CACHE_OPADDR_VALUE k)
/-- May an operation of core k act: the core runs and is not blocked, its cache is enabled? -/
def State.opOk (s : State) (k : Nat) : Bool := k ≤ 8 && s.coreRuns k && !s.inJoin k && (s.coreAt k).wait.isNone && s.cacheOn k
/-- Does the operation's line lie in a cached row? -/
def State.opLineOk (s : State) (k : Nat) : Bool := s.opOk k && (s.coreWin k (s.opAddr k)).cached
def State.opPrefetch (s : State) (k : Nat) : State := if s.opLineOk k then s.prefetch k (s.opAddr k / 64) else s
/-- ZERO_LINE (R577). -/
def State.opZero (s : State) (k : Nat) : State :=
  if !s.opLineOk k then s else
  let line := s.opAddr k / 64
  let c := s.coreAt k
  match c.findLine line with
  | some e =>
    let side := c.side.filter fun x : SideLine => x.line ≠ line
    (s.putCore k { c.putEntry e.1 (some { e.2 with data := 0, zp := true, used := c.stamp }) with stamp := c.stamp + 1, side := side }).coreBusy k (domCycles k 2)
  | none => (s.allocate k line 0 false true).coreBusy k (domCycles k (2 + c.outCycles))
/-- LOCK (R579). -/
def State.opLock (s : State) (k : Nat) : State :=
  if !s.opLineOk k then s else
  let line := s.opAddr k / 64
  let c := s.coreAt k
  let full := 32 ≤ c.lockCount
  match c.findLine line with
  | some e =>
    if e.2.locked then s
    else if full then s.setBit (F.CCX_CACHE_STATUS_LOCK_FULL k) true
    else s.putCore k (c.putEntry e.1 (some { e.2 with locked := true }))
  | none =>
    if full then s.setBit (F.CCX_CACHE_STATUS_LOCK_FULL k) true
    else
      match c.side.find? fun x => x.line = line with
      | some ⟨_, some d, _⟩ => s.allocate k line d true false
      | some ⟨_, none, _⟩ => s.blockOn k (64 * line) 0 .lock false
      | none => s.missOn k (64 * line) 0 .lock
/-- UNLOCK (R579). -/
def State.opUnlock (s : State) (k : Nat) : State :=
  if !s.opLineOk k then s else
  let c := s.coreAt k
  match c.findLine (s.opAddr k / 64) with
  | some e => s.putCore k (c.putEntry e.1 (some { e.2 with locked := false }))
  | none => s
/-- Does a line overlap the operation's range (R580)? -/
def State.opCovers (s : State) (k line : Nat) : Bool :=
  let a := s.opAddr k
  let n := s.fget (F.CCX_CACHE_OPLEN_VALUE k)
  n ≠ 0 && 64 * line < a + n && a < 64 * line + 64
/-- The covered entries, ascending. -/
def State.opEntries (s : State) (k : Nat) : List (Nat × CacheLine) := (s.coreAt k).entries.filter fun e => s.opCovers k e.2.line
/-- Cycles that writing out the zero-pending lines among some entries takes, with the 2 cycles before it (R580, R582). -/
def outTime (k : Nat) (es : List (Nat × CacheLine)) : Lat := domCycles k (2 + 3 * (es.filter fun e => e.2.zp).length)
/-- WRITEOUT (R578, R580). -/
def State.opWriteOut (s : State) (k : Nat) : State :=
  if !s.opOk k then s else ((s.opEntries k).foldl (fun a e => a.writeOut k e.1) s).coreBusy k (outTime k (s.opEntries k))
/-- INVAL (R580, R581). -/
def State.opInval (s : State) (k : Nat) : State :=
  if !s.opOk k then s else
  let es := s.opEntries k
  let s := (es.foldl (fun a e => a.writeOut k e.1) s).coreBusy k (outTime k es)
  let s := es.foldl (fun a e => a.putCore k ((a.coreAt k).putEntry e.1 none)) s
  let c := s.coreAt k
  let s := s.putCore k { c with side := c.side.filter fun x => !s.opCovers k x.line }
  match es.filter fun e => e.2.locked with
  | [] => s
  | e :: more =>
    let multi := s.bit (F.CCX_CACHE_STATUS_LOCK_LOST k) || !more.isEmpty
    let s := if multi then s.setBit (F.CCX_CACHE_STATUS_LOST_MULTI k) true else s
    ((s.setBit (F.CCX_CACHE_STATUS_LOCK_LOST k) true).fset (F.CCX_CACHE_STATUS_LOST_IDX k) e.1).raise (488 + 6 * k + 4)
/-- A write of 0 to CCX_CACHE_CTRL.EN (R582). -/
def State.cacheDisable (s : State) (k : Nat) : State :=
  if !s.opOk k then s.setBit (F.CCX_CACHE_CTRL_EN k) false else
  let es := (s.coreAt k).entries
  let s := (es.foldl (fun a e => a.writeOut k e.1) s).coreBusy k (outTime k es)
  (s.putCore k { s.coreAt k with cache := [], side := [] }).setBit (F.CCX_CACHE_CTRL_EN k) false

/-! ### The voted lanes (R584 to R590) -/

def bits3 (n : Nat) : BitVec 3 := BitVec.ofNat 3 n
def State.voting (s : State) : BitVec 3 := bits3 (s.fget F.CCX_HM_STATUS_VOTING)
def State.fenced (s : State) : BitVec 3 := bits3 (s.fget F.CCX_HM_STATUS_FENCED)
def lanesIn (b : BitVec 3) : List Nat := (List.range 3).filter fun i => b.getLsbD i
/-- A core that is reset: its timers and its watchdog, whose registers only a reset of the main island changes, run on (R593, R594, R596);
DESIGN CHOICE (log 110): the watchdog's period starts again. -/
def State.clearCore (s : State) (k : Nat) : Core := { Core.empty with armed0 := (s.coreAt k).armed0, armed1 := (s.coreAt k).armed1, kick := s.now }
/-- The Harbourmaster restarts (R589): its lanes are reset; nothing else of the hardware stops. -/
def State.hmRestart (s : State) : State :=
  if s.ccx.restart.isSome then s else
  let s := s.putCore 8 (s.clearCore 8)
  let s := s.setCcx { s.ccx with restart := some s.now, resync := none, inject := 0 }
  (s.fset F.CCX_HM_STATUS_PHASE 3).setCore 8 2
/-- Voting lanes without a majority. -/
def State.noMajority (s : State) : State :=
  if s.ccx.restart.isSome || s.clk.inReset then s else (s.setBit F.CCX_HM_STATUS_NO_MAJORITY true).hmRestart
/-- Lane `l` differs from the others (R586, R588): with three voting lanes it is resynchronised, or fenced at the limit; with two there
is no majority. -/
def State.laneDisagree (s : State) (l : Nat) : State :=
  if s.clk.inReset || !s.coreRuns 8 || !s.voting.getLsbD l then s
  else if (lanesIn s.voting).length < 3 then s.noMajority
  else
    let s := (s.setFbit F.CCX_HM_STATUS_DISAGREE l true).fset F.CCX_HM_STATUS_VOTING (s.voting &&& ~~~(1#3 <<< l)).toNat
    let s := (s.fset F.CCX_HM_STATUS_MODE 1).raise 480
    let starts := (s.ccx.starts.filter fun x => s.now - x.2 ≤ sec 1) ++ [(l, s.now)]
    let s := s.setCcx { s.ccx with starts := starts }
    if max 1 (s.fget F.CCX_HM_CTRL_FENCE_LIMIT) ≤ (starts.filter fun x => x.1 = l).length then
      (s.setFbit F.CCX_HM_STATUS_FENCED l true).raise 482
    else
      let src := ((lanesIn s.voting).head?).getD 0
      (s.setCcx { s.ccx with resync := some ⟨l, src, s.now, none⟩ }).fset F.CCX_HM_STATUS_PHASE 1
/-- The join at the first instruction boundary after the sweep of 8,192 SUP cycles (R586). -/
def State.resyncJoin (s : State) : State :=
  match s.ccx.resync with
  | none => s
  | some r =>
    if s.now < r.since + ns 8193 || r.join.isSome || (s.coreAt 8).wait.isSome then s
    else (s.setCcx { s.ccx with resync := some { r with join := some s.now } }).fset F.CCX_HM_STATUS_PHASE 2
/-- Have the 256 SUP cycles of the join passed? -/
def State.joinDue (s : State) : Bool :=
  match s.ccx.resync with
  | some r => match r.join with | some j => j + ns 256 ≤ s.now | none => false
  | none => false
/-- The three lanes resume in lockstep (R586). -/
def State.resyncEnd (s : State) : State :=
  match s.ccx.resync with
  | none => s
  | some r =>
    let s := s.setCcx { s.ccx with resync := none }
    let s := ((s.fset F.CCX_HM_STATUS_VOTING (s.voting ||| (1#3 <<< r.lane)).toNat).fset F.CCX_HM_STATUS_MODE 0).fset F.CCX_HM_STATUS_PHASE 0
    (s.bump F.CCX_HM_RESYNC_CNT_VALUE F.CCX_CNT_STATUS_RESYNC_SAT 484).raise 481
/-- CCX_HM_CTRL.INJECT (R596). -/
def State.laneInject (s : State) (b : BitVec 3) : State := if s.clk.inReset then s else s.setCcx { s.ccx with inject := s.ccx.inject ||| b }
/-- An access leaves the lanes through the voted port (R584): is it issued, with injected disagreements carried out. -/
def State.voted (s : State) : Bool × State :=
  let bad := lanesIn (s.ccx.inject &&& s.voting)
  match bad with
  | [] => (true, s)
  | l :: more =>
    let s := s.setCcx { s.ccx with inject := s.ccx.inject &&& ~~~s.voting }
    if more.isEmpty && (lanesIn s.voting).length = 3 then (true, s.laneDisagree l) else (false, s.noMajority)
/-- The restart ends (R589, R590). -/
def State.restartDone (s : State) : State :=
  match s.ccx.restart with
  | none => s
  | some _ =>
    let v := ~~~s.fenced
    let s := s.putCore 8 { s.coreAt 8 with kick := s.now }
    let s := (s.setCcx { s.ccx with restart := none }).setCore 8 0
    let s := ((s.fset F.CCX_HM_STATUS_VOTING v.toNat).fset F.CCX_HM_STATUS_MODE (if v = 7 then 0 else 1)).fset F.CCX_HM_STATUS_PHASE 0
    (s.bump F.CCX_HM_RESTART_CNT_VALUE F.CCX_CNT_STATUS_RESTART_SAT 485).raise 483

/-! ### Errors in a Stevedore, timers, watchdogs (R591 to R594) -/

/-- The error-log entry of R591: TIER 0, structure, word index; the macro group is a free value (log 25). -/
def State.logCore (s : State) (struct word : Nat) (type : ErrType) : State :=
  let g := s.free 256
  (g.2.countUe 0).logErr none (struct + 256 * g.1 + 65536 * word) .sram type .demand 0xFF 0
/-- A Stevedore is reset and waits for its reload (R591). -/
def State.coreReset (s : State) (k : Nat) : State :=
  let s := s.putCore k { s.clearCore k with reload := some s.now }
  (s.setCore k 2).raise (488 + 6 * k + 3)
/-- An uncorrectable error in lane `l` of the Harbourmaster: logged under core 8 + l, and a disagreement at once (R585, R591). -/
def State.laneUe (s : State) (l : Nat) (w : CoreUe) : State :=
  if s.clk.inReset || !s.coreRuns 8 || !s.voting.getLsbD l then s else
  (match w with
    | .localMem => s.logCore (0x18 + l) 0 .ueRecovered
    | .side _ => s.logCore (0x28 + l) 0 .ueRecovered
    | .entry i => s.logCore (0x28 + l) (8 * i) .ueRecovered).laneDisagree l
def State.stevedoreUe (s : State) (k : Nat) (w : CoreUe) : State :=
  if 8 ≤ k then s.laneUe (k - 8) w else
  if !s.coreRuns k then s else
  let c := s.coreAt k
  match w with
  | .localMem => (s.logCore (0x10 + k) 0 .ueRecovered).coreReset k
  | .side line =>
    if c.side.any (fun x => x.line = line && x.data.isSome) then
      let f := fun x : SideLine => if x.line = line then { x with data := none } else x
      (s.putCore k { c with side := c.side.map f }).logCore (0x20 + k) 0 .ueRecovered
    else s
  | .entry i =>
    match c.entry i with
    | none => s
    | some e =>
      let s := s.putCore k (c.putEntry i none)
      if e.zp then
        let s := (s.coreMemPut k e.line e.data (BitVec.allOnes 64) true (s.coreClass k)).logCore (0x20 + k) (8 * i) .uePoisoned
        (s.setBit (F.CCX_CORE_STATUS_UE k) true).emit (.coreExc k true)
      else
        let s := s.logCore (0x20 + k) (8 * i) .ueRecovered
        if c.wait.isSome then s else s.blockOn k (64 * e.line) 0 (if e.locked then .lock else .load) true
/-- The reload has ended: the core runs, or is clock-gated in STANDBY (R591, R595). -/
def State.reloadDone (s : State) (k : Nat) : State :=
  match (s.coreAt k).reload with
  | none => s
  | some _ => (s.putCore k { s.coreAt k with reload := none, kick := s.now }).setCore k (if s.power = 2 && k ≠ 0 then 3 else if s.power = 0 || s.power = 2 then 0 else 1)
/-- CCX_TIME (R593): 100 MHz cycles. -/
def State.ccxTime (s : State) : Nat := (s.now - s.ccx.t0) / 20
/-- A timer fires once when CCX_TIME reaches its compare value. -/
def State.timerFire (s : State) (k i : Nat) : State :=
  if 8 < k || 1 < i || s.clk.inReset then s else
  let c := s.coreAt k
  if i = 0 then
    if c.armed0 && s.bit (F.CCX_TMR_CTRL_EN0 k) && s.fget (F.CCX_TMR0_CMP_CMP k) ≤ s.ccxTime then
      (s.putCore k { c with armed0 := false }).raise (488 + 6 * k)
    else s
  else if c.armed1 && s.bit (F.CCX_TMR_CTRL_EN1 k) && s.fget (F.CCX_TMR1_CMP_CMP k) ≤ s.ccxTime then
    (s.putCore k { c with armed1 := false }).raise (488 + 6 * k + 1)
  else s
/-- Any write to CCX_WDOG restarts the period (R594). -/
def State.wdogKick (s : State) (k : Nat) (v : Word32) : State :=
  if 8 < k || s.clk.inReset then s else
  let s := (s.setBit (F.CCX_WDOG_EN k) (v.getLsbD 31)).fset (F.CCX_WDOG_PERIOD k) (v.toNat % 2 ^ 24)
  s.putCore k { s.coreAt k with kick := s.now }
/-- The watchdog fires (R594). -/
def State.wdogFire (s : State) (k : Nat) : State :=
  if 8 < k || s.clk.inReset || !s.bit (F.CCX_WDOG_EN k) || s.now < (s.coreAt k).kick + us (max 1 (s.fget (F.CCX_WDOG_PERIOD k))) then s else
  let s := s.setBit (F.CCX_CORE_STATUS_WDOG k) true
  if k = 8 then (s.putCore 8 { s.coreAt 8 with kick := s.now }).hmRestart
  else (s.coreReset k).raise (488 + 6 * k + 2)

/-! ### Interrupts at a core (16 R612) -/

def State.interruptEntry (s : State) (k : Nat) : State :=
  let c := s.coreAt k
  if s.coreRuns k && !s.inJoin k && c.wait.isNone && c.ie && sget 0 s.icu.presented k ≠ 0 then s.putCore k { c with ie := false } else s
def State.interruptReturn (s : State) (k : Nat) : State :=
  if s.coreRuns k && !s.inJoin k && (s.coreAt k).wait.isNone then s.putCore k { s.coreAt k with ie := true } else s

end Sys2Proof.Machine
end

