-- ==== Sys2Proof/Machine/TestFx.lean ====
section
/-! DEFINITION. Effects at the test block: loop-backs and the TAP (21_test_loopback_and_debug.md R734 to R747). -/
namespace Sys2Proof.Machine

/-! ### Loop-back slots (R736, R749) -/

/-- Slot of a kind and instance, if the depth table defines them. -/
def lbSlotOf (kind inst : Nat) : Option Nat :=
  match kind with
  | 0 => if inst < 16 then some inst else none
  | 1 => if inst < 4 then some (16 + inst) else none
  | 2 => if inst < 12 then some (20 + inst) else none
  | 3 => if inst < 16 then some (32 + inst) else none
  | 4 => if inst < 32 then some (48 + inst) else none
  | 5 => if inst = 0 then some 80 else none
  | _ => none
/-- Kind and instance of a slot. -/
def lbOf (slot : Nat) : Nat × Nat :=
  if slot < 16 then (0, slot) else if slot < 20 then (1, slot - 16) else if slot < 32 then (2, slot - 20)
  else if slot < 48 then (3, slot - 32) else if slot < 80 then (4, slot - 48) else (5, 0)
/-- Greatest depth of a kind. -/
def lbDepths (kind : Nat) : Nat := match kind with | 0 => 4 | 1 => 4 | 2 => 3 | 3 => 3 | 4 => 2 | _ => 2
/-- Greatest depth whose loop point lies inside the package (R744). -/
def lbInside (kind : Nat) : Nat := match kind with | 0 => 3 | 1 => 3 | 2 => 1 | 3 => 1 | 4 => 1 | _ => 2

def State.lb (s : State) (slot : Nat) : LbSlot := sget LbSlot.empty s.test.slots slot
/-- Write a slot; LB_COUNT counts the instances in loop-back. -/
def State.setLb (s : State) (slot : Nat) (x : LbSlot) : State :=
  let m := sput LbSlot.empty s.test.slots slot x
  ({ s with test := { s.test with slots := m } }).fset F.TST_STATUS_LB_COUNT (m.filter fun kv : Nat × LbSlot => kv.2.depth ≠ 0).length
def State.prodHold (s : State) : Bool := s.bit F.TST_STATUS_PROD_HOLD

/-- The acceptance condition of R739: the status that refuses, or 0. -/
def State.lbAccept (s : State) (kind inst depth : Nat) : Nat :=
  match kind with
  | 1 => if s.isPaired && !((List.range 4).any fun l => l ≠ inst && s.fget (F.UTE_LINK_STATUS_STATE l) = 3) then St.conflict else 0
  | 2 => let st := s.fget (F.DMC_STATUS_STATE inst); if st = 4 || st = 5 then 0 else St.mode
  | 3 => let st := s.fget (F.HBC_CH_STATUS_STATE inst); if st = 3 || st = 4 then 0 else St.mode
  | 4 => if (List.range 32).any (fun c => c ≠ inst && s.fget (F.FTC_CH_STATUS_STATE c) = 3) || !s.rebuildPages.isEmpty then St.conflict else 0
  | 5 => if depth = 2 || (s.fget F.EPC_STATUS_PF_STATE = 0 && s.epc.reh.phase = .idle) then 0 else St.mode
  | _ => 0
/-- The checks of R735 and R739, in order: a status and the payload offset at fault, or none. -/
def State.lbFault (s : State) (fromTest : Bool) (kind inst depth : Nat) : Option (Nat × Nat) :=
  let hold := fromTest && s.prodHold
  if s.power = 1 then some (St.mode, 0)
  else if !s.memActive && !hold then some (St.mode, 0)
  else if 6 ≤ kind then some (St.badParam, 0)
  else if (lbSlotOf kind inst).isNone then some (St.badParam, 1)
  else if lbDepths kind < depth then some (St.badParam, 2)
  else if depth = 0 then none
  else if hold && !s.memActive then (if lbInside kind < depth then some (St.mode, 0) else none)
  else
    let r := s.lbAccept kind inst depth
    if r ≠ 0 then some (r, 0) else none
/-- An accepted request waits for its start (R736). -/
def State.lbWant (s : State) (kind inst depth : Nat) : State :=
  match lbSlotOf kind inst with
  | some k => s.setLb k { s.lb k with wanted := some depth }
  | none => s
/-- A request by GO (R734, R735): its status is recorded in LAST. -/
def State.lbGo (s : State) (fromTest : Bool) : State :=
  let kind := s.fget F.TST_LB_CTRL_KIND
  let inst := s.fget F.TST_LB_CTRL_INSTANCE
  let depth := s.fget F.TST_LB_CTRL_DEPTH
  match s.lbFault fromTest kind inst depth with
  | some f => s.fset F.TST_LB_CTRL_LAST (f.1 % 256)
  | none => (s.fset F.TST_LB_CTRL_LAST 0).lbWant kind inst depth

/-- The instance leaves service; other blocks treat it as failed (R45, R738, R740). -/
def State.lbOut (s : State) (kind inst : Nat) : State :=
  match kind with
  | 0 => (if s.linkState inst = 5 then s else s.linkDown inst).fset (lnk F.CXP_LNK_STATUS_STATE inst) 5
  | 1 => (s.ethDown inst).fset (F.UTE_LINK_STATUS_STATE inst) 4
  | 2 => s.fset (F.DMC_STATUS_STATE inst) 5
  | 3 => s.fset (F.HBC_CH_STATUS_STATE inst) 4
  | 4 => ((s.channelLoss inst).fset (F.FTC_CH_STATUS_STATE inst) 3).setChannels
  | _ => s
/-- A link of port e exists: its second link only when the port is split (13 R491). -/
def State.linkThere (s : State) (l : Nat) : Bool :=
  l < 4 && (l % 2 = 0 || s.latched (if l / 2 = 0 then F.UTE_CFG_SPLIT0 else F.UTE_CFG_SPLIT1) ≠ 0)
/-- The instance returns as the table of R739 states; before memory active, to what it was. -/
def State.lbBack (s : State) (kind inst : Nat) : State :=
  match kind with
  | 0 => s.fset (lnk F.CXP_LNK_STATUS_STATE inst) (if s.present inst then s.trainState inst else 0)
  | 1 => s.fset (F.UTE_LINK_STATUS_STATE inst) (if s.linkThere inst then 1 else 0)
  | 2 => s.fset (F.DMC_STATUS_STATE inst) (if s.memActive then 4 else 0)
  | 3 => s.fset (F.HBC_CH_STATUS_STATE inst) (if s.memActive then 3 else 0)
  | 4 => (s.fset (F.FTC_CH_STATUS_STATE inst) (if s.fget (F.FTC_CH_STATUS_PKGS inst) = 0 then 0 else 1)).setChannels
  | _ => s
/-- The generator and checker run: how many units passed, and how many were wrong, no rule gives (R737; log 36). The first error raises
TST_LB_FAIL; both counts saturate (R18 to R20). -/
def State.lbRun (s : State) (k : Nat) : State :=
  let x := s.lb k
  if x.depth = 0 || x.result = 3 then s else
  let u := s.free (2 ^ 32)
  let e := u.2.free (u.1 + 1)
  let s := e.2
  let n := min (2 ^ 32 - 1) (x.errors + e.1)
  let first := x.result = 1 && e.1 ≠ 0
  let full := n = 2 ^ 32 - 1 && x.errors ≠ n
  let s := s.setLb k { x with units := min (2 ^ 64 - 1) (x.units + u.1), errors := n, sat := x.sat || full, result := if e.1 ≠ 0 then 2 else x.result }
  let s := if first then s.raise 624 else s
  if full then s.raise 625 else s
/-- LOOPBACK_START: the accepted loop-back starts, or ends, and its counters are cleared (R734, R736). Whether a pattern comes back at all
is the hardware's matter: a free value (log 36). -/
def State.lbStart (s : State) (k : Nat) : State :=
  match (s.lb k).wanted with
  | none => s
  | some d =>
    let o := lbOf k
    let old := (s.lb k).depth
    let s := s.setLb k { s.lb k with wanted := none }
    if d = 0 then
      if old = 0 then s else (s.setLb k LbSlot.empty).lbBack o.1 o.2
    else
      let lock := s.free 2
      (((lock.2.lbOut o.1 o.2).setLb k ⟨0, 0, false, if lock.1 = 0 then 1 else 3, d, none⟩)).lbRun k
/-- A loop-back ends without a request (R742). -/
def State.lbEnd (s : State) (k : Nat) : State :=
  if (s.lb k).depth = 0 then s.setLb k { s.lb k with wanted := none } else
  (s.setLb k { s.lb k with depth := 0, wanted := none, result := 4 }).lbBack (lbOf k).1 (lbOf k).2
/-- Step 4 of R434: CXL and Ethernet loop-backs end. -/
def State.lbEndPorts (s : State) : State := (List.range 20).foldl State.lbEnd s
/-- The pack loop-backs end (R742). -/
def State.lbEndPack (s : State) : State := s.lbEnd 80
/-- An ONFI channel passes training and is back in service (R739). -/
def State.onfiTrained (s : State) (ch : Nat) : State :=
  if s.clk.inReset || 32 ≤ ch || s.fget (F.FTC_CH_STATUS_STATE ch) ≠ 1 || !s.memActive then s
  else (s.fset (F.FTC_CH_STATUS_STATE ch) 2).setChannels
/-- The 16 B of a slot (R749). -/
def State.lbBytes (s : State) (k : Nat) : List Byte :=
  let x := s.lb k
  let o := lbOf k
  let w := (if x.sat then 2 ^ 31 else 0) + x.result * 2 ^ 24 + x.depth * 2 ^ 16 + o.2 * 2 ^ 8 + o.1
  natBytes 4 w ++ natBytes 4 x.errors ++ natBytes 8 x.units

/-! ### The TAP (R745, R746) -/

def State.setTest (s : State) (t : Test) : State := { s with test := t }
/-- Test-Logic-Reset. -/
def State.tapReset (s : State) : State :=
  ((s.setTest { s.test with tap := .reset, dbgSeen := false }).setBit F.TST_STATUS_TAP_ACTIVE false).setBit F.TST_STATUS_JTAG_HELD false
/-- An instruction is loaded. -/
def State.tapLoad (s : State) (i : TapInstr) : State :=
  ((s.setTest { s.test with tap := i }).setBit F.TST_STATUS_TAP_ACTIVE true).setBit F.TST_STATUS_JTAG_HELD false
/-- An instruction that acts only while the main island is held in reset; at any other time it acts as BYPASS and sets JTAG_HELD. -/
def State.tapTest (s : State) (i : TapInstr) : State :=
  if s.clk.inReset then s.tapLoad i else (s.tapLoad .bypass).setBit F.TST_STATUS_JTAG_HELD true
/-- IDCODE: version, part, maker, and the 1 of IEEE 1149.1 in bit 0 (log 37). -/
def idcode : Nat := 0xB * 2 ^ 28 + 0x6400 * 2 ^ 12 + Config.obdonCode.toNat * 2 + 1
def State.tapIdcode (s : State) : State := (s.tapLoad .idcode).emit (.tap idcode)
/-- The bypass register captures 0. -/
def State.tapBypass (s : State) : State := (s.tapLoad .bypass).emit (.tap 0)
/-- SAMPLE/PRELOAD: the sampled balls are whatever they carry: a free value; the boundary register takes the bits. -/
def State.tapSample (s : State) (bits : Nat) : State :=
  let v := s.free (2 ^ 32)
  ((v.2.tapLoad .samplePreload).setTest { (v.2.tapLoad .samplePreload).test with boundary := bits }).emit (.tap v.1)

end Sys2Proof.Machine
end

