-- ==== Sys2Proof/Machine/ResetFx.lean ====
section
/-! DEFINITION. Entry to SAVE, the save, power failure and the resets (02 R53; 08 R303 to R307; 11 R430 to R440; 17 R628 to R640). -/
namespace Sys2Proof.Machine

def State.setClk (s : State) (c : Clk) : State := { s with clk := c }

/-! ### Islands (17 R635, R636; 19 R688) -/

/-- Is a BAR0 offset in the AON island? -/
def aonOff (o : Nat) : Bool :=
  (0x440000 ≤ o && o < 0x480000) || (0x4C0400 ≤ o && o < 0x4C0484) || (0x540004 ≤ o && o < 0x540014) || (0x580000 ≤ o && o < 0x600000)
/-- Registers after a main-island reset: the main island's at their power-on values, the AON island's unchanged. -/
def resetRegs (regs : SMap Nat) : SMap Nat := sputAll 0 mainResets (regs.filter fun kv => aonOff (kv.1 / 64))

/-! ### What survives the main island (02 R53; 08 R303 to R307) -/

/-- A page's persistent class: its region's, if a region holds it. -/
def State.pageDur (s : State) (p : Nat) : Option Dur := (s.regionAt p).map fun i => (s.region i).dur
/-- The word of a page after the main island has lost power: restore-pending if a store has reached it, MIR as last recorded (R306, R307). -/
def State.keptWord (s : State) (p : Nat) (w : PageWord) : PageWord :=
  match s.pageDur p with
  | none => PageWord.fresh
  | some .v => PageWord.fresh
  | some _ =>
    let mir := if w.mir = .resync then .unmirrored else w.mir
    if w.zero && !mapValid (s.mapOf p) then PageWord.fresh else { PageWord.fresh with zero := false, mir := mir }
/-- The page-state words that the home array, the journal and the save give back. -/
def State.keptPages (s : State) : SMap PageWord :=
  let ps := s.rgn.pages.map (·.1) ++ s.flash.map.map (·.1)
  ps.foldl (fun m p => sput PageWord.fresh m p (s.keptWord p (s.page p))) []
/-- Poison of L and M pages is kept with their extents (R307); a V page's goes with its data. -/
def State.keptPoison (s : State) : List Nat :=
  s.integ.poison.filter fun l => match s.pageDur (l / 64) with | some .l => true | some .m => true | _ => false

/-- The paddock's pages in the order of the flush list; those of a DRAINING region have left it, and their data is not saved (03 R99). -/
def State.dirtyPages (s : State) : List Nat :=
  let listed := s.pers.list.map (·.1)
  let ps := (s.rgn.pages.filter fun kv => kv.2.pdk ≠ .clean && s.keepsPage kv.1).map (·.1)
  listed.filter ps.contains ++ ps.filter fun p => !listed.contains p
/-- Order of the save engine (11 R433): L pages and M pages that are not MIRRORED first. -/
def State.saveOrder (s : State) : List Nat :=
  let last := fun p => s.pageDur p = some .m && (s.page p).mir = .mirrored
  s.dirtyPages.filter (fun p => !last p) ++ s.dirtyPages.filter last
/-- The use of the blocks of a half of the Loft. -/
def halfUse (half : Bool) : BlockUse := if half then .loftB else .loftA
/-- Bytes of saved pages in a half. -/
def State.halfBytes (s : State) (half : Bool) : Nat := 4096 * (s.flash.loft.index.filter fun e => e.half = half).length
/-- Blocks that the next saved page takes: its half's, then the other half's, then the free pool's, in SLC mode (R304). -/
def State.saveUse (s : State) : BlockUse :=
  let h := s.flash.loft.half
  if s.halfBytes h < s.pCap then halfUse h
  else if s.halfBytes true + s.halfBytes false < 2 * s.pCap then halfUse (!h)
  else .writeLog
/-- One page goes to the Loft: a raw extent, encrypted where ENC = 1, with an index entry (R303). -/
def State.loftPage (s : State) (p : Nat) : State :=
  match s.regionAt p with
  | none => s
  | some i =>
    let u := s.saveUse
    let x := s.place u 4
    let s := x.2.useBlock x.1 4 u
    let e : LoftEntry := ⟨p, i, (s.region i).rgen, (s.region i).enc, x.1, s.flash.loft.half⟩
    let pg := s.copyPage p
    { s with flash := { s.flash with
        loft := { s.flash.loft with index := s.flash.loft.index ++ [e] }
        loftData := memSetPage s.flash.loftData p pg } }
/-- The Landing-queue image: every valid entry, those that are drained and kept for the twin included (02 R55; 12 R450). -/
def State.landingImage (s : State) : List (Nat × LineStore) :=
  s.pers.landing.map fun e => (e.line, ⟨e.data, e.mask⟩)
/-- Does a half hold pages that are not folded yet? -/
def State.halfUnfolded (s : State) (half : Bool) : Bool :=
  s.flash.loft.index.any fun e => e.half = half && (s.flash.unfolded.contains e.page || s.flash.loft.applied < s.flash.loft.index.length)
/-- The save begins in the half that holds no unfolded pages, the one that the last save left alone where both are free; an earlier unfolded
save is not dropped (08, section The Loft; R304). -/
def State.beginLoft (s : State) : State :=
  let h := if s.halfUnfolded (!s.flash.loft.half) && !s.halfUnfolded s.flash.loft.half then s.flash.loft.half else !s.flash.loft.half
  { s with flash := { s.flash with loft := { s.flash.loft with header := true, committed := false, half := h }, landImage := [] } }
/-- The items of R303 up to `n` pages. -/
def State.savePages (s : State) (n : Nat) : State :=
  let img := s.landingImage
  let s := (s.saveOrder.take n).foldl State.loftPage s.beginLoft
  { s with flash := { s.flash with landImage := img } }
/-- The pages of a save that were not listed in a fully programmed chunk (R305): R53 decides them. -/
def State.losePages (s : State) (ps : List Nat) : State :=
  let l := ps.filter fun p => s.pageDur p = some .l
  let m := ps.filter fun p => s.pageDur p = some .m
  let wait := s.flash.mirrorFetch ++ m.filter fun p => !s.flash.mirrorFetch.contains p
  { s with flash := { s.flash with lost := l.foldl (fun a p => insNat p a) s.flash.lost, mirrorFetch := wait } }
/-- Power leaves the main island without a commit record. In SAVE some number of full index chunks of 8,192 pages has been programmed, which no
rule gives: a free value (log 16). With no save begun, none has. -/
def State.powerCut (s : State) : State :=
  if s.clk.inReset then s
  else if s.power ≠ 1 then s.losePages s.dirtyPages
  else
    let order := s.saveOrder
    let k := s.free (order.length / 8192 + 1)
    let n := 8192 * k.1
    let s := k.2
    if n = 0 then s.beginLoft.losePages order
    else (s.savePages n).losePages (order.drop n)

/-! ### The main-island reset (17 R635, R637) -/

/-- Loop-backs end, start-up and moves stop, latched fields are dropped. -/
def Clk.main (c : Clk) : Clk :=
  { c with inReset := true, starting := false, joining := false, move := .none, exitWanted := false, drainAfter := false, saved := false, latch := [] }
/-- The flash tier keeps its content, its map and the Loft. -/
def Flash.main (f : Flash) : Flash :=
  { f with stripes := [], relog := [], fetches := [], mapLoaded := false, scrubPass := [] }
def Dram.main (d : Dram) : Dram :=
  { Dram.reset with recorded := d.recorded, retired := d.retired, retiredRanks := d.retiredRanks, pop := d.pop }
/-- Firmware slots are persistent (14 R552); the staged image's state is not. -/
def CmdState.main (c : CmdState) : CmdState :=
  { CmdState.reset with fwA := c.fwA, fwB := c.fwB, nextB := c.nextB, nextId := c.nextId }
/-- The interrupt controller is reset with the main island; the watcher, in the AON island, keeps its slots and FIRED (16 R616, R622). -/
def Icu.main (c : Icu) : Icu := if c.mainOff then c else { Icu.reset with sel := c.sel, fired := c.fired }
/-- A main-island reset with its cause. Content of the Yard, the Quay and DRAM is lost; settings cells, recorder, EPC, flash and Loft stay. -/
def State.mainReset (s : State) (cause : Nat) : State :=
  let s := (s.setIcu s.icu.main).closeEpoch 2
  let tap := s.test.tap
  let rgn := { Rgn.reset with regions := s.rgn.regions, kind := s.rgn.kind, home := s.rgn.home, pages := s.keptPages, dcTypes := s.rgn.dcTypes }
  let s := { s with
    regs := resetRegs s.regs
    rgn := rgn
    integ := { Integ.reset with poison := s.keptPoison, quayRetired := s.integ.quayRetired }
    pers := { Pers.reset with nextId := s.pers.nextId }
    cxl := Cxl.reset, tide := [], entries := [], sharers := [], copies := []
    flash := s.flash.main, dram := s.dram.main, quay := Quay.reset, twin := Twin.reset, ute := Ute.reset
    cmd := s.cmd.main, ccx := Ccx.reset, agents := [], clk := s.clk.main
    epc := { s.epc with frozen := false }
    test := { s.test with slots := [] } }
  let s := s.endReh.setBit F.TST_STATUS_TAP_ACTIVE (tap ≠ .reset)
  s.fset F.CLK_RESET_CAUSE_CAUSE cause

/-- Start-up is due once nothing holds the main island in reset (R631, R638, R646; 20 R720, R721). -/
def State.mayStart (s : State) : Bool :=
  s.clk.inReset && s.clk.pwrGood && s.clk.sysRstN && s.clk.aonRstN && s.clk.vaon && s.clk.pfailN
def State.beginStart (s : State) : State :=
  if !s.mayStart || s.clk.starting then s else
  let s := s.setClk { s.clk with starting := true, start := s.now }
  s.fset F.EPC_STATUS_PF_STATE 0
/-- A wake from AON-ONLY, asked for by a WAKE slot of the watcher (R631; 16 R615). -/
def State.wakeUp (s : State) : State :=
  if !s.icu.mainOff || !s.icu.wake || !(s.clk.pwrGood && s.clk.sysRstN && s.clk.aonRstN && s.clk.vaon && s.clk.pfailN) || s.clk.starting then s
  else if s.power = 3 then (s.mainReset 6).beginStart
  else s.beginStart
/-- AON_WATCH_FIRE: an edge at the watcher while the main island is off. -/
def State.watchFire (s : State) (src : Nat) : State := (s.watchEdge src).wakeUp

/-! ### Entry to SAVE (11 R432, R434) -/

/-- Landed M stores whose mirror acknowledgement is missing: their pages are recorded UNMIRRORED (R432). -/
def State.unmirrorLanded (s : State) : State :=
  ((s.pers.landing.filter fun e => e.cls = .m && !e.twinOk && (s.page (e.line / 64)).mir = .mirrored).map (·.line / 64)).foldl
    (fun a p => a.setPage p { a.page p with mir := .unmirrored }) s
/-- Moves, staging and scans are abandoned where they stand (03 R126; 07 R266; 10 R404). -/
def State.abandonAll (s : State) : State :=
  let s := s.rgn.moves.foldl (fun a m => a.setPage m.page { a.page m.page with moving := false }) s
  ({ s with rgn := { s.rgn with moves := [] }, copies := [] }).chkStopAll
/-- The Stevedores halt; their zero-pending lines are discarded (15 R595). -/
def State.haltStevedores (s : State) : State :=
  (List.range 8).foldl (fun a k =>
    let c := a.coreAt k
    let cache := c.cache.filter fun kv : Nat × Option CacheLine => match kv.2 with | some e => !e.zp | none => false
    (a.putCore k { c with cache := cache, wait := none }).setCore k 1) s
/-- A queue of memory keeps its writes; its reads, and the completions that its writes owe, are gone. -/
def SubChan.silence (c : SubChan) : SubChan :=
  { c with reads := [], writes := c.writes.map fun w : DmcWrite => { w with ack := none } }
/-- Items in flight that end without a completion: stores not landed, reads, back-invalidates, commands, UT work; every reservation goes with
them (06 R234). -/
def State.dropInFlight (s : State) : State :=
  let s := s.unmirrorLanded
  let land := s.pers.landing.map fun e : LandEntry => if e.acked then e else { e with origin := .discarded }
  let s := { s with
    pers := { s.pers with landing := land, ingress := [], holdQ := [], gpf := [], fwdAcks := [] }
    rgn := { s.rgn with psWait := [], waits := [], standbyQ := [] }
    cxl := { s.cxl with behind := [], bi := [], ingress := [], doorbells := [], leaving := [] }
    dram := { s.dram with changeWait := [], subs := s.dram.subs.foldl (fun (m : SMap SubChan) (kv : Nat × SubChan) => sput SubChan.empty m kv.1 kv.2.silence) [] }
    quay := { s.quay with subs := s.quay.subs.foldl (fun (m : SMap SubChan) (kv : Nat × SubChan) => sput SubChan.empty m kv.1 kv.2.silence) [] }
    twin := { s.twin with fwd := [], takeWait := [], handover := none }
    flash := { s.flash with fetches := [] }
    ute := Ute.reset
    integ := { s.integ with recov := [] } }
  { s.setSlots [] with cmd := { (s.setSlots []).cmd with slots := [], answered := [] } }
/-- Power state SAVE is entered and the save engine begins (R431, R434). Steps 1 to 4 are taken at once: each is bounded and none can be seen to
fail. -/
def State.enterSave (s : State) (why : SaveWhy) : State :=
  let s := s.finalHeartbeat.endReh.actuatorsOff
  let s := (s.fset F.CLK_STATUS_PWR_STATE 1).raise 561
  let s := s.fset F.EPC_STATUS_PF_STATE 2
  let s := s.dropInFlight.abandonAll.drainAllMerge
  let s := s.lbEndPorts.haltStevedores
  let s := s.setClk { s.clk with move := .none, exitWanted := false, drainAfter := false, saveWhy := why, saved := false }
  (s.bump F.EPC_SAVE_CNT_VALUE F.EPC_CNT_STATUS_SAVE_SAT 440).recSave
/-- SAVE_COMMIT: every item is in the Loft and the commit record is programmed; SAVED, HOLD_SW released, the recorder's epoch written, and the
main island held in reset until start-up (R430, R434; 17 R631). The save engine's accesses wait for a frequency change (09 R340). -/
def State.saveCommit (s : State) : State :=
  if s.clk.inReset || s.power ≠ 1 || s.dramBusy then s else
  let s := s.savePages s.dirtyPages.length
  let s := { s with flash := { s.flash with loft := { s.flash.loft with committed := true } } }
  let s := ((s.setHold false).fset F.EPC_STATUS_PF_STATE 3).recCommit
  let s := s.watchOn.raise 433
  let s := s.closeEpoch 1
  let why := s.clk.saveWhy
  let s := s.mainReset (match why with | .pfail => 5 | .sysRst => 3 | .refLoss => 4)
  let s := s.setClk { s.clk with saved := true }
  s.beginStart

/-! ### PFAIL_N (11 R430; 17 R639, R646) -/

/-- HOLD_SW rises on a power failure, while its gate is this unit's or free (12 R472). -/
def State.pfailHold (s : State) : State := if s.gate 2 || !s.twin.peerAct.getLsbD 2 then s.setHold true else s
def State.failHold (s : State) : State := (s.pfailHold.actuatorsOff).raise 432
/-- May the unit ride (the first row of the transition table)? -/
def State.mayRide (s : State) : Bool :=
  s.power = 0 && s.clk.move ≠ .draining && s.rideTime ≠ 0 &&
    s.fget F.EPC_E_FIX_VALUE * 100 ≤ s.fget F.EPC_E_USE_VALUE * (100 - s.reserve)
/-- PFAIL_QUALIFIED: PFAIL_N has been low for 1.0 µs. -/
def State.pfail (s : State) : State :=
  if !s.clk.pfailN then s else
  let s := s.setClk { s.clk with pfailN := false }
  let s := s.lbEndPack
  let pf := s.fget F.EPC_STATUS_PF_STATE
  if s.clk.inReset then s.setClk { s.clk with starting := false }
  else if s.power = 1 then s.pfailHold
  else if !s.memActive then
    if s.power = 3 then s
    else s.mainReset (s.fget F.CLK_RESET_CAUSE_CAUSE)
  else if pf ≠ 0 then s
  else
    let s := (s.failReh 3 true).failHold
    if s.mayRide then
      (s.setEpc { s.epc with frozen := true, rideSince := s.now, rideEnergy := 0 }).fset F.EPC_STATUS_PF_STATE 1
    else s.enterSave .pfail
/-- RIDE_EXPIRY. -/
def State.rideExpiry (s : State) : State :=
  if s.clk.inReset || s.fget F.EPC_STATUS_PF_STATE ≠ 1 then s
  else if s.epc.rideSince + ms (10 * s.rideTime) ≤ s.now || s.fget F.EPC_P_RUN_P_RUN * s.rideTime * 100000 ≤ s.epc.rideEnergy || s.feFail then
    s.enterSave .pfail
  else s
/-- RIDE_POWER_RETURN: PFAIL_N high for 10 ms without a break in RIDE. -/
def State.rideReturn (s : State) : State :=
  if s.clk.inReset || s.fget F.EPC_STATUS_PF_STATE ≠ 1 then s else
  let s := s.setClk { s.clk with pfailN := true }
  let s := (s.setHold false).fset F.EPC_STATUS_PF_STATE 0
  s.setEpc { s.epc with frozen := false }
/-- PFAIL_RISE: the pin is high again. A start-up that was abandoned, or a unit that is SAVED, starts from step 0. -/
def State.pfailRise (s : State) : State :=
  let s := s.setClk { s.clk with pfailN := true }
  if s.clk.inReset then s.beginStart else s

/-! ### PWR_GOOD, SYS_RST_N (17 R635, R638, R640; 20 R719) -/

/-- PWR_GOOD rises. -/
def State.pwrGoodRise (s : State) : State :=
  if s.clk.pwrGood then s else
  let s := s.setClk { s.clk with pwrGood := true }
  (s.mainReset 1).beginStart
/-- The main island loses power at once. In AON-ONLY nothing is lost. -/
def State.pwrLost (s : State) : State :=
  let s := s.powerCut.recCut
  let s := s.mainReset 8
  (s.setHold false).fset F.EPC_STATUS_PF_STATE 0
/-- PWR_GOOD falls (R640). -/
def State.pwrGoodFall (s : State) : State :=
  if !s.clk.pwrGood then s else
  (s.setClk { s.clk with pwrGood := false }).pwrLost
/-- A main rail below 90 % for 5 µs with PWR_GOOD high is treated as a fall of PWR_GOOD; the start-up that follows needs its rise. -/
def State.railLow (s : State) : State := s.pwrGoodFall
/-- SYS_RST_N has been low for 1.0 µs (R638). -/
def State.sysRst (s : State) : State :=
  if !s.clk.sysRstN then s else
  let s := s.setClk { s.clk with sysRstN := false }
  let s := s.bump F.CLK_SYS_RST_CNT_VALUE F.CLK_CNT_STATUS_SYS_RST_SAT 566
  if s.clk.inReset then s.setClk { s.clk with starting := false }
  else if s.power = 1 || s.power = 3 then s
  else if !s.memActive then s.mainReset 2
  else s.enterSave .sysRst
/-- SYS_RST_N rises (R631, R635). From AON-ONLY it is a main-island reset first. -/
def State.sysRstRelease (s : State) : State :=
  if s.clk.sysRstN then s else
  let s := s.setClk { s.clk with sysRstN := true }
  if s.power = 3 && !s.clk.inReset then (s.mainReset 2).beginStart
  else if s.clk.inReset then s.beginStart
  else s

/-! ### VAON and AON_RST_N (17 R635; 18 R661; 20 R720, R721) -/

/-- AON registers after their reset: the recorder's and the array's own state is not in the table of resets (R635 "Keeps"); the count of denied
writes and its flag go to 0 (18 R686). -/
def State.aonRegs (s : State) : SMap Nat :=
  let keep := s.regs.filter fun kv => !aonOff (kv.1 / 64) || 0x580000 ≤ kv.1 / 64
  sput 0 (sput 0 (sputAll 0 keep aonResets) F.SET_DENIED_CNT_VALUE.key 0) F.SET_STATUS_DENIED_SAT.key 0
/-- The AON power-on reset and the main-island reset that follows. S is unknown; H, C_save and P_run are in the settings cells (11 R438). -/
def State.aonReset (s : State) : State :=
  let s := (s.closeEpoch 4).settingsCut
  let s := s.powerCut.recCut
  let s := { s with sets := { s.sets with ue := [] } }
  let icu := { Icu.reset with sel := (List.range 31).foldl (fun m j => sput 0 m (j + 1) (BitVec.ofNat 32 (s.cell (0x2A1 + j)))) Icu.reset.sel }
  let s := { s with regs := sput 0 s.aonRegs F.EPC_MODEL_H.key (Frac.mk' (s.cell 0x224) 1000).permille, epc := { Epc.reset with soh := Frac.mk' (s.cell 0x224) 1000 }, icu := icu }
  let s := s.setTest { s.test with slots := sdrop (· = 80) s.test.slots }
  ({ s with flash := { s.flash with scrubDue := true } }).mainReset 0
/-- AON_RST_N falls. -/
def State.aonRst (s : State) : State :=
  if !s.clk.aonRstN then s else
  (s.setClk { s.clk with aonRstN := false }).aonReset
/-- AON_RST_N rises; the AON island leaves reset 2 ms later, and a main-island reset follows. -/
def State.aonRstRelease (s : State) : State :=
  if s.clk.aonRstN then s else
  let s := s.setClk { s.clk with aonRstN := true }
  if !s.clk.vaon then s else (s.mainReset 0).beginStart
/-- VAON rises through 2.7 V. -/
def State.vaonRise (s : State) : State :=
  let s := s.setClk { s.clk with vaon := true }
  s.aonReset.beginStart

/-! ### The reference clock and the crystal (17 R628, R629) -/

/-- No REFCLK_SYS edge for 1 µs. -/
def State.refLoss (s : State) : State :=
  if s.clk.inReset || s.bit F.CLK_STATUS_REF_LOST then s else
  let s := s.setClk { s.clk with refLostAt := s.now }
  ((s.setBit F.CLK_STATUS_REF_LOST true).bump F.CLK_REF_LOSS_CNT_VALUE F.CLK_CNT_STATUS_REF_LOSS_SAT 565).raise 562
def State.refBack (s : State) : State := s.setBit F.CLK_STATUS_REF_LOST false
/-- Still lost after 10 ms: a reset save, or before memory active a main-island reset is not called for, and nothing happens. -/
def State.refReset (s : State) : State :=
  if s.clk.inReset || !s.bit F.CLK_STATUS_REF_LOST || s.now < s.clk.refLostAt + ms 10 || !s.memActive || !(s.power = 0 || s.power = 2) then s
  else s.enterSave .refLoss
/-- The crystal has stopped for 1 ms. -/
def State.xtalStop (s : State) : State :=
  if s.clk.xtalAt ≠ 0 then s else
  let s := s.setClk { s.clk with xtalAt := s.now + 1 }
  (s.setBit F.CLK_STATUS_XTAL_FAIL true).raise 564
/-- It has run for 1 s. -/
def State.xtalBack (s : State) : State := (s.setClk { s.clk with xtalAt := 0 }).setBit F.CLK_STATUS_XTAL_FAIL false

end Sys2Proof.Machine
end

