-- ==== Sys2Proof/Machine/StartFx.lean ====
section
/-! DEFINITION. Start-up, steps 0 to 5 (17 R641 to R650), and what each chapter does at its step. -/
namespace Sys2Proof.Machine

/-- The fields that are read at start-up (01 R46). -/
def latchFields : List Fld :=
  [F.CXP_MODE_ATTACH, F.CXP_MODE_LDS, F.TIDE_CTRL_STAGE_SIZE, F.FTC_CFG_OP, F.FTC_CFG_CMP_DEF, F.FTC_LOFT_CTRL_SIZE, F.DMC_RET_CTRL_MASK,
   F.EPC_CFG_SHARED, F.TWN_CFG_UNIT, F.TWN_CFG_MODE, F.TWN_RSET_KIND_MAP, F.TWN_RSET_HOME_MAP, F.UTE_CFG_SPLIT0, F.UTE_CFG_SPLIT1,
   F.CMD_MCTP_I3C, F.CMD_MCTP_ADDR] ++ ((List.range 4).map F.CXP_PORT_CFG_BIF) ++
  (List.range 16).map fun h => F.CXP_LNK_CFG_HEADGRP (h / 4) (h % 4)
def State.latchAll (s : State) : State :=
  s.setClk { s.clk with latch := latchFields.foldl (fun m f => sput 0 m f.key (s.fget f)) s.clk.latch }

/-! ### Failure, step ends (R644, R647) -/

def stepBound (n : Nat) : Nat := match n with | 0 => 1000 | 1 => 10000 | 2 => 210000 | 3 => 550000 | _ => 1600000
/-- Start-up fails and holds at step n. -/
def State.startFail (s : State) (n : Nat) : State :=
  let s := s.setClk { s.clk with starting := false, joining := false }
  ((s.fset F.CLK_STATUS_STEP n).setBit F.CLK_STATUS_FAIL true).raise 563
/-- Step n ends at `t` µs from the start point and the next begins. -/
def State.stepEnd (s : State) (n t : Nat) : State :=
  ({ s with now := max s.now (s.clk.start + us t) }.fset (F.CLK_STEP_END_TIME n) t).fset F.CLK_STATUS_STEP (n + 1)

/-! ### Steps 0 to 2 -/

/-- Step 0: the PLLs lock, the main island leaves reset. -/
def State.step0 (s : State) : State :=
  let s := s.setClk { s.clk with inReset := false }
  (s.setCcx { s.ccx with t0 := s.now }).fset F.CLK_STATUS_STEP 0
/-- Present links and links of each Ethernet port begin training (R641 step 1; 04 R131; 13 R491). -/
def State.linksBegin (s : State) : State :=
  let s := (List.range 16).foldl (fun a h => if a.present h && a.linkState h = 0 then a.fset (lnk F.CXP_LNK_STATUS_STATE h) (a.trainState h) else a) s
  (List.range 4).foldl (fun a l => if a.linkThere l && a.fget (F.UTE_LINK_STATUS_STATE l) = 0 then a.fset (F.UTE_LINK_STATUS_STATE l) 1 else a) s
/-- Step 1: settings words are copied and latched; the watcher hands over; the Harbourmaster boots; links begin training; the recorder's epoch opens
and, after a rise of PWR_GOOD, the power-cycle count advances (18 R673, R674). -/
def State.step1 (s : State) : State :=
  let s := s.groupRecover.reloadWords.latchAll.watchOff
  let s := if s.armed && s.fget F.CLK_RESET_CAUSE_CAUSE = 1 then s.bumpQuiet F.REC_CYCLES_VALUE else s
  let s := s.openEpoch
  let s := ((s.setCore 8 0).fset F.TWN_STATUS_LANES 7).linksBegin
  (if s.shared then s else s.setAct 7).setBit F.TST_PROD_ARMED s.armed
/-- Step 2: the EPC estimates S where it is unknown, and the first paddock limit is computed (11 R438; 02 R65). -/
def State.step2 (s : State) : State :=
  let s := if !s.epc.socUnknown then s else
    let x := s.ocvInverse s.epc.read.vbus
    (x.2.setEpc { x.2.epc with socUnknown := false }).setCharge ((x.1.add ⟨-1, 10⟩).unit)
  s.modelUpdate

/-! ### Step 3: flash (08 R271 to R276, R302) -/

def tib : Nat := 2 ^ 40
/-- Packages on channel c. -/
def flashAt (p : FlashPop) (c : Nat) : Nat := p.onChannel.getD c 0
/-- The populations of the table of R271. -/
def flashTable : List (List Nat) :=
  [(List.range 32).map fun c => if c % 2 = 0 then 1 else 0, List.replicate 32 1, List.replicate 32 2]
/-- A population of R271 and R272. -/
def flashOk (p : FlashPop) : Bool :=
  flashTable.contains p.onChannel && [tib / 2, tib, 2 * tib, 4 * tib, 8 * tib].contains p.pkgBytes && p.packages * p.pkgBytes ≤ 128 * tib
/-- Does the NAND profile stay within the limits of R269 and the maxima of R270? -/
def profileOk (p : FlashPop) : Bool :=
  (p.bpc = 3 || p.bpc = 4) && 1 ≤ p.ces && p.ces ≤ 4 && 1 ≤ p.luns && p.luns ≤ 4 && p.readUs ≤ 90 && p.readSlcUs ≤ 45 &&
    p.progUs ≤ 1700 && p.progSlcUs ≤ 400 && p.suspendUs ≤ 50
/-- May the packages of a channel come into service: their parameter pages match the profile, and the channel has at most 8 CE (R269, R270)? -/
def flashFits (p : FlashPop) (c : Nat) : Bool := profileOk p && p.matching.getLsbD c && flashAt p c * p.ces ≤ 8
/-- The loop of R273: TiB come off while less than 4 % would remain. -/
def uLoop (raw fixed : Nat) : Nat → Nat → Nat
  | 0, u => u
  | n + 1, u => if u > 0 && raw * 100 < raw * 4 + (u + fixed) * 100 then uLoop raw fixed n (u - tib) else u
def State.flashOp (s : State) : Nat := max 8 (min 40 (s.latched F.FTC_CFG_OP))
/-- U of R273. -/
def State.flashU (s : State) (p : FlashPop) : Nat :=
  let raw := p.packages * p.pkgBytes
  let first := min (raw * (100 - s.flashOp) / 100 / tib * tib) (112 * tib)
  let fixed := raw / (if p.packages = 16 then 16 else 32) + s.flash.loftSize * 2 ^ 36 * p.bpc
  uLoop raw fixed 112 first
/-- The size of the Loft in force (R302). -/
def State.loftNow (s : State) : State :=
  let want := max 2 (min 64 (s.latched F.FTC_LOFT_CTRL_SIZE))
  let empty := !s.flash.loft.header && s.flash.unfolded.isEmpty
  let free := s.flash.freeBytes + s.flash.loftSize * 2 ^ 36 * s.flash.pop.bpc - want * 2 ^ 36 * s.flash.pop.bpc
  let s := if empty then { s with flash := { s.flash with loftSize := want, freeBytes := free } } else s
  s.setBit F.FTC_STATUS_LOFT_PENDING (s.flash.loftSize ≠ want)
/-- A channel with packages is in service once they have trained and fit the profile (R269, R270, R272). -/
def State.flashChannel (s : State) (p : FlashPop) (onfi : BitVec 32) (c : Nat) : State :=
  if flashAt p c = 0 then (s.fset (F.FTC_CH_STATUS_STATE c) 0).fset (F.FTC_CH_STATUS_PKGS c) 0 else
  let up : Bool := onfi.getLsbD c && flashFits p c
  let rate := s.free 29
  let s := rate.2.fset (F.FTC_CH_STATUS_RATE c) (if up then 8 + rate.1 else 0)
  let s := s.fset (F.FTC_CH_STATUS_DIES_RETIRED c) (s.flash.deadDies.filter fun d => d / 32 = c).length
  (s.fset (F.FTC_CH_STATUS_PKGS c) (flashAt p c)).fset (F.FTC_CH_STATUS_STATE c) (if up then 2 else 3)
/-- Free space before anything is allocated: what R leaves after the Loft, less what the map, firmware and reserve areas take, which no rule gives
(log 35). -/
def State.firstFree (s : State) (raw : Nat) : State :=
  let x := s.free (raw / 100 + 1)
  { x.2 with flash := { x.2.flash with freeBytes := raw - s.flash.loftSize * 2 ^ 36 * s.flash.pop.bpc - x.1 } }
/-- The flash tier comes into service, or CFG_ERR is set. -/
def State.flashUp (s : State) (p : FlashPop) (onfi : BitVec 32) (first : Bool) : State :=
  let s := { s with flash := { s.flash with pop := p } }
  if !flashOk p then s.setBit F.FTC_STATUS_CFG_ERR true else
  let raw := p.packages * p.pkgBytes
  let s := s.loftNow
  let s := ((List.range 32).foldl (fun a c => a.flashChannel p onfi c) s).setChannels
  let u := s.flashU p
  let pages := (if s.cmpDefault then 2 * u else u) / 4096
  let s := (s.fset F.FTC_RAW_VALUE raw).fset F.FTC_U_VALUE u
  let s := s.fset F.FTC_DRAM_RSV_VALUE (8 * pages + raw / 2048)
  let s := if first then s.firstFree raw else s
  let s := (s.setFree s.flash.freeBytes).fset F.FTC_STATUS_DIES_RETIRED s.flash.deadDies.length
  s.setWear.setBit F.FTC_STATUS_CFG_ERR (u < tib)

/-! ### Step 3: DRAM and the Quay (09 R315 to R318, R334, R338, R344, R353; 10 R384) -/

/-- A population that R315 and R316 allow. -/
def dimmsOk (p : DimmPop) : Bool :=
  (p.dpc = 1 || p.dpc = 2) && (p.pr = 1 || p.pr = 2) && [1, 2, 4].contains p.height && [64, 128].contains p.ncb &&
    14 ≤ p.rowBits && p.rowBits ≤ 18 && rankCount p ≤ 16 && 0 < p.bytes && p.bytes ≤ 2 ^ 38 && installedBytes p ≤ 6 * tib
/-- DRAM clock in MHz of shadow set k (05 R180). -/
def dramClock (p : DimmPop) (k : Nat) : Nat := match k with | 0 => if p.dpc = 1 then 3200 else 2800 | 1 => 2400 | _ => 1600
/-- A minimum in ps as whole tCK of set k. -/
def tcks (p : DimmPop) (k ps : Nat) : Nat := (ps * dramClock p k + 999999) / 1000000
/-- The values of DMC_TSET k (R318). -/
def State.timings (s : State) (p : DimmPop) (c k : Nat) : State :=
  let cl := tcks p k p.clPs
  let s := (s.fset (F.DMC_TSET_CL c k) (cl + cl % 2)).fset (F.DMC_TSET_RCD c k) (tcks p k p.rcdPs)
  let rf := tcks p k p.rfcsbPs * 1000
  (s.fset (F.DMC_TSET_RP c k) (tcks p k p.rpPs)).fset (F.DMC_TSET_RFCSB c k) ((rf + 4 * dramClock p k - 1) / (4 * dramClock p k))
/-- Channel c comes into service if a DIMM of it has trained (R317). -/
def State.dmcChannel (s : State) (p : DimmPop) (ddr : BitVec 24) (c : Nat) : State :=
  let pwr := ddr.toNat / 2 ^ (2 * c) % 2 ^ p.dpc
  let s := (s.fset (F.DMC_CFG_ROW_BITS c) p.rowBits).fset (F.DMC_CFG_NCB c) (if p.ncb = 128 then 1 else 0)
  let s := (s.fset (F.DMC_CFG_HEIGHT c) (Nat.log2 p.height)).fset (F.DMC_CFG_PRANKS c) (Nat.log2 p.pr)
  let s := (s.fset (F.DMC_CFG_DPC c) (Nat.log2 p.dpc)).fset (F.DMC_CFG_DENSITY c) (if p.dense then 1 else 0)
  let s := (List.range 3).foldl (fun a k => a.timings p c k) s
  (s.fset (F.DMC_STATUS_DIMM_PWR c) pwr).fset (F.DMC_STATUS_STATE c) (if pwr = 0 then 4 else 2)
/-- The DMCs come into service; the second part says whether the population breaks R316 or differs from the record (R317). -/
def State.dramUp (s : State) (p : DimmPop) (bad : Bool) (ddr : BitVec 24) : Bool × State :=
  let first := s.dram.recorded.isNone
  let missing := (List.range 24).filter fun d => decide (d % 2 < p.dpc) && !ddr.getLsbD d
  let fits := dimmsOk p && !bad && (match s.dram.recorded with | some r => r = p | none => true)
  let okay := fits && (missing.isEmpty || (!first && missing.length = 1))
  if !okay then (false, (List.range 12).foldl (fun a c => a.fset (F.DMC_STATUS_STATE c) 4) s)
  else
    let s := { s with dram := { s.dram with pop := p, recorded := some p, lost := missing } }
    let s := s.setBit F.CLK_STATUS_FIRST (first || s.bit F.CLK_STATUS_FIRST)
    let s := (List.range 12).foldl (fun a c => a.dmcChannel p ddr c) s
    let s := missing.foldl (fun a d => (a.logErr none (d / 2 + 32 * (d % 2)) .dram .lost .demand 0xFF 0).raise (256 + 8 * (d / 2))) s
    (true, s)
/-- Bytes of DRAM that RGN_CAP_DRAM counts: over the DIMMs of the mask while it excludes one (R344), without a lost DIMM (10 R382). -/
def State.dramBytes (s : State) : Nat :=
  let all := (List.range 24).filter fun d => d % 2 < s.dram.pop.dpc
  ((all.filter fun d => s.inMask d && !s.dram.lost.contains d).length) * s.dram.pop.bytes
/-- The Quay: channels, layout, capacities (R338, R353; 03 R119; 10 R384). Lanes repaired: a free value. -/
def State.quayUp (s : State) (hbm : BitVec 16) : State :=
  let s := (List.range 16).foldl (fun a h =>
    let k := a.free 16
    (k.2.fset (F.HBC_CH_STATUS_LANES_REPAIRED h) k.1).fset (F.HBC_CH_STATUS_STATE h) (if hbm.getLsbD h then 1 else 3)) s
  let lost := (List.range 16).filter fun h => !hbm.getLsbD h
  let s := (s.fset F.HBC_STATUS_IN_SERVICE hbm.toNat).setBit F.INT_STATUS_QUAY_DEGRADED (!lost.isEmpty)
  let s := { s with quay := { s.quay with lost := lost } }
  let stage := min 64 (s.latched F.TIDE_CTRL_STAGE_SIZE)
  let s := s.fset F.HBC_LAYOUT_STAGE_BASE (96 - stage)
  (s.fset F.RGN_CAP_QUAY_VALUE ((24576 - 2336 - 256 * stage - 1536 * lost.length) * 2 ^ 20)).fset F.RGN_CAP_FLASH_VALUE (s.fget F.FTC_U_VALUE)
def State.capDram (s : State) : State := s.fset F.RGN_CAP_DRAM_VALUE (s.dramBytes - s.fget F.FTC_DRAM_RSV_VALUE - s.pCap)

/-! ### Step 3: firmware (R642; 14 R559, R560) -/

def State.fwSlot (s : State) (b : Bool) : FwSlot := if b then s.cmd.fwB else s.cmd.fwA
/-- The slot that runs: the one named NEXT if it verifies, else the other if that is verified; none when neither does. -/
def State.fwPick (s : State) : Option Bool :=
  if (s.fwSlot s.cmd.nextB).verified then some s.cmd.nextB
  else if (s.fwSlot (!s.cmd.nextB)).verified then some (!s.cmd.nextB)
  else none
/-- The firmware is loaded into every core. -/
def State.fwLoad (s : State) (b : Bool) : State :=
  let s := (s.setBit F.CMD_STATUS_FW_ACTIVE b).setBit F.CMD_STATUS_FW_NEXT s.cmd.nextB
  let s := s.fset F.GEN_FW_VERSION_VERSION (s.fwSlot b).version
  (List.range 8).foldl (fun a k => a.setCore k 0) s

/-! ### Step 4: regions, the Loft, the Landing image (R641; 03 R95, R100, R117; 08 R306, R307; 02 R53) -/

/-- Regions as the journal gives them: an OFFERED one becomes DRAINING, a DRAINING one stays so; a RETYPING one goes on under its new flags
(03 R100, R128). -/
def State.regionsBack (s : State) : State :=
  let off := (s.rgn.regions.filter fun kv : Nat × Region => kv.2.state = .offered).map Prod.fst
  let s := off.foldl (fun (a : State) i => a.setRState i .draining) s
  s.fset F.RGN_TBL_STATUS_IN_USE (inUse s.rgn.regions)
/-- V pages are ZERO and their spilled copies are trimmed (R117). -/
def State.trimV (s : State) : State :=
  let gone := (s.flash.map.map (·.1)).filter fun p => match s.pageDur p with | some .l => false | some .m => false | _ => true
  gone.foldl (fun a p => (a.trim p).setPage p PageWord.fresh) s
/-- One saved page: its map entry points at its Loft extent (R306). -/
def State.applyLoft (s : State) (e : LoftEntry) : State :=
  if s.regionAt e.page ≠ some e.region || (s.region e.region).rgen ≠ e.rgen then s else
  let s := { s with flash := { s.flash with data := memSetPage s.flash.data e.page (memPage s.flash.loftData e.page) } }
  let s := s.setMap e.page (mapEntry 1 e.enc true 3 e.rgen e.sector)
  s.setPage e.page { s.page e.page with zero := false, f := false }
/-- The save that the last reset left is applied; later saves of a page stand over earlier ones. FOLD_DONE is set while the Loft holds no unfolded
page (R310). -/
def State.loftBack (s : State) : State :=
  let s := (s.flash.loft.index.drop s.flash.loft.applied).foldl State.applyLoft s
  let left := (s.flash.loft.index.filter fun e => mapValid (s.mapOf e.page) && mapSector (s.mapOf e.page) = e.sector).map (·.page)
  let left := left.foldl (fun l p => insNat p l) []
  let loft := if left.isEmpty then { LoftSave.empty with half := s.flash.loft.half } else { s.flash.loft with applied := s.flash.loft.index.length }
  let s := { s with flash := { s.flash with loft := loft, loftData := [], unfolded := left } }
  (s.setBit F.FTC_STATUS_FOLD_DONE left.isEmpty).setFree s.flash.freeBytes
/-- One entry of the Landing image is merged into its page, which is written through the write log (R306). -/
def State.mergeImage (s : State) (x : Nat × LineStore) : State :=
  let p := x.1 / 64
  match s.regionAt p with
  | none => s
  | some i =>
    if (s.region i).dur = .v || s.flash.lost.contains p || s.flash.mirrorFetch.contains p then s else
    let f := s.extentForm i (s.integ.poison.any fun l => l / 64 = p)
    let sec := f.2.place .writeLog (f.1.2 + 1)
    let s := sec.2
    let s := { s with flash := { s.flash with data := memPutLine s.flash.data x.1 x.2.data x.2.mask } }
    let s := (s.setMap p (mapEntry f.1.1 (s.region i).enc true f.1.2 (s.region i).rgen sec.1)).useBlock sec.1 (f.1.2 + 1) .writeLog
    s.setPage p { s.page p with zero := false }
def State.imageBack (s : State) : State :=
  let s := s.flash.landImage.foldl State.mergeImage s
  { s with flash := { s.flash with landImage := [] } }
/-- Pages whose stores the save lost (R53). -/
def State.lostBack (s : State) : State :=
  let s := s.flash.lost.foldl State.losePage s
  let wait := s.flash.mirrorFetch.filter fun p => (s.page p).restorePending
  { s with flash := { s.flash with lost := [], mirrorFetch := wait } }
/-- Does a set hold a region? -/
def State.setUsed (s : State) (n : Nat) : Bool := s.rgn.regions.any fun kv => kv.2.state ≠ .free && kv.2.rset = n
/-- Kind and home of each set in force (12 R444). -/
def State.kindsBack (s : State) : State :=
  let wantK : BitVec 64 := BitVec.ofNat 64 (s.latched F.TWN_RSET_KIND_MAP)
  let wantH : BitVec 64 := BitVec.ofNat 64 (s.latched F.TWN_RSET_HOME_MAP)
  let used : BitVec 64 := (List.range 64).foldl (fun m n => if s.setUsed n then m ||| (1#64 <<< n) else m) 0
  let kind := (s.rgn.kind &&& used) ||| (wantK &&& ~~~used)
  let home := (s.rgn.home &&& used) ||| (wantH &&& ~~~used)
  let s := { s with rgn := { s.rgn with kind := kind, home := home } }
  if kind ≠ wantK || home ≠ wantH then (s.setBit F.TWN_STATUS_KIND_MISMATCH true).raise 448 else s
/-- Step 4. -/
def State.step4 (s : State) : State :=
  let s := s.regionsBack.trimV.loftBack.imageBack.lostBack.kindsBack
  s.testOvercommit

/-! ### Step 5: the twin state and memory active (R641; 12 R475; 11 R426) -/

/-- Memory active: FULL; links that are UP enter ACTIVE (04 R177). A rehearsal is requested while no save cost is known (R649). -/
def State.goActive (s : State) : State :=
  let s := ((s.fset F.CLK_STATUS_STEP 6).setBit F.CLK_STATUS_MEM_ACTIVE true).fset (F.CLK_STEP_END_TIME 5) (toUs (s.now - s.clk.start))
  let s := (List.range 16).foldl (fun a h => if a.linkState h = 3 then (a.fset (lnk F.CXP_LNK_STATUS_STATE h) 4).raise (128 + 8 * h) else a) s
  let s := { s with dram := { s.dram with t0 := s.now, pauses := [] }, clk := { s.clk with starting := false, joining := false } }
  let s := if s.flash.scrubDue then s.scrubAll true else s
  let s := (s.raise 560).raise 561
  if s.bit F.EPC_C_SAVE_C_SAVE then s else s.requestReh
/-- Step 5 begins: SOLO at once, or the wait for the twin (JOIN_WAIT). -/
def State.step5 (s : State) : State :=
  if !s.paired2 then s.joinSolo.goActive
  else
    let s := s.setTwin { s.twin with joinSince := s.now, markAt := s.now, renewSeen := false }
    s.setClk { s.clk with starting := false, joining := true }
/-- The wait for the twin has ended: memory active. -/
def State.joinEnded (s : State) : State :=
  if s.clk.inReset || s.clk.joining || s.memActive || s.bit F.CLK_STATUS_FAIL || s.fget F.CLK_STATUS_STEP ≠ 5 || s.power ≠ 0 then s else s.goActive

/-! ### START_UP -/

/-- End of step n in µs: what the environment gives, and no earlier than the step before. -/
def stepTime (ends : List Nat) : Nat → Nat
  | 0 => ends.getD 0 0
  | n + 1 => max (stepTime ends n) (ends.getD (n + 1) 0)
/-- Step n took longer than its bound and 1 s: start-up fails there. -/
def State.stepLate (s : State) (n : Nat) : State := { s with now := max s.now (s.clk.start + us (stepBound n + 1000000)) }.startFail n
def stepOver (ends : List Nat) (n : Nat) : Bool := stepBound n + 1000000 < stepTime ends n
/-- From step 3 on. -/
def State.startRest (s : State) (e : StartEnv) : State :=
  let first := s.dram.recorded.isNone
  let s := s.flashUp e.flash e.onfi first
  let d := s.dramUp e.dimms e.dimmBad e.ddr
  let s := d.2
  if stepOver e.ends 3 then s.stepLate 3
  else if !d.1 || s.bit F.FTC_STATUS_CFG_ERR then ({ s with now := max s.now (s.clk.start + us (stepTime e.ends 3)) }).startFail 3
  else
    let s := (s.quayUp e.hbm).capDram
    match s.fwPick with
    | none => ({ s with now := max s.now (s.clk.start + us (stepTime e.ends 3)) }).startFail 3
    | some b =>
      let s := (s.fwLoad b).stepEnd 3 (stepTime e.ends 3)
      if stepOver e.ends 4 then s.stepLate 4 else
      (s.step4.stepEnd 4 (stepTime e.ends 4)).step5
/-- START_UP: the whole sequence for what the pins and populations show (log 40). A Harbourmaster restart before memory active starts again from
step 1 (R645). -/
def State.startUp (s : State) (e : StartEnv) : State :=
  if !s.clk.starting || !(s.clk.pwrGood && s.clk.sysRstN && s.clk.aonRstN && s.clk.vaon && s.clk.pfailN) then s
  else if s.clk.inReset && stepOver e.ends 0 then s.step0.stepLate 0
  else
    let s := if s.clk.inReset then s.step0.stepEnd 0 (stepTime e.ends 0) else s
    if stepOver e.ends 1 then s.step1.stepLate 1 else
    let s := s.step1
    if !s.armed && s.test.tap = .dbgAccess then
      let s := { s with now := max s.now (s.clk.start + us (stepTime e.ends 1)) }
      ((s.setClk { s.clk with starting := false }).setBit F.TST_STATUS_PROD_HOLD true).fset (F.CLK_STEP_END_TIME 1) (stepTime e.ends 1)
    else
      let s := s.stepEnd 1 (stepTime e.ends 1)
      let s := s.step2
      if stepOver e.ends 2 then s.stepLate 2 else
      (s.stepEnd 2 (stepTime e.ends 2)).startRest e
/-- STARTUP_STEP_TIMEOUT: a step in progress has passed its bound by 1 s (R644). -/
def State.stepTimeout (s : State) : State :=
  let jw := max 1 (s.fget F.TWN_CFG_JOIN_WAIT)
  if s.clk.joining then (if s.clk.start + ms (1614 + jw + 1000) < s.now then s.startFail 5 else s)
  else if s.clk.starting && !s.clk.inReset then (if s.clk.start + us (stepBound 1 + 1000000) < s.now then s.startFail 1 else s)
  else if s.clk.starting then (if s.clk.start + us (stepBound 0 + 1000000) < s.now then s.step0.startFail 0 else s)
  else s
/-- A Harbourmaster restart before memory active starts the sequence again from step 1; the cause reads 7 (R645). -/
def State.restartEarly (s : State) : State :=
  if s.clk.inReset || s.memActive || s.power ≠ 0 || s.prodHold then s else
  let s := s.setClk { s.clk with starting := true, joining := false, start := s.now }
  ((s.fset F.CLK_STATUS_STEP 1).setBit F.CLK_STATUS_FAIL false).fset F.CLK_RESET_CAUSE_CAUSE 7

end Sys2Proof.Machine
end

