-- ==== Sys2Proof/Machine/PowerFx.lean ====
section
/-! DEFINITION. STANDBY and AON-ONLY (17 R630 to R634; 09 R345 to R347). -/
namespace Sys2Proof.Machine

/-! ### POWER_STATE_SET (R631; 14 R558) -/

/-- The transition that the command begins. A state the device is in already, or a transition that leads there already, needs nothing. -/
def State.beginPower (s : State) (want : Nat) : State :=
  let now := fun m : PowerMove => { s with clk := { s.clk with move := m, moveSince := s.now } }
  match s.power, s.clk.move, want with
  | 0, .none, 1 => now .entering
  | 0, .none, 2 => now .draining
  | 0, .entering, 0 => { s with clk := { s.clk with exitWanted := true } }
  | 0, .entering, 2 => { s with clk := { s.clk with exitWanted := true, drainAfter := true } }
  | 2, .none, 0 => now .exiting
  | 2, .none, 2 => { now .exiting with clk := { (now .exiting).clk with drainAfter := true } }
  | 2, .exiting, 2 => { s with clk := { s.clk with drainAfter := true } }
  | _, _, _ => s
def cmdPowerState (c : Cmd) (s : State) : CmdRes :=
  guarded ([param (2 < c.fld 0 1) 0] ++ c.zeros 1 3) s (done (s.beginPower (c.fld 0 1)) [])
def defPowerState : CmdDef :=
  { size := fun c => c.len = 4, host := false, rights := fun _ _ _ => 0, mode := fun _ _ => 0, max := fun _ => 1000, run := cmdPowerState }

/-! ### STANDBY -/

/-- DIMMs outside the mask that are in service (09 R345). -/
def State.outsideDimms (s : State) : List Nat :=
  (List.range 24).filter fun d => d % 2 < s.dram.pop.dpc && !s.inMask d && !s.dram.lost.contains d
/-- STANDBY_ENTRY_DONE: programs in progress have completed; cores, memory and PLLs stop (R632; 09 R345, R356; 15 R595; 07 R266; 03 R126). It does
not come before memory active: R631 has no transition from start-up (log 63). -/
def State.standbyDone (s : State) : State :=
  if s.clk.inReset || !s.memActive || s.power ≠ 0 || s.clk.move ≠ .entering || !s.pers.flushes.isEmpty || s.dram.change.isSome then s else
  let s := s.abandonAll.tideStandby
  let s := (List.range 7).foldl (fun a k => if a.coreRuns (k + 1) then a.setCore (k + 1) 3 else a) s
  let s := (List.range 12).foldl (fun a c => if a.fget (F.DMC_STATUS_STATE c) = 2 then a.fset (F.DMC_STATUS_STATE c) 3 else a) s
  let s := s.outsideDimms.foldl (fun a d => a.setFbit (F.DMC_STATUS_DIMM_PWR (d / 2)) (d % 2) false) s
  let s := (List.range 16).foldl (fun a h => if a.fget (F.HBC_CH_STATUS_STATE h) = 1 then a.fset (F.HBC_CH_STATUS_STATE h) 2 else a) s
  let s := { s with dram := { s.dram with rows := [] }, quay := { s.quay with rows := [] } }
  let s := (s.fset F.CLK_STATUS_PWR_STATE 2).raise 561
  let wanted := s.clk.exitWanted
  { s with clk := { s.clk with move := if wanted then .exiting else .none, moveSince := s.now, exitWanted := false } }
/-- STANDBY_EXIT_DONE: memory is out of self-refresh; FULL; requests that waited are served (R633; 05 R210; 09 R346, R347, R356). -/
def State.fullAgain (s : State) : State :=
  if s.clk.inReset || s.power ≠ 2 || s.clk.move ≠ .exiting then s else
  let s := (s.fset F.CLK_STATUS_PWR_STATE 0).raise 561
  let s := (List.range 12).foldl (fun a c => if a.fget (F.DMC_STATUS_STATE c) = 3 then a.fset (F.DMC_STATUS_STATE c) 2 else a) s
  let s := (List.range 16).foldl (fun a h => if a.fget (F.HBC_CH_STATUS_STATE h) = 2 then a.fset (F.HBC_CH_STATUS_STATE h) 1 else a) s
  let s := (List.range 7).foldl (fun a k => if a.fget (F.CCX_CORE_STATUS_STATE (k + 1)) = 3 then a.setCore (k + 1) 0 else a) s
  let out := s.outsideDimms
  let s := { s with dram := { s.dram with t0 := s.now, pauses := [], unswept := out, dClear := !out.isEmpty } }
  let after := s.clk.drainAfter
  let s := { s with clk := { s.clk with move := if after then .draining else .none, moveSince := s.now, drainAfter := false } }
  let q := s.rgn.standbyQ
  ({ s with rgn := { s.rgn with standbyQ := [] } }).runAll 0 q
/-- HOST_L1_EXIT (R631). -/
def State.l1Exit (s : State) (head : Nat) : State :=
  if s.clk.inReset || 16 ≤ head || s.linkState head ≠ 4 then s else s.exitTrigger

/-! ### AON-ONLY (R634) -/

/-- Mirrored sets still to be handed over. -/
def State.toHandOver (s : State) : BitVec 64 := if s.isPaired then s.ownMap &&& s.mirrored else 0
/-- Step 2 of the drain: sets whose copy at the twin is current are handed over as by TWIN_HANDOVER. -/
def State.drainHandover (s : State) : State :=
  if s.clk.move ≠ .draining || s.twin.handover.isSome || s.epochFrozen || s.ccx.restart.isSome then s else
  let m := s.toHandOver &&& ~~~s.twin.resync
  if m = 0 || !(s.unmirrored m).isEmpty then s
  else s.setTwin { s.twin with handover := some ⟨m, false, [], none⟩ }
/-- Is every class of traffic empty (06 R234)? DESIGN CHOICE (log 97): in the drain no new UT descriptor starts. -/
def State.classesEmpty (s : State) : Bool :=
  s.requests.isEmpty && s.cxl.ingress.isEmpty && s.cxl.leaving.isEmpty && s.pers.landing.isEmpty && s.pers.ingress.isEmpty &&
    s.pers.flushes.isEmpty && s.queues.all (fun c => c.reads.isEmpty && c.writes.isEmpty) && s.ute.placing.isEmpty && s.ute.ops.isEmpty &&
    s.ute.shed.isEmpty && s.ute.msgs.isEmpty && s.ute.due.isEmpty && s.ute.mirrorTx.isEmpty && s.twin.txLines.isEmpty && s.cmd.slots.isEmpty
/-- AON_DRAIN_COMPLETE: the Landing queue and the paddock are empty; steps 5 and 6. -/
def State.aonDrained (s : State) : State :=
  if s.clk.inReset || !s.memActive || s.power ≠ 0 || s.clk.move ≠ .draining || s.toHandOver ≠ 0 || !s.classesEmpty ||
      !s.dirtyPages.isEmpty then s else
  let s := (s.setBit F.CLK_STATUS_MEM_ACTIVE false).finalHeartbeat
  let s := s.dropInFlight.abandonAll.endReh.actuatorsOff
  let s := ((s.fset F.CLK_STATUS_PWR_STATE 3).raise 561).watchOn
  let s := s.closeEpoch 3
  { s with clk := { s.clk with move := .none, drainAfter := false }, ccx := Ccx.reset }

end Sys2Proof.Machine
end

