-- ==== Sys2Proof/Machine/CmdMisc.lean ====
section
/-! DEFINITION. Commands of groups 0x04, 0x05, 0x07 to 0x0C (14_command_packets.md R558 to R561), with what each chapter says of them. -/
namespace Sys2Proof.Machine

/-- A definition of an opcode that only management carriers may issue, with a fixed payload length. -/
def mgmtDef (len max : Nat) (run : Cmd → State → CmdRes) : CmdDef :=
  { size := fun c => c.len = len, host := false, rights := fun _ _ _ => 0, mode := fun _ _ => 0, max := fun _ => max, run := run }

/-! ### Check units (0x04; 10 R396 to R403) -/

/-- Owner kind and number that a requester gets (R403): an LD, context 0 for a UT peer, else appliance firmware. -/
def checkOwner : Carrier → Nat × Nat
  | .mailbox ld => (0, ld) | .mctp _ => (0, 0xFFFF) | .ut _ _ => (1, 0)
def cmdCheckStart (c : Cmd) (s : State) : CmdRes :=
  let len := c.fld 8 8
  guarded ([((List.range 4).all fun u => s.chkState u = 1, St.noResource, 0), param (len = 0 || 2 ^ 46 < len) 8, param (3 < c.fld 16 1) 16,
      param (1 < c.fld 17 1) 17] ++ c.zeros 18 6) s
    (match (List.range 4).find? fun u => s.chkState u ≠ 1 with
     | none => refuse St.noResource 0 s
     | some u =>
       let o := checkOwner c.carrier
       let id := match s.hostLd c with | some ld => ld + 1 | none => 0
       let s := { s with integ := { s.integ with chk := sput ChkOwner.empty s.integ.chk u ⟨id, false⟩ } }
       let s := (s.fset (F.INT_CHK_CTRL_OWNER u) o.2).setBit (F.INT_CHK_CTRL_OWNER_KIND u) (o.1 = 1)
       let s := (s.fset (F.INT_CHK_CTRL_POLY u) (c.fld 16 1)).fset (F.INT_CHK_START_VALUE u) (c.fld 0 8)
       let s := s.fset (F.INT_CHK_LEN_VALUE u) len
       let s := s.setChkValue u (if c.fld 17 1 = 1 then c.fld 24 8 else (crcKind (c.fld 16 1)).init)
       done (s.chkBegin u) [BitVec.ofNat 8 u])
def defCheckStart : CmdDef :=
  { size := fun c => c.len = 32, host := true, rights := fun _ _ _ => 0, mode := fun _ s => if s.power = 2 then St.mode else 0,
    max := fun _ => 200, run := cmdCheckStart }
/-- The owner, or a management carrier with every owner's rights (R403, R549). -/
def State.notChkOwner (s : State) (c : Cmd) : Bool :=
  match s.hostLd c with
  | some ld => (sget ChkOwner.empty s.integ.chk (c.fld 0 1)).owner ≠ ld + 1
  | none => false
/-- The reply of CHECK_STATUS. -/
def State.chkReply (s : State) (u : Nat) : List Byte :=
  natBytes 8 (s.chkState u) ++ natBytes 8 (s.fget (F.INT_CHK_CUR_VALUE u)) ++ natBytes 8 (s.fget (F.INT_CHK_VALUE_VALUE u)) ++
    natBytes 8 (s.fget (F.INT_CHK_RESULT_VALUE u))
def chkChecks (c : Cmd) (s : State) : List (Bool × Nat × Nat) :=
  [check (s.notChkOwner c) St.notPermitted, param (3 < c.fld 0 1) 0] ++ c.zeros 1 3
def cmdCheckStatus (c : Cmd) (s : State) : CmdRes := guarded (chkChecks c s) s (done s (s.chkReply (c.fld 0 1)))
def defCheckStatus : CmdDef :=
  { size := fun c => c.len = 4, host := true, rights := fun _ _ _ => 0, mode := fun _ _ => 0, max := fun _ => 100, run := cmdCheckStatus }
def cmdCheckStop (c : Cmd) (s : State) : CmdRes :=
  guarded (chkChecks c s) s
    (let u := c.fld 0 1
     if s.chkState u = 1 then later (s.chkStop u) [] (.chkStop u) else done s (s.chkReply u))
def defCheckStop : CmdDef :=
  { size := fun c => c.len = 4, host := true, rights := fun _ _ _ => 0, mode := fun _ _ => 0, max := fun _ => 5000, run := cmdCheckStop }

/-! ### The energy pack (0x05; 11 R410, R411, R426; 17 R649) -/

def cmdProfileSet (c : Cmd) (s : State) : CmdRes :=
  let w := fun i => c.fld (4 * i) 4
  let bad := profileFault w
  guarded [(bad.isSome, St.badParam, bad.getD 0), check (s.stagingCold.isSome || (List.range 35).any fun i => s.frozenWord (0x202 + i)) St.frozen] s
    (let s := s.groupWrite 0x204 ((List.range 32).map w) .profile
     let s := s.groupWrite 0x202 [0, 0] .saveCost
     let s := s.setHealth ⟨(s.hInit : Nat), 1000⟩
     let s := if s.epc.socUnknown && !s.clk.inReset then
         let x := s.ocvInverse s.epc.read.vbus
         x.2.setCharge ((x.1.add ⟨-1, 10⟩).unit)
       else s
     let s := s.setReh { s.epc.reh with request := some s.now, postponed := none }
     later s [] (.settings 0x202 35))
def defProfileSet : CmdDef := mgmtDef 128 500 cmdProfileSet
def cmdRehearse (_c : Cmd) (s : State) : CmdRes := done s.requestReh []
def defRehearse : CmdDef := mgmtDef 0 100 cmdRehearse

/-! ### The error log (0x0701; 10 R391) -/

def typeNum : ErrType → Nat
  | .corrected => 0 | .ueRecovered => 1 | .uePoisoned => 2 | .retired => 3 | .spared => 4 | .lost => 5
def sourceNum : ErrSource → Nat
  | .demand => 0 | .scrub => 1 | .staging => 2 | .flush => 3 | .move => 4 | .check => 5
/-- TIER codes of an entry, in their own numbering. -/
def tierCode : Tier → Nat
  | .sram => 0 | .quay => 1 | .dram => 2 | .flash => 3 | .settings => 4
/-- The 32 B of an entry. -/
def errBytes (e : ErrEntry) : List Byte :=
  natBytes 8 (match e.dla with | some d => 2 ^ 63 + d | none => 0) ++ natBytes 8 e.loc ++
    natBytes 4 (tierCode e.tier * 2 ^ 28 + typeNum e.type * 2 ^ 24 + sourceNum e.source * 2 ^ 16 + e.device * 2 ^ 8 + e.count) ++
    natBytes 4 e.recovery ++ natBytes 4 e.cycles ++ natBytes 4 e.hours
def State.errAt (s : State) (i : Nat) : List Byte :=
  match s.integ.log[i % 4096]? with | some e => errBytes e | none => natBytes 32 0
def cmdErrLog (c : Cmd) (s : State) : CmdRes :=
  let k := c.fld 2 1
  guarded ([param (4095 < c.fld 0 2) 0, param (k = 0 || 127 < k) 2] ++ c.zeros 3 1) s
    (done s (natBytes 2 (s.fget F.INT_LOG_STATUS_NEWEST) ++ natBytes 2 (s.fget F.INT_LOG_STATUS_COUNT) ++
      (List.range k).flatMap fun i => s.errAt (c.fld 0 2 + i)))
def defErrLog : CmdDef := mgmtDef 4 500 cmdErrLog

/-! ### Retirement and sparing (0x0702, 0x0703; 10 R385 to R388) -/

/-- Move the page off a hot-area frame and retire the frame. -/
def State.retireQuay (s : State) (qa : Nat) : State :=
  if s.integ.quayRetired.contains (qa / 4096) then s else
  let s := { s with integ := { s.integ with quayRetired := insNat (qa / 4096) s.integ.quayRetired } }
  let s := match pageOfFrame s.quay.hotQa (qa + 1) with
    | some p =>
      let r := s.quayFrame hotBase (s.fget F.RGN_CAP_QUAY_VALUE) fun q => s.quay.hotQa.any fun kv => kv.2 = q + 1
      (match r.1 with
       | some q => { r.2 with quay := { r.2.quay with hotQa := sput 0 r.2.quay.hotQa p (q + 1) } }
       | none => r.2.demote p)
    | none => s
  (s.bump F.INT_RETIRE_CNT_VALUE F.INT_CNT_STATUS_RETIRE_SAT 412).logErr none (quayLoc qa) .quay .retired .move 0xFF 0
/-- Move the page off a DRAM frame and retire the frame. -/
def State.retireDram (s : State) (f : Nat) : State :=
  if s.dram.retired.contains f then s else
  let s := { s with dram := { s.dram with retired := insNat f s.dram.retired } }
  let s := match pageOfFrame s.dram.frame (f + 1) with | some p => s.reframe p | none => s
  (s.bump F.INT_RETIRE_CNT_VALUE F.INT_CNT_STATUS_RETIRE_SAT 412).logErr none (dramLoc s.dram.pop (4096 * f)) .dram .retired .move 0xFF 0
def cmdPageRetire (c : Cmd) (s : State) : CmdRes :=
  let t := c.fld 0 1
  let a := c.fld 8 8
  let bad := if t = 1 then a % 4096 ≠ 0 || a < hotBase || hotBase + s.fget F.RGN_CAP_QUAY_VALUE ≤ a
    else a % 4096 ≠ 0 || installedBytes s.dram.pop ≤ a
  let full := if t = 1 then 1024 ≤ s.integ.quayRetired.length else 16384 ≤ s.dram.retired.length
  guarded ([param (!(t = 1 || t = 2)) 0] ++ c.zeros 1 7 ++ [param bad 8, check full St.noResource]) s
    (done (if t = 1 then s.retireQuay a else s.retireDram (a / 4096)) [])
def defPageRetire : CmdDef := mgmtDef 16 10000 cmdPageRetire
/-- Other logical ranks of the mask in service (09 R343). -/
def State.maskRanks (s : State) (ch rank : Nat) : List Nat :=
  let n := max 1 (s.dram.pop.height * s.dram.pop.pr)
  ((List.range 12).flatMap fun c => (List.range (rankCount s.dram.pop)).map fun r => (c, r)).filterMap fun x =>
    let d := x.1 * 2 + x.2 / n
    if x ≠ (ch, rank) && s.inMask d && !s.dram.lost.contains d && !s.dram.retiredRanks.contains (x.1 * 16 + x.2) then some (x.1 * 16 + x.2) else none
/-- Can the other ranks of the mask take the reserve, which lies on every rank of the mask (log 13), beside the pages that they hold (R387)? -/
def State.ranksTake (s : State) (ch rank : Nat) : Bool :=
  let rs := s.maskRanks ch rank
  s.fget F.FTC_DRAM_RSV_VALUE + 4096 * (s.dram.frame.filter fun kv : Nat × Nat => rs.contains (s.rankOf (kv.2 - 1))).length ≤ 4096 * s.rankFrames * rs.length
def cmdRankSpare (c : Cmd) (s : State) : CmdRes :=
  let ch := c.fld 0 1
  let rank := c.fld 1 1
  guarded ([param (12 ≤ ch) 0, param (rankCount s.dram.pop ≤ rank || s.dram.pop.bytes = 0) 1] ++ c.zeros 2 2 ++
      [check s.integ.evac.isSome St.wrongState, check (s.poolBytes < s.poolUsed + 4096 * s.rankFrames || !s.ranksTake ch rank) St.budget]) s
    (let s := { s with integ := { s.integ with evac := some ⟨ch, rank⟩ } }
     done (((s.setBit F.INT_STATUS_EVAC_BUSY true).fset F.INT_STATUS_EVAC_CH ch).fset F.INT_STATUS_EVAC_RANK rank) [])
def defRankSpare : CmdDef := mgmtDef 4 1000 cmdRankSpare
def cmdScrubNow (_c : Cmd) (s : State) : CmdRes := done (s.scrubAll false) []
def defScrubNow : CmdDef := mgmtDef 0 1000 cmdScrubNow

/-! ### MEM_CHANNEL_SET (0x0705; 09 R350) -/

/-- DIMMs that the command names: one of a channel, or every DIMM of it. -/
def State.namedDimms (s : State) (ch d : Nat) : List Nat :=
  if d = 0xFF then (List.range s.dram.pop.dpc).map (2 * ch + ·) else [2 * ch + d]
/-- Pages that the loss of a Quay channel leaves without another copy. -/
def State.quayOnly (s : State) : Nat := (s.rgn.pages.filter fun kv => kv.2.q && !kv.2.d && !kv.2.f).length
/-- A lost DIMM still holds the frame of some page: its recovery has not ended. -/
def State.recovering (s : State) : Bool := s.dram.frame.any fun kv => s.dram.lost.contains (s.dimmOf (kv.2 - 1))
def cmdMemChannel (c : Cmd) (s : State) : CmdRes :=
  let kind := c.fld 0 1
  let n := c.fld 1 1
  let d := c.fld 2 1
  let ddr := kind = 2
  let out := if ddr then (s.namedDimms n d).all s.dram.lost.contains else s.quay.lost.contains n
  let need := if ddr then (s.namedDimms n d).length * s.dram.pop.bytes else 4096 * s.quayOnly
  guarded ([param (!(kind = 2 || kind = 3)) 0, param (if ddr then 12 ≤ n else 16 ≤ n) 1,
      param (!(d = 0xFF || (ddr && d < s.dram.pop.dpc))) 2] ++ c.zeros 3 1 ++
      [check (s.poolBytes < s.poolUsed + need) St.budget, check s.recovering St.conflict, check out St.wrongState]) s
    (done (if ddr then (s.namedDimms n d).foldl (fun a x => a.dimmLoss n (x % 2)) s else (s.quayLoss n).resetUncached) [])
def defMemChannel : CmdDef := mgmtDef 4 1000 cmdMemChannel

/-! ### Settings (0x08; 18 R656 to R666) -/

/-- K outside its range names FIRST; a range past the array names 0x1000 (R753). -/
def rangeFault (first k top : Nat) : Option Nat :=
  if k = 0 || top < k then some first else if 4096 < first + k then some 0x1000 else none
def cmdSettingsRead (c : Cmd) (s : State) : CmdRes :=
  let first := c.fld 0 2
  let k := c.fld 2 2
  let f := rangeFault first k 256
  guarded [(f.isSome, St.badParam, f.getD 0)] s
    (done s ((List.range k).flatMap fun i => natBytes 4 (s.wordRead (first + i)) ++ natBytes 4 (s.wcntRead (first + i))))
def defSettingsRead : CmdDef := mgmtDef 4 200 cmdSettingsRead
/-- Words written in ascending order; the words of a register that the command covers whole are one group write (R662). -/
def State.writeWords (s : State) (w : Nat) : Nat → List Nat → State
  | 0, _ => s
  | _ + 1, [] => s
  | n + 1, v :: vs =>
    match wordReg w with
    | some (sp, _, 0) =>
      if 1 < sp.words && sp.words ≤ vs.length + 1 then
        (s.groupWrite w ((v :: vs).take sp.words) .register).writeWords (w + sp.words) n ((v :: vs).drop sp.words)
      else (s.softWord w v).writeWords (w + 1) n vs
    | _ => (s.softWord w v).writeWords (w + 1) n vs
/-- Do `k` words from `first` cover a register of several words whole? -/
def coversGroup (first k : Nat) : Bool := (List.range k).any fun i => match wordReg (first + i) with
  | some (sp, _, 0) => 1 < sp.words && sp.words ≤ k - i
  | _ => false
def cmdSettingsWrite (c : Cmd) (s : State) : CmdRes :=
  let first := c.fld 0 2
  let k := c.fld 2 2
  let f := rangeFault first k 128
  let ws := (List.range k).map (first + ·)
  let own := ws.find? ownWord
  let cold := match ws.find? s.frozenWord with
    | some w => some w
    | none => if coversGroup first k then s.stagingCold else none
  guarded [(f.isSome, St.badParam, f.getD 0), (own.isSome, St.notPermitted, own.getD 0), (cold.isSome, St.frozen, cold.getD 0)] s
    (later (s.writeWords first k ((List.range k).map fun i => c.fld (4 + 4 * i) 4)) [] (.settings first k))
def defSettingsWrite : CmdDef :=
  { mgmtDef 0 1000 cmdSettingsWrite with size := fun c => 4 ≤ c.len && c.len = 4 + 4 * c.fld 2 2 }
def cmdKeySet (c : Cmd) (s : State) : CmdRes :=
  let cold := match ((List.range 8).map (0x300 + ·)).find? s.frozenWord with
    | some w => some w
    | none => s.stagingCold
  guarded [check (s.rgn.regions.any fun kv => kv.2.state ≠ .free && kv.2.enc) St.conflict, (cold.isSome, St.frozen, cold.getD 0)] s
    (later (s.groupWrite 0x300 ((List.range 8).map fun i => c.fld (4 * i) 4) .key) [] (.settings 0x300 8))
def defKeySet : CmdDef := mgmtDef 32 1000 cmdKeySet

/-! ### The recorder (0x09; 18 R670 to R679) -/

def State.recInfo (s : State) : List Byte :=
  natBytes 2 (s.fget F.REC_STATUS_NEWEST) ++ natBytes 2 (s.fget F.REC_STATUS_KEPT) ++ natBytes 2 (s.fget F.REC_STATUS_CIRC) ++ natBytes 2 0 ++
    natBytes 4 (s.fget F.REC_HOURS_VALUE) ++ natBytes 4 (s.fget F.REC_CYCLES_VALUE)
def cmdRecInfo (_c : Cmd) (s : State) : CmdRes := done s s.recInfo
def defRecInfo : CmdDef := mgmtDef 0 100 cmdRecInfo
def State.recordAt (s : State) (i : Nat) : List Byte :=
  let r := sget [] s.recd.slots i
  if r.isEmpty then natBytes 256 0 else r
def cmdRecRead (c : Cmd) (s : State) : CmdRes :=
  let n := c.fld 2 1
  guarded ([param (511 < c.fld 0 2) 0, param (n = 0 || 15 < n) 2] ++ c.zeros 3 1 ++ [param (512 < c.fld 0 2 + n) 0]) s
    (done s (s.recInfo ++ (List.range n).flatMap fun i => s.recordAt (c.fld 0 2 + i)))
def defRecRead : CmdDef := mgmtDef 4 2000 cmdRecRead

/-! ### Loop-backs (0x0A; 21 R734 to R739) -/

def cmdLoopSet (c : Cmd) (s : State) : CmdRes :=
  match s.lbFault false (c.fld 0 1) (c.fld 1 1) (c.fld 2 1) with
  | some f => refuse f.1 f.2 (s.fset F.TST_LB_CTRL_LAST (f.1 % 256))
  | none =>
    guarded (c.zeros 3 1) (s.fset F.TST_LB_CTRL_LAST St.badParam)
      (done ((s.fset F.TST_LB_CTRL_LAST 0).lbWant (c.fld 0 1) (c.fld 1 1) (c.fld 2 1)) [BitVec.ofNat 8 (c.fld 2 1)])
def defLoopSet : CmdDef := mgmtDef 4 10000 cmdLoopSet
def cmdLoopStatus (c : Cmd) (s : State) : CmdRes :=
  match lbSlotOf (c.fld 0 1) (c.fld 1 1) with
  | none => refuse St.badParam (if 6 ≤ c.fld 0 1 then 0 else 1) s
  | some k => guarded (c.zeros 2 2) s (done (s.lbRun k) ((s.lbRun k).lbBytes k))
def defLoopStatus : CmdDef := mgmtDef 4 100 cmdLoopStatus

/-! ### Firmware image (0x0B; R559 to R561) -/

def State.setCmd (s : State) (c : CmdState) : State := { s with cmd := c }
def State.fwActiveB (s : State) : Bool := s.bit F.CMD_STATUS_FW_ACTIVE
def State.setFwSlot (s : State) (b : Bool) (x : FwSlot) : State := s.setCmd (if b then { s.cmd with fwB := x } else { s.cmd with fwA := x })
def Staged.code : Staged → Nat
  | .empty => 0 | .writing => 1 | .verified => 2 | .failed => 3
def State.fwInfo (s : State) : List Byte :=
  natBytes 1 (s.fget F.CMD_STATUS_FW_ACTIVE) ++ natBytes 1 (if s.cmd.nextB then 1 else 0) ++ natBytes 1 s.cmd.staged.code ++ natBytes 1 0 ++
    natBytes 4 s.cmd.fwA.version ++ natBytes 4 s.cmd.fwB.version ++ natBytes 4 s.cmd.stagedLen ++ natBytes 16 0
def cmdFwInfo (_c : Cmd) (s : State) : CmdRes := done s s.fwInfo
def defFwInfo : CmdDef := mgmtDef 0 100 cmdFwInfo
/-- Image data goes into the slot that is not active; the slot's verified state is cleared (R560). -/
def State.fwWrite (s : State) (off : Nat) (bs : List Byte) : State :=
  let b := !s.fwActiveB
  let x := s.fwSlot b
  let s := s.setFwSlot b { x with image := memPutBytes x.image off bs, verified := false, len := max x.len (off + bs.length) }
  let len := if s.cmd.staged = .writing then max s.cmd.stagedLen (off + bs.length) else off + bs.length
  (s.setCmd { s.cmd with staged := .writing, stagedLen := len }).setBit F.CMD_STATUS_FW_VERIFIED false
def cmdFwWrite (c : Cmd) (s : State) : CmdRes :=
  let off := c.fld 0 4
  guarded ([param (off % 8 ≠ 0 || 2 ^ 24 < off + (c.len - 8)) 0] ++ c.zeros 4 4) s (later (s.fwWrite off (c.payload.drop 8)) [] .ready)
def defFwWrite : CmdDef := { mgmtDef 0 5000 cmdFwWrite with size := fun c => 9 ≤ c.len && c.len ≤ 4096 }
/-- FW_VERIFY: whether header, digest and signature pass is the image's matter (log 32). -/
def State.fwVerify (s : State) (len : Nat) : Bool × State :=
  let b := !s.fwActiveB
  let x := s.fwSlot b
  let img := x.image.filter fun kv => kv.1 < len
  if Config.imageOk img then
    let s := s.setFwSlot b { x with verified := true, version := Config.imageVersion img % 2 ^ 32, len := len }
    (true, (s.setCmd { s.cmd with staged := .verified }).setBit F.CMD_STATUS_FW_VERIFIED true)
  else (false, (s.setCmd { s.cmd with staged := .failed }).setBit F.CMD_STATUS_FW_VERIFIED false)
def cmdFwVerify (c : Cmd) (s : State) : CmdRes :=
  let r := s.fwVerify (c.fld 0 4)
  if r.1 then done r.2 [] else refuse St.imageErr 0 r.2
def defFwVerify : CmdDef := mgmtDef 4 500000 cmdFwVerify
def State.fwMay (s : State) (b : Bool) : Bool := (s.fwSlot b).verified || s.fwActiveB = b
def State.fwActivate (s : State) (b : Bool) : State := (s.setCmd { s.cmd with nextB := b }).setBit F.CMD_STATUS_FW_NEXT b
def cmdFwActivate (c : Cmd) (s : State) : CmdRes :=
  guarded ([param (1 < c.fld 0 1) 0] ++ c.zeros 1 3 ++ [check (!s.fwMay (c.fld 0 1 = 1)) St.wrongState]) s (done (s.fwActivate (c.fld 0 1 = 1)) [])
def defFwActivate : CmdDef := mgmtDef 4 10000 cmdFwActivate

/-! ### Clocks (0x0C01; 09 R339 to R342) -/

def cmdFreqSet (c : Cmd) (s : State) : CmdRes :=
  guarded ([param (2 < c.fld 0 1) 0] ++ c.zeros 1 3) s
    (let id := some s.cmd.nextId
     let s := if s.dram.change.isSome || s.epc.reh.phase ≠ .idle then
         { s with dram := { s.dram with changeWait := s.dram.changeWait ++ [(c.fld 0 1, id)] } }
       else s.freqBegin (c.fld 0 1) id
     later s [] .freq)
def defFreqSet : CmdDef := { mgmtDef 4 100 cmdFreqSet with mode := fun _ s => if s.power ≠ 0 || !s.memActive then St.mode else 0 }

/-! ### The opcode table (R558) -/

/-- What each opcode is; none where the opcode is not defined. -/
def cmdTable : Nat → Option CmdDef
  | 0x0101 => some defRegionCreate | 0x0102 => some defRegionSetFlags | 0x0103 => some defRegionDelete | 0x0104 => some defRegionDcRelease
  | 0x0105 => some defRegionQuery
  | 0x0201 => some defTableCreate | 0x0202 => some defEntryAdd | 0x0203 => some defTableOpen | 0x0204 => some defTableClose
  | 0x0205 => some defSharerJoin | 0x0206 => some defSharerLeave | 0x0207 => some defStepSet
  | 0x0301 => some defCtxOpen | 0x0302 => some defCtxClose | 0x0303 => some defBerthOpen | 0x0304 => some defBerthClose
  | 0x0305 => some defBerthRenew | 0x0306 => some defDestSet
  | 0x0401 => some defCheckStart | 0x0402 => some defCheckStatus | 0x0403 => some defCheckStop
  | 0x0501 => some defProfileSet | 0x0502 => some defRehearse
  | 0x0601 => some defTwinGrant | 0x0602 => some defTwinHandover
  | 0x0701 => some defErrLog | 0x0702 => some defPageRetire | 0x0703 => some defRankSpare | 0x0704 => some defScrubNow
  | 0x0705 => some defMemChannel
  | 0x0801 => some defSettingsRead | 0x0802 => some defSettingsWrite | 0x0803 => some defKeySet
  | 0x0901 => some defRecInfo | 0x0902 => some defRecRead
  | 0x0A01 => some defLoopSet | 0x0A02 => some defLoopStatus
  | 0x0B01 => some defFwInfo | 0x0B02 => some defFwWrite | 0x0B03 => some defFwVerify | 0x0B04 => some defFwActivate
  | 0x0C01 => some defFreqSet | 0x0C02 => some defPowerState
  | _ => none

/-! ### Mailbox opcodes beside the command packets (04 R134; R544, R546, R561; 20 R729) -/

/-- The mailbox answers at all: it exists and its carrier serves. -/
def State.mboxUp (s : State) (ld : Nat) : Bool := s.carriersUp && (if s.gfam then ld = 0 else s.lds.contains ld)
/-- The LD's one command is in handling (R546). -/
def State.mboxBusy (s : State) (ld : Nat) : Bool := s.noSlot (.mailbox ld)
/-- A mailbox command: ignored where there is no mailbox, Busy while the LD's command is in handling. -/
def State.onMbox (s : State) (ld : Nat) (k : State) : State :=
  if !s.mboxUp ld then s else if s.mboxBusy ld then s.mbox ld .busy else k
/-- A mailbox command of a management mailbox only (R561). -/
def State.onMgmtMbox (s : State) (ld : Nat) (k : State) : State :=
  s.onMbox ld (if s.isMgmt (.mailbox ld) then k else s.mbox ld .unsupported)
def State.getParmosReply (s : State) (ld : Nat) : State :=
  s.onMbox ld (match sget none s.cmd.stored ld with
    | some r => s.emit (.mbox ld .success (replyBytes r))
    | none => s.mbox ld .invalidInput)
def State.getFwInfo (s : State) (ld : Nat) : State := s.onMgmtMbox ld (s.emit (.mbox ld .success s.fwInfo))
/-- Transfer FW runs FW_WRITE, its End part FW_VERIFY too; above 2 ms it is a background command (R544). -/
def State.transferFw (s : State) (ld off : Nat) (bs : List Byte) (fin : Bool) : State :=
  s.onMgmtMbox ld (
    if off % 8 ≠ 0 || bs.isEmpty || 4088 < bs.length || 2 ^ 24 < off + bs.length then s.mbox ld .invalidInput
    else
      let s := (s.mbox ld .backgroundStarted).fwWrite off bs
      if fin then
        let r := s.fwVerify s.cmd.stagedLen
        (r.2.mbox ld (if r.1 then .success else .invalidInput)).mboxIrq ld
      else (s.mbox ld .success).mboxIrq ld)
def State.activateFw (s : State) (ld slot : Nat) (online : Bool) : State :=
  s.onMgmtMbox ld (
    if online then s.mbox ld .unsupported
    else if 1 < slot || !s.fwMay (slot = 1) then s.mbox ld .invalidInput
    else (((s.mbox ld .backgroundStarted).fwActivate (slot = 1)).mbox ld .success).mboxIrq ld)
/-- Get Health Info: the Device Temperature field in whole °C; the other values are no rule's: free values (log 41). -/
def State.healthInfo (s : State) (ld : Nat) : State :=
  s.onMbox ld (
    let a := s.free (2 ^ 32)
    let b := a.2.free (2 ^ 96)
    b.2.emit (.mbox ld .success (natBytes 4 a.1 ++ int2 (s.clk.tj / 10) ++ natBytes 12 b.1)))

/-! ### MCTP control messages (R543) -/

def State.mctpUp (s : State) : Bool := s.carriersUp
/-- Set Endpoint ID: 8 to 254 are assignable (log 42). -/
def State.mctpSet (s : State) (eid : Nat) : State :=
  if !s.mctpUp then s
  else if 8 ≤ eid && eid ≤ 254 then (s.setCmd { s.cmd with eid := eid }).emit (.mctp [0x01#8, 0x00#8, BitVec.ofNat 8 eid])
  else s.emit (.mctp [0x01#8, 0x02#8, BitVec.ofNat 8 s.cmd.eid])
def State.mctpGet (s : State) : State := if !s.mctpUp then s else s.emit (.mctp [0x02#8, 0x00#8, BitVec.ofNat 8 s.cmd.eid])
/-- The MCTP version supported is no rule's: a free value (log 42). -/
def State.mctpVersions (s : State) : State :=
  if !s.mctpUp then s else
  let v := s.free (2 ^ 32)
  v.2.emit (.mctp ([0x04#8, 0x00#8, 0x01#8] ++ natBytes 4 v.1))
/-- Message types: control and vendor defined, PCI. -/
def State.mctpTypes (s : State) : State := if !s.mctpUp then s else s.emit (.mctp [0x05#8, 0x00#8, 0x02#8, 0x00#8, 0x7E#8])

end Sys2Proof.Machine
end

