-- ==== Sys2Proof/Machine/Settle.lean ====
section
/-! DEFINITION. What follows an event at once: packets whose lines have all been placed, records with room in their queue, fills that
have come, commands whose reply is due, and the transitions that the event completed. -/
namespace Sys2Proof.Machine

/-! ### Command slots (14 R545, R552; 15 R590) -/

/-- Has the twin acknowledged every region notice sent before stream number `q` (03 R96)? -/
def State.noticeDone (s : State) (q : Nat) : Bool :=
  !s.isPaired || (!newer 32 q s.twin.landed && s.twin.regionNotes.isEmpty && !s.ute.mirrorTx.any fun x => ctlKind x.2 = 3)
/-- Is a slot the oldest of its stream? -/
def State.slotFirst (s : State) (x : CmdSlot) : Bool :=
  match s.streamSlots x.cmd.carrier with
  | y :: _ => y.id = x.id
  | [] => false
/-- Is what a slot waits for there? Nothing is answered during a restart of the Harbourmaster (R590). -/
def State.slotDue (s : State) (x : CmdSlot) : Bool :=
  s.ccx.restart.isNone && match x.wait with
  | .behind => s.slotFirst x
  | .ready => true
  | .settings first n => !s.wordsBusy first n
  | .freq => false
  | .handover => false
  | .chkStop u => s.chkState u ≠ 1
  | .notice q => s.noticeDone q
  | .ctxClose k => s.outstanding k = 0
  | .restart journalled => journalled || s.slotFirst x
/-- Run a command that waited, keeping its place in its stream should it wait again. -/
def State.slotHandle (s : State) (x : CmdSlot) : State :=
  let id := s.cmd.nextId
  let t := s.handle x.op (cmdTable x.op) x.cmd
  match t.cmd.slots.find? fun y => y.id = id with
  | some y => t.setSlots (y :: t.cmd.slots.filter fun z => z.id ≠ id)
  | none => t
/-- Answer or run the command of a slot that is due. -/
def State.slotRun (s : State) (x : CmdSlot) : State :=
  let max := match cmdTable x.op with | some d => d.max x.cmd | none => 100
  let s := s.setSlots (s.cmd.slots.filter fun y => y.id ≠ x.id)
  match x.wait with
  | .behind => s.slotHandle x
  | .restart false => s.slotHandle x
  | .chkStop u => s.answer x.op max x.cmd St.success 0 (s.chkReply u)
  | .ctxClose k => (s.closeCtx k).answer x.op max x.cmd St.success 0 x.reply
  | _ => s.answer x.op max x.cmd St.success 0 x.reply

/-! ### Transitions an event completes -/

/-- A READ's lines are all at hand. -/
def State.readReady (s : State) : Option PeerOp := s.ute.ops.find? fun o => !o.atomic && o.left.isEmpty
/-- A core whose fill or read has come. -/
def State.coreReady (s : State) : Option Nat :=
  (List.range 9).find? fun k => match (s.coreAt k).wait with | some w => w.got.isSome | none => false
/-- A WAIT whose context has reached its target (13 R508). -/
def State.waitReady (s : State) : Bool :=
  s.ute.waits.any fun w => let c := s.countOf w.watched; c = w.target || newer 32 c w.target
/-- The wait for the twin has ended (17 R639). -/
def State.joinReady (s : State) : Bool :=
  !s.clk.inReset && !s.clk.joining && !s.memActive && !s.bit F.CLK_STATUS_FAIL && s.fget F.CLK_STATUS_STEP = 5 && s.power = 0
/-- A wake is due (16 R615; 17 R631). -/
def State.wakeReady (s : State) : Bool :=
  s.icu.mainOff && s.icu.wake && !s.clk.starting && s.clk.pwrGood && s.clk.sysRstN && s.clk.aonRstN && s.clk.vaon && s.clk.pfailN &&
    (s.power = 3 || s.clk.inReset)
/-- Sets are due for hand-over in the drain to AON-ONLY (17 R634). -/
def State.drainReady (s : State) : Bool :=
  s.clk.move = .draining && s.twin.handover.isNone && !s.epochFrozen && s.ccx.restart.isNone && s.toHandOver &&& ~~~s.twin.resync ≠ 0 &&
    (s.unmirrored (s.toHandOver &&& ~~~s.twin.resync)).isEmpty
/-- A collision with an entry of the twin has gone (03 R755). -/
def State.clashGone (s : State) : Bool := s.twin.clash.any fun e => !s.meetsLocal e.1
/-- The store at ingress whose turn it is may land (02 R60): not in STANDBY, not in HOLD. -/
def State.ingressReady (s : State) : Bool := s.running && !s.inHold && s.nextIngress.isSome
/-- Lines or notes of the twin's stream have their turn (12 R449): not in HOLD. -/
def State.streamReady (s : State) : Bool :=
  !s.clk.inReset && !s.inHold && s.mirrorWaits.isEmpty &&
    ((s.twin.rx.notes.any fun n => !newer 32 n.1 s.twin.rx.expect) || s.twin.rx.reorder.any fun l => l.seq = s.twin.rx.expect)

/-- The next thing that is due, done; none when nothing is. -/
def State.settleStep (s : State) : Option State :=
  match s.placedOne with
  | some pl => some (s.endPlacing pl)
  | none =>
  match s.readReady with
  | some o => some (s.readDone o)
  | none =>
  match s.cxl.doorbells with
  | q :: _ => some (s.runDoorbell q)
  | [] =>
  match s.biDone with
  | some b => some (s.finishBi b)
  | none =>
  match s.nextGrant with
  | some w => some (s.grant w)
  | none =>
  match s.pers.fwdAcks with
  | tag :: _ => some (s.fwdAcked tag)
  | [] =>
  match s.ute.due.find? s.dueReady with
  | some d => some (s.writeDue d)
  | none =>
  match s.coreReady with
  | some k => some (s.finishWait k)
  | none =>
  match s.coreFree with
  | some k => some (s.coreGo k)
  | none =>
  match s.cmd.slots.find? s.slotDue with
  | some x => some (s.slotRun x)
  | none =>
  if s.ingressReady then some s.ingressResume
  else if s.streamReady then some s.rxRun
  else if s.waitReady then some s.runWaits
  else if s.joinDue then some s.resyncEnd
  else if s.joinReady then some s.goActive
  else if s.wakeReady then some s.wakeUp
  else if s.drainReady then some s.drainHandover
  else if s.clashGone then some s.settleClash
  else s.rebuildNext.map s.relocate
/-- Repeat until nothing is due; the bound only serves termination. -/
def State.settleLoop (s : State) : Nat → State
  | 0 => s
  | k + 1 =>
    match s.settleStep with
    | none => s
    | some t => t.settleLoop k
/-- Everything an event completes. What is due at the pins leaves and gives its slots back before a waiting request is granted one (06 R226);
each repetition takes one thing that was due away. -/
def State.settle (s : State) : State :=
  let s := s.issueDue.leave.settleAcks.stretchExit
  (s.settleLoop (64 + 8 * (s.ute.placing.length + s.ute.ops.length + s.pers.fwdAcks.length + s.ute.due.length + s.ute.waits.length +
    s.cmd.slots.length + s.cxl.doorbells.length + s.cxl.bi.length + s.cxl.behind.length + s.cxl.ingress.length + s.pers.ingress.length))).leave

end Sys2Proof.Machine
end

