-- ==== Sys2Proof/Machine/ExecClk.lean ====
section
/-! DEFINITION. Clocks, resets, start-up, power states and the watcher (16, 17). -/
namespace Sys2Proof.Machine

/-- AON_WATCH_FIRE (R615). -/
def execAonWatchFire (src : Nat) (s : State) : Host.Outcome State Fault Refusal := .next (s.watchFire src).settle
/-- REF_CLOCK_LOSS (R628). -/
def execRefClockLoss (s : State) : Host.Outcome State Fault Refusal := .next s.refLoss.settle
/-- REF_CLOCK_RESTORED (R628). -/
def execRefClockRestored (s : State) : Host.Outcome State Fault Refusal := .next s.refBack.settle
/-- REF_LOSS_RESET_SAVE (R628). -/
def execRefLossResetSave (s : State) : Host.Outcome State Fault Refusal := .next s.refReset.settle
/-- XTAL_STOP (R629). -/
def execXtalStop (s : State) : Host.Outcome State Fault Refusal := .next s.xtalStop.settle
/-- XTAL_RECOVER (R629). -/
def execXtalRecover (s : State) : Host.Outcome State Fault Refusal := .next s.xtalBack.settle
/-- VAON_POWER_ON (R635). -/
def execVaonPowerOn (s : State) : Host.Outcome State Fault Refusal := .next s.vaonRise.settle
/-- AON_RST_ASSERT (R635). -/
def execAonRstAssert (s : State) : Host.Outcome State Fault Refusal := .next s.aonRst.settle
/-- AON_RST_RELEASE (R720). -/
def execAonRstRelease (s : State) : Host.Outcome State Fault Refusal := .next s.aonRstRelease.settle
/-- PWR_GOOD_RISE (R635). -/
def execPwrGoodRise (s : State) : Host.Outcome State Fault Refusal := .next s.pwrGoodRise.settle
/-- PWR_GOOD_FALL (R640). -/
def execPwrGoodFall (s : State) : Host.Outcome State Fault Refusal := .next s.pwrGoodFall.settle
/-- RAIL_UNDERVOLTAGE (R719). -/
def execRailUndervoltage (s : State) : Host.Outcome State Fault Refusal := .next s.railLow.settle
/-- SYS_RST_QUALIFIED (R638). -/
def execSysRstQualified (s : State) : Host.Outcome State Fault Refusal := .next s.sysRst.settle
/-- SYS_RST_RELEASE (R638). -/
def execSysRstRelease (s : State) : Host.Outcome State Fault Refusal := .next s.sysRstRelease.settle
/-- START_UP (R641). -/
def execStartUp (e : StartEnv) (s : State) : Host.Outcome State Fault Refusal := .next (s.startUp e).settle
/-- STARTUP_STEP_TIMEOUT (R644). -/
def execStartupStepTimeout (s : State) : Host.Outcome State Fault Refusal := .next s.stepTimeout.settle
/-- STANDBY_ENTRY_DONE (R632). -/
def execStandbyEntryDone (s : State) : Host.Outcome State Fault Refusal := .next s.standbyDone.settle
/-- HOST_L1_EXIT (R631). -/
def execHostL1Exit (head : Nat) (s : State) : Host.Outcome State Fault Refusal := .next (s.l1Exit head).settle
/-- STANDBY_EXIT_DONE (R633). -/
def execStandbyExitDone (s : State) : Host.Outcome State Fault Refusal := .next s.fullAgain.settle
/-- AON_DRAIN_COMPLETE (R634). -/
def execAonDrainComplete (s : State) : Host.Outcome State Fault Refusal := .next s.aonDrained.settle

end Sys2Proof.Machine
end

