-- ==== Sys2Proof/Machine/ExecCmd.lean ====
section
/-! DEFINITION. Management commands and MCTP control (14). -/
namespace Sys2Proof.Machine

/-- COMMAND_UNKNOWN_OPCODE (R541). -/
def execCommandUnknownOpcode (op : Nat) (c : Cmd) (s : State) : Host.Outcome State Fault Refusal :=
  .next (if (cmdTable op).isSome then s else s.arrive op none c).settle
/-- MCTP_SET_ENDPOINT_ID (R543). -/
def execMctpSetEndpointId (eid : Nat) (s : State) : Host.Outcome State Fault Refusal := .next (s.mctpSet eid).settle
/-- MCTP_GET_ENDPOINT_ID (R543). -/
def execMctpGetEndpointId (s : State) : Host.Outcome State Fault Refusal := .next s.mctpGet.settle
/-- MCTP_GET_VERSION_SUPPORT (R543). -/
def execMctpGetVersionSupport (s : State) : Host.Outcome State Fault Refusal := .next s.mctpVersions.settle
/-- MCTP_GET_MESSAGE_TYPE_SUPPORT (R543). -/
def execMctpGetMessageTypeSupport (s : State) : Host.Outcome State Fault Refusal := .next s.mctpTypes.settle
/-- ERR_LOG_READ (R558). -/
def execErrLogRead (c : Cmd) (s : State) : Host.Outcome State Fault Refusal := .next (s.arrive 0x0701 (some defErrLog) c).settle
/-- FLASH_SCRUB_NOW (R558). -/
def execFlashScrubNow (c : Cmd) (s : State) : Host.Outcome State Fault Refusal := .next (s.arrive 0x0704 (some defScrubNow) c).settle
/-- MEM_CHANNEL_SET (R350). -/
def execMemChannelSet (c : Cmd) (s : State) : Host.Outcome State Fault Refusal := .next (s.arrive 0x0705 (some defMemChannel) c).settle
/-- SETTINGS_READ (R558). -/
def execSettingsRead (c : Cmd) (s : State) : Host.Outcome State Fault Refusal := .next (s.arrive 0x0801 (some defSettingsRead) c).settle
/-- SETTINGS_WRITE (R558). -/
def execSettingsWrite (c : Cmd) (s : State) : Host.Outcome State Fault Refusal := .next (s.arrive 0x0802 (some defSettingsWrite) c).settle
/-- KEY_SET_AT_REST (R283). -/
def execKeySetAtRest (c : Cmd) (s : State) : Host.Outcome State Fault Refusal := .next (s.arrive 0x0803 (some defKeySet) c).settle
/-- REC_INFO (R558). -/
def execRecInfo (c : Cmd) (s : State) : Host.Outcome State Fault Refusal := .next (s.arrive 0x0901 (some defRecInfo) c).settle
/-- REC_READ (R558). -/
def execRecRead (c : Cmd) (s : State) : Host.Outcome State Fault Refusal := .next (s.arrive 0x0902 (some defRecRead) c).settle
/-- LOOPBACK_SET (R734). -/
def execLoopbackSet (c : Cmd) (s : State) : Host.Outcome State Fault Refusal := .next (s.arrive 0x0A01 (some defLoopSet) c).settle
/-- LOOPBACK_STATUS (R558). -/
def execLoopbackStatus (c : Cmd) (s : State) : Host.Outcome State Fault Refusal := .next (s.arrive 0x0A02 (some defLoopStatus) c).settle
/-- FW_INFO (R558). -/
def execFwInfo (c : Cmd) (s : State) : Host.Outcome State Fault Refusal := .next (s.arrive 0x0B01 (some defFwInfo) c).settle
/-- FW_WRITE (R560). -/
def execFwWrite (c : Cmd) (s : State) : Host.Outcome State Fault Refusal := .next (s.arrive 0x0B02 (some defFwWrite) c).settle
/-- FW_VERIFY (R559). -/
def execFwVerify (c : Cmd) (s : State) : Host.Outcome State Fault Refusal := .next (s.arrive 0x0B03 (some defFwVerify) c).settle
/-- FW_ACTIVATE (R560). -/
def execFwActivate (c : Cmd) (s : State) : Host.Outcome State Fault Refusal := .next (s.arrive 0x0B04 (some defFwActivate) c).settle
/-- POWER_STATE_SET (R631). -/
def execPowerStateSet (c : Cmd) (s : State) : Host.Outcome State Fault Refusal := .next (s.arrive 0x0C02 (some defPowerState) c).settle

end Sys2Proof.Machine
end

