-- ==== Sys2Proof/Machine/RegFx.lean ====
section
/-! DEFINITION. The register space: agents, views, widths, snapshots and stages, reads, writes and what a write does (19_register_space.md). -/
namespace Sys2Proof.Machine

/-! ### The map (R688, R689) -/

/-- The register instance that holds a byte of the map: its row and its offset. -/
def RegSpec.hit (sp : RegSpec) (off : Nat) : Option Nat :=
  let d := off - sp.base
  let i := if sp.s1 = 0 then 0 else d / sp.s1
  let r := d - i * sp.s1
  let j := if sp.s2 = 0 then 0 else r / sp.s2
  let q := r - j * sp.s2
  if sp.base ≤ off && i < sp.n1 && j < sp.n2 && q < sp.bits / 8 then some (off - q) else none
def findReg (off : Nat) : Option (RegSpec × Nat) := regTable.findSome? fun sp => (sp.hit off).map fun o => (sp, o)
/-- Index of an instance, ascending (18 R656). -/
def RegSpec.index (sp : RegSpec) (o : Nat) : Nat :=
  let i := if sp.s1 = 0 then 0 else (o - sp.base) / sp.s1
  let j := if sp.s2 = 0 then 0 else (o - sp.base - i * sp.s1) / sp.s2
  i * sp.n2 + j
/-- Settings word of an instance's first 32 bits. -/
def RegSpec.firstWord (sp : RegSpec) (o : Nat) : Option Nat := sp.word.map fun w => w + sp.words * sp.index o
/-- Offsets of the CXL component registers: port and offset within them (R691, R692). -/
def cxlComp (off : Nat) : Option (Nat × Nat) :=
  if 0x80000 ≤ off && off < 0x90000 && off % 0x4000 < 0x1000 then some ((off - 0x80000) / 0x4000, off % 0x4000) else none
/-- CXL device registers and the primary mailbox. -/
def cxlDev (off : Nat) : Bool := 0x18000 ≤ off && off < 0x20000
/-- The doorbell window (R704). -/
def inDoorbells (off : Nat) : Bool := 0x1000000 ≤ off && off < 0x2000000

/-! ### Agents and views (R690 to R693, R708) -/

/-- The core an agent is. -/
def agentCore (ag : Nat) : Option Nat := if 64 ≤ ag && ag < 72 then some (ag - 64) else if ag = 72 then some 8 else none
def coreAgent (k : Nat) : Nat := if k = 8 then 72 else 64 + k
/-- Links that carry an LD's CXL.io: trained, of its head or head group (04 R138). -/
def State.ldLinks (s : State) (ld : Nat) : List Nat :=
  (List.range 16).filter fun h => (s.linkState h = 3 || s.linkState h = 4) && (s.gfam || s.ldHead h ld)
/-- Does an agent see the whole map? -/
def State.wholeMap (s : State) (ag : Nat) : Bool := 64 ≤ ag || (if s.gfam then ag = 0 else s.fbit F.CMD_MGMT_LD_MASK ag)
/-- The access a host LD's view permits (R691); its doorbell pages are checked by owner. -/
def hostView (ag off : Nat) (write : Bool) : Bool :=
  (!write && off < 0x14) || (0x14 ≤ off && off < 0x18) ||
    (match cxlComp off with | some (p, _) => p = ag / 16 | none => false) || cxlDev off || inDoorbells off
def State.mayAccess (s : State) (ag off : Nat) (write : Bool) : Bool := s.wholeMap ag || hostView ag off write
/-- Can the agent reach the map now (R708; 17 R630; 21 R747)? -/
def State.mapReach (s : State) (ag off : Nat) : Bool :=
  if s.clk.inReset || s.power = 3 then ag = 127 && aonOff off
  else if ag < 64 then s.power ≠ 1 && (if s.gfam then ag = 0 else s.lds.contains ag) && !(s.ldLinks ag).isEmpty
  else match agentCore ag with
    | some k => s.coreRuns k
    | none => ag = 127

def State.agent (s : State) (ag : Nat) : Agent := sget Agent.empty s.agents ag
def State.setAgent (s : State) (ag : Nat) (a : Agent) : State := { s with agents := sput Agent.empty s.agents ag a }

/-- An ignored write: counted, and recorded while VALID is 0 (R689, R690, R696, R706, R707). -/
def State.ignoreWrite (s : State) (ag off cause : Nat) : State :=
  let s := s.bump F.GEN_IGN_WR_CNT_VALUE F.GEN_CNT_STATUS_IGN_SAT 23
  if s.bit F.GEN_IGN_LAST_VALID then s else
  let s := ((s.fset F.GEN_IGN_LAST_CAUSE cause).fset F.GEN_IGN_LAST_AGENT ag).fset F.GEN_IGN_LAST_OFFSET off
  (s.setBit F.GEN_IGN_LAST_VALID true).raise 22

/-! ### HDM decoders (04 R144; their place and layout are CXL 3.1's, log 44) -/

/-- The HDM decoder capability lies here within the component registers. -/
def hdmBase : Nat := 0x200
/-- The LD whose instance an agent sees in a port's component registers (R690, R693). -/
def State.cxlLd (s : State) (ag p : Nat) : Nat := if ag < 64 then ag else if s.gfam then 0 else 16 * p
def State.hdmWord (s : State) (ld off : Nat) : Nat := sget 0 s.cxl.hdm (ld * 4096 + off)
def State.setHdm (s : State) (ld off v : Nat) : State :=
  { s with cxl := { s.cxl with hdm := sput 0 s.cxl.hdm (ld * 4096 + off) (v % 2 ^ 32) } }
def State.hdm64 (s : State) (ld off : Nat) : Nat := s.hdmWord ld off + 2 ^ 32 * s.hdmWord ld (off + 4)
def State.hdmOf (s : State) (ld n : Nat) : Option DecoderCfg := sget none s.cxl.decoders (ld * 8 + n)
/-- DPA base of decoder n: the skips and sizes before it. -/
def State.hdmDpa (s : State) (ld n : Nat) : Nat :=
  ((List.range n).map fun m => match s.hdmOf ld m with
    | some d => s.hdm64 ld (hdmBase + 0x24 + 0x20 * m) + d.size / d.ways
    | none => 0).sum + s.hdm64 ld (hdmBase + 0x24 + 0x20 * n)
/-- The decoder that decoder n's registers describe, with its control word. -/
def State.hdmCfg (s : State) (ld n v : Nat) : DecoderCfg :=
  let b := hdmBase + 0x10 + 0x20 * n
  { base := s.hdm64 ld b, size := s.hdm64 ld (b + 8), ways := 2 ^ (v / 16 % 16), gran := 256 * 2 ^ (v % 16), dpa := s.hdmDpa ld n }
/-- A write of decoder n's control word: COMMIT commits it in order, COMMIT 0 takes it out. -/
def State.hdmControl (s : State) (ld n v : Nat) : State :=
  let c := hdmBase + 0x20 + 0x20 * n
  let put := fun (a : State) (d : Option DecoderCfg) => { a with cxl := { a.cxl with decoders := sput none a.cxl.decoders (ld * 8 + n) d } }
  let bare := v % 2 ^ 32 - v / 1024 % 4 * 1024 % 2 ^ 32
  match s.hdmOf ld n with
  | some _ =>
    if s.hdmWord ld c / 256 % 2 = 1 || v / 512 % 2 = 1 || (n < 7 && (s.hdmOf ld (n + 1)).isSome) then s
    else (put s none).setHdm ld c bare
  | none =>
    if v / 512 % 2 = 0 then s.setHdm ld c bare
    else if v / 16 % 16 ≤ 4 && v % 16 ≤ 6 && (n = 0 || (s.hdmOf ld (n - 1)).isSome) then
      (put s (some (s.hdmCfg ld n v))).setHdm ld c (bare + 1024)
    else s.setHdm ld c (bare + 2048)
/-- The CXL RAS capability lies here; its first register is the uncorrectable error status, cleared by writing 1 (log 44). -/
def rasBase : Nat := 0x100
/-- A write to the component registers: the RAS status of an LD, its HDM decoders in MULTI-HEADED; what else CXL 3.1 puts there has no effect
here. -/
def State.cxlWrite (s : State) (ld off v : Nat) : State :=
  if off = rasBase then { s with cxl := { s.cxl with ras := sput 0 s.cxl.ras ld ((BitVec.ofNat 32 (sget 0 s.cxl.ras ld) &&& ~~~(BitVec.ofNat 32 v)).toNat) } } else
  if s.gfam || off < hdmBase + 0x10 || hdmBase + 0x10 + 0x20 * 8 ≤ off then s else
  let n := (off - hdmBase - 0x10) / 0x20
  let r := (off - hdmBase - 0x10) % 0x20
  if r = 0x10 then s.hdmControl ld n v
  else if r = 0x1C || (s.hdmOf ld n).isSome then s
  else s.setHdm ld off (if r = 0 || r = 8 || r = 0x14 then v / 2 ^ 28 * 2 ^ 28 else v)
/-- A read of them; what else CXL 3.1 puts there is a free value. -/
def State.cxlRead (s : State) (ld off : Nat) : Nat × State :=
  if off = rasBase then (sget 0 s.cxl.ras ld, s) else
  if !s.gfam && hdmBase + 0x10 ≤ off && off < hdmBase + 0x10 + 0x20 * 8 then (s.hdmWord ld off, s) else s.free (2 ^ 32)

/-! ### Values of registers (R701, R706; the register tables of the chapters) -/

/-- GEN_LD_INFO of a reader (R706). -/
def State.ldInfo (s : State) (ag : Nat) : Nat :=
  let kind := if ag < 64 then 0 else if ag < 72 then 1 else if ag = 72 then 2 else 3
  let id := if ag < 72 then ag % 64 else 0
  let head := if ag < 64 then ((s.ldLinks ag).head?).getD (ag / 4) else 0
  (if s.wholeMap ag then 2 ^ 31 else 0) + kind * 2 ^ 24 + id * 2 ^ 16 + head * 2 ^ 8 + min 3 (s.latched F.CXP_MODE_LDS) * 2 +
    (if s.gfam then 1 else 0)
def TblState.code : TblState → Nat
  | .free => 0 | .building => 1 | .live => 2 | .closing => 3
def ShrState.code : ShrState → Nat
  | .free => 0 | .active => 1 | .dormant => 2
/-- TIDE_TBL_CFG to TIDE_TBL_LATE_CNT (07 R267). -/
def State.tblWord (s : State) (t k : Nat) : Nat :=
  let x := s.table t
  let own := match x.owner with | none => 0 | some ld => 2 ^ 28 + ld * 2 ^ 14
  match k with
  | 0 => x.state.code * 2 ^ 30 + own + (if x.lateRec then 2 ^ 25 else 0) + (if x.lateEv then 2 ^ 24 else 0) + x.rset * 2 ^ 8 + x.lead
  | 1 => x.first * 2 ^ 16 + x.count
  | 2 => x.quota
  | 3 => x.used
  | 4 => ((s.entriesOf t).filter fun e => e.staged).length * 2 ^ 16 + (if x.lateSat then 2 ^ 11 else 0) +
      (s.sharers.filter fun kv => kv.2.state ≠ .free && kv.2.table = t).length
  | _ => x.lateCnt
/-- TIDE_SHR (07 R267). -/
def Sharer.word (x : Sharer) : Nat :=
  x.step * 2 ^ 32 + x.state.code * 2 ^ 30 + x.table * 2 ^ 24 + (if x.peer then 2 ^ 16 else 0) + x.id
/-- TIDE_ENTRY (07 R241). -/
def TideEntry.word (e : TideEntry) : Nat :=
  let attr := (if e.staged then 2 ^ 31 else 0) + (if e.staging then 2 ^ 30 else 0) + (if e.late then 2 ^ 29 else 0) +
    (if e.void then 2 ^ 28 else 0) + e.region
  e.page * 4096 + e.lenM1 * 2 ^ 64 + attr * 2 ^ 96
/-- 32 bits of a list of numbers. -/
def bits32 (l : List Nat) (w : Nat) : Nat := ((List.range 32).map fun i => if l.contains (32 * w + i) then 2 ^ i else 0).sum
/-- ICU_TGT_STATUS (16 R622). -/
def State.tgtStatus (s : State) (t : Nat) : Nat :=
  sget 0 s.icu.presented t * 2 ^ 16 + s.icu.cur t * 2 ^ 8 + (s.icu.active.filter fun p => p.2 = t).length * 2 ^ 4 +
    (if s.coreRuns t then 1 else 0)
/-- ICU_SRC_CFG (16 R622). -/
def State.srcCfg (s : State) (n : Nat) : Nat :=
  (sget 0 s.icu.cfg n).toNat + (if s.icu.pend.contains n then 2 ^ 30 else 0) + (if s.icu.isActive n then 2 ^ 29 else 0)

/-- A register as an agent reads it whole: `n` is the index of the instance, `o` its offset. A FREE region's entry reads 0 but for RGEN (03
R127). WAITING shows the class whose requests wait at ingress for their reservation (06 R235); no other pool is ever full here (log 46). -/
def State.regFull (s : State) (ag : Nat) (sp : RegSpec) (o : Nat) : Nat :=
  let n := sp.index o
  match sp.base with
  | 0x0 => s.regValue sp o + Config.grade.toNat * 2 ^ 8
  | 0x4 => s.ldInfo ag
  | 0x8 => Config.serial.toNat
  | 0x14 => (s.agent ag).scratch.toNat
  | 0x804 => s.regValue sp o + (if s.cxl.ingress.isEmpty then 0 else 8)
  | 0x30000 =>
    let r := s.region n
    leNat (if r.state = .free then { Region.empty with rgen := r.rgen } else r).bytes16
  | 0x41000 => s.tblWord n 0
  | 0x41004 => s.tblWord n 1
  | 0x41008 => s.tblWord n 2
  | 0x4100C => s.tblWord n 3
  | 0x41010 => s.tblWord n 4
  | 0x41014 => s.tblWord n 5
  | 0x48000 => (s.sharer n).word
  | 0x50000 => (s.entry n).word
  | 0x110000 => s.ctxStatus n
  | 0x401000 => leNat (s.errAt n)
  | 0x480028 => s.claimNow.toNat
  | 0x480040 => (s.unmirrored s.ownMap).length
  | 0x4C0000 => s.icu.rot * 2 ^ 10 + s.icu.pend.length
  | 0x4C0080 => bits32 s.icu.pend n
  | 0x4C0100 => bits32 (s.icu.active.map (·.1)) n
  | 0x4C0200 => (sget 0 s.icu.tgt n).toNat
  | 0x4C0204 => s.tgtStatus n
  | 0x4C0400 => if n = 0 then 0x400001B1 else s.regValue sp o
  | 0x4C0480 => s.icu.fired.toNat
  | 0x4C1000 => s.srcCfg n
  | 0x500018 => s.ccxTime % 2 ^ 64
  | 0x580000 => s.wordRead n
  | 0x584000 => s.wcntRead n
  | 0x600008 => if s.armed then 1 else 0
  | 0x601000 => leNat (s.lbBytes n)
  | _ => if sp.view then 0 else s.regValue sp o

/-! ### Reads (R696, R697, R751) -/

/-- The live value of a register, with what reading it does: a claim by the target's own core (16 R608, R610), the units a loop-back has
checked by now (21 R737). -/
def State.readLive (s : State) (ag : Nat) (sp : RegSpec) (o : Nat) : Nat × State :=
  match sp.base with
  | 0x4C0208 => if agentCore ag = some (sp.index o) then s.icuClaim (sp.index o) else (0, s)
  | 0x601000 => let s := s.lbRun (sp.index o); (s.regFull ag sp o, s)
  | _ => (s.regFull ag sp o, s)
/-- Does a register have its words read through the snapshot? -/
def RegSpec.wide (sp : RegSpec) : Bool := sp.bits = 64 || sp.bits = 128
/-- A 4 B read of the map. -/
def State.readWord (s : State) (ag off : Nat) : Nat × State :=
  let a := s.agent ag
  let quiet := s.setAgent ag { a with snap := none, stage := none }
  if !s.mayAccess ag off false then (0, quiet)
  else if inDoorbells off then
    let c := (off - 0x1000000) / 256
    let mine := match s.ctx c with | some x => x.owner.isAgent ag | none => false
    (quiet.doorbellRead c (off % 256) mine, quiet)
  else
    match findReg off with
    | none =>
      match cxlComp off with
      | some (p, r) => quiet.cxlRead (s.cxlLd ag p) r
      | none => if cxlDev off then quiet.free (2 ^ 32) else (0, quiet)
    | some (sp, o) =>
      let k := (off - o) / 4
      let live := s.readLive ag sp o
      let v := live.1
      let t := live.2
      let keep := fun ws : List Word32 => t.setAgent ag { t.agent ag with stage := none, snap := if ws.isEmpty then none else some (o, ws) }
      if !sp.wide then (word32 v k, keep [])
      else if k = 0 then (word32 v 0, keep ((List.range (sp.words - 1)).map fun i => BitVec.ofNat 32 (word32 v (i + 1))))
      else
        match a.snap with
        | some (r, ws) =>
          if r = o && sp.words - ws.length ≤ k then
            let rest := ws.drop (k - (sp.words - ws.length))
            ((rest.headD 0).toNat, keep (rest.drop 1))
          else (word32 v k, keep [])
        | none => (word32 v k, keep [])
/-- A read narrower than a word: the live bytes; the snapshot is emptied. -/
def State.readNarrow (s : State) (ag off n : Nat) : List Byte × State :=
  let r := ((s.setAgent ag { s.agent ag with snap := none, stage := none }).readWord ag (off - off % 4))
  let t := r.2.setAgent ag { r.2.agent ag with snap := none }
  ((natBytes 4 r.1).drop (off % 4) |>.take n, t)
/-- Read `n` words in ascending address order. -/
def State.readWords (s : State) (ag off : Nat) : Nat → List Byte × State
  | 0 => ([], s)
  | n + 1 =>
    let r := s.readWord ag off
    let rest := r.2.readWords ag (off + 4) n
    (natBytes 4 r.1 ++ rest.1, rest.2)
/-- Is a read's width and alignment accepted? -/
def readOk (off size : Nat) : Bool :=
  ([1, 2, 4, 8].contains size && off % size = 0) || (size % 4 = 0 && 4 ≤ size && size ≤ 64 && off % 4 = 0)
/-- A read of the map by an agent; one of another width returns zeros and changes nothing. -/
def State.mapRead (s : State) (ag off size : Nat) : List Byte × State :=
  if !readOk off size then (List.replicate size 0, s)
  else if size < 4 then s.readNarrow ag off size
  else s.readWords ag off (size / 4)

/-! ### What a write does -/

/-- A write to a field by its type (00 R14). -/
def State.writeField (s : State) (o v : Nat) (f : FieldSpec) : State :=
  let n := v / 2 ^ f.lo % 2 ^ (f.hi + 1 - f.lo)
  match f.acc with
  | .rw => s.fset (f.at o) n
  | .w1c => s.fset (f.at o) (s.fget (f.at o) &&& (2 ^ (f.hi + 1 - f.lo) - 1 - n))
  | _ => s
def RegSpec.hasRwp (sp : RegSpec) : Bool := sp.fields.any fun f => f.acc = .rwp
/-- A write to the settings words of a register: one word alone, several as one group (18 R662). -/
def State.writeWordsOf (s : State) (sp : RegSpec) (o v : Nat) : State :=
  match sp.firstWord o with
  | none => s
  | some w => if sp.words = 1 then s.softWord w (v % 2 ^ 32) else s.groupWrite w ((List.range sp.words).map (word32 v)) .register
/-- The registers of a core's cache, timers and watchdog (15 R582, R583, R593, R594, R596). -/
def State.cacheCtrl (s : State) (k v : Nat) : State :=
  let s := s.setBit (F.CCX_CACHE_CTRL_PF_EN k) (v.testBit 1)
  if v.testBit 0 then s.setBit (F.CCX_CACHE_CTRL_EN k) true
  else if s.cacheOn k then s.cacheDisable k else s
def State.cacheOp (s : State) (k op : Nat) : State :=
  match op with
  | 1 => s.opPrefetch k
  | 2 => s.opZero k
  | 3 => s.opLock k
  | 4 => s.opUnlock k
  | 5 => s.opWriteOut k
  | 6 => s.opInval k
  | _ => s
/-- INT_CHK_CTRL (10 R405): POLY, then START or STOP. -/
def State.chkCtrl (s : State) (u v : Nat) : State :=
  let s := s.fset (F.INT_CHK_CTRL_POLY u) (v / 2 ^ 24)
  let s := if v.testBit 31 then s.chkStart u else s
  if v.testBit 30 then s.chkStop u else s
/-- TST_PROD.ARM acts only from the test block and only while the recorder is not armed (21 R749). -/
def State.writeProd (s : State) (ag v : Nat) : State := if v.testBit 31 && ag = 127 && !s.armed then s.recArm else s
/-- A value is committed to a register: `own` is true through a core's own alias (15 R583). -/
def State.commit (s : State) (ag : Nat) (own : Bool) (sp : RegSpec) (o v : Nat) : State :=
  let n := sp.index o
  match sp.base with
  | 0x14 => s.setAgent ag { s.agent ag with scratch := BitVec.ofNat 32 v }
  | 0x810 => if n = 1 then s else s.fset (F.GEN_NOC_STALL_VALUE n) v
  | 0x41000 => s.setTable n { s.table n with lateRec := v.testBit 25, lateEv := v.testBit 24 }
  | 0x41010 => if v.testBit 11 then s.setTable n { s.table n with lateSat := false } else s
  | 0x41014 => s.setTable n { s.table n with lateCnt := v % 2 ^ 32 }
  | 0x110000 =>
    match s.ctx n with
    | some x => if v.testBit 27 then s.setCtx n (some { x with wasReset := false }) else s
    | none => s
  | 0x400100 => s.chkCtrl n v
  | 0x400120 => s.setChkValue n v
  | 0x440008 => let s := s.writeWordsOf sp o v; if v.testBit 31 then s.requestReh else s
  | 0x440010 => s.saveCostWrite
  | 0x440018 => s.saveCostWrite
  | 0x4C0004 => s.icuPendSet (v % 1024)
  | 0x4C0008 => s.icuPendClr (v % 1024)
  | 0x4C0200 => s.icuTgtCtrl n (BitVec.ofNat 32 v)
  | 0x4C020C => if agentCore ag = some n then s.icuComplete n (v % 1024) else s
  | 0x4C1000 => s.icuSrcCfg n (BitVec.ofNat 32 v)
  | 0x500004 => (s.writeWordsOf sp o v).laneInject (BitVec.ofNat 3 (v / 256))
  | 0x501008 => if own then s.cacheCtrl n v else s
  | 0x501010 => if own then s.cacheOp n (v % 16) else s
  | 0x501018 => if own then s.fset (F.CCX_CACHE_OPADDR_VALUE n) v else s
  | 0x501020 => if own then s.fset (F.CCX_CACHE_OPLEN_VALUE n) v else s
  | 0x501028 => (s.putCore n { s.coreAt n with armed0 := true }).fset (F.CCX_TMR0_CMP_CMP n) v
  | 0x501030 => (s.putCore n { s.coreAt n with armed1 := true }).fset (F.CCX_TMR1_CMP_CMP n) v
  | 0x50103C => s.wdogKick n (BitVec.ofNat 32 v)
  | 0x580000 => s.softWord n (v % 2 ^ 32)
  | 0x600004 => let s := sp.fields.foldl (fun a f => a.writeField o v f) s; if v.testBit 31 then s.lbGo (ag = 127) else s
  | 0x600008 => s.writeProd ag v
  | _ => if sp.hasRwp then s.writeWordsOf sp o v else sp.fields.foldl (fun a f => a.writeField o v f) s
/-- A word of a loop-back slot: SAT clears, ERRORS takes the value (21 R749). -/
def State.writeLb (s : State) (n k v : Nat) : State :=
  let s := s.lbRun n
  let x := s.lb n
  if k = 0 then (if v.testBit 31 then s.setLb n { x with sat := false } else s)
  else if k = 1 then s.setLb n { x with errors := v % 2 ^ 32 } else s

/-! ### Writes (R696, R697, R751) -/

/-- A 4 B write. -/
def State.writeWord (s : State) (ag : Nat) (own : Bool) (off v : Nat) : State :=
  let a := s.agent ag
  let quiet := s.setAgent ag { a with snap := none, stage := none }
  let staged := fun l : List (Nat × Word32) => s.setAgent ag { a with snap := none, stage := some (off - off % 4, l) }
  if inDoorbells off then quiet.doorbellWrite ag ((off - 0x1000000) / 256) (off % 256) v
  else
    match findReg off with
    | none =>
      match cxlComp off with
      | some (p, r) => quiet.cxlWrite (s.cxlLd ag p) r v
      | none => if cxlDev off then quiet else quiet.ignoreWrite ag off 0
    | some (sp, o) =>
      let k := (off - o) / 4
      if sp.base = 0x601000 then quiet.writeLb (sp.index o) k v
      else if !sp.wide then (if sp.bits = 32 then quiet.commit ag own sp o v else quiet)
      else
        let before := match a.stage with | some (r, l) => if r = o then l else [] | none => []
        let mine := (before.filter fun x => x.1 ≠ k) ++ [(k, BitVec.ofNat 32 v)]
        if k + 1 < sp.words then (staged mine).setAgent ag { (staged mine).agent ag with stage := some (o, mine) }
        else
          let whole := mine.foldl (fun m x => putWord32 m x.1 x.2.toNat) (s.regFull ag sp o)
          quiet.commit ag own sp o whole
/-- An 8 B write: a whole 64-bit register at once, else two words, the lower address first. -/
def State.writePair (s : State) (ag : Nat) (own : Bool) (off v : Nat) : State :=
  match findReg off with
  | some (sp, o) =>
    if sp.bits = 64 && o = off then (s.setAgent ag { s.agent ag with snap := none, stage := none }).commit ag own sp o v
    else (s.writeWord ag own off (word32 v 0)).writeWord ag own (off + 4) (word32 v 1)
  | none => (s.writeWord ag own off (word32 v 0)).writeWord ag own (off + 4) (word32 v 1)
/-- A write to the map by an agent: width and alignment, view, then the register (R690, R696). -/
def State.mapWrite (s : State) (ag : Nat) (own : Bool) (off : Nat) (bs : List Byte) : State :=
  let quiet := s.setAgent ag { s.agent ag with snap := none, stage := none }
  if !((bs.length = 4 || bs.length = 8) && off % bs.length = 0) then quiet.ignoreWrite ag off 2
  else if !s.mayAccess ag off true then quiet.ignoreWrite ag off 1
  else if bs.length = 4 then s.writeWord ag own off (leNat bs)
  else s.writePair ag own off (leNat bs)

/-! ### Accesses of agents (R701, R708; 17 R631) -/

/-- An access by an LD finds the device in STANDBY: it leaves for FULL (R708). -/
def State.ldWakes (s : State) (ag : Nat) : State := if ag < 64 && s.power = 2 then s.exitTrigger else s
/-- Path of a read: an LD's from request to response, any other agent's at the arbiter (R701, R752). -/
def regLat (ag off : Nat) : Lat :=
  let l : Lat := if inDoorbells off then { core := 40, ute := 16 } else if aonOff off then { core := 40, epc := 12, phi := 1 } else { core := 40 }
  if ag < 64 then { l with core := l.core + 70, phiIn := 1, phiOut := 1 }
  else if ag = 127 then { l with core := l.core + 8, phi := l.phi + 1 } else l
/-- A read of the map as a command. -/
def State.regRead (s : State) (ag off size : Nat) : State :=
  if !s.mapReach ag off then s else
  let r := (s.ldWakes ag).mapRead ag off size
  r.2.emit (.regData ag r.1 (regLat ag off))
/-- A write to the map as a command. -/
def State.regWrite (s : State) (ag off : Nat) (bs : List Byte) : State :=
  if !s.mapReach ag off then s else (s.ldWakes ag).mapWrite ag false off bs

/-! ### DBG_ACCESS (21 R747, R752; 18 R663) -/

/-- A word as the test block reads it: the master key and the staging words included. -/
def State.dbgRead (s : State) (w : Nat) : Nat := if 0x3BF ≤ w && w ≤ 0x3FF then s.cell w else s.wordValue w
/-- The settings array directly: every word, the master key included. -/
def State.dbgWord (s : State) (w v : Nat) : State := if !assignedWord w then s.denied else s.arriveWord w v true
/-- The first access since Test-Logic-Reset sets DBG_ACTIVE and raises TST_DEBUG. -/
def State.dbgMark (s : State) : State :=
  if s.test.dbgSeen then s
  else ((s.setTest { s.test with dbgSeen := true }).setBit F.TST_STATUS_DBG_ACTIVE true).raise 626
/-- One access through the TAP. -/
def State.dbgAccess (s : State) (write : Bool) (off size : Nat) (data : List Byte) : State :=
  let s := (s.tapLoad .dbgAccess).dbgMark
  if !s.mapReach 127 off then s
  else if 0x580000 ≤ off && off < 0x584000 && off % 4 = 0 && (if write then data.length = 4 else size = 4) then
    let w := (off - 0x580000) / 4
    if write then s.dbgWord w (leNat data)
    else (s.setTest { s.test with dbgData := BitVec.ofNat 64 (s.dbgRead w) }).emit (.regData 127 (natBytes 4 (s.dbgRead w)) (regLat 127 off))
  else if write then s.mapWrite 127 false off data
  else
    let r := s.mapRead 127 off size
    (r.2.setTest { r.2.test with dbgData := BitVec.ofNat 64 (leNat r.1) }).emit (.regData 127 r.1 (regLat 127 off))

end Sys2Proof.Machine
end

