-- ==== Sys2Proof/Machine/CoreFx.lean ====
section
/-! DEFINITION. Loads and stores of the cores over their address map (15_control_complex.md R568 to R575, R583, R584). -/
namespace Sys2Proof.Machine

/-- May core k make an access now: it runs, no fill blocks it, the access lies within one line? -/
def State.coreMay (s : State) (k addr n : Nat) : Bool :=
  k ≤ 8 && s.coreRuns k && !s.inJoin k && (s.coreAt k).wait.isNone && 1 ≤ n && n ≤ 8 && addr % 64 + n ≤ 64
/-- Bytes of a core's local memory. -/
def State.localBytes (s : State) (k off n : Nat) : List Byte := (List.range n).map fun i => sget 0 (s.coreAt k).mem (off + i)
def State.localPut (s : State) (k off : Nat) (bs : List Byte) : State :=
  s.putCore k { s.coreAt k with mem := ((List.range bs.length).zip bs).foldl (fun m x => sput 0 m (off + x.1) x.2) (s.coreAt k).mem }
/-- The core's own registers lie at its alias (R568). -/
def ownBase (k : Nat) : Nat := 0x501000 + 0x100 * k
/-- Does a load find its data in the core, so that nothing leaves it? A line that comes out of the side buffer may push a zero-pending victim
out (R573). -/
def State.loadHits (s : State) (k addr : Nat) : Bool :=
  let c := s.coreAt k
  s.cacheOn k && ((c.findLine (addr / 64)).isSome || c.side.any fun x => x.line = addr / 64 && (x.data.isNone || c.outCycles = 0))
/-- Does a store stay in the core for now: in a zero-pending line, or in a store buffer that has room (R573)? -/
def State.storeStays (s : State) (k addr : Nat) : Bool :=
  let c := s.coreAt k
  s.cacheOn k && (c.sbuf.length < 8 || match c.findLine (addr / 64) with | some e => e.2.zp | none => false)
/-- Run `f` once the voter has let the access out; a Stevedore has no voter (R584). -/
def State.issued (s : State) (k : Nat) (inside : Bool) (f : State → State) : State :=
  if k ≠ 8 || inside then f s else
  let v := s.voted
  if v.1 then f v.2 else v.2
/-- Time of a register access by a core (R571, 19 R701); none while a resynchronisation makes the Harbourmaster wait (19 R708). -/
def State.coreRegLat (s : State) (k off : Nat) : Option Lat :=
  if k = 8 && s.bit F.CCX_HM_STATUS_MODE then none else
  let l := domCycles k (if k = 8 then 31 else 44)
  some (if inDoorbells off then { l with ute := 16 } else if aonOff off then { l with epc := 12, phi := 1 } else l)
/-- A register read by a core. -/
def State.coreReg (s : State) (k off size : Nat) : State :=
  let r := s.mapRead (coreAgent k) off size
  r.2.emit (.core k r.1 (s.coreRegLat k off))
/-- The time of a register write by a core. -/
def State.regBusy (s : State) (k off : Nat) : State := match s.coreRegLat k off with | some l => s.coreBusy k l | none => s
/-- CORE_LOAD (R568, R569, R571, R573). -/
def State.coreLoad (s : State) (k addr size : Nat) : State :=
  if !s.coreMay k addr size then s else
  match s.coreWin k addr with
  | .localMem o => s.emit (.core k (s.localBytes k o size) (some (domCycles k 2)))
  | .own o => s.issued k false fun a => a.coreReg k (ownBase k + o) size
  | .bar0 o => s.issued k false fun a => a.coreReg k o size
  | .outside => s.issued k false fun a => (a.emit (.core k (List.replicate size 0) none)).emit (.coreExc k false)
  | .rom _ => s.issued k (s.loadHits k addr) fun a => a.cachedLoad k addr size
  | .yard _ => s.issued k (s.loadHits k addr) fun a => a.cachedLoad k addr size
  | .quay _ => s.issued k (s.loadHits k addr) fun a => a.cachedLoad k addr size
  | .dram _ => s.issued k (s.loadHits k addr) fun a => a.cachedLoad k addr size
  | .dla _ => s.issued k (s.loadHits k addr) fun a => a.cachedLoad k addr size
/-- CORE_STORE (R568, R569, R573). -/
def State.coreStore (s : State) (k addr : Nat) (bs : List Byte) : State :=
  if !s.coreMay k addr bs.length then s else
  match s.coreWin k addr with
  | .localMem o => (s.localPut k o bs).coreBusy k (domCycles k 1)
  | .own o => s.issued k false fun a => (a.mapWrite (coreAgent k) true (ownBase k + o) bs).regBusy k (ownBase k + o)
  | .bar0 o => s.issued k false fun a => (a.mapWrite (coreAgent k) false o bs).regBusy k o
  | .outside => s.issued k false fun a => a.emit (.coreExc k false)
  | .rom _ => s.issued k (s.storeStays k addr) fun a => a.cachedStore k addr bs
  | .yard _ => s.issued k (s.storeStays k addr) fun a => a.cachedStore k addr bs
  | .quay _ => s.issued k (s.storeStays k addr) fun a => a.cachedStore k addr bs
  | .dram _ => s.issued k (s.storeStays k addr) fun a => a.cachedStore k addr bs
  | .dla _ => s.issued k (s.storeStays k addr) fun a => a.cachedStore k addr bs
/-- STORE_BUFFER_ISSUE (R575): the oldest entry leaves. -/
def State.storeOut (s : State) (k : Nat) : State :=
  if 8 < k || !s.coreRuns k || s.inJoin k || (s.coreAt k).sbuf.isEmpty then s else s.issued k false fun a => a.issueStore k
/-- PREFETCH_FILL (R576). -/
def State.prefetchIn (s : State) (k : Nat) : State := if 8 < k || !s.coreRuns k then s else s.prefetchFill k
/-- CACHE_DISABLE (R582): a write of 0 to CCX_CACHE_CTRL.EN by the core that owns the cache. -/
def State.cacheStop (s : State) (k : Nat) : State :=
  if 8 < k || !s.coreRuns k || s.inJoin k || !s.cacheOn k then s else s.issued k false fun a => a.cacheDisable k
/-- An operation on the cache: the write of CCX_CACHE_OP that starts it passes the voted port, as what the operation writes out does (R583,
R584). -/
def State.coreOp (s : State) (k : Nat) (f : State → State) : State := if s.opOk k then s.issued k false f else s

end Sys2Proof.Machine
end

