-- ==== Sys2Proof/Machine/ExecCore.lean ====
section
/-! DEFINITION. The cores, their caches, the voted lanes, timers and the interrupt controller (15, 16). -/
namespace Sys2Proof.Machine

/-- A restart of the Harbourmaster that this event began, before memory active, starts the start-up sequence again (17 R645). -/
def State.earlyRestart (s old : State) : State := if s.ccx.restart.isSome && old.ccx.restart.isNone then s.restartEarly else s
/-- A core reads its ICU_CLAIM (16 R608, R610). -/
def State.claimBy (s : State) (k : Nat) : State :=
  if !s.coreMay k 0 4 then s else s.issued k false fun a => a.coreReg k (0x4C0208 + 16 * k) 4
/-- A core writes its ICU_COMPLETE (16 R609, R610). -/
def State.completeBy (s : State) (k src : Nat) : State :=
  if !s.coreMay k 0 4 then s else s.issued k false fun a => a.mapWrite (coreAgent k) false (0x4C020C + 16 * k) (natBytes 4 src)
/-- The main island runs, so that its registers can be reached (19 R708). -/
def State.mainOn (s : State) : Bool := !s.clk.inReset && s.power ≠ 3
def State.whenOn (s : State) (f : State → State) : State := if s.mainOn then f s else s

/-- CORE_LOAD (R573). -/
def execCoreLoad (core : Nat) (addr : Nat) (size : Nat) (s : State) : Host.Outcome State Fault Refusal :=
  .next (s.coreLoad core addr size).settle
/-- CORE_STORE (R573). -/
def execCoreStore (core : Nat) (addr : Nat) (data : List Byte) (s : State) : Host.Outcome State Fault Refusal :=
  .next (s.coreStore core addr data).settle
/-- STORE_BUFFER_ISSUE (R575). -/
def execStoreBufferIssue (core : Nat) (s : State) : Host.Outcome State Fault Refusal := .next (s.storeOut core).settle
/-- PREFETCH_FILL (R576). -/
def execPrefetchFill (core : Nat) (s : State) : Host.Outcome State Fault Refusal := .next (s.prefetchIn core).settle
/-- CACHE_PREFETCH (R576). -/
def execCachePrefetch (core : Nat) (s : State) : Host.Outcome State Fault Refusal := .next (s.coreOp core fun a => a.opPrefetch core).settle
/-- CACHE_ZERO_LINE (R577). -/
def execCacheZeroLine (core : Nat) (s : State) : Host.Outcome State Fault Refusal := .next (s.coreOp core fun a => a.opZero core).settle
/-- CACHE_LOCK (R579). -/
def execCacheLock (core : Nat) (s : State) : Host.Outcome State Fault Refusal := .next (s.coreOp core fun a => a.opLock core).settle
/-- CACHE_UNLOCK (R579). -/
def execCacheUnlock (core : Nat) (s : State) : Host.Outcome State Fault Refusal := .next (s.coreOp core fun a => a.opUnlock core).settle
/-- CACHE_WRITEOUT (R580). -/
def execCacheWriteout (core : Nat) (s : State) : Host.Outcome State Fault Refusal := .next (s.coreOp core fun a => a.opWriteOut core).settle
/-- CACHE_INVAL (R581). -/
def execCacheInval (core : Nat) (s : State) : Host.Outcome State Fault Refusal := .next (s.coreOp core fun a => a.opInval core).settle
/-- CACHE_DISABLE (R582). -/
def execCacheDisable (core : Nat) (s : State) : Host.Outcome State Fault Refusal := .next (s.cacheStop core).settle
/-- INTERRUPT_ENTRY (R612). -/
def execInterruptEntry (core : Nat) (s : State) : Host.Outcome State Fault Refusal := .next (s.interruptEntry core).settle
/-- INTERRUPT_RETURN (R612). -/
def execInterruptReturn (core : Nat) (s : State) : Host.Outcome State Fault Refusal := .next (s.interruptReturn core).settle
/-- LANE_DISAGREE (R586). -/
def execLaneDisagree (lane : Nat) (s : State) : Host.Outcome State Fault Refusal := .next ((s.laneDisagree lane).earlyRestart s).settle
/-- RESYNC_JOIN (R586). -/
def execResyncJoin (s : State) : Host.Outcome State Fault Refusal := .next s.resyncJoin.settle
/-- LANE_INJECT (R596). -/
def execLaneInject (lanes : BitVec 3) (s : State) : Host.Outcome State Fault Refusal := .next (s.laneInject lanes).settle
/-- NO_MAJORITY (R589). -/
def execNoMajority (s : State) : Host.Outcome State Fault Refusal := .next (s.noMajority.earlyRestart s).settle
/-- HM_RESTART_DONE (R590). -/
def execHmRestartDone (s : State) : Host.Outcome State Fault Refusal := .next s.restartDone.settle
/-- STEVEDORE_UE (R591). -/
def execStevedoreUe (core : Nat) (where_ : CoreUe) (s : State) : Host.Outcome State Fault Refusal :=
  .next (s.stevedoreUe core where_).settle
/-- STEVEDORE_RELOAD_DONE (R591). -/
def execStevedoreReloadDone (core : Nat) (s : State) : Host.Outcome State Fault Refusal := .next (s.reloadDone core).settle
/-- CORE_TIMER_FIRE (R593). -/
def execCoreTimerFire (core : Nat) (timer : Nat) (s : State) : Host.Outcome State Fault Refusal := .next (s.timerFire core timer).settle
/-- WATCHDOG_KICK (R594). -/
def execWatchdogKick (core : Nat) (value : Word32) (s : State) : Host.Outcome State Fault Refusal := .next (s.wdogKick core value).settle
/-- WATCHDOG_FIRE (R594). -/
def execWatchdogFire (core : Nat) (s : State) : Host.Outcome State Fault Refusal := .next ((s.wdogFire core).earlyRestart s).settle
/-- SOURCE_EDGE (R601). -/
def execSourceEdge (src : Nat) (s : State) : Host.Outcome State Fault Refusal := .next (s.whenOn fun a => a.sourceEdge src).settle
/-- ICU_CLAIM (R608). -/
def execIcuClaim (core : Nat) (s : State) : Host.Outcome State Fault Refusal := .next (s.claimBy core).settle
/-- ICU_COMPLETE (R609). -/
def execIcuComplete (core : Nat) (src : Nat) (s : State) : Host.Outcome State Fault Refusal := .next (s.completeBy core src).settle
/-- ICU_PEND_SET (R622). -/
def execIcuPendSet (src : Nat) (s : State) : Host.Outcome State Fault Refusal := .next (s.whenOn fun a => a.icuPendSet src).settle
/-- ICU_PEND_CLR (R622). -/
def execIcuPendClr (src : Nat) (s : State) : Host.Outcome State Fault Refusal := .next (s.whenOn fun a => a.icuPendClr src).settle
/-- ICU_SRC_CFG_WRITE (R601). -/
def execIcuSrcCfgWrite (src : Nat) (value : Word32) (s : State) : Host.Outcome State Fault Refusal :=
  .next (s.whenOn fun a => a.icuSrcCfg src value).settle

end Sys2Proof.Machine
end

