-- ==== Sys2Proof/Machine/ExecDram.lean ====
section
/-! DEFINITION. Commands of the DRAM and Quay controllers (09; 10 R380 to R384). -/
namespace Sys2Proof.Machine

/-- A Quay channel is lost: its pages, and the contexts whose records lay there (10 R383; 13 R537). -/
def State.quayChannelLost (s : State) (ch : Nat) : State :=
  if 16 ≤ ch || s.clk.inReset then s else (s.quayLoss ch).resetUncached

/-- SAME_BANK_REFRESH (R331). -/
def execSameBankRefresh (ch : Nat) (rank : Nat) (s : State) : Host.Outcome State Fault Refusal := .next (s.refresh ch rank).settle
/-- REFRESH_MANAGEMENT (R332). -/
def execRefreshManagement (ch : Nat) (bank : Nat) (s : State) : Host.Outcome State Fault Refusal := .next (s.refreshManage ch bank).settle
/-- DIMM_THERMAL_READ (R330). -/
def execDimmThermalRead (ch : Nat) (slot : Nat) (temp : Int) (s : State) : Host.Outcome State Fault Refusal :=
  .next (s.dimmThermal ch slot temp).settle
/-- RETRAIN_PAUSE (R335). -/
def execRetrainPause (ch : Nat) (s : State) : Host.Outcome State Fault Refusal := .next (s.retrainPause ch).settle
/-- ROW_IDLE_CLOSE (R323). -/
def execRowIdleClose (ch : Nat) (bank : Nat) (s : State) : Host.Outcome State Fault Refusal := .next (s.rowIdle ch bank).settle
/-- PANIC_MAX_EXPIRY (R328). -/
def execPanicMaxExpiry (ch : Nat) (port : Nat) (s : State) : Host.Outcome State Fault Refusal := .next (s.panicExpiry ch port).settle
/-- DRAM_ACCESS_DONE (R186). -/
def execDramAccessDone (addr : Nat) (s : State) : Host.Outcome State Fault Refusal := .next (s.dramDone addr).settle
/-- QUAY_ACCESS_DONE (R187). -/
def execQuayAccessDone (addr : Nat) (s : State) : Host.Outcome State Fault Refusal := .next (s.quayDone addr).settle
/-- DRAM_FREQ_SET (R339). -/
def execDramFreqSet (c : Cmd) (s : State) : Host.Outcome State Fault Refusal := .next (s.arrive 0x0C01 (some defFreqSet) c).settle
/-- FREQ_CHANGE_DONE (R342). -/
def execFreqChangeDone (s : State) : Host.Outcome State Fault Refusal := .next s.freqDone.settle
/-- DIMM_LOSS (R348). -/
def execDimmLoss (ch : Nat) (slot : Nat) (s : State) : Host.Outcome State Fault Refusal := .next (s.dimmLoss ch slot).settle
/-- DIMM_REHOME_PAGE (R380). -/
def execDimmRehomePage (page : Nat) (s : State) : Host.Outcome State Fault Refusal := .next (s.rehome page).settle
/-- QUAY_CHANNEL_LOSS (R357). -/
def execQuayChannelLoss (ch : Nat) (s : State) : Host.Outcome State Fault Refusal := .next (s.quayChannelLost ch).settle
/-- QUAY_REFRESH (R355). -/
def execQuayRefresh (s : State) : Host.Outcome State Fault Refusal := .next s.quayRefresh.settle
/-- HBM_THERMAL_READ (R355). -/
def execHbmThermalRead (temp : Int) (s : State) : Host.Outcome State Fault Refusal := .next (s.hbmThermal temp).settle
/-- D_CLEAR_PASS (R347). -/
def execDClearPass (s : State) : Host.Outcome State Fault Refusal := .next s.dClearPass.settle
/-- OUTSIDE_MASK_DIMM_RETURN (R346). -/
def execOutsideMaskDimmReturn (s : State) : Host.Outcome State Fault Refusal := .next s.outsideReturn.settle

end Sys2Proof.Machine
end

