-- ==== Sys2Proof/Machine/ExecEpc.lean ====
section
/-! DEFINITION. The energy pack, rehearsals and power loss (11). -/
namespace Sys2Proof.Machine

/-- FRONT_END_FRAME_READ (R407). -/
def execFrontEndFrameRead (frame : Frame) (s : State) : Host.Outcome State Fault Refusal := .next (s.readFrame frame true).settle
/-- PK_ALERT (R407). -/
def execPkAlert (frame : Frame) (s : State) : Host.Outcome State Fault Refusal := .next (s.readFrame frame false).settle
/-- ENERGY_MODEL_UPDATE (R412). -/
def execEnergyModelUpdate (s : State) : Host.Outcome State Fault Refusal := .next s.modelUpdate.settle
/-- REST_CORRECTION (R413). -/
def execRestCorrection (s : State) : Host.Outcome State Fault Refusal := .next s.restCorrection.settle
/-- HEALTH_FADE (R414). -/
def execHealthFade (s : State) : Host.Outcome State Fault Refusal := .next s.healthFade.settle
/-- CHARGE_CURRENT_LOOP (R419). -/
def execChargeCurrentLoop (s : State) : Host.Outcome State Fault Refusal := .next s.chargeCurrent.settle
/-- CHARGE_VOLTAGE_LOOP (R419). -/
def execChargeVoltageLoop (s : State) : Host.Outcome State Fault Refusal := .next s.chargeVoltage.settle
/-- HEATER_LOOP (R420). -/
def execHeaterLoop (s : State) : Host.Outcome State Fault Refusal := .next s.heaterLoop.settle
/-- PACK_PROFILE_SET (R410). -/
def execPackProfileSet (c : Cmd) (s : State) : Host.Outcome State Fault Refusal := .next (s.arrive 0x0501 (some defProfileSet) c).settle
/-- PACK_REHEARSE (R426). -/
def execPackRehearse (c : Cmd) (s : State) : Host.Outcome State Fault Refusal := .next (s.arrive 0x0502 (some defRehearse) c).settle
/-- REHEARSAL_START (R425). -/
def execRehearsalStart (s : State) : Host.Outcome State Fault Refusal := .next s.rehStart.settle
/-- REHEARSAL_POSTPONE (R425). -/
def execRehearsalPostpone (s : State) : Host.Outcome State Fault Refusal := .next s.rehPostpone.settle
/-- REHEARSAL_RETRY (R425). -/
def execRehearsalRetry (s : State) : Host.Outcome State Fault Refusal := .next s.rehRetry.settle
/-- REH_TRANSFER_TIMEOUT (R423). -/
def execRehTransferTimeout (s : State) : Host.Outcome State Fault Refusal := .next s.rehTimeout.settle
/-- REH_PHASE_A_END (R423). -/
def execRehPhaseAEnd (s : State) : Host.Outcome State Fault Refusal := .next s.phaseAEnd.settle
/-- REH_PHASE_B_END (R424). -/
def execRehPhaseBEnd (s : State) : Host.Outcome State Fault Refusal := .next s.phaseBEnd.settle
/-- REHEARSAL_BLOCK_ERASE (R423). -/
def execRehearsalBlockErase (s : State) : Host.Outcome State Fault Refusal := .next s.rehErase.settle
/-- SHARED_REHEARSAL_PHASE_A (R428). -/
def execSharedRehearsalPhaseA (s : State) : Host.Outcome State Fault Refusal := .next s.sharedPhaseA.settle
/-- PFAIL_QUALIFIED (R430). -/
def execPfailQualified (s : State) : Host.Outcome State Fault Refusal := .next s.pfail.settle
/-- PFAIL_RISE (R646). -/
def execPfailRise (s : State) : Host.Outcome State Fault Refusal := .next s.pfailRise.settle
/-- RIDE_POWER_RETURN (R430). -/
def execRidePowerReturn (s : State) : Host.Outcome State Fault Refusal := .next s.rideReturn.settle
/-- RIDE_EXPIRY (R430). -/
def execRideExpiry (s : State) : Host.Outcome State Fault Refusal := .next s.rideExpiry.settle
/-- SAVE_COMMIT (R434). -/
def execSaveCommit (s : State) : Host.Outcome State Fault Refusal := .next s.saveCommit.settle
/-- VAON_SAMPLE (R437). -/
def execVaonSample (mv : Nat) (s : State) : Host.Outcome State Fault Refusal := .next (s.vaonSample mv).settle
/-- EPC_C_SAVE_WRITE (R440). -/
def execEpcCSaveWrite (_value : Word32) (s : State) : Host.Outcome State Fault Refusal := .next s.saveCostWrite.settle
/-- EPC_P_RUN_WRITE (R440). -/
def execEpcPRunWrite (_value : Word32) (s : State) : Host.Outcome State Fault Refusal := .next s.saveCostWrite.settle
/-- REH_START_WRITE (R426). -/
def execRehStartWrite (s : State) : Host.Outcome State Fault Refusal := .next s.requestReh.settle

end Sys2Proof.Machine
end

