-- ==== Sys2Proof/Machine/ExecFlash.lean ====
section
/-! DEFINITION. Commands of the flash tier (08). -/
namespace Sys2Proof.Machine

/-- FLASH_READ_DONE (R284). -/
def execFlashReadDone (page : Nat) (outcome : CodewordResult) (s : State) : Host.Outcome State Fault Refusal :=
  .next (s.flashRead page outcome).settle
/-- STRIPE_CLOSE_TIMEOUT (R289). -/
def execStripeCloseTimeout (stripe : Nat) (s : State) : Host.Outcome State Fault Refusal := .next (s.stripeClose stripe).settle
/-- GARBAGE_COLLECT (R293). -/
def execGarbageCollect (block : Nat) (s : State) : Host.Outcome State Fault Refusal := .next (s.garbageCollect block).settle
/-- STATIC_WEAR_LEVEL (R295). -/
def execStaticWearLevel (block : Nat) (s : State) : Host.Outcome State Fault Refusal := .next (s.wearLevel block).settle
/-- READ_DISTURB_RELOCATE (R296). -/
def execReadDisturbRelocate (block : Nat) (s : State) : Host.Outcome State Fault Refusal := .next (s.disturbRelocate block).settle
/-- RETENTION_SCRUB (R297). -/
def execRetentionScrub (block : Nat) (weak : Bool) (s : State) : Host.Outcome State Fault Refusal :=
  .next (s.retentionScrub block weak).settle
/-- DIE_RETIRE (R299). -/
def execDieRetire (ch : Nat) (die : Nat) (s : State) : Host.Outcome State Fault Refusal := .next (s.dieRetire ch die).settle
/-- FLASH_CHANNEL_LOSS (R285). -/
def execFlashChannelLoss (ch : Nat) (s : State) : Host.Outcome State Fault Refusal := .next (s.channelLoss ch).settle
/-- MAP_LOAD (R309). -/
def execMapLoad (s : State) : Host.Outcome State Fault Refusal := .next s.mapLoad.settle
/-- FOLD_EXTENT (R310). -/
def execFoldExtent (s : State) : Host.Outcome State Fault Refusal := .next s.foldExtent.settle
/-- FACTORY_BAD_BLOCK_READ (R650). -/
def execFactoryBadBlockRead (block : Nat) (bad : Bool) (s : State) : Host.Outcome State Fault Refusal :=
  .next (s.factoryMark block bad).settle
/-- ONFI_CHANNEL_TRAINED (R739). -/
def execOnfiChannelTrained (ch : Nat) (s : State) : Host.Outcome State Fault Refusal := .next (s.onfiTrained ch).settle

end Sys2Proof.Machine
end

