-- ==== Sys2Proof/Machine/Reports.lean ====
section
/-! DEFINITION. What the CXL side reports: GPF and range DVSECs, CDAT, credits, and the standard mailbox commands that have no row of their own
(02 R81; 04 R133, R134, R147, R167, R168, R170). Opcodes, layouts and codes that the spec leaves to CXL 3.1 are PRESUMED (log 98). -/
namespace Sys2Proof.Machine

/-! ### DVSECs and CDAT -/

/-- A phase duration as the GPF DVSEC gives it: base × 1 ms for scale 0x3. -/
structure GpfPhase2 where
  base : Nat
  scale : Nat
  /-- power in mW -/
  power : Nat
deriving DecidableEq, Repr
/-- The device GPF DVSEC (R167). -/
def gpfPhase2 : GpfPhase2 := ⟨10, 3, 108000⟩
/-- Its duration in ms (R81): scale 0x3 is 1 ms. -/
def gpfPhase2Ms : Nat := gpfPhase2.base
/-- A DVSEC range of an LD (R168). -/
structure DvsecRange where
  /-- Memory_Active_Timeout code -/
  timeout : Nat
  /-- Memory_Active -/
  active : Bool
deriving DecidableEq, Repr
/-- The ranges of every LD report code 0x1 (4 s); Memory_Active is set at step 5 of start-up (R168). -/
def State.dvsecRange (s : State) : DvsecRange := ⟨1, s.memActive⟩
/-- A DSMAS of the CDAT. -/
structure Dsmas where
  handle : Nat
deriving DecidableEq, Repr
/-- CDAT of an LD through DOE: one DSMAS (R133); its handle is no rule's. -/
def State.cdat (s : State) (ld : Nat) : List Dsmas := if (if s.gfam then ld = 0 else s.lds.contains ld) then [⟨0⟩] else []

/-! ### Credits -/

/-- Does a link return Req credits: ACTIVE, in FULL, the drain to AON-ONLY not past its step 3 (R170, R175; 17 R634)? -/
def State.reqCredits (s : State) (head : Nat) : Bool := s.linkState head = 4 && s.running && !s.creditsOff
/-- RwD credits: not in HOLD either (R170). -/
def State.rwdCredits (s : State) (head : Nat) : Bool := s.reqCredits head && !s.inHold

/-! ### Standard mailbox commands (R134) -/

/-- Opcodes that the LD's mailbox implements, those with a row of their own first (R134; 14 R544, R561). -/
def ownRows : List Nat := [0x0100, 0x0101, 0x0103, 0x0200, 0x0201, 0x0202, 0x4200, 0x4300, 0x4301, 0x4302, 0x4802, 0x4803]
def stdRows : List Nat := [0x0102, 0x0300, 0x0301, 0x0400, 0x0401, 0x4000, 0x4201, 0x4202, 0x4800, 0x4801]
def fmRows : List Nat := [0x5500, 0x5501]
/-- Success with an output payload. -/
def State.mboxOk (s : State) (ld : Nat) (bs : List Byte) : State := s.emit (.mbox ld .success bs)
/-- The timestamp of an LD: 0 until it is set, from then on it counts ns. -/
def State.timestamp (s : State) (ld : Nat) : Nat :=
  let x := sget (0, 0) s.cxl.stamp ld
  if x.2 = 0 then 0 else (x.1 + (s.now + 1 - x.2) / 2) % 2 ^ 64
/-- UUID of the Command Effects Log. -/
def celUuid : List Byte :=
  [0x0D#8, 0xA9#8, 0xC0#8, 0xB5#8, 0xBF#8, 0x41#8, 0x4B#8, 0x78#8, 0x8F#8, 0x79#8, 0x96#8, 0xB1#8, 0x62#8, 0x3B#8, 0x3F#8, 0x17#8]
/-- The Command Effects Log: opcode and effects of each command. Which effects each has no rule says. -/
def celBytes : List Byte := (ownRows ++ stdRows).flatMap fun o => natBytes 2 o ++ natBytes 2 (Config.celEffects o).toNat
/-- Get Log: a part of the one log there is. -/
def State.getLog (s : State) (ld : Nat) (pl : List Byte) : State :=
  let off := leNat ((pl.drop 16).take 4)
  let len := leNat ((pl.drop 20).take 4)
  if pl.length ≠ 24 || pl.take 16 ≠ celUuid || celBytes.length < off + len then s.mbox ld .invalidInput
  else s.mboxOk ld ((celBytes.drop off).take len)
/-- Identify Memory Device: the sizes of the event logs are R133's; the other values are no rule's: free values. -/
def State.identify (s : State) (ld : Nat) : State :=
  let a := s.free (2 ^ 384)
  let b := a.2.free (2 ^ 88)
  b.2.mboxOk ld (natBytes 48 a.1 ++ natBytes 2 64 ++ natBytes 2 64 ++ natBytes 2 64 ++ natBytes 2 16 ++ natBytes 11 b.1 ++ natBytes 2 32)
/-- One alert threshold of an LD: 0 life used, 1 and 2 temperature, 3 and 4 corrected errors; bit 16 says that it is enabled. -/
def State.alert (s : State) (ld k : Nat) : Nat := sget 0 s.cxl.alerts (8 * ld + k)
/-- Get Alert Configuration: the programmed thresholds; the critical ones, and which can be programmed, are no rule's: free values. -/
def State.getAlerts (s : State) (ld : Nat) : State :=
  let a := s.free (2 ^ 16)
  let b := a.2.free (2 ^ 32)
  let en := ((List.range 5).map fun k => s.alert ld k / 2 ^ 16 * 2 ^ k).sum
  let t := fun k => natBytes 2 (s.alert ld k % 2 ^ 16)
  b.2.mboxOk ld (natBytes 1 en ++ natBytes 2 a.1 ++ natBytes 1 (s.alert ld 0) ++ natBytes 4 b.1 ++ t 1 ++ t 2 ++ t 3 ++ t 4)
/-- Set Alert Configuration: the thresholds whose bit is set in the first byte, each enabled as in the second. -/
def State.setAlerts (s : State) (ld : Nat) (pl : List Byte) : State :=
  if pl.length ≠ 12 then s.mbox ld .invalidInput else
  let f := fun k => if k = 0 then leNat ((pl.drop 2).take 1) else leNat ((pl.drop (2 + 2 * k)).take 2)
  let valid := leNat (pl.take 1)
  let en := leNat ((pl.drop 1).take 1)
  let m := (List.range 5).foldl (fun (m : SMap Nat) k =>
    if valid.testBit k then sput 0 m (8 * ld + k) (f k + (if en.testBit k then 2 ^ 16 else 0)) else m) s.cxl.alerts
  ({ s with cxl := { s.cxl with alerts := m } }).mbox ld .success
/-- Get Event Interrupt Policy: for each log its vector and whether it is sent as a message (16 R618). -/
def State.getPolicy (s : State) (ld : Nat) : State :=
  s.mboxOk ld ((List.range 5).flatMap fun k =>
    let v := sget 0 s.cxl.policy (8 * ld + k)
    natBytes 1 (if v = 0 then 0 else 1 + 16 * (v - 1)))
/-- The dynamic-capacity regions of an LD, or of an access group (R147): persistence and SHR where the first extent has fixed them. -/
def State.dcRegions (s : State) (ld : Nat) : List (Option (Bool × Bool)) :=
  (List.range 8).map fun n =>
    let t := sget 0 s.rgn.dcTypes (8 * ld + n)
    if t = 0 then none else some ((t - 1) % 2 = 1, (t - 1) / 2 = 1)
/-- The extents that an LD holds: accepted and not released. -/
def State.dcExtents (s : State) (ld : Nat) : List (Nat × Nat) :=
  (s.rgn.regions.filter fun kv : Nat × Region =>
      kv.2.dc && s.visibleTo kv.2 ld && (kv.2.state = .active || kv.2.state = .retyping || kv.2.state = .releasing)).map
    fun kv : Nat × Region => (kv.2.dla, kv.2.bytes)
/-- Get Multi-Headed Info and Get Head Info of the FM API: the heads that are present, with the LDs of each (R133, R137). -/
def State.headList (s : State) : List (Nat × Nat × Nat × Nat × List Nat) :=
  ((List.range 16).filter s.present).map fun h =>
    (h, s.fget (lnk F.CXP_LNK_STATUS_STATE h), s.fget (lnk F.CXP_LNK_STATUS_WIDTH h), s.fget (lnk F.CXP_LNK_STATUS_SPEED h),
      if s.gfam then [0] else s.groupLds h)
/-- A standard mailbox command: one of the sets that the mailbox implements, or Unsupported (R134). A command that has a row of its own comes
by that row only. -/
def State.mboxStd (s : State) (ld opcode : Nat) (pl : List Byte) : State :=
  if ownRows.contains opcode then s else s.onMbox ld (
    match opcode with
    | 0x0102 => s.getPolicy ld
    | 0x0300 => s.mboxOk ld (natBytes 8 (s.timestamp ld))
    | 0x0301 =>
      if pl.length ≠ 8 then s.mbox ld .invalidInput
      else ({ s with cxl := { s.cxl with stamp := sput (0, 0) s.cxl.stamp ld (leNat pl, s.now + 1) } }).mbox ld .success
    | 0x0400 => s.mboxOk ld (natBytes 2 1 ++ natBytes 6 0 ++ celUuid ++ natBytes 4 celBytes.length)
    | 0x0401 => s.getLog ld pl
    | 0x4000 => s.identify ld
    | 0x4201 => s.getAlerts ld
    | 0x4202 => s.setAlerts ld pl
    | 0x4800 => s.emit (.dcConfig ld (2 ^ 28) (s.dcRegions ld))
    | 0x4801 => s.emit (.dcExtents ld (s.dcExtents ld))
    | 0x5500 | 0x5501 => if ld = 0 then s.emit (.headInfo s.headList) else s.mbox ld .unsupported
    | _ => s.mbox ld .unsupported)

end Sys2Proof.Machine
end

