-- ==== Sys2Proof/Machine/ExecHost.lean ====
section
/-! DEFINITION. Commands at the CXL ports: requests, links, resets, the fabric manager, mailboxes (02, 04, 05). -/
namespace Sys2Proof.Machine

/-- Does a store reach a region of a class? A store outside every served region is of each row. -/
def State.storeIs (s : State) (st : HostStore) (d : Dur) : Bool :=
  match s.locate st.head st.ld st.pbr st.addr with
  | .unmapped _ => true
  | .line _ i _ => (s.region i).dur = d
/-- A store of a class as it arrives. -/
def State.storeIn (s : State) (st : HostStore) (d : Dur) : State := if s.storeIs st d then s.hostStore st else s
/-- FLR or CXL Reset of an LD, with its own register instances and the contexts it owns (13 R537; 19 R703). In G-FAM LD 0 is the one
whose register window the heads present (19 R690): its instances reset, and nothing is the host's that LD 0's reset could take. -/
def State.flrLd (s : State) (ld : Nat) : State :=
  if s.clk.inReset then s
  else if s.gfam then (if ld = 0 then (s.resetLdRegs 0).setAgent 0 Agent.empty else s)
  else if !s.lds.contains ld then s
  else ((s.flr ld).closeOwned (.ld ld)).setAgent ld Agent.empty
/-- PERST_N of a port rises: its links begin training (17 R643). -/
def State.perstRise (s : State) (p : Nat) : State :=
  if 4 ≤ p then s else
  let s := { s with clk := { s.clk with perstN := s.clk.perstN ||| (1#4 <<< p) } }
  if s.clk.inReset || s.fget F.CLK_STATUS_STEP = 0 then s else
  (List.range 4).foldl (fun a k =>
    let h := 4 * p + k
    if a.present h && a.linkState h ≤ 1 then a.fset (lnk F.CXP_LNK_STATUS_STATE h) (a.trainState h) else a) s

/-- HOST_READ (R188). -/
def execHostRead (r : HostRead) (s : State) : Host.Outcome State Fault Refusal := .next (s.hostRead r).settle
/-- HOST_STORE_L (R191). -/
def execHostStoreL (st : HostStore) (s : State) : Host.Outcome State Fault Refusal := .next (s.storeIn st .l).settle
/-- HOST_STORE_M (R195). -/
def execHostStoreM (st : HostStore) (s : State) : Host.Outcome State Fault Refusal := .next (s.storeIn st .m).settle
/-- HOST_STORE_V (R192). -/
def execHostStoreV (st : HostStore) (s : State) : Host.Outcome State Fault Refusal := .next (s.storeIn st .v).settle
/-- HELD_STORE_ADMIT (R72). -/
def execHeldStoreAdmit (s : State) : Host.Outcome State Fault Refusal := .next s.admitHeld.settle
/-- INGRESS_STORE_RESUME (R60). -/
def execIngressStoreResume (s : State) : Host.Outcome State Fault Refusal := .next s.ingressResume.settle
/-- LANDING_DRAIN (R58). -/
def execLandingDrain (line : Nat) (s : State) : Host.Outcome State Fault Refusal := .next (s.landingDrain line).settle
/-- BIRSP_RECEIVED (R152). -/
def execBirspReceived (b : BiRsp) (s : State) : Host.Outcome State Fault Refusal := .next (s.birsp b).settle
/-- BISNP_TIMEOUT (R156). -/
def execBisnpTimeout (line : Nat) (holder : Nat) (s : State) : Host.Outcome State Fault Refusal := .next (s.bisnpTimeout line holder).settle
/-- HOST_WRITEBACK (R157). -/
def execHostWriteback (st : HostStore) (s : State) : Host.Outcome State Fault Refusal := .next (s.hostWriteback st).settle
/-- GPF_PHASE2_REQUEST (R78). -/
def execGpfPhase2Request (head : Nat) (s : State) : Host.Outcome State Fault Refusal := .next (s.gpfRequest head).settle
/-- GPF_PHASE2_COMPLETE (R78). -/
def execGpfPhase2Complete (head : Nat) (s : State) : Host.Outcome State Fault Refusal := .next (s.gpfComplete head).settle
/-- VIRAL_RECEIVED (R174). -/
def execViralReceived (head : Nat) (s : State) : Host.Outcome State Fault Refusal := .next (s.viral head).settle
/-- IDE_MAC_FAILURE (R160). -/
def execIdeMacFailure (head : Nat) (s : State) : Host.Outcome State Fault Refusal := .next (s.ideMacFail head).settle
/-- CXL_LINK_DOWN (R171). -/
def execCxlLinkDown (head : Nat) (s : State) : Host.Outcome State Fault Refusal := .next (s.linkDown head).settle
/-- CXL_LINK_TRAIN_ATTEMPT (R131). -/
def execCxlLinkTrainAttempt (head : Nat) (t : LinkTrained) (s : State) : Host.Outcome State Fault Refusal :=
  .next (s.linkTrain head t).settle
/-- PERST_ASSERT (R173). -/
def execPerstAssert (port : Nat) (s : State) : Host.Outcome State Fault Refusal := .next (s.perstAssert port).settle
/-- PERST_RELEASE (R643). -/
def execPerstRelease (port : Nat) (s : State) : Host.Outcome State Fault Refusal := .next (s.perstRise port).settle
/-- FUNCTION_LEVEL_RESET (R173). -/
def execFunctionLevelReset (ld : Nat) (s : State) : Host.Outcome State Fault Refusal := .next (s.flrLd ld).settle
/-- GFAM_HOST_BIND (R141). -/
def execGfamHostBind (host : Nat) (pbr : Nat) (group : Nat) (s : State) : Host.Outcome State Fault Refusal :=
  .next (s.hostBind host pbr group).settle
/-- GFAM_HOST_UNBIND (R242). -/
def execGfamHostUnbind (host : Nat) (s : State) : Host.Outcome State Fault Refusal := .next (s.hostUnbind host).settle
/-- GFD_DECODER_COMMIT (R144). -/
def execGfdDecoderCommit (_head : Nat) (index : Nat) (d : DecoderCfg) (s : State) : Host.Outcome State Fault Refusal :=
  .next (s.gfdCommit index d).settle
/-- IDE_KM (R158). -/
def execIdeKm (head : Nat) (mem : IdeReq) (io : Bool) (s : State) : Host.Outcome State Fault Refusal := .next (s.ideKm head mem io).settle
/-- HOST_DC_ADD_RESPONSE (R148). -/
def execHostDcAddResponse (ld : Nat) (region : Nat) (accept : Bool) (s : State) : Host.Outcome State Fault Refusal :=
  .next (s.dcResponse ld region accept).settle
/-- HOST_DC_RELEASE (R148). -/
def execHostDcRelease (ld : Nat) (region : Nat) (s : State) : Host.Outcome State Fault Refusal := .next (s.dcRelease ld region).settle
/-- DC_OFFER_TIMEOUT (R149). -/
def execDcOfferTimeout (region : Nat) (s : State) : Host.Outcome State Fault Refusal := .next (s.dcTimeout region).settle
/-- GET_POISON_LIST (R164). -/
def execGetPoisonList (ld : Nat) (s : State) : Host.Outcome State Fault Refusal := .next (s.getPoison ld).settle
/-- INJECT_POISON (R163). -/
def execInjectPoison (ld : Nat) (dla : Nat) (s : State) : Host.Outcome State Fault Refusal := .next (s.poisonStore ld dla 0 0 true).settle
/-- CLEAR_POISON (R163). -/
def execClearPoison (ld : Nat) (dla : Nat) (data : Line) (s : State) : Host.Outcome State Fault Refusal :=
  .next (s.poisonStore ld dla data (BitVec.allOnes 64) false).settle
/-- GET_EVENT_RECORDS (R166). -/
def execGetEventRecords (ld : Nat) (log : EvLog) (count : Nat) (s : State) : Host.Outcome State Fault Refusal :=
  .next (s.getEvents ld log count).settle
/-- CLEAR_EVENT_RECORDS (R166). -/
def execClearEventRecords (ld : Nat) (log : EvLog) (handles : List Nat) (s : State) : Host.Outcome State Fault Refusal :=
  .next (s.clearEvents ld log handles).settle
/-- SET_EVENT_INTERRUPT_POLICY (R618). -/
def execSetEventInterruptPolicy (ld : Nat) (log : EvLog) (vector : Option Nat) (s : State) : Host.Outcome State Fault Refusal :=
  .next (s.eventPolicy ld log vector).settle
/-- GET_HEALTH_INFO (R729). -/
def execGetHealthInfo (ld : Nat) (s : State) : Host.Outcome State Fault Refusal := .next (s.healthInfo ld).settle
/-- GET_PARMOS_REPLY (R544). -/
def execGetParmosReply (ld : Nat) (s : State) : Host.Outcome State Fault Refusal := .next (s.getParmosReply ld).settle
/-- MAILBOX_UNSUPPORTED_OPCODE (R134). -/
def execMailboxUnsupportedOpcode (ld : Nat) (opcode : MboxCommand) (s : State) : Host.Outcome State Fault Refusal :=
  .next (s.mboxStd ld opcode.code opcode.payload).settle
/-- GET_FW_INFO (R561). -/
def execGetFwInfo (ld : Nat) (s : State) : Host.Outcome State Fault Refusal := .next (s.getFwInfo ld).settle
/-- TRANSFER_FW (R561). -/
def execTransferFw (ld : Nat) (offset : Nat) (data : List Byte) (end_ : Bool) (s : State) : Host.Outcome State Fault Refusal :=
  .next (s.transferFw ld offset data end_).settle
/-- ACTIVATE_FW (R561). -/
def execActivateFw (ld : Nat) (slot : Nat) (online : Bool) (s : State) : Host.Outcome State Fault Refusal :=
  .next (s.activateFw ld slot online).settle

end Sys2Proof.Machine
end

