-- ==== Sys2Proof/Machine/ScrubFx.lean ====
section
/-! DEFINITION. Patrol scrub: what each store does with a line or word that it reads (10_integrity_and_check_units.md R367, R389, R390; 18 R666, R667). -/
namespace Sys2Proof.Machine

/-! ### Uncorrectable words of SRAM (R367) -/

/-- A word of a Landing entry: a store for which the twin has a mirror is fetched from there before it drains, any other line is poisoned; a later
store of the whole line stands above both (R371). -/
def State.landingUe (s : State) (i : Nat) : State :=
  match s.pers.landing[i]? with
  | none => s
  | some e =>
    if e.drained then s else
    let later := s.pers.landing.any fun x => e.id < x.id && x.line = e.line && x.mask = BitVec.allOnes 64 && !x.poison
    let r : Recovery := ⟨e.line / 64, e.line, .sram, false, false, true, .scrub, none, s.now⟩
    if e.cls = .m && s.isPaired && !s.parked e.line then (s.addRecovery r).askTwin r
    else if later then s else s.poisonLine e.line
/-- A page-state word is discarded; the next lookup fetches it again. -/
def State.psWordUe (s : State) (p : Nat) : State := { s with rgn := { s.rgn with yard := sput 0 s.rgn.yard p 0 } }
/-- A parked packet is refused. -/
def State.shedUe (s : State) (i : Nat) : State :=
  match s.ute.shed[i]? with
  | none => s
  | some x => (s.setShed (s.ute.shed.eraseIdx i)).sendNackAfter x.pkt.link x.pkt.hdr 1 none
/-- A read whose queue entry is lost completes with poison: the oldest that waits for its data, its page or a memory's queue. -/
def State.readUe (s : State) (line : Nat) : State :=
  let lost := fun (a : State) (q : BiReq) => a.give q line { core := 84, phiIn := 1, phiOut := 1 } false none
  match s.rgn.waits.find? fun w => w.line = line with
  | some w => lost { s with rgn := { s.rgn with waits := s.rgn.waits.erase w } } (w.req.after s.now 50)
  | none =>
    match s.rgn.psWait.find? fun w => w.line = line && w.req.isRead with
    | some w => lost { s with rgn := { s.rgn with psWait := s.rgn.psWait.erase w } } (w.req.after s.now 50)
    | none => s
/-- Word `k` of a store. -/
def wordLess (m : BitVec 64) (k : Nat) : BitVec 64 := m &&& ~~~(0xFF#64 <<< (8 * k))
/-- A store whose queue entry is lost discards the word and poisons its line. -/
def State.storeUe (s : State) (line k : Nat) : State :=
  match s.pers.ingress.find? fun x => x.line = line with
  | some x =>
    let f := fun y : IngressStore => if y.id = x.id then { y with mask := wordLess y.mask k, poison := true } else y
    { s with pers := { s.pers with ingress := s.pers.ingress.map f } }
  | none =>
    let f := fun w : PsWait => if w.line ≠ line then w else match w.req with
      | .store id run a st => { w with req := .store id run a { st with mask := wordLess st.mask k, poison := true } }
      | .back id run a st => { w with req := .back id run a { st with mask := wordLess st.mask k, poison := true } }
      | .write st => { w with req := .write { st with mask := wordLess st.mask k, poison := true } }
      | _ => w
    { s with rgn := { s.rgn with psWait := s.rgn.psWait.map f } }
/-- The line of the DLA that an SRAM word belongs to. -/
def State.sramDla (s : State) : SramUe → Option Nat
  | .landing i => s.pers.landing[i]?.map fun e => 64 * e.line
  | .psWord p => some (4096 * p)
  | .read l | .store l _ => some (64 * l)
  | _ => none
/-- Outcomes of R367. TYPE 2 is logged where a line is poisoned. DESIGN CHOICE (log 96): every other outcome is logged with TYPE 1; the table
of types has none of its own for them. -/
def State.sramUe (s : State) (k : Nat) (w : SramUe) : State :=
  let poisons := match w with | .landing _ | .read _ | .store _ _ => true | _ => false
  let s := (s.countUe 0).logErr (s.sramDla w) (k / 32768 % 256 * 256 + k * 65536) .sram (if poisons then .uePoisoned else .ueRecovered) .scrub 0xFF 0
  match w with
  | .landing i => s.landingUe i
  | .psWord p => s.psWordUe p
  | .utCtx c => if s.ute.cached.contains c then s.resetCtx c else s
  | .shed i => s.shedUe i
  | .read l => s.readUe l
  | .store l n => s.storeUe l n
  | .unused => s

/-! ### What scrub finds -/

/-- LOC of a line or word of a store. -/
def State.scrubLoc (s : State) (tier k : Nat) : Nat :=
  match tier with
  | 0 => k / 32768 % 256 * 256 + k * 65536
  | 1 => quayLoc (k * 64)
  | 2 => dramLoc s.dram.pop (k * 64)
  | _ => k % 4096
def scrubTier : Nat → Tier
  | 0 => .sram | 1 => .quay | 2 => .dram | _ => .settings
/-- The line of the DLA whose copy lies at a line of DRAM or of the Quay. -/
def State.scrubDla (s : State) (tier k : Nat) : Option Nat := (s.scrubPage tier k).map fun p => 64 * p + k % 64
/-- An error of one bit, or of one device: counted, logged, rewritten; the rewrite of a settings word counts as a write (R362, R363; 18 R667). -/
def State.scrubCorrected (s : State) (tier k device : Nat) : State :=
  let s := (s.countCe (tierNum (scrubTier tier))).logErr ((s.scrubDla tier k).map (64 * ·)) (s.scrubLoc tier k) (scrubTier tier) .corrected .scrub
    (if tier = 2 then device else 0xFF) 0
  if tier = 4 then s.storeCell k (s.cell k) else s
/-- A settings word that cannot be corrected: its register presents the factory value until a write succeeds (R367; 18 R666). -/
def State.settingsUe (s : State) (k : Nat) : State :=
  let s := (s.countUe 0).logErr none k .settings .ueRecovered .scrub 0xFF 0
  ({ s with sets := { s.sets with ue := insNat k s.sets.ue, bad := insNat k s.sets.bad } }).setLive k (sget 0 factoryCells k)
/-- PATROL_SCRUB: the next line or word of a store is read; scrub runs in FULL, and of DRAM not during a frequency change (R389, R390, R404). -/
def State.patrolScrub (s : State) (tier : Nat) (found : ScrubFound) : State :=
  if !s.running || (tier = 2 && s.dramBusy) then s else
  match s.scrubLine tier with
  | none => s
  | some k =>
    let s := { s with integ := { s.integ with scrubPos := sput 0 s.integ.scrubPos tier (k + 1) } }
    match found with
    | .clean => s
    | .corrected d => s.scrubCorrected tier k d
    | .sram w => if tier = 0 then s.sramUe k w else s
    | .uncorrectable bad =>
      match tier with
      | 0 => s.sramUe k .unused
      | 4 => s.settingsUe k
      | _ =>
        match s.scrubDla tier k with
        | some line => s.scrubUe line (scrubTier tier) bad
        | none => (s.countUe tier).logErr none (s.scrubLoc tier k) (scrubTier tier) .uePoisoned .scrub 0xFF 0

end Sys2Proof.Machine
end

