-- ==== Sys2Proof/Machine/ExecInteg.lean ====
section
/-! DEFINITION. Data integrity and check units (10; 14 R558). -/
namespace Sys2Proof.Machine

/-- CORRECTED_WRITEBACK (R362). -/
def execCorrectedWriteback (line : Nat) (s : State) : Host.Outcome State Fault Refusal := .next (s.correctedWriteback line).settle
/-- UE_RECOVERY (R375). -/
def execUeRecovery (r : UeRead) (s : State) : Host.Outcome State Fault Refusal := .next (s.ueRecovery r).settle
/-- UE_RECOVERY_RESOLVED (R378). -/
def execUeRecoveryResolved (line : Nat) (bad : List Nat) (s : State) : Host.Outcome State Fault Refusal :=
  .next (s.ueResolved line bad).settle
/-- MERGE_IDLE_DRAIN (R364). -/
def execMergeIdleDrain (group : Nat) (word : Nat) (s : State) : Host.Outcome State Fault Refusal := .next (s.mergeIdle group word).settle
/-- PATROL_SCRUB (R389). -/
def execPatrolScrub (tier : ScrubRead) (s : State) : Host.Outcome State Fault Refusal := .next (s.patrolScrub tier.tier tier.found).settle
/-- POISON_LIST_REBUILD (R374). -/
def execPoisonListRebuild (s : State) : Host.Outcome State Fault Refusal := .next s.poisonRebuild.settle
/-- PAGE_RETIRE (R385). -/
def execPageRetire (c : Cmd) (s : State) : Host.Outcome State Fault Refusal := .next (s.arrive 0x0702 (some defPageRetire) c).settle
/-- RANK_SPARE (R387). -/
def execRankSpare (c : Cmd) (s : State) : Host.Outcome State Fault Refusal := .next (s.arrive 0x0703 (some defRankSpare) c).settle
/-- EVACUATION_DONE (R388). -/
def execEvacuationDone (s : State) : Host.Outcome State Fault Refusal := .next s.evacDone.settle
/-- CHECK_START (R397). -/
def execCheckStart (c : Cmd) (s : State) : Host.Outcome State Fault Refusal := .next (s.arrive 0x0401 (some defCheckStart) c).settle
/-- CHECK_STATUS (R403). -/
def execCheckStatus (c : Cmd) (s : State) : Host.Outcome State Fault Refusal := .next (s.arrive 0x0402 (some defCheckStatus) c).settle
/-- CHECK_STOP (R401). -/
def execCheckStop (c : Cmd) (s : State) : Host.Outcome State Fault Refusal := .next (s.arrive 0x0403 (some defCheckStop) c).settle
/-- CHK_CTRL_START (R405). -/
def execChkCtrlStart (unit : Nat) (s : State) : Host.Outcome State Fault Refusal := .next (s.chkStart unit).settle
/-- CHK_CTRL_STOP (R401). -/
def execChkCtrlStop (unit : Nat) (s : State) : Host.Outcome State Fault Refusal := .next (s.chkStop unit).settle
/-- CHECK_SCAN_LINE (R399). -/
def execCheckScanLine (unit : Nat) (s : State) : Host.Outcome State Fault Refusal := .next (s.chkLine unit).settle
/-- MIRROR_FETCH_TIMEOUT (R264). -/
def execMirrorFetchTimeout (page : Nat) (s : State) : Host.Outcome State Fault Refusal := .next (s.mirrorTimeout page).settle

end Sys2Proof.Machine
end

