-- ==== Sys2Proof/Machine/ExecPersist.lean ====
section
/-! DEFINITION. Commands of the flusher and of page movement between tiers (02, 03). -/
namespace Sys2Proof.Machine

/-- The limit that E_use, C_save and E_fix give now is applied (02 R65, R67). -/
def State.limitUpdate (s : State) : State :=
  if s.clk.inReset || s.epc.frozen then s else s.applyLimit (s.limitFor (s.fget F.EPC_E_USE_VALUE))

/-- FLUSHER_TAKE_PAGE (R71). -/
def execFlusherTakePage (s : State) : Host.Outcome State Fault Refusal := .next s.flusherTake.settle
/-- FLUSH_DURABLE (R61). -/
def execFlushDurable (page : Nat) (sector : Nat) (s : State) : Host.Outcome State Fault Refusal :=
  .next (s.durable page sector false).settle
/-- FLASH_PROGRAM_FAIL (R291). -/
def execFlashProgramFail (page : Nat) (block : Nat) (s : State) : Host.Outcome State Fault Refusal :=
  .next (s.programFail page block).settle
/-- WRITE_THROUGH_DURABLE (R82). -/
def execWriteThroughDurable (page : Nat) (sector : Nat) (s : State) : Host.Outcome State Fault Refusal :=
  .next (s.durable page sector true).settle
/-- PADDOCK_LIMIT_UPDATE (R65). -/
def execPaddockLimitUpdate (s : State) : Host.Outcome State Fault Refusal := .next s.limitUpdate.settle
/-- HEAT_DECAY_SWEEP (R110). -/
def execHeatDecaySweep (s : State) : Host.Outcome State Fault Refusal := .next s.heatDecay.settle
/-- PROMOTION_SWEEP (R113). -/
def execPromotionSweep (s : State) : Host.Outcome State Fault Refusal := .next s.promotionSweep.settle
/-- DRAM_EVICTION (R113). -/
def execDramEviction (s : State) : Host.Outcome State Fault Refusal := .next s.dramEvict.settle
/-- V_PAGE_SPILL (R113). -/
def execVPageSpill (page : Nat) (s : State) : Host.Outcome State Fault Refusal := .next (s.spill page).settle
/-- PAGE_MOVE_DONE (R116). -/
def execPageMoveDone (page : Nat) (s : State) : Host.Outcome State Fault Refusal := .next (s.moveDone page).settle
/-- FLASH_FETCH_DONE (R113). -/
def execFlashFetchDone (page : Nat) (s : State) : Host.Outcome State Fault Refusal := .next (s.fetchDone page).settle
/-- PAGE_STATE_FETCH_DONE (R184). -/
def execPageStateFetchDone (page : Nat) (quay : Bool) (s : State) : Host.Outcome State Fault Refusal := .next (s.wordDone page quay).settle
/-- BACKGROUND_RESTORE (R308). -/
def execBackgroundRestore (s : State) : Host.Outcome State Fault Refusal := .next s.restoreNext.settle

end Sys2Proof.Machine
end

