-- ==== Sys2Proof/Machine/ExecReg.lean ====
section
/-! DEFINITION. The register space, the settings cells, the recorder and the test block (18, 19, 21). -/
namespace Sys2Proof.Machine

/-- A write of 1 to TST_LB_CTRL.GO by an agent, the other fields as they are. -/
def State.goBy (s : State) (ag : Nat) : State :=
  s.regWrite ag 0x600004 (natBytes 4 (2 ^ 31 + s.fget F.TST_LB_CTRL_KIND * 2 ^ 24 + s.fget F.TST_LB_CTRL_INSTANCE * 2 ^ 16 +
    s.fget F.TST_LB_CTRL_DEPTH * 2 ^ 8))
/-- RECORDER_TRANSFER, with the junction temperature it carries (18 R680). -/
def State.transferIn (s : State) (x : RecSample) : State :=
  if s.clk.inReset then s else (s.setClk { s.clk with tj := x.tj }).recTransfer x

/-- SET_WORD_WRITE (R658). -/
def execSetWordWrite (agent : Nat) (word : Nat) (value : Word32) (s : State) : Host.Outcome State Fault Refusal :=
  .next (s.regWrite agent (0x580000 + 4 * (word % 4096)) (natBytes 4 value.toNat)).settle
/-- SETTINGS_WRITE_DONE (R658). -/
def execSettingsWriteDone (word : Nat) (s : State) : Host.Outcome State Fault Refusal := .next (s.setWriteDone word).settle
/-- GROUP_WRITE_STAGE_DONE (R662). -/
def execGroupWriteStageDone (s : State) : Host.Outcome State Fault Refusal := .next s.groupStageDone.settle
/-- OPERATING_HOURS_TICK (R672). -/
def execOperatingHoursTick (s : State) : Host.Outcome State Fault Refusal := .next s.operatingTick.settle
/-- RECORDER_TRANSFER (R680). -/
def execRecorderTransfer (x : RecSample) (s : State) : Host.Outcome State Fault Refusal := .next (s.transferIn x).settle
/-- RECORDER_ARM (R671). -/
def execRecorderArm (s : State) : Host.Outcome State Fault Refusal := .next (s.writeProd 127 (2 ^ 31)).settle
/-- REGISTER_WRITE (R696). -/
def execRegisterWrite (agent : Nat) (off : Nat) (data : List Byte) (s : State) : Host.Outcome State Fault Refusal :=
  .next (s.regWrite agent off data).settle
/-- READ_SNAPSHOT (R697). -/
def execReadSnapshot (agent : Nat) (off : Nat) (size : Nat) (s : State) : Host.Outcome State Fault Refusal :=
  .next (s.regRead agent off size).settle
/-- LOOPBACK_GO_WRITE (R734). -/
def execLoopbackGoWrite (agent : Nat) (s : State) : Host.Outcome State Fault Refusal := .next (s.goBy agent).settle
/-- LOOPBACK_START (R736). -/
def execLoopbackStart (slot : Nat) (s : State) : Host.Outcome State Fault Refusal := .next (s.lbStart slot).settle
/-- DBG_ACCESS (R752). -/
def execDbgAccess (write : Bool) (off : Nat) (size : Nat) (data : List Byte) (s : State) : Host.Outcome State Fault Refusal :=
  .next (s.dbgAccess write off size data).settle
/-- TAP_RESET (R745). -/
def execTapReset (s : State) : Host.Outcome State Fault Refusal := .next s.tapReset.settle
/-- JTAG_IDCODE (R745). -/
def execJtagIdcode (s : State) : Host.Outcome State Fault Refusal := .next s.tapIdcode.settle
/-- JTAG_BYPASS (R745). -/
def execJtagBypass (s : State) : Host.Outcome State Fault Refusal := .next s.tapBypass.settle
/-- JTAG_SAMPLE_PRELOAD (R745). -/
def execJtagSamplePreload (bits : Nat) (s : State) : Host.Outcome State Fault Refusal := .next (s.tapSample bits).settle
/-- JTAG_EXTEST (R746). -/
def execJtagExtest (s : State) : Host.Outcome State Fault Refusal := .next (s.tapTest .extest).settle
/-- JTAG_EXTEST_PULSE (R746). -/
def execJtagExtestPulse (s : State) : Host.Outcome State Fault Refusal := .next (s.tapTest .extestPulse).settle
/-- JTAG_EXTEST_TRAIN (R746). -/
def execJtagExtestTrain (s : State) : Host.Outcome State Fault Refusal := .next (s.tapTest .extestTrain).settle
/-- JTAG_HIGHZ (R746). -/
def execJtagHighz (s : State) : Host.Outcome State Fault Refusal := .next (s.tapTest .highz).settle
/-- JTAG_CLAMP (R746). -/
def execJtagClamp (s : State) : Host.Outcome State Fault Refusal := .next (s.tapTest .clamp).settle
/-- JTAG_SCAN (R746). -/
def execJtagScan (s : State) : Host.Outcome State Fault Refusal := .next (s.tapTest .scan).settle
/-- JTAG_MBIST (R746). -/
def execJtagMbist (s : State) : Host.Outcome State Fault Refusal := .next (s.tapTest .mbist).settle
/-- JTAG_HBM1500 (R746). -/
def execJtagHbm1500 (s : State) : Host.Outcome State Fault Refusal := .next (s.tapTest .hbm1500).settle

end Sys2Proof.Machine
end

