-- ==== Sys2Proof/Machine/ExecRegion.lean ====
section
/-! DEFINITION. Region commands (03; 14 R558). -/
namespace Sys2Proof.Machine

/-- REGION_CREATE (R98). -/
def execRegionCreate (c : Cmd) (s : State) : Host.Outcome State Fault Refusal := .next (s.arrive 0x0101 (some defRegionCreate) c).settle
/-- REGION_SET_FLAGS (R121). -/
def execRegionSetFlags (c : Cmd) (s : State) : Host.Outcome State Fault Refusal := .next (s.arrive 0x0102 (some defRegionSetFlags) c).settle
/-- REGION_DELETE (R98). -/
def execRegionDelete (c : Cmd) (s : State) : Host.Outcome State Fault Refusal := .next (s.arrive 0x0103 (some defRegionDelete) c).settle
/-- REGION_DC_RELEASE (R98). -/
def execRegionDcRelease (c : Cmd) (s : State) : Host.Outcome State Fault Refusal :=
  .next (s.arrive 0x0104 (some defRegionDcRelease) c).settle
/-- REGION_QUERY (R558). -/
def execRegionQuery (c : Cmd) (s : State) : Host.Outcome State Fault Refusal := .next (s.arrive 0x0105 (some defRegionQuery) c).settle
/-- RETYPE_DONE (R98). -/
def execRetypeDone (region : Nat) (s : State) : Host.Outcome State Fault Refusal := .next (s.retypeDone region).settle
/-- REGION_DRAIN_DONE (R98). -/
def execRegionDrainDone (region : Nat) (s : State) : Host.Outcome State Fault Refusal := .next (s.drainDone region).settle

end Sys2Proof.Machine
end

