-- ==== Sys2Proof/Machine/ExecTide.lean ====
section
/-! DEFINITION. Tide commands and staging (07; 14 R558). -/
namespace Sys2Proof.Machine

/-- TIDE_TABLE_CREATE (R241). -/
def execTideTableCreate (c : Cmd) (s : State) : Host.Outcome State Fault Refusal := .next (s.arrive 0x0201 (some defTableCreate) c).settle
/-- TIDE_ENTRY_ADD (R239). -/
def execTideEntryAdd (c : Cmd) (s : State) : Host.Outcome State Fault Refusal := .next (s.arrive 0x0202 (some defEntryAdd) c).settle
/-- TIDE_TABLE_OPEN (R241). -/
def execTideTableOpen (c : Cmd) (s : State) : Host.Outcome State Fault Refusal := .next (s.arrive 0x0203 (some defTableOpen) c).settle
/-- TIDE_TABLE_CLOSE (R241). -/
def execTideTableClose (c : Cmd) (s : State) : Host.Outcome State Fault Refusal := .next (s.arrive 0x0204 (some defTableClose) c).settle
/-- TIDE_SHARER_JOIN (R242). -/
def execTideSharerJoin (c : Cmd) (s : State) : Host.Outcome State Fault Refusal := .next (s.arrive 0x0205 (some defSharerJoin) c).settle
/-- TIDE_SHARER_LEAVE (R243). -/
def execTideSharerLeave (c : Cmd) (s : State) : Host.Outcome State Fault Refusal := .next (s.arrive 0x0206 (some defSharerLeave) c).settle
/-- TIDE_STEP_SET (R246). -/
def execTideStepSet (c : Cmd) (s : State) : Host.Outcome State Fault Refusal := .next (s.arrive 0x0207 (some defStepSet) c).settle
/-- SHARER_IDLE_TIMEOUT (R242). -/
def execSharerIdleTimeout (h : Nat) (s : State) : Host.Outcome State Fault Refusal := .next (s.sharerIdle h).settle
/-- STAGING_BEGIN (R248). -/
def execStagingBegin (s : State) : Host.Outcome State Fault Refusal := .next s.stagingBegin.settle
/-- STAGING_COPY_DONE (R250). -/
def execStagingCopyDone (page : Nat) (s : State) : Host.Outcome State Fault Refusal := .next (s.copyDone page).settle
/-- STAGED_COPY_FREE (R255). -/
def execStagedCopyFree (page : Nat) (s : State) : Host.Outcome State Fault Refusal := .next (s.copyFree page).settle
/-- STAGED_UE_RECOVERY (R261). -/
def execStagedUeRecovery (page : Nat) (line : Nat) (bad : List Nat) (s : State) : Host.Outcome State Fault Refusal :=
  .next (s.stagedUe page line bad).settle

end Sys2Proof.Machine
end

