-- ==== Sys2Proof/Machine/ExecTwin.lean ====
section
/-! DEFINITION. Twin operation: heartbeats, claims, leases, mirroring, resync, handover (12). -/
namespace Sys2Proof.Machine

/-- EPOCH_MARK_TIMER (R452). -/
def execEpochMarkTimer (s : State) : Host.Outcome State Fault Refusal := .next s.epochMarkTick.settle
/-- RESYNC_PAGE_SEND (R455). -/
def execResyncPageSend (s : State) : Host.Outcome State Fault Refusal := .next s.resyncSend.settle
/-- HEARTBEAT_SEND (R456). -/
def execHeartbeatSend (s : State) : Host.Outcome State Fault Refusal := .next s.heartbeatTick.settle
/-- TWIN_HB_FRAME (R457). -/
def execTwinHbFrame (f : HbFrame) (s : State) : Host.Outcome State Fault Refusal := .next (s.twinHbFrame f).settle
/-- TWIN_HB_ALIGNMENT_ACQUIRE (R457). -/
def execTwinHbAlignmentAcquire (s : State) : Host.Outcome State Fault Refusal := .next (s.hbAligned true).settle
/-- TWIN_HB_ALIGNMENT_LOSS (R457). -/
def execTwinHbAlignmentLoss (s : State) : Host.Outcome State Fault Refusal := .next (s.hbAligned false).settle
/-- HB_PATH_LOSS (R458). -/
def execHbPathLoss (side : Bool) (s : State) : Host.Outcome State Fault Refusal := .next (s.hbPathLoss side).settle
/-- TWIN_LOST (R458). -/
def execTwinLost (s : State) : Host.Outcome State Fault Refusal := .next s.twinLostEvent.settle
/-- CLAIM_FRAME_RENEW (R468). -/
def execClaimFrameRenew (f : ClaimFrame) (s : State) : Host.Outcome State Fault Refusal :=
  .next (s.renewIn f).settle
/-- CLAIM_FRAME_CLAIM (R469). -/
def execClaimFrameClaim (f : ClaimFrame) (s : State) : Host.Outcome State Fault Refusal :=
  .next (s.claimIn f).settle
/-- CLAIM_FRAME_RELEASE (R468). -/
def execClaimFrameRelease (f : ClaimFrame) (s : State) : Host.Outcome State Fault Refusal :=
  .next (s.releaseIn f).settle
/-- CLAIM_FRAME_SENT (R468). -/
def execClaimFrameSent (f : SentFrame) (s : State) : Host.Outcome State Fault Refusal := .next (s.frameSent f).settle
/-- EPOCH_WRITE_DONE (R668). -/
def execEpochWriteDone (s : State) : Host.Outcome State Fault Refusal := .next s.epochDone.settle
/-- LEASE_RENEW_TIMER (R470). -/
def execLeaseRenewTimer (s : State) : Host.Outcome State Fault Refusal := .next s.leaseRenew.settle
/-- LEASE_LAPSE_HOLDER (R470). -/
def execLeaseLapseHolder (s : State) : Host.Outcome State Fault Refusal := .next s.leaseLapse.settle
/-- LEASE_LAPSE_OBSERVER (R470). -/
def execLeaseLapseObserver (s : State) : Host.Outcome State Fault Refusal := .next s.peerLapse.settle
/-- LANE_STUCK_DOMINANT (R473). -/
def execLaneStuckDominant (lane : Nat) (s : State) : Host.Outcome State Fault Refusal := .next (s.laneStuck lane).settle
/-- JOIN_WAIT_EXPIRY (R475). -/
def execJoinWaitExpiry (s : State) : Host.Outcome State Fault Refusal := .next s.joinExpiry.settle
/-- TWIN_GRANT (R485). -/
def execTwinGrant (c : Cmd) (s : State) : Host.Outcome State Fault Refusal := .next (s.arrive 0x0601 (some defTwinGrant) c).settle
/-- TWIN_HANDOVER (R479). -/
def execTwinHandover (c : Cmd) (s : State) : Host.Outcome State Fault Refusal := .next (s.arrive 0x0602 (some defTwinHandover) c).settle
/-- HANDOVER_RELEASE (R479). -/
def execHandoverRelease (s : State) : Host.Outcome State Fault Refusal := .next s.handoverRelease.settle
/-- TAKEOVER (R481). -/
def execTakeover (s : State) : Host.Outcome State Fault Refusal := .next s.takeoverEvent.settle
/-- FWD_WAIT_EXPIRY (R480). -/
def execFwdWaitExpiry (tag : Nat) (s : State) : Host.Outcome State Fault Refusal := .next (s.fwdExpiry tag).settle
/-- SF_SWEEP_PAGE (R482). -/
def execSfSweepPage (page : Nat) (s : State) : Host.Outcome State Fault Refusal := .next (s.sfSweep page).settle
/-- MIRROR_ACK_SEND (R75). -/
def execMirrorAckSend (s : State) : Host.Outcome State Fault Refusal := .next s.mirrorAckSend.settle
/-- MIRROR_PACKET_SEND (R194). -/
def execMirrorPacketSend (s : State) : Host.Outcome State Fault Refusal := .next s.mirrorSend.settle

end Sys2Proof.Machine
end

