-- ==== Sys2Proof/Machine/ExecUte.lean ====
section
/-! DEFINITION. Umond Transport: packets, descriptors, doorbells, timers, links (13). -/
namespace Sys2Proof.Machine

/-- UT_WRITE (R515). -/
def execUtWrite (p : UtPkt) (s : State) : Host.Outcome State Fault Refusal := .next (s.utRequest p 0x01).settle
/-- UT_READ (R757). -/
def execUtRead (p : UtPkt) (s : State) : Host.Outcome State Fault Refusal := .next (s.utRequest p 0x02).settle
/-- UT_READ_RESP (R523). -/
def execUtReadResp (p : UtPkt) (s : State) : Host.Outcome State Fault Refusal := .next (s.utReadResp p).settle
/-- UT_FADD (R518). -/
def execUtFadd (p : UtPkt) (s : State) : Host.Outcome State Fault Refusal := .next (s.utRequest p 0x04).settle
/-- UT_CAS (R518). -/
def execUtCas (p : UtPkt) (s : State) : Host.Outcome State Fault Refusal := .next (s.utRequest p 0x05).settle
/-- UT_ATOMIC_RESP (R518). -/
def execUtAtomicResp (p : UtPkt) (s : State) : Host.Outcome State Fault Refusal := .next (s.utAtomicResp p).settle
/-- UT_FLUSH (R520). -/
def execUtFlush (p : UtPkt) (s : State) : Host.Outcome State Fault Refusal := .next (s.utRequest p 0x07).settle
/-- UT_FLUSH_ANSWER (R520). -/
def execUtFlushAnswer (ctx : Nat) (s : State) : Host.Outcome State Fault Refusal := .next (s.flushAnswer ctx).settle
/-- UT_ACK (R523). -/
def execUtAck (p : UtPkt) (s : State) : Host.Outcome State Fault Refusal := .next (s.utAck p).settle
/-- UT_NACK (R523). -/
def execUtNack (p : UtPkt) (s : State) : Host.Outcome State Fault Refusal := .next (s.utNack p).settle
/-- UT_PROBE (R502). -/
def execUtProbe (p : UtPkt) (s : State) : Host.Outcome State Fault Refusal := .next (s.utProbe p).settle
/-- UT_MIRROR (R530). -/
def execUtMirror (p : UtPkt) (s : State) : Host.Outcome State Fault Refusal :=
  .next (s.twinRx p 0x10 fun a => a.mirrorIn p.hdr p.payload).settle
/-- UT_MIRROR_ACK (R449). -/
def execUtMirrorAck (p : UtPkt) (s : State) : Host.Outcome State Fault Refusal :=
  .next (s.twinRx p 0x11 fun a => (a.twinSample p).mirrorAck p.payload).settle
/-- EPOCH_MARK (R532). -/
def execEpochMark (p : UtPkt) (s : State) : Host.Outcome State Fault Refusal := .next (s.utCtl p 1).settle
/-- PAGE_NOTICE (R532). -/
def execPageNotice (p : UtPkt) (s : State) : Host.Outcome State Fault Refusal := .next (s.utCtl p 2).settle
/-- REGION_NOTICE (R532). -/
def execRegionNotice (p : UtPkt) (s : State) : Host.Outcome State Fault Refusal := .next (s.utCtl p 3).settle
/-- RESYNC_PAGE (R532). -/
def execResyncPage (p : UtPkt) (s : State) : Host.Outcome State Fault Refusal := .next (s.utCtl p 4).settle
/-- KEPT_LIST (R532). -/
def execKeptList (p : UtPkt) (s : State) : Host.Outcome State Fault Refusal := .next (s.utCtl p 5).settle
/-- STALE_CLEAR (R532). -/
def execStaleClear (p : UtPkt) (s : State) : Host.Outcome State Fault Refusal := .next (s.utCtl p 6).settle
/-- REH_JOIN (R532). -/
def execRehJoin (p : UtPkt) (s : State) : Host.Outcome State Fault Refusal := .next (s.utCtl p 7).settle
/-- REH_RESULT (R532). -/
def execRehResult (p : UtPkt) (s : State) : Host.Outcome State Fault Refusal := .next (s.utCtl p 8).settle
/-- UT_FWD_REQ (R533). -/
def execUtFwdReq (p : UtPkt) (s : State) : Host.Outcome State Fault Refusal := .next (s.utFwdReq p).settle
/-- UT_FWD_RESP (R533). -/
def execUtFwdResp (p : UtPkt) (s : State) : Host.Outcome State Fault Refusal :=
  .next (s.twinRx p 0x14 fun a => (a.twinSample p).fwdResp p.payload).settle
/-- UT_HEARTBEAT (R458). -/
def execUtHeartbeat (p : UtPkt) (s : State) : Host.Outcome State Fault Refusal :=
  .next (s.utRx p 0x15 fun a => a.heartbeatIn false p.payload).settle
/-- UT_CMD (R758). -/
def execUtCmd (p : UtPkt) (s : State) : Host.Outcome State Fault Refusal :=
  .next (s.utCmd p fun a op c => a.arrive op (cmdTable op) c).settle
/-- CONTEXT_FETCH_DONE (R526). -/
def execContextFetchDone (ctx : Nat) (s : State) : Host.Outcome State Fault Refusal := .next (s.ctxFetched ctx).settle
/-- SQ_TAIL_WRITE (R504). -/
def execSqTailWrite (agent : Nat) (ctx : Nat) (value : Word32) (s : State) : Host.Outcome State Fault Refusal :=
  .next (s.doorbellWrite agent ctx 0 value.toNat).settle
/-- CQ_HEAD_WRITE (R504). -/
def execCqHeadWrite (agent : Nat) (ctx : Nat) (value : Word32) (s : State) : Host.Outcome State Fault Refusal :=
  .next (s.doorbellWrite agent ctx 4 value.toNat).settle
/-- LEASE_DOORBELL_WRITE (R504). -/
def execLeaseDoorbellWrite (agent : Nat) (ctx : Nat) (value : Word32) (s : State) : Host.Outcome State Fault Refusal :=
  .next (s.doorbellWrite agent ctx 8 value.toNat).settle
/-- DOORBELL_APERTURE_STORE (R695). -/
def execDoorbellApertureStore (st : HostStore) (s : State) : Host.Outcome State Fault Refusal :=
  .next (if (s.aperture st.head st.ld st.pbr st.addr).isSome then s.hostStore st else s).settle
/-- DESC_WRITE (R506). -/
def execDescWrite (ctx : Nat) (s : State) : Host.Outcome State Fault Refusal := .next (s.descStart ctx 1).settle
/-- DESC_READ (R506). -/
def execDescRead (ctx : Nat) (s : State) : Host.Outcome State Fault Refusal := .next (s.descStart ctx 2).settle
/-- DESC_FADD (R506). -/
def execDescFadd (ctx : Nat) (s : State) : Host.Outcome State Fault Refusal := .next (s.descStart ctx 3).settle
/-- DESC_CAS (R506). -/
def execDescCas (ctx : Nat) (s : State) : Host.Outcome State Fault Refusal := .next (s.descStart ctx 4).settle
/-- DESC_FLUSH (R520). -/
def execDescFlush (ctx : Nat) (s : State) : Host.Outcome State Fault Refusal := .next (s.descStart ctx 5).settle
/-- DESC_WAIT (R508). -/
def execDescWait (ctx : Nat) (s : State) : Host.Outcome State Fault Refusal := .next (s.descStart ctx 6).settle
/-- WAIT_SLOT_RETRY (R508). -/
def execWaitSlotRetry (s : State) : Host.Outcome State Fault Refusal := .next s.waitSlot.settle
/-- PACKET_SEND (R525). -/
def execPacketSend (ctx : Nat) (msn : Nat) (pkt : Nat) (s : State) : Host.Outcome State Fault Refusal :=
  .next (s.packetSend ctx msn pkt).settle
/-- RETX_TIMEOUT (R522). -/
def execRetxTimeout (ctx : Nat) (msn : Nat) (pkt : Nat) (s : State) : Host.Outcome State Fault Refusal :=
  .next (s.retxTimeout ctx msn pkt).settle
/-- MESSAGE_LIFE_EXPIRY (R522). -/
def execMessageLifeExpiry (ctx : Nat) (msn : Nat) (s : State) : Host.Outcome State Fault Refusal := .next (s.lifeExpiry ctx msn).settle
/-- RETRY_RESEND (R523). -/
def execRetryResend (ctx : Nat) (msn : Nat) (pkt : Nat) (s : State) : Host.Outcome State Fault Refusal :=
  .next (s.retryResend ctx msn pkt).settle
/-- PATH_PROBE_TIMER (R524). -/
def execPathProbeTimer (s : State) : Host.Outcome State Fault Refusal := .next s.probeTick.settle
/-- ETH_LINK_DOWN (R524). -/
def execEthLinkDown (link : Nat) (s : State) : Host.Outcome State Fault Refusal := .next (s.ethDown link).settle
/-- ETH_LINK_UP (R539). -/
def execEthLinkUp (link : Nat) (s : State) : Host.Outcome State Fault Refusal := .next (s.ethUp link).settle
/-- MCT_HOLD_EXPIRY (R516). -/
def execMctHoldExpiry (ctx : Nat) (node : Nat) (srcCtx : Nat) (msn : Nat) (s : State) : Host.Outcome State Fault Refusal :=
  .next (s.mctExpire ctx node srcCtx msn).settle
/-- BERTH_LEASE_SWEEP (R511). -/
def execBerthLeaseSweep (s : State) : Host.Outcome State Fault Refusal := .next s.leaseSweep.settle
/-- SLOW_PATH_PACKET (R492). -/
def execSlowPathPacket (link : Nat) (_bytes : Nat) (s : State) : Host.Outcome State Fault Refusal := .next (s.slowPath link).settle
/-- UT_CTX_OPEN (R502). -/
def execUtCtxOpen (c : Cmd) (s : State) : Host.Outcome State Fault Refusal := .next (s.arrive 0x0301 (some defCtxOpen) c).settle
/-- UT_CTX_CLOSE (R558). -/
def execUtCtxClose (c : Cmd) (s : State) : Host.Outcome State Fault Refusal := .next (s.arrive 0x0302 (some defCtxClose) c).settle
/-- UT_BERTH_OPEN (R510). -/
def execUtBerthOpen (c : Cmd) (s : State) : Host.Outcome State Fault Refusal := .next (s.arrive 0x0303 (some defBerthOpen) c).settle
/-- UT_BERTH_CLOSE (R510). -/
def execUtBerthClose (c : Cmd) (s : State) : Host.Outcome State Fault Refusal := .next (s.arrive 0x0304 (some defBerthClose) c).settle
/-- UT_BERTH_RENEW (R510). -/
def execUtBerthRenew (c : Cmd) (s : State) : Host.Outcome State Fault Refusal := .next (s.arrive 0x0305 (some defBerthRenew) c).settle
/-- UT_DEST_SET (R496). -/
def execUtDestSet (c : Cmd) (s : State) : Host.Outcome State Fault Refusal := .next (s.arrive 0x0306 (some defDestSet) c).settle

end Sys2Proof.Machine
end

