-- ==== Sys2Proof/Machine/Dispatch.lean ====
section
/-! DEFINITION. One arm for each command: a direct call of its meaning. -/
namespace Sys2Proof.Machine

/-- The effect of a command on everything but the queue. -/
def exec (i : Instr) (s : State) : Host.Outcome State Fault Refusal :=
  match i with
  | .hostRead r => Sys2Proof.Machine.execHostRead r s
  | .hostStoreL st => Sys2Proof.Machine.execHostStoreL st s
  | .hostStoreM st => Sys2Proof.Machine.execHostStoreM st s
  | .hostStoreV st => Sys2Proof.Machine.execHostStoreV st s
  | .heldStoreAdmit => Sys2Proof.Machine.execHeldStoreAdmit s
  | .ingressStoreResume => Sys2Proof.Machine.execIngressStoreResume s
  | .landingDrain line => Sys2Proof.Machine.execLandingDrain line s
  | .birspReceived b => Sys2Proof.Machine.execBirspReceived b s
  | .bisnpTimeout line holder => Sys2Proof.Machine.execBisnpTimeout line holder s
  | .hostWriteback st => Sys2Proof.Machine.execHostWriteback st s
  | .gpfPhase2Request head => Sys2Proof.Machine.execGpfPhase2Request head s
  | .gpfPhase2Complete head => Sys2Proof.Machine.execGpfPhase2Complete head s
  | .viralReceived head => Sys2Proof.Machine.execViralReceived head s
  | .ideMacFailure head => Sys2Proof.Machine.execIdeMacFailure head s
  | .cxlLinkDown head => Sys2Proof.Machine.execCxlLinkDown head s
  | .cxlLinkTrainAttempt head t => Sys2Proof.Machine.execCxlLinkTrainAttempt head t s
  | .perstAssert port => Sys2Proof.Machine.execPerstAssert port s
  | .functionLevelReset ld => Sys2Proof.Machine.execFunctionLevelReset ld s
  | .gfamHostBind host pbr group => Sys2Proof.Machine.execGfamHostBind host pbr group s
  | .hostDcAddResponse ld region accept => Sys2Proof.Machine.execHostDcAddResponse ld region accept s
  | .hostDcRelease ld region => Sys2Proof.Machine.execHostDcRelease ld region s
  | .dcOfferTimeout region => Sys2Proof.Machine.execDcOfferTimeout region s
  | .getPoisonList ld => Sys2Proof.Machine.execGetPoisonList ld s
  | .injectPoison ld dla => Sys2Proof.Machine.execInjectPoison ld dla s
  | .clearPoison ld dla data => Sys2Proof.Machine.execClearPoison ld dla data s
  | .getEventRecords ld log count => Sys2Proof.Machine.execGetEventRecords ld log count s
  | .getHealthInfo ld => Sys2Proof.Machine.execGetHealthInfo ld s
  | .getParmosReply ld => Sys2Proof.Machine.execGetParmosReply ld s
  | .mailboxUnsupportedOpcode ld opcode => Sys2Proof.Machine.execMailboxUnsupportedOpcode ld opcode s
  | .getFwInfo ld => Sys2Proof.Machine.execGetFwInfo ld s
  | .transferFw ld offset data end_ => Sys2Proof.Machine.execTransferFw ld offset data end_ s
  | .activateFw ld slot online => Sys2Proof.Machine.execActivateFw ld slot online s
  | .flusherTakePage => Sys2Proof.Machine.execFlusherTakePage s
  | .flushDurable page sector => Sys2Proof.Machine.execFlushDurable page sector s
  | .flashProgramFail page block => Sys2Proof.Machine.execFlashProgramFail page block s
  | .writeThroughDurable page sector => Sys2Proof.Machine.execWriteThroughDurable page sector s
  | .paddockLimitUpdate => Sys2Proof.Machine.execPaddockLimitUpdate s
  | .regionCreate c => Sys2Proof.Machine.execRegionCreate c s
  | .regionSetFlags c => Sys2Proof.Machine.execRegionSetFlags c s
  | .regionDelete c => Sys2Proof.Machine.execRegionDelete c s
  | .regionDcRelease c => Sys2Proof.Machine.execRegionDcRelease c s
  | .regionQuery c => Sys2Proof.Machine.execRegionQuery c s
  | .retypeDone region => Sys2Proof.Machine.execRetypeDone region s
  | .regionDrainDone region => Sys2Proof.Machine.execRegionDrainDone region s
  | .heatDecaySweep => Sys2Proof.Machine.execHeatDecaySweep s
  | .promotionSweep => Sys2Proof.Machine.execPromotionSweep s
  | .dramEviction => Sys2Proof.Machine.execDramEviction s
  | .vPageSpill page => Sys2Proof.Machine.execVPageSpill page s
  | .pageMoveDone page => Sys2Proof.Machine.execPageMoveDone page s
  | .flashFetchDone page => Sys2Proof.Machine.execFlashFetchDone page s
  | .pageStateFetchDone page quay => Sys2Proof.Machine.execPageStateFetchDone page quay s
  | .tideTableCreate c => Sys2Proof.Machine.execTideTableCreate c s
  | .tideEntryAdd c => Sys2Proof.Machine.execTideEntryAdd c s
  | .tideTableOpen c => Sys2Proof.Machine.execTideTableOpen c s
  | .tideTableClose c => Sys2Proof.Machine.execTideTableClose c s
  | .tideSharerJoin c => Sys2Proof.Machine.execTideSharerJoin c s
  | .tideSharerLeave c => Sys2Proof.Machine.execTideSharerLeave c s
  | .tideStepSet c => Sys2Proof.Machine.execTideStepSet c s
  | .sharerIdleTimeout h => Sys2Proof.Machine.execSharerIdleTimeout h s
  | .stagingBegin => Sys2Proof.Machine.execStagingBegin s
  | .stagingCopyDone page => Sys2Proof.Machine.execStagingCopyDone page s
  | .stagedCopyFree page => Sys2Proof.Machine.execStagedCopyFree page s
  | .stagedUeRecovery page line bad => Sys2Proof.Machine.execStagedUeRecovery page line bad s
  | .flashReadDone page outcome => Sys2Proof.Machine.execFlashReadDone page outcome s
  | .stripeCloseTimeout stripe => Sys2Proof.Machine.execStripeCloseTimeout stripe s
  | .garbageCollect block => Sys2Proof.Machine.execGarbageCollect block s
  | .staticWearLevel block => Sys2Proof.Machine.execStaticWearLevel block s
  | .readDisturbRelocate block => Sys2Proof.Machine.execReadDisturbRelocate block s
  | .retentionScrub block weak => Sys2Proof.Machine.execRetentionScrub block weak s
  | .dieRetire ch die => Sys2Proof.Machine.execDieRetire ch die s
  | .flashChannelLoss ch => Sys2Proof.Machine.execFlashChannelLoss ch s
  | .backgroundRestore => Sys2Proof.Machine.execBackgroundRestore s
  | .mapLoad => Sys2Proof.Machine.execMapLoad s
  | .foldExtent => Sys2Proof.Machine.execFoldExtent s
  | .sameBankRefresh ch rank => Sys2Proof.Machine.execSameBankRefresh ch rank s
  | .refreshManagement ch bank => Sys2Proof.Machine.execRefreshManagement ch bank s
  | .dimmThermalRead ch slot temp => Sys2Proof.Machine.execDimmThermalRead ch slot temp s
  | .retrainPause ch => Sys2Proof.Machine.execRetrainPause ch s
  | .rowIdleClose ch bank => Sys2Proof.Machine.execRowIdleClose ch bank s
  | .panicMaxExpiry ch port => Sys2Proof.Machine.execPanicMaxExpiry ch port s
  | .dramAccessDone addr => Sys2Proof.Machine.execDramAccessDone addr s
  | .quayAccessDone addr => Sys2Proof.Machine.execQuayAccessDone addr s
  | .dramFreqSet c => Sys2Proof.Machine.execDramFreqSet c s
  | .freqChangeDone => Sys2Proof.Machine.execFreqChangeDone s
  | .dimmLoss ch slot => Sys2Proof.Machine.execDimmLoss ch slot s
  | .dimmRehomePage page => Sys2Proof.Machine.execDimmRehomePage page s
  | .quayChannelLoss ch => Sys2Proof.Machine.execQuayChannelLoss ch s
  | .quayRefresh => Sys2Proof.Machine.execQuayRefresh s
  | .hbmThermalRead temp => Sys2Proof.Machine.execHbmThermalRead temp s
  | .dClearPass => Sys2Proof.Machine.execDClearPass s
  | .outsideMaskDimmReturn => Sys2Proof.Machine.execOutsideMaskDimmReturn s
  | .correctedWriteback line => Sys2Proof.Machine.execCorrectedWriteback line s
  | .ueRecovery read => Sys2Proof.Machine.execUeRecovery read s
  | .ueRecoveryResolved line bad => Sys2Proof.Machine.execUeRecoveryResolved line bad s
  | .mergeIdleDrain group word => Sys2Proof.Machine.execMergeIdleDrain group word s
  | .patrolScrub tier => Sys2Proof.Machine.execPatrolScrub tier s
  | .poisonListRebuild => Sys2Proof.Machine.execPoisonListRebuild s
  | .pageRetire c => Sys2Proof.Machine.execPageRetire c s
  | .rankSpare c => Sys2Proof.Machine.execRankSpare c s
  | .evacuationDone => Sys2Proof.Machine.execEvacuationDone s
  | .checkStart c => Sys2Proof.Machine.execCheckStart c s
  | .checkStatus c => Sys2Proof.Machine.execCheckStatus c s
  | .checkStop c => Sys2Proof.Machine.execCheckStop c s
  | .chkCtrlStart unit => Sys2Proof.Machine.execChkCtrlStart unit s
  | .chkCtrlStop unit => Sys2Proof.Machine.execChkCtrlStop unit s
  | .checkScanLine unit => Sys2Proof.Machine.execCheckScanLine unit s
  | .frontEndFrameRead frame => Sys2Proof.Machine.execFrontEndFrameRead frame s
  | .pkAlert frame => Sys2Proof.Machine.execPkAlert frame s
  | .energyModelUpdate => Sys2Proof.Machine.execEnergyModelUpdate s
  | .restCorrection => Sys2Proof.Machine.execRestCorrection s
  | .healthFade => Sys2Proof.Machine.execHealthFade s
  | .chargeCurrentLoop => Sys2Proof.Machine.execChargeCurrentLoop s
  | .chargeVoltageLoop => Sys2Proof.Machine.execChargeVoltageLoop s
  | .heaterLoop => Sys2Proof.Machine.execHeaterLoop s
  | .packProfileSet c => Sys2Proof.Machine.execPackProfileSet c s
  | .packRehearse c => Sys2Proof.Machine.execPackRehearse c s
  | .rehearsalStart => Sys2Proof.Machine.execRehearsalStart s
  | .rehearsalPostpone => Sys2Proof.Machine.execRehearsalPostpone s
  | .rehearsalRetry => Sys2Proof.Machine.execRehearsalRetry s
  | .rehTransferTimeout => Sys2Proof.Machine.execRehTransferTimeout s
  | .rehPhaseAEnd => Sys2Proof.Machine.execRehPhaseAEnd s
  | .rehPhaseBEnd => Sys2Proof.Machine.execRehPhaseBEnd s
  | .rehearsalBlockErase => Sys2Proof.Machine.execRehearsalBlockErase s
  | .pfailQualified => Sys2Proof.Machine.execPfailQualified s
  | .ridePowerReturn => Sys2Proof.Machine.execRidePowerReturn s
  | .rideExpiry => Sys2Proof.Machine.execRideExpiry s
  | .saveCommit => Sys2Proof.Machine.execSaveCommit s
  | .vaonSample mv => Sys2Proof.Machine.execVaonSample mv s
  | .epcCSaveWrite value => Sys2Proof.Machine.execEpcCSaveWrite value s
  | .epcPRunWrite value => Sys2Proof.Machine.execEpcPRunWrite value s
  | .rehStartWrite => Sys2Proof.Machine.execRehStartWrite s
  | .epochMarkTimer => Sys2Proof.Machine.execEpochMarkTimer s
  | .resyncPageSend => Sys2Proof.Machine.execResyncPageSend s
  | .heartbeatSend => Sys2Proof.Machine.execHeartbeatSend s
  | .twinHbFrame f => Sys2Proof.Machine.execTwinHbFrame f s
  | .hbPathLoss side => Sys2Proof.Machine.execHbPathLoss side s
  | .twinLost => Sys2Proof.Machine.execTwinLost s
  | .claimFrameRenew f => Sys2Proof.Machine.execClaimFrameRenew f s
  | .claimFrameClaim f => Sys2Proof.Machine.execClaimFrameClaim f s
  | .claimFrameRelease f => Sys2Proof.Machine.execClaimFrameRelease f s
  | .claimFrameSent f => Sys2Proof.Machine.execClaimFrameSent f s
  | .epochWriteDone => Sys2Proof.Machine.execEpochWriteDone s
  | .leaseRenewTimer => Sys2Proof.Machine.execLeaseRenewTimer s
  | .leaseLapseHolder => Sys2Proof.Machine.execLeaseLapseHolder s
  | .leaseLapseObserver => Sys2Proof.Machine.execLeaseLapseObserver s
  | .laneStuckDominant lane => Sys2Proof.Machine.execLaneStuckDominant lane s
  | .joinWaitExpiry => Sys2Proof.Machine.execJoinWaitExpiry s
  | .twinGrant c => Sys2Proof.Machine.execTwinGrant c s
  | .twinHandover c => Sys2Proof.Machine.execTwinHandover c s
  | .handoverRelease => Sys2Proof.Machine.execHandoverRelease s
  | .takeover => Sys2Proof.Machine.execTakeover s
  | .fwdWaitExpiry tag => Sys2Proof.Machine.execFwdWaitExpiry tag s
  | .sfSweepPage page => Sys2Proof.Machine.execSfSweepPage page s
  | .utWrite p => Sys2Proof.Machine.execUtWrite p s
  | .utRead p => Sys2Proof.Machine.execUtRead p s
  | .utReadResp p => Sys2Proof.Machine.execUtReadResp p s
  | .utFadd p => Sys2Proof.Machine.execUtFadd p s
  | .utCas p => Sys2Proof.Machine.execUtCas p s
  | .utAtomicResp p => Sys2Proof.Machine.execUtAtomicResp p s
  | .utFlush p => Sys2Proof.Machine.execUtFlush p s
  | .utFlushAnswer ctx => Sys2Proof.Machine.execUtFlushAnswer ctx s
  | .utAck p => Sys2Proof.Machine.execUtAck p s
  | .utNack p => Sys2Proof.Machine.execUtNack p s
  | .utProbe p => Sys2Proof.Machine.execUtProbe p s
  | .utMirror p => Sys2Proof.Machine.execUtMirror p s
  | .mirrorAckSend => Sys2Proof.Machine.execMirrorAckSend s
  | .utMirrorAck p => Sys2Proof.Machine.execUtMirrorAck p s
  | .epochMark p => Sys2Proof.Machine.execEpochMark p s
  | .pageNotice p => Sys2Proof.Machine.execPageNotice p s
  | .regionNotice p => Sys2Proof.Machine.execRegionNotice p s
  | .resyncPage p => Sys2Proof.Machine.execResyncPage p s
  | .keptList p => Sys2Proof.Machine.execKeptList p s
  | .staleClear p => Sys2Proof.Machine.execStaleClear p s
  | .rehJoin p => Sys2Proof.Machine.execRehJoin p s
  | .rehResult p => Sys2Proof.Machine.execRehResult p s
  | .utFwdReq p => Sys2Proof.Machine.execUtFwdReq p s
  | .utFwdResp p => Sys2Proof.Machine.execUtFwdResp p s
  | .utHeartbeat p => Sys2Proof.Machine.execUtHeartbeat p s
  | .utCmd p => Sys2Proof.Machine.execUtCmd p s
  | .contextFetchDone ctx => Sys2Proof.Machine.execContextFetchDone ctx s
  | .sqTailWrite agent ctx value => Sys2Proof.Machine.execSqTailWrite agent ctx value s
  | .cqHeadWrite agent ctx value => Sys2Proof.Machine.execCqHeadWrite agent ctx value s
  | .leaseDoorbellWrite agent ctx value => Sys2Proof.Machine.execLeaseDoorbellWrite agent ctx value s
  | .doorbellApertureStore st => Sys2Proof.Machine.execDoorbellApertureStore st s
  | .descWrite ctx => Sys2Proof.Machine.execDescWrite ctx s
  | .descRead ctx => Sys2Proof.Machine.execDescRead ctx s
  | .descFadd ctx => Sys2Proof.Machine.execDescFadd ctx s
  | .descCas ctx => Sys2Proof.Machine.execDescCas ctx s
  | .descFlush ctx => Sys2Proof.Machine.execDescFlush ctx s
  | .descWait ctx => Sys2Proof.Machine.execDescWait ctx s
  | .waitSlotRetry => Sys2Proof.Machine.execWaitSlotRetry s
  | .packetSend ctx msn pkt => Sys2Proof.Machine.execPacketSend ctx msn pkt s
  | .mirrorPacketSend => Sys2Proof.Machine.execMirrorPacketSend s
  | .retxTimeout ctx msn pkt => Sys2Proof.Machine.execRetxTimeout ctx msn pkt s
  | .messageLifeExpiry ctx msn => Sys2Proof.Machine.execMessageLifeExpiry ctx msn s
  | .retryResend ctx msn pkt => Sys2Proof.Machine.execRetryResend ctx msn pkt s
  | .pathProbeTimer => Sys2Proof.Machine.execPathProbeTimer s
  | .ethLinkDown link => Sys2Proof.Machine.execEthLinkDown link s
  | .ethLinkUp link => Sys2Proof.Machine.execEthLinkUp link s
  | .mctHoldExpiry ctx node srcCtx msn => Sys2Proof.Machine.execMctHoldExpiry ctx node srcCtx msn s
  | .berthLeaseSweep => Sys2Proof.Machine.execBerthLeaseSweep s
  | .slowPathPacket link bytes => Sys2Proof.Machine.execSlowPathPacket link bytes s
  | .utCtxOpen c => Sys2Proof.Machine.execUtCtxOpen c s
  | .utCtxClose c => Sys2Proof.Machine.execUtCtxClose c s
  | .utBerthOpen c => Sys2Proof.Machine.execUtBerthOpen c s
  | .utBerthClose c => Sys2Proof.Machine.execUtBerthClose c s
  | .utBerthRenew c => Sys2Proof.Machine.execUtBerthRenew c s
  | .utDestSet c => Sys2Proof.Machine.execUtDestSet c s
  | .commandUnknownOpcode op c => Sys2Proof.Machine.execCommandUnknownOpcode op c s
  | .mctpSetEndpointId eid => Sys2Proof.Machine.execMctpSetEndpointId eid s
  | .mctpGetEndpointId => Sys2Proof.Machine.execMctpGetEndpointId s
  | .mctpGetVersionSupport => Sys2Proof.Machine.execMctpGetVersionSupport s
  | .mctpGetMessageTypeSupport => Sys2Proof.Machine.execMctpGetMessageTypeSupport s
  | .errLogRead c => Sys2Proof.Machine.execErrLogRead c s
  | .flashScrubNow c => Sys2Proof.Machine.execFlashScrubNow c s
  | .memChannelSet c => Sys2Proof.Machine.execMemChannelSet c s
  | .settingsRead c => Sys2Proof.Machine.execSettingsRead c s
  | .settingsWrite c => Sys2Proof.Machine.execSettingsWrite c s
  | .keySetAtRest c => Sys2Proof.Machine.execKeySetAtRest c s
  | .recInfo c => Sys2Proof.Machine.execRecInfo c s
  | .recRead c => Sys2Proof.Machine.execRecRead c s
  | .loopbackSet c => Sys2Proof.Machine.execLoopbackSet c s
  | .loopbackStatus c => Sys2Proof.Machine.execLoopbackStatus c s
  | .fwInfo c => Sys2Proof.Machine.execFwInfo c s
  | .fwWrite c => Sys2Proof.Machine.execFwWrite c s
  | .fwVerify c => Sys2Proof.Machine.execFwVerify c s
  | .fwActivate c => Sys2Proof.Machine.execFwActivate c s
  | .powerStateSet c => Sys2Proof.Machine.execPowerStateSet c s
  | .standbyEntryDone => Sys2Proof.Machine.execStandbyEntryDone s
  | .hostL1Exit head => Sys2Proof.Machine.execHostL1Exit head s
  | .standbyExitDone => Sys2Proof.Machine.execStandbyExitDone s
  | .aonDrainComplete => Sys2Proof.Machine.execAonDrainComplete s
  | .coreLoad core addr size => Sys2Proof.Machine.execCoreLoad core addr size s
  | .coreStore core addr data => Sys2Proof.Machine.execCoreStore core addr data s
  | .storeBufferIssue core => Sys2Proof.Machine.execStoreBufferIssue core s
  | .prefetchFill core => Sys2Proof.Machine.execPrefetchFill core s
  | .cachePrefetch core => Sys2Proof.Machine.execCachePrefetch core s
  | .cacheZeroLine core => Sys2Proof.Machine.execCacheZeroLine core s
  | .cacheLock core => Sys2Proof.Machine.execCacheLock core s
  | .cacheUnlock core => Sys2Proof.Machine.execCacheUnlock core s
  | .cacheWriteout core => Sys2Proof.Machine.execCacheWriteout core s
  | .cacheInval core => Sys2Proof.Machine.execCacheInval core s
  | .cacheDisable core => Sys2Proof.Machine.execCacheDisable core s
  | .interruptEntry core => Sys2Proof.Machine.execInterruptEntry core s
  | .interruptReturn core => Sys2Proof.Machine.execInterruptReturn core s
  | .laneDisagree lane => Sys2Proof.Machine.execLaneDisagree lane s
  | .resyncJoin => Sys2Proof.Machine.execResyncJoin s
  | .laneInject lanes => Sys2Proof.Machine.execLaneInject lanes s
  | .noMajority => Sys2Proof.Machine.execNoMajority s
  | .hmRestartDone => Sys2Proof.Machine.execHmRestartDone s
  | .stevedoreUe core where_ => Sys2Proof.Machine.execStevedoreUe core where_ s
  | .stevedoreReloadDone core => Sys2Proof.Machine.execStevedoreReloadDone core s
  | .coreTimerFire core timer => Sys2Proof.Machine.execCoreTimerFire core timer s
  | .watchdogKick core value => Sys2Proof.Machine.execWatchdogKick core value s
  | .watchdogFire core => Sys2Proof.Machine.execWatchdogFire core s
  | .sourceEdge src => Sys2Proof.Machine.execSourceEdge src s
  | .icuClaim core => Sys2Proof.Machine.execIcuClaim core s
  | .icuComplete core src => Sys2Proof.Machine.execIcuComplete core src s
  | .icuPendSet src => Sys2Proof.Machine.execIcuPendSet src s
  | .icuPendClr src => Sys2Proof.Machine.execIcuPendClr src s
  | .icuSrcCfgWrite src value => Sys2Proof.Machine.execIcuSrcCfgWrite src value s
  | .aonWatchFire src => Sys2Proof.Machine.execAonWatchFire src s
  | .refClockLoss => Sys2Proof.Machine.execRefClockLoss s
  | .refClockRestored => Sys2Proof.Machine.execRefClockRestored s
  | .refLossResetSave => Sys2Proof.Machine.execRefLossResetSave s
  | .xtalStop => Sys2Proof.Machine.execXtalStop s
  | .xtalRecover => Sys2Proof.Machine.execXtalRecover s
  | .vaonPowerOn => Sys2Proof.Machine.execVaonPowerOn s
  | .aonRstAssert => Sys2Proof.Machine.execAonRstAssert s
  | .pwrGoodRise => Sys2Proof.Machine.execPwrGoodRise s
  | .pwrGoodFall => Sys2Proof.Machine.execPwrGoodFall s
  | .railUndervoltage => Sys2Proof.Machine.execRailUndervoltage s
  | .sysRstQualified => Sys2Proof.Machine.execSysRstQualified s
  | .startUp e => Sys2Proof.Machine.execStartUp e s
  | .startupStepTimeout => Sys2Proof.Machine.execStartupStepTimeout s
  | .setWordWrite agent word value => Sys2Proof.Machine.execSetWordWrite agent word value s
  | .settingsWriteDone word => Sys2Proof.Machine.execSettingsWriteDone word s
  | .groupWriteStageDone => Sys2Proof.Machine.execGroupWriteStageDone s
  | .operatingHoursTick => Sys2Proof.Machine.execOperatingHoursTick s
  | .recorderTransfer x => Sys2Proof.Machine.execRecorderTransfer x s
  | .recorderArm => Sys2Proof.Machine.execRecorderArm s
  | .registerWrite agent off data => Sys2Proof.Machine.execRegisterWrite agent off data s
  | .loopbackGoWrite agent => Sys2Proof.Machine.execLoopbackGoWrite agent s
  | .loopbackStart slot => Sys2Proof.Machine.execLoopbackStart slot s
  | .tapReset => Sys2Proof.Machine.execTapReset s
  | .jtagIdcode => Sys2Proof.Machine.execJtagIdcode s
  | .jtagBypass => Sys2Proof.Machine.execJtagBypass s
  | .jtagSamplePreload bits => Sys2Proof.Machine.execJtagSamplePreload bits s
  | .jtagExtest => Sys2Proof.Machine.execJtagExtest s
  | .jtagExtestPulse => Sys2Proof.Machine.execJtagExtestPulse s
  | .jtagExtestTrain => Sys2Proof.Machine.execJtagExtestTrain s
  | .jtagHighz => Sys2Proof.Machine.execJtagHighz s
  | .jtagClamp => Sys2Proof.Machine.execJtagClamp s
  | .jtagScan => Sys2Proof.Machine.execJtagScan s
  | .jtagMbist => Sys2Proof.Machine.execJtagMbist s
  | .jtagHbm1500 => Sys2Proof.Machine.execJtagHbm1500 s
  | .dbgAccess write off size data => Sys2Proof.Machine.execDbgAccess write off size data s
  | .sysRstRelease => Sys2Proof.Machine.execSysRstRelease s
  | .pfailRise => Sys2Proof.Machine.execPfailRise s
  | .perstRelease port => Sys2Proof.Machine.execPerstRelease port s
  | .aonRstRelease => Sys2Proof.Machine.execAonRstRelease s
  | .twinHbAlignmentAcquire => Sys2Proof.Machine.execTwinHbAlignmentAcquire s
  | .twinHbAlignmentLoss => Sys2Proof.Machine.execTwinHbAlignmentLoss s
  | .readSnapshot agent off size => Sys2Proof.Machine.execReadSnapshot agent off size s
  | .setEventInterruptPolicy ld log vector => Sys2Proof.Machine.execSetEventInterruptPolicy ld log vector s
  | .clearEventRecords ld log handles => Sys2Proof.Machine.execClearEventRecords ld log handles s
  | .ideKm head mem io => Sys2Proof.Machine.execIdeKm head mem io s
  | .gfdDecoderCommit head index d => Sys2Proof.Machine.execGfdDecoderCommit head index d s
  | .gfamHostUnbind host => Sys2Proof.Machine.execGfamHostUnbind host s
  | .mirrorFetchTimeout page => Sys2Proof.Machine.execMirrorFetchTimeout page s
  | .sharedRehearsalPhaseA => Sys2Proof.Machine.execSharedRehearsalPhaseA s
  | .onfiChannelTrained ch => Sys2Proof.Machine.execOnfiChannelTrained ch s
  | .factoryBadBlockRead block bad => Sys2Proof.Machine.execFactoryBadBlockRead block bad s

end Sys2Proof.Machine
end

