-- ==== Sys2Proof/Machine/Step.lean ====
section
/-! DEFINITION. One step of the block: the command at the front of the queue, or the passing of one CORE cycle. -/
namespace Sys2Proof.Machine

/-- Run the command at the front on the state with the queue's rest; on an empty queue one CORE cycle passes, and what is due by then leaves
(log 2). -/
def step (s : State) : Host.Outcome State Fault Refusal :=
  match s.pending with
  | [] => .next ({ s with now := s.now + 1 }).settle
  | c :: rest => exec c { s with pending := rest }

/-- Put the command a word spells at the front of the queue. -/
def State.withFetchWord (s : State) (nbits w : Nat) : State :=
  match Sys2Proof.decodeTableWord nbits w with
  | none => s
  | some c => { s with pending := c :: s.pending }

end Sys2Proof.Machine
end

