-- ==== Sys2Proof/Safety.lean ====
section
/-! DEFINITION. What every step keeps: the canonical form of the register store and of the memories, the queue, time, the free values
used up, and what has been sent. -/
namespace Sys2Proof.Machine

/-- The interrupt controller never holds a reserved source number pending or active (16 R598), and a source is active at one target at
most (R605, R608). -/
structure Icu.Wf (c : Icu) : Prop where
  pend : ∀ n ∈ c.pend, validSource n = true
  active : ∀ p ∈ c.active, validSource p.1 = true
  once : (c.active.map (·.1)).Nodup

/-- The register store, the settings cells and their counters, the blocks and the memories of the tiers are in canonical form: keys
strictly rising, no entry equal to what an unlisted key reads as. Equal contents are then equal data. The interrupt controller is well
formed. -/
structure State.Canon (s : State) : Prop where
  regs : swf 0 s.regs = true
  cells : swf 0 s.sets.cells = true
  counts : swf 0 s.sets.counts = true
  blocks : swf Block.empty s.flash.blocks = true
  dram : Memory.wf s.dram.data
  hot : Memory.wf s.quay.hot
  staged : Memory.wf s.quay.staged
  flash : Memory.wf s.flash.data
  loft : Memory.wf s.flash.loftData
  icu : s.icu.Wf

/-- What the device never undoes: a counter of a settings word never falls below what it was, up to 10,000,000 (18 R664, R665); a
frozen word keeps its value (R665); a retired DRAM frame, Quay frame, rank or flash die stays retired (10 R385 to R387; 08 R299);
a block's wear never falls, and a bad block stays bad (08 R295, R298). -/
structure Lasts (s t : State) : Prop where
  counted : ∀ w, min 10000000 (s.wcount w) ≤ t.wcount w
  frozen : ∀ w, s.frozenWord w = true → t.cell w = s.cell w
  frames : ∀ x ∈ s.dram.retired, x ∈ t.dram.retired
  ranks : ∀ x ∈ s.dram.retiredRanks, x ∈ t.dram.retiredRanks
  quay : ∀ x ∈ s.integ.quayRetired, x ∈ t.integ.quayRetired
  dies : ∀ x ∈ s.flash.deadDies, x ∈ t.flash.deadDies
  worn : ∀ b, (s.block b).wear ≤ (t.block b).wear ∧ ((s.block b).bad = true → (t.block b).bad = true)

/-- What a command never undoes: the queue stays as it is, time does not run back, no free value is used twice, nothing sent is taken
back, the canonical forms stay, and what lasts. -/
structure Keeps (s t : State) : Prop where
  pending : t.pending = s.pending
  now : s.now ≤ t.now
  fresh : s.fresh ≤ t.fresh
  out : s.out <:+ t.out
  canon : s.Canon → t.Canon
  lasts : s.Canon → Lasts s t

/-- A step that goes on keeps all of this but the queue, of which it takes the front. -/
structure StepKeeps (s t : State) : Prop where
  pending : t.pending = s.pending.tail
  now : s.now ≤ t.now
  fresh : s.fresh ≤ t.fresh
  out : s.out <:+ t.out
  canon : s.Canon → t.Canon
  lasts : s.Canon → Lasts s t

/-- Every register field but those listed reads as before. -/
def SameFieldsBut (fs : List Fld) (s t : State) : Prop := ∀ g : Fld, (∀ f ∈ fs, g.key ≠ f.key) → t.fget g = s.fget g

/-- Nothing that an event completes is due. -/
def State.Calm (s : State) : Prop := s.settle = s

/-- A command completes: on every state and operands it answers the state that its effect `eff` leaves, with what that brings to its end
at once, and undoes nothing. -/
def Completes (c : Sys2Proof.Instr) (eff : State → State) : Prop :=
  ∀ s : State, exec c s = .next (eff s).settle ∧ Keeps s (eff s).settle

/-- `n` steps from a state, none of which stops. -/
def State.Runs (s t : State) : Nat → Prop
  | 0 => t = s
  | n + 1 => ∃ u, step s = .next u ∧ u.Runs t n

end Sys2Proof.Machine
end

