-- ==== Sys2Proof/Certificates/Slice0/Obligations.lean ====
section
/-! DEFINITION. What is claimed of the controller: from its rules, one statement each. -/
section
open Sys2Proof Sys2Proof.Machine

/-- O1. For every command c, queue rest and state s whose queue is c followed by rest, step of s is exec of c on s with the queue rest.
(spec/INDEX.md) -/
def Obligations.StepRunsTheFrontCommand : Prop :=
  ∀ (c : Instr) (rest : List Instr) (s : State), s.pending = c :: rest → step s = exec c { s with pending := rest }

/-- O2. With an empty queue a step adds one CORE cycle to the model time and lets what is due by then happen; where nothing is due it
changes nothing else. This is the model's own choice (log 2), no rule of the spec. (spec/17_clocks_reset_and_startup.md) -/
def Obligations.EmptyQueuePassesACycle : Prop :=
  ∀ s : State, s.pending = [] →
    step s = .next ({ s with now := s.now + 1 } : State).settle ∧
    (({ s with now := s.now + 1 } : State).Calm → step s = .next { s with now := s.now + 1 })

/-- O3. State.reset has its register store, settings cells and memories in canonical form and its interrupt controller well formed; its
queue and what it has sent are empty; no event is due. (spec/17_clocks_reset_and_startup.md, spec/19_register_space.md) -/
def Obligations.ResetIsCanonical : Prop :=
  State.reset.Canon ∧ State.reset.pending = [] ∧ State.reset.out = [] ∧ State.reset.Calm

/-- O4. After reset PART is 0x6400, REV 0xB0, RGN_PDK_STATUS.M_WT 1, CCX_HM_STATUS.VOTING 7, CMD_DC_OFFER_TIMEOUT 0x3C,
RGN_PLACE_CTRL.PROMOTE 0xC; HEAD of link k of port p is 4p + k; each core has CLASS 5, PF_EN 1 and a watchdog period of 0x2710; PWR_STATE is
FULL and memory is not active. (R636, spec/15_control_complex.md, spec/19_register_space.md, spec/02_persistence_contract.md) -/
def Obligations.ResetGivesTableValues : Prop :=
  State.reset.fget F.GEN_DEVICE_ID_PART = 0x6400 ∧ State.reset.fget F.GEN_DEVICE_ID_REV = 0xB0 ∧
  State.reset.fget F.RGN_PDK_STATUS_M_WT = 1 ∧ State.reset.fget F.CCX_HM_STATUS_VOTING = 7 ∧
  State.reset.fget F.CMD_DC_OFFER_TIMEOUT_SECONDS = 0x3C ∧ State.reset.fget F.RGN_PLACE_CTRL_PROMOTE = 0xC ∧
  State.reset.fget F.CLK_STATUS_PWR_STATE = 0 ∧ State.reset.memActive = false ∧
  (∀ p < 4, ∀ k < 4, State.reset.fget (F.CXP_LNK_STATUS_HEAD p k) = 4 * p + k) ∧
  ∀ k < 9, State.reset.fget (F.CCX_CORE_CLASS_CLASS k) = 5 ∧ State.reset.fget (F.CCX_CACHE_CTRL_PF_EN k) = 1 ∧
    State.reset.fget (F.CCX_WDOG_PERIOD k) = 0x2710

/-- O5. The CRC of the nine ASCII bytes 1 to 9 is 0xE3069283 for POLY 0, 0xCBF43926 for POLY 1, 0x6C40DF5F0B497347 for POLY 2 and 0xD0DB for
POLY 3. (R396) -/
def Obligations.CheckValuesMatchTable : Prop :=
  let digits : List Byte := [0x31, 0x32, 0x33, 0x34, 0x35, 0x36, 0x37, 0x38, 0x39]
  crcOf 0 digits = 0xE3069283 ∧ crcOf 1 digits = 0xCBF43926 ∧ crcOf 2 digits = 0x6C40DF5F0B497347 ∧ crcOf 3 digits = 0xD0DB

/-- O6. Register space, settings, recorder and test: each command answers the state of its own effect, on every state and operands.
(spec/18_settings_cells_and_recorder.md, spec/19_register_space.md, spec/21_test_and_loopback.md) -/
def Obligations.RegisterAndTestCommandsComplete : Prop :=
  (∀ agent word value, Completes (.setWordWrite agent word value) fun s => s.regWrite agent (0x580000 + 4 * (word % 4096)) (natBytes 4 value.toNat)) ∧
  (∀ word, Completes (.settingsWriteDone word) fun s => s.setWriteDone word) ∧
  Completes .groupWriteStageDone (fun s => s.groupStageDone) ∧
  Completes .operatingHoursTick (fun s => s.operatingTick) ∧
  (∀ x, Completes (.recorderTransfer x) fun s => s.transferIn x) ∧
  Completes .recorderArm (fun s => s.writeProd 127 (2 ^ 31)) ∧
  (∀ agent off data, Completes (.registerWrite agent off data) fun s => s.regWrite agent off data) ∧
  (∀ agent off size, Completes (.readSnapshot agent off size) fun s => s.regRead agent off size) ∧
  (∀ agent, Completes (.loopbackGoWrite agent) fun s => s.goBy agent) ∧
  (∀ slot, Completes (.loopbackStart slot) fun s => s.lbStart slot) ∧
  (∀ write off size data, Completes (.dbgAccess write off size data) fun s => s.dbgAccess write off size data) ∧
  Completes .tapReset (fun s => s.tapReset) ∧
  Completes .jtagIdcode (fun s => s.tapIdcode) ∧
  Completes .jtagBypass (fun s => s.tapBypass) ∧
  (∀ bits, Completes (.jtagSamplePreload bits) fun s => s.tapSample bits) ∧
  Completes .jtagExtest (fun s => s.tapTest .extest) ∧
  Completes .jtagExtestPulse (fun s => s.tapTest .extestPulse) ∧
  Completes .jtagExtestTrain (fun s => s.tapTest .extestTrain) ∧
  Completes .jtagHighz (fun s => s.tapTest .highz) ∧
  Completes .jtagClamp (fun s => s.tapTest .clamp) ∧
  Completes .jtagScan (fun s => s.tapTest .scan) ∧
  Completes .jtagMbist (fun s => s.tapTest .mbist) ∧
  Completes .jtagHbm1500 (fun s => s.tapTest .hbm1500)

/-- O7. Clocks, resets, start-up, power states and the watcher: each command answers the state of its own effect, on every state and
operands. (spec/16_interrupts_and_events.md, spec/17_clocks_reset_and_startup.md, spec/20_package_pins_and_electrical.md) -/
def Obligations.ClockAndResetCommandsComplete : Prop :=
  (∀ src, Completes (.aonWatchFire src) fun s => s.watchFire src) ∧
  Completes .refClockLoss (fun s => s.refLoss) ∧
  Completes .refClockRestored (fun s => s.refBack) ∧
  Completes .refLossResetSave (fun s => s.refReset) ∧
  Completes .xtalStop (fun s => s.xtalStop) ∧
  Completes .xtalRecover (fun s => s.xtalBack) ∧
  Completes .vaonPowerOn (fun s => s.vaonRise) ∧
  Completes .aonRstAssert (fun s => s.aonRst) ∧
  Completes .aonRstRelease (fun s => s.aonRstRelease) ∧
  Completes .pwrGoodRise (fun s => s.pwrGoodRise) ∧
  Completes .pwrGoodFall (fun s => s.pwrGoodFall) ∧
  Completes .railUndervoltage (fun s => s.railLow) ∧
  Completes .sysRstQualified (fun s => s.sysRst) ∧
  Completes .sysRstRelease (fun s => s.sysRstRelease) ∧
  (∀ e, Completes (.startUp e) fun s => s.startUp e) ∧
  Completes .startupStepTimeout (fun s => s.stepTimeout) ∧
  Completes .standbyEntryDone (fun s => s.standbyDone) ∧
  (∀ head, Completes (.hostL1Exit head) fun s => s.l1Exit head) ∧
  Completes .standbyExitDone (fun s => s.fullAgain) ∧
  Completes .aonDrainComplete (fun s => s.aonDrained)

/-- O8. Cores, caches, lanes, timers and the interrupt controller: each command answers the state of its own effect, on every state and
operands. (spec/15_control_complex.md, spec/16_interrupts_and_events.md) -/
def Obligations.CoreAndInterruptCommandsComplete : Prop :=
  (∀ core addr size, Completes (.coreLoad core addr size) fun s => s.coreLoad core addr size) ∧
  (∀ core addr data, Completes (.coreStore core addr data) fun s => s.coreStore core addr data) ∧
  (∀ core, Completes (.storeBufferIssue core) fun s => s.storeOut core) ∧
  (∀ core, Completes (.prefetchFill core) fun s => s.prefetchIn core) ∧
  (∀ core, Completes (.cachePrefetch core) fun s => s.coreOp core fun a => a.opPrefetch core) ∧
  (∀ core, Completes (.cacheZeroLine core) fun s => s.coreOp core fun a => a.opZero core) ∧
  (∀ core, Completes (.cacheLock core) fun s => s.coreOp core fun a => a.opLock core) ∧
  (∀ core, Completes (.cacheUnlock core) fun s => s.coreOp core fun a => a.opUnlock core) ∧
  (∀ core, Completes (.cacheWriteout core) fun s => s.coreOp core fun a => a.opWriteOut core) ∧
  (∀ core, Completes (.cacheInval core) fun s => s.coreOp core fun a => a.opInval core) ∧
  (∀ core, Completes (.cacheDisable core) fun s => s.cacheStop core) ∧
  (∀ core, Completes (.interruptEntry core) fun s => s.interruptEntry core) ∧
  (∀ core, Completes (.interruptReturn core) fun s => s.interruptReturn core) ∧
  (∀ lane, Completes (.laneDisagree lane) fun s => (s.laneDisagree lane).earlyRestart s) ∧
  Completes .resyncJoin (fun s => s.resyncJoin) ∧
  (∀ lanes, Completes (.laneInject lanes) fun s => s.laneInject lanes) ∧
  Completes .noMajority (fun s => s.noMajority.earlyRestart s) ∧
  Completes .hmRestartDone (fun s => s.restartDone) ∧
  (∀ core where_, Completes (.stevedoreUe core where_) fun s => s.stevedoreUe core where_) ∧
  (∀ core, Completes (.stevedoreReloadDone core) fun s => s.reloadDone core) ∧
  (∀ core timer, Completes (.coreTimerFire core timer) fun s => s.timerFire core timer) ∧
  (∀ core value, Completes (.watchdogKick core value) fun s => s.wdogKick core value) ∧
  (∀ core, Completes (.watchdogFire core) fun s => (s.wdogFire core).earlyRestart s) ∧
  (∀ src, Completes (.sourceEdge src) fun s => s.whenOn fun a => a.sourceEdge src) ∧
  (∀ core, Completes (.icuClaim core) fun s => s.claimBy core) ∧
  (∀ core src, Completes (.icuComplete core src) fun s => s.completeBy core src) ∧
  (∀ src, Completes (.icuPendSet src) fun s => s.whenOn fun a => a.icuPendSet src) ∧
  (∀ src, Completes (.icuPendClr src) fun s => s.whenOn fun a => a.icuPendClr src) ∧
  (∀ src value, Completes (.icuSrcCfgWrite src value) fun s => s.whenOn fun a => a.icuSrcCfg src value)

/-- O9. DRAM and Quay: each command answers the state of its own effect, on every state and operands. (spec/09_dram_and_stacked_memory.md,
spec/10_integrity_and_check_units.md) -/
def Obligations.DramAndQuayCommandsComplete : Prop :=
  (∀ ch rank, Completes (.sameBankRefresh ch rank) fun s => s.refresh ch rank) ∧
  (∀ ch bank, Completes (.refreshManagement ch bank) fun s => s.refreshManage ch bank) ∧
  (∀ ch slot temp, Completes (.dimmThermalRead ch slot temp) fun s => s.dimmThermal ch slot temp) ∧
  (∀ ch, Completes (.retrainPause ch) fun s => s.retrainPause ch) ∧
  (∀ ch bank, Completes (.rowIdleClose ch bank) fun s => s.rowIdle ch bank) ∧
  (∀ ch port, Completes (.panicMaxExpiry ch port) fun s => s.panicExpiry ch port) ∧
  (∀ addr, Completes (.dramAccessDone addr) fun s => s.dramDone addr) ∧
  (∀ addr, Completes (.quayAccessDone addr) fun s => s.quayDone addr) ∧
  (∀ c, Completes (.dramFreqSet c) fun s => s.arrive 0x0C01 (some defFreqSet) c) ∧
  Completes .freqChangeDone (fun s => s.freqDone) ∧
  (∀ ch slot, Completes (.dimmLoss ch slot) fun s => s.dimmLoss ch slot) ∧
  (∀ page, Completes (.dimmRehomePage page) fun s => s.rehome page) ∧
  (∀ ch, Completes (.quayChannelLoss ch) fun s => s.quayChannelLost ch) ∧
  Completes .quayRefresh (fun s => s.quayRefresh) ∧
  (∀ temp, Completes (.hbmThermalRead temp) fun s => s.hbmThermal temp) ∧
  Completes .dClearPass (fun s => s.dClearPass) ∧
  Completes .outsideMaskDimmReturn (fun s => s.outsideReturn)

/-- O10. Flash tier: each command answers the state of its own effect, on every state and operands. (spec/08_flash_tier.md) -/
def Obligations.FlashCommandsComplete : Prop :=
  (∀ page outcome, Completes (.flashReadDone page outcome) fun s => s.flashRead page outcome) ∧
  (∀ stripe, Completes (.stripeCloseTimeout stripe) fun s => s.stripeClose stripe) ∧
  (∀ block, Completes (.garbageCollect block) fun s => s.garbageCollect block) ∧
  (∀ block, Completes (.staticWearLevel block) fun s => s.wearLevel block) ∧
  (∀ block, Completes (.readDisturbRelocate block) fun s => s.disturbRelocate block) ∧
  (∀ block weak, Completes (.retentionScrub block weak) fun s => s.retentionScrub block weak) ∧
  (∀ ch die, Completes (.dieRetire ch die) fun s => s.dieRetire ch die) ∧
  (∀ ch, Completes (.flashChannelLoss ch) fun s => s.channelLoss ch) ∧
  Completes .mapLoad (fun s => s.mapLoad) ∧
  Completes .foldExtent (fun s => s.foldExtent) ∧
  (∀ block bad, Completes (.factoryBadBlockRead block bad) fun s => s.factoryMark block bad) ∧
  (∀ ch, Completes (.onfiChannelTrained ch) fun s => s.onfiTrained ch)

/-- O11. Energy pack and power loss: each command answers the state of its own effect, on every state and operands.
(spec/11_energy_pack_and_power_loss.md) -/
def Obligations.EnergyPackCommandsComplete : Prop :=
  (∀ frame, Completes (.frontEndFrameRead frame) fun s => s.readFrame frame true) ∧
  (∀ frame, Completes (.pkAlert frame) fun s => s.readFrame frame false) ∧
  Completes .energyModelUpdate (fun s => s.modelUpdate) ∧
  Completes .restCorrection (fun s => s.restCorrection) ∧
  Completes .healthFade (fun s => s.healthFade) ∧
  Completes .chargeCurrentLoop (fun s => s.chargeCurrent) ∧
  Completes .chargeVoltageLoop (fun s => s.chargeVoltage) ∧
  Completes .heaterLoop (fun s => s.heaterLoop) ∧
  (∀ c, Completes (.packProfileSet c) fun s => s.arrive 0x0501 (some defProfileSet) c) ∧
  (∀ c, Completes (.packRehearse c) fun s => s.arrive 0x0502 (some defRehearse) c) ∧
  Completes .rehearsalStart (fun s => s.rehStart) ∧
  Completes .rehearsalPostpone (fun s => s.rehPostpone) ∧
  Completes .rehearsalRetry (fun s => s.rehRetry) ∧
  Completes .rehTransferTimeout (fun s => s.rehTimeout) ∧
  Completes .rehPhaseAEnd (fun s => s.phaseAEnd) ∧
  Completes .rehPhaseBEnd (fun s => s.phaseBEnd) ∧
  Completes .rehearsalBlockErase (fun s => s.rehErase) ∧
  Completes .sharedRehearsalPhaseA (fun s => s.sharedPhaseA) ∧
  Completes .pfailQualified (fun s => s.pfail) ∧
  Completes .pfailRise (fun s => s.pfailRise) ∧
  Completes .ridePowerReturn (fun s => s.rideReturn) ∧
  Completes .rideExpiry (fun s => s.rideExpiry) ∧
  Completes .saveCommit (fun s => s.saveCommit) ∧
  (∀ mv, Completes (.vaonSample mv) fun s => s.vaonSample mv) ∧
  (∀ _value, Completes (.epcCSaveWrite _value) fun s => s.saveCostWrite) ∧
  (∀ _value, Completes (.epcPRunWrite _value) fun s => s.saveCostWrite) ∧
  Completes .rehStartWrite (fun s => s.requestReh)

/-- O12. Data integrity and check units: each command answers the state of its own effect, on every state and operands.
(spec/10_integrity_and_check_units.md) -/
def Obligations.IntegrityCommandsComplete : Prop :=
  (∀ line, Completes (.correctedWriteback line) fun s => s.correctedWriteback line) ∧
  (∀ r, Completes (.ueRecovery r) fun s => s.ueRecovery r) ∧
  (∀ line bad, Completes (.ueRecoveryResolved line bad) fun s => s.ueResolved line bad) ∧
  (∀ group word, Completes (.mergeIdleDrain group word) fun s => s.mergeIdle group word) ∧
  (∀ tier, Completes (.patrolScrub tier) fun s => s.patrolScrub tier.tier tier.found) ∧
  Completes .poisonListRebuild (fun s => s.poisonRebuild) ∧
  (∀ c, Completes (.pageRetire c) fun s => s.arrive 0x0702 (some defPageRetire) c) ∧
  (∀ c, Completes (.rankSpare c) fun s => s.arrive 0x0703 (some defRankSpare) c) ∧
  Completes .evacuationDone (fun s => s.evacDone) ∧
  (∀ c, Completes (.checkStart c) fun s => s.arrive 0x0401 (some defCheckStart) c) ∧
  (∀ c, Completes (.checkStatus c) fun s => s.arrive 0x0402 (some defCheckStatus) c) ∧
  (∀ c, Completes (.checkStop c) fun s => s.arrive 0x0403 (some defCheckStop) c) ∧
  (∀ unit, Completes (.chkCtrlStart unit) fun s => s.chkStart unit) ∧
  (∀ unit, Completes (.chkCtrlStop unit) fun s => s.chkStop unit) ∧
  (∀ unit, Completes (.checkScanLine unit) fun s => s.chkLine unit) ∧
  (∀ page, Completes (.mirrorFetchTimeout page) fun s => s.mirrorTimeout page)

/-- O13. Landing queue, paddock and flushing: each command answers the state of its own effect, on every state and operands.
(spec/02_persistence_contract.md, spec/05_access_paths_and_latency.md) -/
def Obligations.PersistenceCommandsComplete : Prop :=
  Completes .flusherTakePage (fun s => s.flusherTake) ∧
  (∀ page sector, Completes (.flushDurable page sector) fun s => s.durable page sector false) ∧
  (∀ page block, Completes (.flashProgramFail page block) fun s => s.programFail page block) ∧
  (∀ page sector, Completes (.writeThroughDurable page sector) fun s => s.durable page sector true) ∧
  Completes .paddockLimitUpdate (fun s => s.limitUpdate) ∧
  Completes .heatDecaySweep (fun s => s.heatDecay) ∧
  Completes .promotionSweep (fun s => s.promotionSweep) ∧
  Completes .dramEviction (fun s => s.dramEvict) ∧
  (∀ page, Completes (.vPageSpill page) fun s => s.spill page) ∧
  (∀ page, Completes (.pageMoveDone page) fun s => s.moveDone page) ∧
  (∀ page, Completes (.flashFetchDone page) fun s => s.fetchDone page) ∧
  (∀ page quay, Completes (.pageStateFetchDone page quay) fun s => s.wordDone page quay) ∧
  Completes .backgroundRestore (fun s => s.restoreNext)

/-- O14. CXL host ports and mailboxes: each command answers the state of its own effect, on every state and operands.
(spec/04_cxl_host_ports.md, spec/05_access_paths_and_latency.md) -/
def Obligations.HostPortCommandsComplete : Prop :=
  (∀ r, Completes (.hostRead r) fun s => s.hostRead r) ∧
  (∀ st, Completes (.hostStoreL st) fun s => s.storeIn st .l) ∧
  (∀ st, Completes (.hostStoreM st) fun s => s.storeIn st .m) ∧
  (∀ st, Completes (.hostStoreV st) fun s => s.storeIn st .v) ∧
  Completes .heldStoreAdmit (fun s => s.admitHeld) ∧
  Completes .ingressStoreResume (fun s => s.ingressResume) ∧
  (∀ line, Completes (.landingDrain line) fun s => s.landingDrain line) ∧
  (∀ b, Completes (.birspReceived b) fun s => s.birsp b) ∧
  (∀ line holder, Completes (.bisnpTimeout line holder) fun s => s.bisnpTimeout line holder) ∧
  (∀ st, Completes (.hostWriteback st) fun s => s.hostWriteback st) ∧
  (∀ head, Completes (.gpfPhase2Request head) fun s => s.gpfRequest head) ∧
  (∀ head, Completes (.gpfPhase2Complete head) fun s => s.gpfComplete head) ∧
  (∀ head, Completes (.viralReceived head) fun s => s.viral head) ∧
  (∀ head, Completes (.ideMacFailure head) fun s => s.ideMacFail head) ∧
  (∀ head, Completes (.cxlLinkDown head) fun s => s.linkDown head) ∧
  (∀ head t, Completes (.cxlLinkTrainAttempt head t) fun s => s.linkTrain head t) ∧
  (∀ port, Completes (.perstAssert port) fun s => s.perstAssert port) ∧
  (∀ port, Completes (.perstRelease port) fun s => s.perstRise port) ∧
  (∀ ld, Completes (.functionLevelReset ld) fun s => s.flrLd ld) ∧
  (∀ host pbr group, Completes (.gfamHostBind host pbr group) fun s => s.hostBind host pbr group) ∧
  (∀ host, Completes (.gfamHostUnbind host) fun s => s.hostUnbind host) ∧
  (∀ _head index d, Completes (.gfdDecoderCommit _head index d) fun s => s.gfdCommit index d) ∧
  (∀ head mem io, Completes (.ideKm head mem io) fun s => s.ideKm head mem io) ∧
  (∀ ld region accept, Completes (.hostDcAddResponse ld region accept) fun s => s.dcResponse ld region accept) ∧
  (∀ ld region, Completes (.hostDcRelease ld region) fun s => s.dcRelease ld region) ∧
  (∀ region, Completes (.dcOfferTimeout region) fun s => s.dcTimeout region) ∧
  (∀ ld, Completes (.getPoisonList ld) fun s => s.getPoison ld) ∧
  (∀ ld dla, Completes (.injectPoison ld dla) fun s => s.poisonStore ld dla 0 0 true) ∧
  (∀ ld dla data, Completes (.clearPoison ld dla data) fun s => s.poisonStore ld dla data (BitVec.allOnes 64) false) ∧
  (∀ ld log count, Completes (.getEventRecords ld log count) fun s => s.getEvents ld log count) ∧
  (∀ ld log handles, Completes (.clearEventRecords ld log handles) fun s => s.clearEvents ld log handles) ∧
  (∀ ld log vector, Completes (.setEventInterruptPolicy ld log vector) fun s => s.eventPolicy ld log vector) ∧
  (∀ ld, Completes (.getHealthInfo ld) fun s => s.healthInfo ld) ∧
  (∀ ld, Completes (.getParmosReply ld) fun s => s.getParmosReply ld) ∧
  (∀ ld opcode, Completes (.mailboxUnsupportedOpcode ld opcode) fun s => s.mboxStd ld opcode.code opcode.payload) ∧
  (∀ ld, Completes (.getFwInfo ld) fun s => s.getFwInfo ld) ∧
  (∀ ld offset data end_, Completes (.transferFw ld offset data end_) fun s => s.transferFw ld offset data end_) ∧
  (∀ ld slot online, Completes (.activateFw ld slot online) fun s => s.activateFw ld slot online)

/-- O15. Regions and tiers: each command answers the state of its own effect, on every state and operands. (spec/03_regions_and_tiers.md) -/
def Obligations.RegionCommandsComplete : Prop :=
  (∀ c, Completes (.regionCreate c) fun s => s.arrive 0x0101 (some defRegionCreate) c) ∧
  (∀ c, Completes (.regionSetFlags c) fun s => s.arrive 0x0102 (some defRegionSetFlags) c) ∧
  (∀ c, Completes (.regionDelete c) fun s => s.arrive 0x0103 (some defRegionDelete) c) ∧
  (∀ c, Completes (.regionDcRelease c) fun s => s.arrive 0x0104 (some defRegionDcRelease) c) ∧
  (∀ c, Completes (.regionQuery c) fun s => s.arrive 0x0105 (some defRegionQuery) c) ∧
  (∀ region, Completes (.retypeDone region) fun s => s.retypeDone region) ∧
  (∀ region, Completes (.regionDrainDone region) fun s => s.drainDone region)

/-- O16. Tide tables and staging: each command answers the state of its own effect, on every state and operands. (spec/07_tide_tables.md) -/
def Obligations.TideCommandsComplete : Prop :=
  (∀ c, Completes (.tideTableCreate c) fun s => s.arrive 0x0201 (some defTableCreate) c) ∧
  (∀ c, Completes (.tideEntryAdd c) fun s => s.arrive 0x0202 (some defEntryAdd) c) ∧
  (∀ c, Completes (.tideTableOpen c) fun s => s.arrive 0x0203 (some defTableOpen) c) ∧
  (∀ c, Completes (.tideTableClose c) fun s => s.arrive 0x0204 (some defTableClose) c) ∧
  (∀ c, Completes (.tideSharerJoin c) fun s => s.arrive 0x0205 (some defSharerJoin) c) ∧
  (∀ c, Completes (.tideSharerLeave c) fun s => s.arrive 0x0206 (some defSharerLeave) c) ∧
  (∀ c, Completes (.tideStepSet c) fun s => s.arrive 0x0207 (some defStepSet) c) ∧
  (∀ h, Completes (.sharerIdleTimeout h) fun s => s.sharerIdle h) ∧
  Completes .stagingBegin (fun s => s.stagingBegin) ∧
  (∀ page, Completes (.stagingCopyDone page) fun s => s.copyDone page) ∧
  (∀ page, Completes (.stagedCopyFree page) fun s => s.copyFree page) ∧
  (∀ page line bad, Completes (.stagedUeRecovery page line bad) fun s => s.stagedUe page line bad)

/-- O17. Twin operation, claims and failover: each command answers the state of its own effect, on every state and operands.
(spec/12_twin_operation_and_claims.md) -/
def Obligations.TwinCommandsComplete : Prop :=
  Completes .epochMarkTimer (fun s => s.epochMarkTick) ∧
  Completes .resyncPageSend (fun s => s.resyncSend) ∧
  Completes .heartbeatSend (fun s => s.heartbeatTick) ∧
  (∀ f, Completes (.twinHbFrame f) fun s => s.twinHbFrame f) ∧
  Completes .twinHbAlignmentAcquire (fun s => s.hbAligned true) ∧
  Completes .twinHbAlignmentLoss (fun s => s.hbAligned false) ∧
  (∀ side, Completes (.hbPathLoss side) fun s => s.hbPathLoss side) ∧
  Completes .twinLost (fun s => s.twinLostEvent) ∧
  (∀ f, Completes (.claimFrameRenew f) fun s => s.renewIn f) ∧
  (∀ f, Completes (.claimFrameClaim f) fun s => s.claimIn f) ∧
  (∀ f, Completes (.claimFrameRelease f) fun s => s.releaseIn f) ∧
  (∀ f, Completes (.claimFrameSent f) fun s => s.frameSent f) ∧
  Completes .epochWriteDone (fun s => s.epochDone) ∧
  Completes .leaseRenewTimer (fun s => s.leaseRenew) ∧
  Completes .leaseLapseHolder (fun s => s.leaseLapse) ∧
  Completes .leaseLapseObserver (fun s => s.peerLapse) ∧
  (∀ lane, Completes (.laneStuckDominant lane) fun s => s.laneStuck lane) ∧
  Completes .joinWaitExpiry (fun s => s.joinExpiry) ∧
  (∀ c, Completes (.twinGrant c) fun s => s.arrive 0x0601 (some defTwinGrant) c) ∧
  (∀ c, Completes (.twinHandover c) fun s => s.arrive 0x0602 (some defTwinHandover) c) ∧
  Completes .handoverRelease (fun s => s.handoverRelease) ∧
  Completes .takeover (fun s => s.takeoverEvent) ∧
  (∀ tag, Completes (.fwdWaitExpiry tag) fun s => s.fwdExpiry tag) ∧
  (∀ page, Completes (.sfSweepPage page) fun s => s.sfSweep page) ∧
  Completes .mirrorAckSend (fun s => s.mirrorAckSend) ∧
  Completes .mirrorPacketSend (fun s => s.mirrorSend)

/-- O18. Umond Transport: each command answers the state of its own effect, on every state and operands. (spec/13_umond_transport.md) -/
def Obligations.TransportCommandsComplete : Prop :=
  (∀ p, Completes (.utWrite p) fun s => s.utRequest p 0x01) ∧
  (∀ p, Completes (.utRead p) fun s => s.utRequest p 0x02) ∧
  (∀ p, Completes (.utReadResp p) fun s => s.utReadResp p) ∧
  (∀ p, Completes (.utFadd p) fun s => s.utRequest p 0x04) ∧
  (∀ p, Completes (.utCas p) fun s => s.utRequest p 0x05) ∧
  (∀ p, Completes (.utAtomicResp p) fun s => s.utAtomicResp p) ∧
  (∀ p, Completes (.utFlush p) fun s => s.utRequest p 0x07) ∧
  (∀ ctx, Completes (.utFlushAnswer ctx) fun s => s.flushAnswer ctx) ∧
  (∀ p, Completes (.utAck p) fun s => s.utAck p) ∧
  (∀ p, Completes (.utNack p) fun s => s.utNack p) ∧
  (∀ p, Completes (.utProbe p) fun s => s.utProbe p) ∧
  (∀ p, Completes (.utMirror p) fun s => s.twinRx p 0x10 fun a => a.mirrorIn p.hdr p.payload) ∧
  (∀ p, Completes (.utMirrorAck p) fun s => s.twinRx p 0x11 fun a => (a.twinSample p).mirrorAck p.payload) ∧
  (∀ p, Completes (.epochMark p) fun s => s.utCtl p 1) ∧
  (∀ p, Completes (.pageNotice p) fun s => s.utCtl p 2) ∧
  (∀ p, Completes (.regionNotice p) fun s => s.utCtl p 3) ∧
  (∀ p, Completes (.resyncPage p) fun s => s.utCtl p 4) ∧
  (∀ p, Completes (.keptList p) fun s => s.utCtl p 5) ∧
  (∀ p, Completes (.staleClear p) fun s => s.utCtl p 6) ∧
  (∀ p, Completes (.rehJoin p) fun s => s.utCtl p 7) ∧
  (∀ p, Completes (.rehResult p) fun s => s.utCtl p 8) ∧
  (∀ p, Completes (.utFwdReq p) fun s => s.utFwdReq p) ∧
  (∀ p, Completes (.utFwdResp p) fun s => s.twinRx p 0x14 fun a => (a.twinSample p).fwdResp p.payload) ∧
  (∀ p, Completes (.utHeartbeat p) fun s => s.utRx p 0x15 fun a => a.heartbeatIn false p.payload) ∧
  (∀ p, Completes (.utCmd p) fun s => s.utCmd p fun a op c => a.arrive op (cmdTable op) c) ∧
  (∀ ctx, Completes (.contextFetchDone ctx) fun s => s.ctxFetched ctx) ∧
  (∀ agent ctx value, Completes (.sqTailWrite agent ctx value) fun s => s.doorbellWrite agent ctx 0 value.toNat) ∧
  (∀ agent ctx value, Completes (.cqHeadWrite agent ctx value) fun s => s.doorbellWrite agent ctx 4 value.toNat) ∧
  (∀ agent ctx value, Completes (.leaseDoorbellWrite agent ctx value) fun s => s.doorbellWrite agent ctx 8 value.toNat) ∧
  (∀ st, Completes (.doorbellApertureStore st) fun s => if (s.aperture st.head st.ld st.pbr st.addr).isSome then s.hostStore st else s) ∧
  (∀ ctx, Completes (.descWrite ctx) fun s => s.descStart ctx 1) ∧
  (∀ ctx, Completes (.descRead ctx) fun s => s.descStart ctx 2) ∧
  (∀ ctx, Completes (.descFadd ctx) fun s => s.descStart ctx 3) ∧
  (∀ ctx, Completes (.descCas ctx) fun s => s.descStart ctx 4) ∧
  (∀ ctx, Completes (.descFlush ctx) fun s => s.descStart ctx 5) ∧
  (∀ ctx, Completes (.descWait ctx) fun s => s.descStart ctx 6) ∧
  Completes .waitSlotRetry (fun s => s.waitSlot) ∧
  (∀ ctx msn pkt, Completes (.packetSend ctx msn pkt) fun s => s.packetSend ctx msn pkt) ∧
  (∀ ctx msn pkt, Completes (.retxTimeout ctx msn pkt) fun s => s.retxTimeout ctx msn pkt) ∧
  (∀ ctx msn, Completes (.messageLifeExpiry ctx msn) fun s => s.lifeExpiry ctx msn) ∧
  (∀ ctx msn pkt, Completes (.retryResend ctx msn pkt) fun s => s.retryResend ctx msn pkt) ∧
  Completes .pathProbeTimer (fun s => s.probeTick) ∧
  (∀ link, Completes (.ethLinkDown link) fun s => s.ethDown link) ∧
  (∀ link, Completes (.ethLinkUp link) fun s => s.ethUp link) ∧
  (∀ ctx node srcCtx msn, Completes (.mctHoldExpiry ctx node srcCtx msn) fun s => s.mctExpire ctx node srcCtx msn) ∧
  Completes .berthLeaseSweep (fun s => s.leaseSweep) ∧
  (∀ link _bytes, Completes (.slowPathPacket link _bytes) fun s => s.slowPath link) ∧
  (∀ c, Completes (.utCtxOpen c) fun s => s.arrive 0x0301 (some defCtxOpen) c) ∧
  (∀ c, Completes (.utCtxClose c) fun s => s.arrive 0x0302 (some defCtxClose) c) ∧
  (∀ c, Completes (.utBerthOpen c) fun s => s.arrive 0x0303 (some defBerthOpen) c) ∧
  (∀ c, Completes (.utBerthClose c) fun s => s.arrive 0x0304 (some defBerthClose) c) ∧
  (∀ c, Completes (.utBerthRenew c) fun s => s.arrive 0x0305 (some defBerthRenew) c) ∧
  (∀ c, Completes (.utDestSet c) fun s => s.arrive 0x0306 (some defDestSet) c)

/-- O19. Command packets and MCTP: each command answers the state of its own effect, on every state and operands.
(spec/14_command_packets.md) -/
def Obligations.PacketAndMctpCommandsComplete : Prop :=
  (∀ op c, Completes (.commandUnknownOpcode op c) fun s => if (cmdTable op).isSome then s else s.arrive op none c) ∧
  (∀ eid, Completes (.mctpSetEndpointId eid) fun s => s.mctpSet eid) ∧
  Completes .mctpGetEndpointId (fun s => s.mctpGet) ∧
  Completes .mctpGetVersionSupport (fun s => s.mctpVersions) ∧
  Completes .mctpGetMessageTypeSupport (fun s => s.mctpTypes) ∧
  (∀ c, Completes (.errLogRead c) fun s => s.arrive 0x0701 (some defErrLog) c) ∧
  (∀ c, Completes (.flashScrubNow c) fun s => s.arrive 0x0704 (some defScrubNow) c) ∧
  (∀ c, Completes (.memChannelSet c) fun s => s.arrive 0x0705 (some defMemChannel) c) ∧
  (∀ c, Completes (.settingsRead c) fun s => s.arrive 0x0801 (some defSettingsRead) c) ∧
  (∀ c, Completes (.settingsWrite c) fun s => s.arrive 0x0802 (some defSettingsWrite) c) ∧
  (∀ c, Completes (.keySetAtRest c) fun s => s.arrive 0x0803 (some defKeySet) c) ∧
  (∀ c, Completes (.recInfo c) fun s => s.arrive 0x0901 (some defRecInfo) c) ∧
  (∀ c, Completes (.recRead c) fun s => s.arrive 0x0902 (some defRecRead) c) ∧
  (∀ c, Completes (.loopbackSet c) fun s => s.arrive 0x0A01 (some defLoopSet) c) ∧
  (∀ c, Completes (.loopbackStatus c) fun s => s.arrive 0x0A02 (some defLoopStatus) c) ∧
  (∀ c, Completes (.fwInfo c) fun s => s.arrive 0x0B01 (some defFwInfo) c) ∧
  (∀ c, Completes (.fwWrite c) fun s => s.arrive 0x0B02 (some defFwWrite) c) ∧
  (∀ c, Completes (.fwVerify c) fun s => s.arrive 0x0B03 (some defFwVerify) c) ∧
  (∀ c, Completes (.fwActivate c) fun s => s.arrive 0x0B04 (some defFwActivate) c) ∧
  (∀ c, Completes (.powerStateSet c) fun s => s.arrive 0x0C02 (some defPowerState) c)

/-- O20. For every state, if a step answers a next state: the queue loses its front and nothing else; time does not run back; no free value
is taken twice; what has been sent stays sent; from a canonical state the next is canonical (register store, settings cells, counters,
blocks, the memories of the tiers, the interrupt controller), settings counters do not fall, frozen words keep their value, retired frames,
ranks and dies stay retired, wear never falls and bad blocks stay bad. (R664, R665, R598, R385, R299, spec/19_register_space.md) -/
def Obligations.EveryStepKeeps : Prop :=
  ∀ s t : State, step s = .next t → StepKeeps s t

/-- O21. From every state, as many steps as its queue is long all answer next states; the queue is then empty; and what Keeps lists for one
command (time, free values, what was sent, canonical forms, what lasts) holds over all of them. (spec/INDEX.md) -/
def Obligations.QueueRunsDry : Prop :=
  ∀ s : State, ∃ t : State, s.Runs t s.pending.length ∧ t.pending = [] ∧ s.now ≤ t.now ∧ s.out <:+ t.out ∧
    (s.Canon → t.Canon ∧ Lasts s t)

/-- O22. From every canonical state, over any number of steps, a settings word that is frozen stays frozen and keeps its stored value.
(R665) -/
def Obligations.FrozenWordIsNeverWrittenAgain : Prop :=
  ∀ (s t : State) (n w : Nat), s.Canon → s.Runs t n → s.frozenWord w = true → t.frozenWord w = true ∧ t.cell w = s.cell w

/-- O23. From every canonical state, over any number of steps: retired DRAM frames, ranks, Quay frames and flash dies stay retired, a bad
block stays bad, and the wear of a block does not fall. (R298, R299, R385, R386, R387, R295) -/
def Obligations.RetirementIsForGood : Prop :=
  ∀ (s t : State) (n : Nat), s.Canon → s.Runs t n →
    (∀ x ∈ s.dram.retired, x ∈ t.dram.retired) ∧ (∀ x ∈ s.dram.retiredRanks, x ∈ t.dram.retiredRanks) ∧
    (∀ x ∈ s.integ.quayRetired, x ∈ t.integ.quayRetired) ∧ (∀ x ∈ s.flash.deadDies, x ∈ t.flash.deadDies) ∧
    ∀ b, ((s.block b).bad = true → (t.block b).bad = true) ∧ (s.block b).wear ≤ (t.block b).wear

/-- O24. After any number of steps from a canonical state (the state after reset is one) no reserved source number is pending, and none is
active at a target; the numbers are 10 bits wide and 0 is none of them; a write of a reserved number to ICU_PEND_SET in a state where
nothing else is due answers the state as it was. (R598) -/
def Obligations.ReservedSourcesNeverPend : Prop :=
  (∀ (s t : State) (n src : Nat), s.Canon → s.Runs t n → validSource src = false → src ∉ t.icu.pend ∧ t.icu.isActive src = false) ∧
  (∀ (s : State) (src : Nat), s.Calm → validSource src = false → exec (.icuPendSet src) s = .next s) ∧
  validSource 0 = false ∧ ∀ src, validSource src = true → src < 1024

/-- O25. For every opcode, command packet and state: where the checks and the opcode's own part end with any status but SUCCESS, the state
they leave is the state before, but for two opcodes whose tables state an effect of a failure: LOOPBACK_SET may record its status in
TST_LB_CTRL.LAST, and FW_VERIFY may mark the staged image as failed. (Counting the refusal and sending the reply, R564 and R542, come
after.) (R551, R734, spec/14_command_packets.md, spec/21_test_and_loopback.md) -/
def Obligations.RefusedCommandChangesNothing : Prop :=
  ∀ (op : Nat) (c : Cmd) (s : State), (s.checkCmd op (cmdTable op) c).status ≠ St.success →
    (op ≠ 0x0A01 → op ≠ 0x0B03 → (s.checkCmd op (cmdTable op) c).s = s) ∧
    (op = 0x0A01 → (s.checkCmd op (cmdTable op) c).s = s ∨ ∃ v, (s.checkCmd op (cmdTable op) c).s = s.fset F.TST_LB_CTRL_LAST v) ∧
    (op = 0x0B03 → (s.checkCmd op (cmdTable op) c).s = s ∨
      (s.checkCmd op (cmdTable op) c).s = (s.setCmd { s.cmd with staged := .failed }).setBit F.CMD_STATUS_FW_VERIFIED false)

/-- O26. BAD_LENGTH where the byte count is not 32 + LEN or LEN exceeds 4,096; else BAD_CRC; else BAD_VERSION; else UNKNOWN_OPCODE; else
BAD_PARAM for the header; else NOT_PERMITTED for an opcode that a host carrier may not issue; else CLAIM_STALE; else the refusals of the
mode; else the opcode's own part decides. (R541, R549, R556, R563) -/
def Obligations.CommandChecksInOrder : Prop :=
  ∀ (op : Nat) (c : Cmd) (s : State),
    (c.byteCount ≠ 32 + c.len ∨ 4096 < c.len → s.checkCmd op (cmdTable op) c = refuse St.badLength 0 s) ∧
    (c.byteCount = 32 + c.len → c.len ≤ 4096 →
      (c.crcOk op = false → s.checkCmd op (cmdTable op) c = refuse St.badCrc 0 s) ∧
      (c.crcOk op = true →
        (c.ver ≠ 1 → s.checkCmd op (cmdTable op) c = refuse St.badVersion 0 s) ∧
        (c.ver = 1 →
          (cmdTable op = none → s.checkCmd op (cmdTable op) c = refuse St.unknownOpcode 0 s) ∧
          ∀ d, cmdTable op = some d →
            (∀ off, c.headerFault (d.size c) = some off → s.checkCmd op (cmdTable op) c = refuse St.badParam off s) ∧
            (c.headerFault (d.size c) = none →
              (∀ ld, s.hostLd c = some ld → d.host = false → s.checkCmd op (cmdTable op) c = refuse St.notPermitted 0 s) ∧
              (s.hostLd c = none →
                (c.flags.getLsbD 0 = true → op ≠ 0x0601 → s.tokenOk c.token = false →
                  s.checkCmd op (cmdTable op) c = refuse St.claimStale 0 s) ∧
                (c.flags.getLsbD 0 = false ∨ op = 0x0601 ∨ s.tokenOk c.token = true →
                  (s.memActive = false → earlyOp op = false → s.checkCmd op (cmdTable op) c = refuse St.mode 0 s) ∧
                  (s.memActive = true → d.mode c s ≠ 0 → s.checkCmd op (cmdTable op) c = refuse (d.mode c s) 0 s) ∧
                  (s.memActive = true → d.mode c s = 0 → s.checkCmd op (cmdTable op) c = d.run c s)))))))

/-- O27. One increment of a counter, on every state whose register store is canonical: at its largest value nothing changes; one below, the
counter reaches it, its SAT bit is set and its source is pending where its EN is 1; lower, the counter alone rises by 1. (R18, R19) -/
def Obligations.CountersSaturate : Prop :=
  ∀ (s : State) (cnt sat : Fld) (src : Nat), swf 0 s.regs = true → cnt.key ≠ sat.key → sat.width = 1 → 1 < cnt.width →
    s.fget cnt < 2 ^ cnt.width →
    (s.fget cnt = 2 ^ cnt.width - 1 → s.bump cnt sat src = s) ∧
    (s.fget cnt + 1 = 2 ^ cnt.width - 1 →
      (s.bump cnt sat src).fget cnt = 2 ^ cnt.width - 1 ∧ (s.bump cnt sat src).bit sat = true ∧
      (s.icu.mainOff = false → s.icu.en src = true → validSource src = true → src ∈ (s.bump cnt sat src).icu.pend) ∧
      (s.icu.mainOff = false → s.icu.en src = false → (s.bump cnt sat src).icu = s.icu)) ∧
    (s.fget cnt + 1 < 2 ^ cnt.width - 1 →
      s.bump cnt sat src = s.fset cnt (s.fget cnt + 1) ∧ (s.bump cnt sat src).fget cnt = s.fget cnt + 1)

/-- O28. For n-bit values a and b and d = (b - a) mod 2^n: b is newer than a exactly when d is not 0 and below 2^(n-1); d is 0 exactly when
they are equal; at a difference of exactly half the range neither is newer; and two values are never each newer than the other. (R22) -/
def Obligations.SerialNumberOrder : Prop :=
  ∀ n a b : Nat, 0 < n → a < 2 ^ n → b < 2 ^ n →
    (newer n b a = true ↔ 0 < (b + 2 ^ n - a) % 2 ^ n ∧ (b + 2 ^ n - a) % 2 ^ n < 2 ^ (n - 1)) ∧
    ((b + 2 ^ n - a) % 2 ^ n = 0 ↔ a = b) ∧
    ((b + 2 ^ n - a) % 2 ^ n = 2 ^ (n - 1) → newer n b a = false ∧ newer n a b = false) ∧
    (newer n b a = true → newer n a b = false)

/-- O29. A hardware source's edge with the main island on, where nothing else is due: the state it answers differs in the interrupt
controller only; the source is pending if its EN is 1, even where it is active or pending already; where EN is 0 the pending bits are as
before; no source becomes active or inactive, and no configuration changes. (R601) -/
def Obligations.SourceEdgeLatches : Prop :=
  ∀ (s : State) (n : Nat), 16 < n → validSource n = true → s.mainOn = true → s.icu.mainOff = false → (s.raise n).Calm →
    exec (.sourceEdge n) s = .next (s.raise n) ∧ s.raise n = { s with icu := (s.raise n).icu } ∧
    (s.raise n).icu.pend = (if s.icu.en n then insNat n s.icu.pend else s.icu.pend) ∧
    (s.icu.en n = true → n ∈ (s.raise n).icu.pend) ∧
    (s.raise n).icu.active = s.icu.active ∧ (s.raise n).icu.cfg = s.icu.cfg ∧ (s.raise n).icu.tgt = s.icu.tgt

/-- O30. A write of ICU_SRC_CFG of a valid source with the main island on, where nothing else is due: it changes the interrupt controller
only; with EN written as 0 the source is no longer pending and every other source is as before; with EN written as 1 the pending bits are as
before; active sources stay. (R601) -/
def Obligations.SourceConfigWrite : Prop :=
  ∀ (s : State) (n : Nat) (v : Word32), validSource n = true → s.mainOn = true → (s.icuSrcCfg n v).Calm →
    exec (.icuSrcCfgWrite n v) s = .next (s.icuSrcCfg n v) ∧ s.icuSrcCfg n v = { s with icu := (s.icuSrcCfg n v).icu } ∧
    (v.getLsbD 31 = false → n ∉ (s.icuSrcCfg n v).icu.pend ∧ ∀ m, m ≠ n → (m ∈ (s.icuSrcCfg n v).icu.pend ↔ m ∈ s.icu.pend)) ∧
    (v.getLsbD 31 = true → (s.icuSrcCfg n v).icu.pend = s.icu.pend) ∧
    (s.icuSrcCfg n v).icu.active = s.icu.active ∧ (s.icuSrcCfg n v).icu.tgt = s.icu.tgt

/-- O31. A claim by target t: where the source presented to t is a candidate and t may still take it, it is returned, is active at t and no
longer pending, and nothing but the interrupt controller changes; in every other case 0 is returned, the interrupt controller keeps its
active sources, and ICU_ZERO_CLAIM_CNT rises by 1. (R608) -/
def Obligations.ClaimMakesSourceActive : Prop :=
  ∀ (s : State) (t : Nat), swf 0 s.regs = true → s.fget F.ICU_ZERO_CLAIM_CNT_VALUE + 1 < 2 ^ 32 - 1 →
    let n := sget 0 s.icu.presented t
    (n ≠ 0 → n ∈ s.icu.cand → s.icu.mayTake t n = true →
      (s.icuClaim t).1 = n ∧ (s.icuClaim t).2 = { s with icu := (s.icuClaim t).2.icu } ∧ n ∉ (s.icuClaim t).2.icu.pend ∧
      (s.icuClaim t).2.icu.active = s.icu.active ++ [(n, t)] ∧ ∀ m, m ≠ n → (m ∈ (s.icuClaim t).2.icu.pend ↔ m ∈ s.icu.pend)) ∧
    (n = 0 ∨ n ∉ s.icu.cand ∨ s.icu.mayTake t n = false →
      (s.icuClaim t).1 = 0 ∧ (s.icuClaim t).2 = s.fset F.ICU_ZERO_CLAIM_CNT_VALUE (s.fget F.ICU_ZERO_CLAIM_CNT_VALUE + 1) ∧
      (s.icuClaim t).2.fget F.ICU_ZERO_CLAIM_CNT_VALUE = s.fget F.ICU_ZERO_CLAIM_CNT_VALUE + 1)

/-- O32. A write of n to ICU_COMPLETE of target t: where n is active at t it is no longer active there and every other active source stays;
where n is not 0 and not active at t, ICU_BAD_COMPLETE_CNT rises by 1 and nothing else changes; a write of 0 changes nothing. (R609) -/
def Obligations.CompleteEndsSource : Prop :=
  ∀ (s : State) (t n : Nat), swf 0 s.regs = true → s.fget F.ICU_BAD_COMPLETE_CNT_VALUE + 1 < 2 ^ 32 - 1 →
    s.icuComplete t 0 = s ∧
    (n ≠ 0 → (n, t) ∈ s.icu.active →
      s.icuComplete t n = { s with icu := (s.icuComplete t n).icu } ∧ (n, t) ∉ (s.icuComplete t n).icu.active ∧
      (s.icuComplete t n).icu.pend = s.icu.pend ∧
      ∀ p, p ≠ (n, t) → (p ∈ (s.icuComplete t n).icu.active ↔ p ∈ s.icu.active)) ∧
    (n ≠ 0 → (n, t) ∉ s.icu.active →
      s.icuComplete t n = s.fset F.ICU_BAD_COMPLETE_CNT_VALUE (s.fget F.ICU_BAD_COMPLETE_CNT_VALUE + 1) ∧
      (s.icuComplete t n).fget F.ICU_BAD_COMPLETE_CNT_VALUE = s.fget F.ICU_BAD_COMPLETE_CNT_VALUE + 1)

/-- O33. A write by an agent that reaches the map, of a length other than 4 or 8 or not aligned to it, where nothing else is due:
GEN_IGN_WR_CNT rises by 1; if no ignored write was recorded, VALID is set with CAUSE 2 and the offset; every other register field, and
everything but the agent's snapshot and stage and the interrupt controller, is as before. (R696, R689) -/
def Obligations.IllSizedWriteIsIgnored : Prop :=
  ∀ (s : State) (ag off : Nat) (bs : List Byte), swf 0 s.regs = true → s.mapReach ag off = true → 64 ≤ ag →
    ¬ ((bs.length = 4 ∨ bs.length = 8) ∧ off % bs.length = 0) → off < 2 ^ 26 → s.fget F.GEN_IGN_WR_CNT_VALUE + 1 < 2 ^ 32 - 1 →
    (s.regWrite ag off bs).Calm →
    exec (.registerWrite ag off bs) s = .next (s.regWrite ag off bs) ∧
    s.regWrite ag off bs = { s with regs := (s.regWrite ag off bs).regs, icu := (s.regWrite ag off bs).icu, agents := (s.regWrite ag off bs).agents } ∧
    (s.regWrite ag off bs).fget F.GEN_IGN_WR_CNT_VALUE = s.fget F.GEN_IGN_WR_CNT_VALUE + 1 ∧
    (s.bit F.GEN_IGN_LAST_VALID = false →
      (s.regWrite ag off bs).bit F.GEN_IGN_LAST_VALID = true ∧ (s.regWrite ag off bs).fget F.GEN_IGN_LAST_CAUSE = 2 ∧
      (s.regWrite ag off bs).fget F.GEN_IGN_LAST_OFFSET = off) ∧
    SameFieldsBut [F.GEN_IGN_WR_CNT_VALUE, F.GEN_IGN_LAST_VALID, F.GEN_IGN_LAST_CAUSE, F.GEN_IGN_LAST_AGENT, F.GEN_IGN_LAST_OFFSET] s
      (s.regWrite ag off bs)

/-- O34. A read by an agent that reaches the map, of a width or alignment that R696 does not accept, where nothing else is due: zeros are
returned in every byte, and nothing else changes. (R696) -/
def Obligations.IllSizedReadReturnsZeros : Prop :=
  ∀ (s : State) (ag off size : Nat), s.mapReach ag off = true → 64 ≤ ag → readOk off size = false →
    (s.emit (.regData ag (List.replicate size 0) (regLat ag off))).Calm →
    exec (.readSnapshot ag off size) s = .next (s.emit (.regData ag (List.replicate size 0) (regLat ag off)))

/-- O35. A write of the stored value, the only one of its bank: when its bank is served in any later EPC cycle, it is gone without having
issued, and the cells, the counters and every other write are as before it came. A write of another value is issued then. (R660) -/
def Obligations.EqualSettingsWriteIsNotIssued : Prop :=
  ∀ (s : State) (w v n : Nat) (main : Bool), s.frozenWord w = false → v < 2 ^ 32 → (∀ x ∈ s.sets.writes, x.word % 16 ≠ w % 16) →
    epcCycle s.now < epcCycle n →
    (v = s.cell w → (({ s.queueWord w v main with now := n } : State).issueBank (w % 16)).sets = s.sets) ∧
    (v ≠ s.cell w → (⟨w, BitVec.ofNat 32 v, epcCycle s.now, main, some n⟩ : SetWrite) ∈
      (({ s.queueWord w v main with now := n } : State).issueBank (w % 16)).sets.writes)

/-- O36. The command SETTINGS_WRITE_DONE for a word whose write issued 2.1 µs ago or earlier, where the word is not frozen and nothing else
is due: the word holds the written value, its counter is 1 higher, and the cells and counters of every other word are as before. (R658,
R664) -/
def Obligations.SettingsWriteDone : Prop :=
  ∀ (s : State) (w t0 : Nat) (x : SetWrite), s.Canon → s.sets.writes.find? (fun y => y.word = w && y.issued.isSome) = some x →
    x.issued = some t0 → t0 + ns 2100 ≤ s.now → s.frozenWord w = false → (s.setWriteDone w).Calm →
    exec (.settingsWriteDone w) s = .next (s.setWriteDone w) ∧
    (s.setWriteDone w).cell w = x.value.toNat ∧ (s.setWriteDone w).wcount w = s.wcount w + 1 ∧
    (∀ u, u ≠ w → (s.setWriteDone w).cell u = s.cell u ∧ (s.setWriteDone w).wcount u = s.wcount u) ∧
    s.setWriteDone w = { s with sets := (s.setWriteDone w).sets, regs := (s.setWriteDone w).regs, icu := (s.setWriteDone w).icu }

/-- O37. RECORDER_ARM where nothing else is due: if the recorder is not armed, REC_STATUS.ARMED is set and the recorder is as new; if it is
armed, nothing changes. (R671, spec/21_test_and_loopback.md) -/
def Obligations.RecorderArmsOnce : Prop :=
  ∀ s : State, swf 0 s.regs = true →
    (s.armed = true → s.Calm → exec .recorderArm s = .next s) ∧
    (s.armed = false → (({ s with recd := Recorder.reset } : State).setBit F.REC_STATUS_ARMED true).Calm →
      exec .recorderArm s = .next (({ s with recd := Recorder.reset } : State).setBit F.REC_STATUS_ARMED true) ∧
      (({ s with recd := Recorder.reset } : State).setBit F.REC_STATUS_ARMED true).armed = true)

/-- O38. REF_CLOCK_LOSS with the main island out of reset and REF_LOST clear, where nothing else is due: REF_LOST is set, CLK_REF_LOSS_CNT
rises by 1, CLK_REF_LOST is pending where its EN is 1; no other register field and nothing else changes but the time of the loss.
REF_CLOCK_RESTORED clears REF_LOST and nothing else. (R628) -/
def Obligations.ReferenceClockLoss : Prop :=
  ∀ s : State, swf 0 s.regs = true →
    (s.clk.inReset = false → s.bit F.CLK_STATUS_REF_LOST = false → s.fget F.CLK_REF_LOSS_CNT_VALUE + 1 < 2 ^ 32 - 1 → s.refLoss.Calm →
      exec .refClockLoss s = .next s.refLoss ∧ s.refLoss.bit F.CLK_STATUS_REF_LOST = true ∧
      s.refLoss.fget F.CLK_REF_LOSS_CNT_VALUE = s.fget F.CLK_REF_LOSS_CNT_VALUE + 1 ∧
      (s.icu.mainOff = false → s.icu.en 562 = true → 562 ∈ s.refLoss.icu.pend) ∧
      SameFieldsBut [F.CLK_STATUS_REF_LOST, F.CLK_REF_LOSS_CNT_VALUE] s s.refLoss ∧
      s.refLoss = { s with regs := s.refLoss.regs, icu := s.refLoss.icu, clk := { s.clk with refLostAt := s.now } }) ∧
    ((s.setBit F.CLK_STATUS_REF_LOST false).Calm →
      exec .refClockRestored s = .next (s.setBit F.CLK_STATUS_REF_LOST false) ∧
      (s.setBit F.CLK_STATUS_REF_LOST false).bit F.CLK_STATUS_REF_LOST = false)

/-- O39. XTAL_STOP while the crystal runs, where nothing else is due: XTAL_FAIL is set and no other register field changes; CLK_XTAL_FAIL is
pending where its EN is 1 and the main island is on. XTAL_RECOVER clears XTAL_FAIL and no other field. (R629) -/
def Obligations.CrystalStopAndReturn : Prop :=
  ∀ s : State, swf 0 s.regs = true →
    (s.clk.xtalAt = 0 → s.xtalStop.Calm →
      exec .xtalStop s = .next s.xtalStop ∧ s.xtalStop.bit F.CLK_STATUS_XTAL_FAIL = true ∧
      (s.icu.mainOff = false → s.icu.en 564 = true → 564 ∈ s.xtalStop.icu.pend) ∧
      SameFieldsBut [F.CLK_STATUS_XTAL_FAIL] s s.xtalStop ∧
      s.xtalStop = { s with regs := s.xtalStop.regs, icu := s.xtalStop.icu, clk := s.xtalStop.clk }) ∧
    (s.xtalBack.Calm →
      exec .xtalRecover s = .next s.xtalBack ∧ s.xtalBack.bit F.CLK_STATUS_XTAL_FAIL = false ∧
      SameFieldsBut [F.CLK_STATUS_XTAL_FAIL] s s.xtalBack ∧
      s.xtalBack = { s with regs := s.xtalBack.regs, clk := s.xtalBack.clk })

/-- O40. After a main-island reset every register field of the main island reads its power-on value, but TST_STATUS.TAP_ACTIVE, which
follows the TAP (the model's reading, log 39); tide tables, sharers, staged copies and contexts are gone, every loop-back is off; settings
cells, their counters, the flash data and the TAP are as before. (R635, R636) -/
def Obligations.MainResetRestoresRegisters : Prop :=
  ∀ (s : State) (cause : Nat),
    (∀ f : Fld, f.lo < 64 → aonOff f.off = false → f.key ≠ F.TST_STATUS_TAP_ACTIVE.key →
      (s.mainReset cause).fget f = sget 0 mainResets f.key) ∧
    (s.mainReset cause).tide = [] ∧ (s.mainReset cause).sharers = [] ∧ (s.mainReset cause).copies = [] ∧
    (s.mainReset cause).ute = Ute.reset ∧ (s.mainReset cause).test.slots = [] ∧ (s.mainReset cause).test.tap = s.test.tap ∧
    (s.mainReset cause).sets = s.sets ∧ (s.mainReset cause).flash.data = s.flash.data ∧
    (s.mainReset cause).fget F.CLK_RESET_CAUSE_CAUSE = cause % 2 ^ F.CLK_RESET_CAUSE_CAUSE.width

/-- O41. VAON_SAMPLE of mv (16 bits), where nothing else is due: NOW is mv, MIN the smaller of mv and MIN; below 2,800 VAON_LOW is set and
EPC_VAON_LOW is pending where its EN is 1 and the main island is on; from 2,800 VAON_LOW and the interrupt controller are as before; no
other register field changes, and besides the recorder nothing else. (R437) -/
def Obligations.VaonSampleReport : Prop :=
  ∀ (s : State) (mv : Nat), swf 0 s.regs = true → mv < 2 ^ 16 → (s.vaonSample mv).Calm →
    exec (.vaonSample mv) s = .next (s.vaonSample mv) ∧ (s.vaonSample mv).fget F.EPC_VAON_NOW = mv ∧
    (s.vaonSample mv).fget F.EPC_VAON_MIN = min mv (s.fget F.EPC_VAON_MIN) ∧
    (mv < 2800 → (s.vaonSample mv).bit F.EPC_STATUS_VAON_LOW = true ∧
      (s.icu.mainOff = false → s.icu.en 439 = true → 439 ∈ (s.vaonSample mv).icu.pend)) ∧
    (2800 ≤ mv → (s.vaonSample mv).bit F.EPC_STATUS_VAON_LOW = s.bit F.EPC_STATUS_VAON_LOW ∧ (s.vaonSample mv).icu = s.icu) ∧
    SameFieldsBut [F.EPC_VAON_NOW, F.EPC_VAON_MIN, F.EPC_STATUS_VAON_LOW] s (s.vaonSample mv) ∧
    s.vaonSample mv = { s with regs := (s.vaonSample mv).regs, icu := (s.vaonSample mv).icu, recd := (s.vaonSample mv).recd }

/-- O42. HEALTH_FADE once 24 operating hours (384 sixteenths) have passed since the last, where nothing else is due: H falls by FADE ppm, no
lower than 0 and no higher than 1, and the next fade is due 24 hours later; before that nothing changes. (R414) -/
def Obligations.HealthFadesDaily : Prop :=
  ∀ s : State,
    (s.fget F.REC_HOURS_VALUE < s.epc.fadeAt + 384 → s.Calm → exec .healthFade s = .next s) ∧
    (s.epc.fadeAt + 384 ≤ s.fget F.REC_HOURS_VALUE → s.healthFade.Calm →
      exec .healthFade s = .next s.healthFade ∧
      s.healthFade.epc = { s.epc with
        fadeAt := s.epc.fadeAt + 384, soh := (s.epc.soh.add (Frac.mk' (-((s.prof 9 15 0 : Nat) : Int)) 1000000)).unit })

/-- O43. RIDE_POWER_RETURN in RIDE with the main island out of reset, where nothing else is due: PF_STATE is NORMAL, HOLD is 0, the frozen
limit is released, and no other register field changes; in any other power-fail state nothing changes. (R430) -/
def Obligations.RideEndsWithPowerBack : Prop :=
  ∀ s : State, swf 0 s.regs = true → s.clk.inReset = false →
    (s.fget F.EPC_STATUS_PF_STATE ≠ 1 → s.Calm → exec .ridePowerReturn s = .next s) ∧
    (s.fget F.EPC_STATUS_PF_STATE = 1 → s.rideReturn.Calm →
      exec .ridePowerReturn s = .next s.rideReturn ∧ s.rideReturn.fget F.EPC_STATUS_PF_STATE = 0 ∧
      s.rideReturn.bit F.EPC_DRIVE_HOLD = false ∧ SameFieldsBut [F.EPC_STATUS_PF_STATE, F.EPC_DRIVE_HOLD] s s.rideReturn ∧
      s.rideReturn = { s with regs := s.rideReturn.regs, clk := { s.clk with pfailN := true }, epc := { s.epc with frozen := false } })

/-- O44. ROW_IDLE_CLOSE of a bank with an open row unused for at least DMC_PAGE_CTRL.IDLE cycles of the DRAM clock, where nothing else is
due: that row is closed, every other bank keeps its row, and nothing else changes; a row used more recently stays open. (R323) -/
def Obligations.IdleRowCloses : Prop :=
  ∀ (s : State) (ch bank : Nat) (r : OpenRow), sget none s.dram.rows bank = some r → bank / 1024 = ch →
    (s.fget F.DMC_PAGE_CTRL_IDLE * 2000 ≤ (s.now - r.used) * s.ddrMhz → (s.rowIdle ch bank).Calm →
      exec (.rowIdleClose ch bank) s = .next (s.rowIdle ch bank) ∧
      s.rowIdle ch bank = { s with dram := { s.dram with rows := sput none s.dram.rows bank none } } ∧
      ∀ b, b ≠ bank → sget none (s.rowIdle ch bank).dram.rows b = sget none s.dram.rows b) ∧
    ((s.now - r.used) * s.ddrMhz < s.fget F.DMC_PAGE_CTRL_IDLE * 2000 → s.Calm → exec (.rowIdleClose ch bank) s = .next s)

/-- O45. DIMM_LOSS of a DIMM in service with the main island out of reset: the DIMM is among the lost ones with those lost before; the bytes
of memory and the frames of every page are as before; its DIMM_PWR bit is 0; a channel left without a DIMM is out of service; DMC_CH_DOWN of
the channel is pending where its EN is 1. (R382, R599) -/
def Obligations.DimmLossIsRecorded : Prop :=
  ∀ (s : State) (ch slot : Nat), swf 0 s.regs = true → ch < 12 → slot < s.dram.pop.dpc → slot < 2 → s.clk.inReset = false →
    ch * 2 + slot ∉ s.dram.lost →
    exec (.dimmLoss ch slot) s = .next (s.dimmLoss ch slot).settle ∧
    (∀ d, d ∈ (s.dimmLoss ch slot).dram.lost ↔ d = ch * 2 + slot ∨ d ∈ s.dram.lost) ∧
    (s.dimmLoss ch slot).dram.data = s.dram.data ∧ (s.dimmLoss ch slot).dram.frame = s.dram.frame ∧
    (s.dimmLoss ch slot).fbit (F.DMC_STATUS_DIMM_PWR ch) slot = false ∧
    ((∀ d < s.dram.pop.dpc, d = slot ∨ ch * 2 + d ∈ s.dram.lost) → (s.dimmLoss ch slot).fget (F.DMC_STATUS_STATE ch) = 4) ∧
    (s.icu.mainOff = false → s.icu.en (256 + 8 * ch) = true → 256 + 8 * ch ∈ (s.dimmLoss ch slot).icu.pend)

/-- O46. A host read of an address that maps to no region in service, from its lookup on, whatever it has waited for: poison is on its way
to the requester under its tag, RGN_UNMAPPED_CNT rises by 1, and regions, pages, the Landing and the bytes of every tier are as before. In
FULL, with a slot free for it and none of its link waiting, it goes on to its lookup at once. (R101) -/
def Obligations.UnmappedReadReturnsPoison : Prop :=
  ∀ (s : State) (r : HostRead) (at_ : Option Nat), swf 0 s.regs = true → s.aperture r.head r.ld r.pbr r.addr = none →
    s.locate r.head r.ld r.pbr r.addr = .unmapped at_ → s.fget F.RGN_UNMAPPED_CNT_VALUE + 1 < 2 ^ 32 - 1 →
    (s.takes r.head = true → s.power ≠ 2 → s.clk.move = .none → s.slotFree (r.head / 4) true = true → (∀ w ∈ s.cxl.ingress, w.head ≠ r.head) →
      exec (.hostRead r) s = .next (s.runRead (Run.start s.now) r).settle) ∧
    ∀ run : Run, run.dead = false →
      (∃ holder data due lat, (⟨r.head / 4, true, false, r.head, holder, run.since, due, some (.drs r.head r.tag data true lat)⟩ : Leaving) ∈
        (s.runRead run r).cxl.leaving) ∧
      (s.runRead run r).fget F.RGN_UNMAPPED_CNT_VALUE = s.fget F.RGN_UNMAPPED_CNT_VALUE + 1 ∧
      (s.runRead run r).rgn = s.rgn ∧ (s.runRead run r).pers = s.pers ∧ (s.runRead run r).dram.data = s.dram.data ∧
      (s.runRead run r).quay.hot = s.quay.hot ∧ (s.runRead run r).quay.staged = s.quay.staged ∧ (s.runRead run r).flash = s.flash

/-- O47. MAILBOX_UNSUPPORTED_OPCODE on the mailbox of an LD that is up and not busy, with an opcode of no set that the mailbox implements
(which opcodes those are: log 98), where nothing else is due: Unsupported is returned on that mailbox and nothing else changes. (R134) -/
def Obligations.MailboxRefusesOtherOpcodes : Prop :=
  ∀ (s : State) (ld : Nat) (op : MboxCommand), op.code ∉ ownRows ++ stdRows ++ fmRows → s.mboxUp ld = true → s.mboxBusy ld = false →
    (s.emit (.mbox ld .unsupported [])).Calm →
    exec (.mailboxUnsupportedOpcode ld op) s = .next (s.emit (.mbox ld .unsupported []))

/-- O48. LANDING_DRAIN of a line with an entry that can drain (not held, its page in DRAM and not in recovery, room in the write queues): in
DRAM each byte of the line that the mask of the entry names holds the entry's byte and every other byte of the line is as before; no byte
outside the line changes in DRAM, the Quay hot area, the staging area or flash. (R58, R57, spec/02_persistence_contract.md) -/
def Obligations.LandingDrainWritesOneLine : Prop :=
  ∀ (s : State) (line : Nat) (e : LandEntry), s.Canon →
    s.pers.landing.find? (fun x => x.line = line && !x.drained) = some e → (s.running = true ∨ s.power = 1) → s.dramBusy = false →
    e.held = false → s.dValid (line / 64) = true →
    (∀ r ∈ s.integ.recov, ¬ (r.whole = true ∧ r.page = line / 64) ∧ ¬ (r.tier = .sram ∧ r.line = line)) →
    (s.frameOf (line / 64) = 0 ∨ s.writesFull ((s.frameOf (line / 64) - 1) * 4096 + line % 64 * 64) = false) →
    (sget 0 s.quay.hotQa (line / 64) = 0 ∨ s.writesFull (hotAddr (sget 0 s.quay.hotQa (line / 64)) line) = false) →
    exec (.landingDrain line) s = .next (s.landingDrain line).settle ∧
    (∀ i < 64, memByte (s.landingDrain line).dram.data (64 * line + i) =
      if e.mask.getLsbD i then lineByte e.data i else memByte s.dram.data (64 * line + i)) ∧
    ∀ a, a / 64 ≠ line →
      memByte (s.landingDrain line).dram.data a = memByte s.dram.data a ∧ memByte (s.landingDrain line).quay.hot a = memByte s.quay.hot a ∧
      memByte (s.landingDrain line).quay.staged a = memByte s.quay.staged a ∧ memByte (s.landingDrain line).flash.data a = memByte s.flash.data a

/-- O49. For each POLY the register after any bytes, from any register value that fits, fits the width of the CRC; and running one string
after another is running both as one. (R396, R397) -/
def Obligations.CrcRegisterFitsItsWidth : Prop :=
  ∀ (p v : Nat) (a b : List Byte), v < 2 ^ (crcKind p).width →
    (crcKind p).run v a < 2 ^ (crcKind p).width ∧ (crcKind p).run v (a ++ b) = (crcKind p).run ((crcKind p).run v a) b

/-- O50. A well-formed REGION_QUERY from a management carrier, with memory active outside STANDBY, naming an entry that is not FREE:
SUCCESS, the entry of the table as its payload, the state unchanged; naming a FREE entry or one past the table: NOT_FOUND. (R541,
spec/03_regions_and_tiers.md, spec/14_command_packets.md) -/
def Obligations.RegionQueryAnswersTheEntry : Prop :=
  ∀ (s : State) (c : Cmd), c.byteCount = 32 + c.len → c.len = 4 → c.crcOk 0x0105 = true → c.ver = 1 → c.flags = 0 → c.reserved = 0 →
    s.isMgmt c.carrier = true → s.memActive = true → s.power ≠ 2 → c.fld 2 1 = 0 → c.fld 3 1 = 0 →
    (c.fld 0 2 < 4096 → (s.region (c.fld 0 2)).state ≠ .free →
      s.checkCmd 0x0105 (cmdTable 0x0105) c = Sys2Proof.Machine.done s (s.region (c.fld 0 2)).bytes16) ∧
    (4096 ≤ c.fld 0 2 ∨ (s.region (c.fld 0 2)).state = .free → s.checkCmd 0x0105 (cmdTable 0x0105) c = refuse St.notFound 0 s)

/-- O51. SHARER_IDLE_TIMEOUT of an ACTIVE sharer whose last update lies at least IDLE x 100 ms back, IDLE not 0: the sharer is DORMANT with
its table, kind, number and step as before, every other sharer is as before, TIDE_SHR_DORMANT is pending where its EN is 1; the memories of
the tiers and the Landing are as before. With IDLE 0, or an update more recent, nothing changes. (R242, R243) -/
def Obligations.IdleSharerGoesDormant : Prop :=
  ∀ (s : State) (h : Nat),
    (s.fget F.TIDE_CTRL_IDLE = 0 ∨ s.now - (s.sharer h).seen < ms (100 * s.fget F.TIDE_CTRL_IDLE) → s.Calm →
      exec (.sharerIdleTimeout h) s = .next s) ∧
    ((s.sharer h).state = .active → s.fget F.TIDE_CTRL_IDLE ≠ 0 → ms (100 * s.fget F.TIDE_CTRL_IDLE) ≤ s.now - (s.sharer h).seen →
      exec (.sharerIdleTimeout h) s = .next (s.sharerIdle h).settle ∧
      (s.sharerIdle h).sharers = sput Sharer.empty s.sharers h { s.sharer h with state := .dormant } ∧
      (s.icu.mainOff = false → s.icu.en 65 = true → 65 ∈ (s.sharerIdle h).icu.pend) ∧
      (s.sharerIdle h).dram = s.dram ∧ (s.sharerIdle h).quay = s.quay ∧ (s.sharerIdle h).flash = s.flash ∧ (s.sharerIdle h).pers = s.pers)

/-- O52. HB_PATH_LOSS of the side or the mirror path, up until now and silent for 1.0 ms, where nothing else is due: the path reads down,
TWN_HB_LOSS_CNT rises by 1, TWN_HB_PATH is pending where its EN is 1, and nothing else changes. (R458) -/
def Obligations.HeartbeatPathLoss : Prop :=
  ∀ (s : State) (side : Bool), swf 0 s.regs = true → s.clk.inReset = false →
    s.bit (if side then F.TWN_STATUS_HB_SIDE else F.TWN_STATUS_HB_MIR) = true →
    ms 1 ≤ s.now - (if side then s.twin.sideTime else s.twin.mirTime) → s.fget F.TWN_HB_LOSS_CNT_VALUE + 1 < 2 ^ 32 - 1 →
    (s.hbPathLoss side).Calm →
    exec (.hbPathLoss side) s = .next (s.hbPathLoss side) ∧
    (s.hbPathLoss side).bit (if side then F.TWN_STATUS_HB_SIDE else F.TWN_STATUS_HB_MIR) = false ∧
    (s.hbPathLoss side).fget F.TWN_HB_LOSS_CNT_VALUE = s.fget F.TWN_HB_LOSS_CNT_VALUE + 1 ∧
    (s.icu.mainOff = false → s.icu.en 450 = true → 450 ∈ (s.hbPathLoss side).icu.pend) ∧
    SameFieldsBut [if side then F.TWN_STATUS_HB_SIDE else F.TWN_STATUS_HB_MIR, F.TWN_HB_LOSS_CNT_VALUE] s (s.hbPathLoss side) ∧
    s.hbPathLoss side = { s with regs := (s.hbPathLoss side).regs, icu := (s.hbPathLoss side).icu }

/-- O53. LEASE_LAPSE_OBSERVER, where nothing else is due: 4.0 ms or more after the last RENEW that was received, the gates of the twin are
free and its sets and actuators none; before that, or when they are free already, nothing changes. (R470) -/
def Obligations.ObserverLeaseLapses : Prop :=
  ∀ s : State,
    (s.twin.peerFree = true ∨ s.now - s.twin.peerRenew < ms 4 → s.Calm → exec .leaseLapseObserver s = .next s) ∧
    (s.twin.peerFree = false → ms 4 ≤ s.now - s.twin.peerRenew →
      ({ s with twin := { s.twin with peerFree := true, peerSets := 0, peerAct := 0 } } : State).Calm →
      exec .leaseLapseObserver s = .next { s with twin := { s.twin with peerFree := true, peerSets := 0, peerAct := 0 } })

/-- O54. ETH_LINK_UP of a link that is DOWN or TRAINING, in FULL or STANDBY with the main island out of reset, where nothing else is due:
its state is UP, UTE_LINK_UP of the link is pending where its EN is 1, and nothing else changes. (R539) -/
def Obligations.EthernetLinkComesUp : Prop :=
  ∀ (s : State) (l : Nat), swf 0 s.regs = true → l < 4 → s.clk.inReset = false → (s.power = 0 ∨ s.power = 2) →
    (s.fget (F.UTE_LINK_STATUS_STATE l) = 1 ∨ s.fget (F.UTE_LINK_STATUS_STATE l) = 2) → (s.ethUp l).Calm →
    exec (.ethLinkUp l) s = .next (s.ethUp l) ∧ (s.ethUp l).fget (F.UTE_LINK_STATUS_STATE l) = 3 ∧
    (s.icu.mainOff = false → s.icu.en (96 + l) = true → 96 + l ∈ (s.ethUp l).icu.pend) ∧
    SameFieldsBut [F.UTE_LINK_STATUS_STATE l] s (s.ethUp l) ∧ s.ethUp l = { s with regs := (s.ethUp l).regs, icu := (s.ethUp l).icu }

/-- O55. MCTP_SET_ENDPOINT_ID while the carriers serve, where nothing else is due: an identifier from 8 to 254 becomes the endpoint's and is
answered; another leaves the endpoint as it is. The range and the bytes of the answers are the model's (log 42). (R543) -/
def Obligations.MctpEndpointIsSet : Prop :=
  ∀ (s : State) (eid : Nat), s.mctpUp = true →
    (8 ≤ eid → eid ≤ 254 → (s.mctpSet eid).Calm →
      exec (.mctpSetEndpointId eid) s = .next (s.mctpSet eid) ∧ (s.mctpSet eid).cmd = { s.cmd with eid := eid } ∧
      s.mctpSet eid = { s with cmd := (s.mctpSet eid).cmd, out := (s.mctpSet eid).out }) ∧
    (eid < 8 ∨ 254 < eid → (s.mctpSet eid).Calm →
      exec (.mctpSetEndpointId eid) s = .next (s.mctpSet eid) ∧ s.mctpSet eid = { s with out := (s.mctpSet eid).out })

/-- O56. WATCHDOG_KICK of core 0 to 8 with the main island out of reset, where nothing else is due: EN and PERIOD of the core hold bits 31
and 23 to 0 of the value, the period begins now, and no other core's watchdog changes. (R594) -/
def Obligations.WatchdogWriteRestartsPeriod : Prop :=
  ∀ (s : State) (k : Nat) (v : Word32), s.Canon → k ≤ 8 → s.clk.inReset = false → (s.wdogKick k v).Calm →
    exec (.watchdogKick k v) s = .next (s.wdogKick k v) ∧ (s.wdogKick k v).bit (F.CCX_WDOG_EN k) = v.getLsbD 31 ∧
    (s.wdogKick k v).fget (F.CCX_WDOG_PERIOD k) = v.toNat % 2 ^ 24 ∧
    (s.wdogKick k v).ccx = { s.ccx with cores := sput Core.empty s.ccx.cores k { s.coreAt k with kick := s.now } } ∧
    (∀ j ≤ 8, j ≠ k → (s.wdogKick k v).coreAt j = s.coreAt j ∧
      (s.wdogKick k v).fget (F.CCX_WDOG_PERIOD j) = s.fget (F.CCX_WDOG_PERIOD j)) ∧
    s.wdogKick k v = { s with regs := (s.wdogKick k v).regs, ccx := (s.wdogKick k v).ccx }

/-- O57. INTERRUPT_ENTRY of a running core whose enable is set and to which a source is presented, and INTERRUPT_RETURN of a running core,
neither waiting for a fill nor a lane of the Harbourmaster in its resynchronisation, where nothing else is due: the enable is cleared, or
set; no other part of the core, no other core and nothing of the interrupt controller changes. (R612) -/
def Obligations.InterruptEntryAndReturn : Prop :=
  ∀ (s : State) (k : Nat), s.coreRuns k = true → s.inJoin k = false → (s.coreAt k).wait = none →
    ((s.coreAt k).ie = true → sget 0 s.icu.presented k ≠ 0 → (s.putCore k { s.coreAt k with ie := false }).Calm →
      exec (.interruptEntry k) s = .next (s.putCore k { s.coreAt k with ie := false })) ∧
    ((s.putCore k { s.coreAt k with ie := true }).Calm →
      exec (.interruptReturn k) s = .next (s.putCore k { s.coreAt k with ie := true })) ∧
    ∀ b, (s.putCore k { s.coreAt k with ie := b }).ccx = { s.ccx with cores := sput Core.empty s.ccx.cores k { s.coreAt k with ie := b } } ∧
      (s.putCore k { s.coreAt k with ie := b }).icu = s.icu

/-- O58. For EXTEST, EXTEST_PULSE, EXTEST_TRAIN, HIGHZ, CLAMP, SCAN, MBIST and HBM1500, where nothing else is due: with the main island out
of reset the TAP holds BYPASS and JTAG_HELD is set; held in reset, the TAP holds the instruction and JTAG_HELD is clear; nothing but the
TAP, TAP_ACTIVE and JTAG_HELD changes. (R746) -/
def Obligations.TestInstructionsAreHeld : Prop :=
  ∀ (s : State) (c : Instr) (i : TapInstr),
    (c, i) ∈ [(Instr.jtagExtest, TapInstr.extest), (.jtagExtestPulse, .extestPulse), (.jtagExtestTrain, .extestTrain), (.jtagHighz, .highz),
      (.jtagClamp, .clamp), (.jtagScan, .scan), (.jtagMbist, .mbist), (.jtagHbm1500, .hbm1500)] →
    swf 0 s.regs = true → (s.tapTest i).Calm →
    exec c s = .next (s.tapTest i) ∧
    (s.clk.inReset = false → (s.tapTest i).test = { s.test with tap := .bypass } ∧ (s.tapTest i).bit F.TST_STATUS_JTAG_HELD = true) ∧
    (s.clk.inReset = true → (s.tapTest i).test = { s.test with tap := i } ∧ (s.tapTest i).bit F.TST_STATUS_JTAG_HELD = false) ∧
    SameFieldsBut [F.TST_STATUS_TAP_ACTIVE, F.TST_STATUS_JTAG_HELD] s (s.tapTest i) ∧
    s.tapTest i = { s with regs := (s.tapTest i).regs, test := (s.tapTest i).test }

/-- O59. JTAG_IDCODE where nothing else is due: the TAP holds IDCODE and shifts out a word whose bits 31 to 28 are 0xB, 27 to 12 are 0x6400
and 11 to 1 Obdon's code, whatever that is. (R745) -/
def Obligations.IdcodeIsShiftedOut : Prop :=
  ∀ s : State, s.tapIdcode.Calm →
    exec .jtagIdcode s = .next s.tapIdcode ∧ s.tapIdcode.test = { s.test with tap := .idcode } ∧
    (∃ w, s.tapIdcode.out = .tap w :: s.out ∧ w / 2 ^ 28 = 0xB ∧ w / 2 ^ 12 % 2 ^ 16 = 0x6400 ∧ w / 2 % 2 ^ 11 = Config.obdonCode.toNat % 2 ^ 11) ∧
    s.tapIdcode = { s with regs := s.tapIdcode.regs, test := s.tapIdcode.test, out := s.tapIdcode.out }

/-- O60. Retiring a block: from a canonical state it is bad afterwards; if it was bad already nothing changes. (R298) -/
def Obligations.RetiredBlockIsBad : Prop :=
  ∀ (s : State) (b : Nat) (src : ErrSource), s.Canon →
    ((s.retireBlock b src).block b).bad = true ∧ ((s.block b).bad = true → s.retireBlock b src = s) ∧
    ∀ x, x ≠ b → (s.retireBlock b src).block x = s.block x

end
end

