-- ==== Sys2Proof/Laws/Sparse.lean ====
section
/-! SUPPORT. Laws of the sparse tables and memories: every operation keeps the canonical form, a read after a write gives what was
written, and a write leaves every other key alone. -/
namespace Sys2Proof.Machine

variable {α : Type} {d : α}

theorem sget_nil (n : Nat) : sget d ([] : SMap α) n = d := rfl

theorem sabove_sget [DecidableEq α] {k n : Nat} (hk : n ≤ k) : ∀ (m : SMap α), swf d m = true → sabove k m = true → sget d m n = d
  | [], _, _ => rfl
  | (j, v) :: t, hw, ha => by
    simp only [sabove, decide_eq_true_eq] at ha
    simp only [swf, Bool.and_eq_true] at hw
    have : j ≠ n := by omega
    simp only [sget, if_neg this]
    exact sabove_sget (k := j) (by omega) t hw.2 hw.1.2

theorem sput_above [DecidableEq α] {k n : Nat} (h : k < n) (v : α) : ∀ (m : SMap α), swf d m = true → sabove k m = true → sabove k (sput d m n v) = true
  | [], _, _ => by by_cases hv : v = d <;> simp [sput, hv, sabove, h]
  | (j, w) :: t, hw, ha => by
    simp only [swf, Bool.and_eq_true] at hw
    simp only [sput]
    split
    · split
      · exact ha
      · simp [sabove, h]
    · split
      · split
        · have hj := hw.1.2
          simp only [sabove, decide_eq_true_eq] at ha
          cases t with
          | nil => rfl
          | cons x t => simp only [sabove, decide_eq_true_eq] at hj ⊢; omega
        · simp [sabove, h]
      · exact ha

/-- The tail of a canonical table stays above its head's key after a removal. -/
theorem sabove_trans {j k : Nat} (h : j < k) : ∀ (m : SMap α), sabove k m = true → sabove j m = true
  | [], _ => rfl
  | (i, _) :: _, ha => by simp only [sabove, decide_eq_true_eq] at ha ⊢; omega

/-- A write keeps the canonical form. -/
theorem swf_sput [DecidableEq α] (n : Nat) (v : α) : ∀ (m : SMap α), swf d m = true → swf d (sput d m n v) = true
  | [], _ => by by_cases hv : v = d <;> simp [sput, hv, swf, sabove]
  | (j, w) :: t, h => by
    have hw := h
    simp only [swf, Bool.and_eq_true, decide_eq_true_eq, ne_eq] at hw
    obtain ⟨⟨hd, ha⟩, ht⟩ := hw
    simp only [sput]
    split
    · rename_i hlt
      split
      · exact h
      · rename_i hv
        simp only [swf, Bool.and_eq_true, decide_eq_true_eq, ne_eq, sabove]
        exact ⟨⟨hv, hlt⟩, ⟨hd, ha⟩, ht⟩
    · split
      · split
        · exact ht
        · rename_i hge heq hv
          subst heq
          simp [swf, hv, ha, ht]
      · rename_i hge hne
        have hlt : j < n := by omega
        simp [swf, hd, sput_above (d := d) hlt v t ht ha, swf_sput n v t ht]

/-- A read after a write to the same key gives what was written. -/
theorem sget_sput [DecidableEq α] (n : Nat) (v : α) : ∀ (m : SMap α), swf d m = true → sget d (sput d m n v) n = v
  | [], _ => by by_cases hv : v = d <;> simp [sput, hv, sget]
  | (j, w) :: t, h => by
    have hw := h
    simp only [swf, Bool.and_eq_true, decide_eq_true_eq, ne_eq] at hw
    obtain ⟨⟨_, ha⟩, ht⟩ := hw
    simp only [sput]
    split
    · rename_i hlt
      split
      · rename_i hv
        have : j ≠ n := by omega
        simp only [sget, if_neg this, hv]
        exact sabove_sget (k := j) (by omega) t ht ha
      · simp [sget]
    · split
      · rename_i heq
        subst heq
        split
        · rename_i hv
          rw [hv]; exact sabove_sget (k := n) (Nat.le_refl _) t ht ha
        · simp [sget]
      · rename_i hge hne
        have : j ≠ n := by omega
        simp only [sget, if_neg this]
        exact sget_sput n v t ht

/-- A write leaves every other key alone. -/
theorem sget_sput_ne [DecidableEq α] {k n : Nat} (hk : k ≠ n) (v : α) : ∀ (m : SMap α), sget d (sput d m n v) k = sget d m k
  | [] => by
    by_cases hv : v = d
    · simp [sput, hv]
    · simp [sput, hv, sget, Ne.symm hk]
  | (j, w) :: t => by
    simp only [sput]
    split
    · split
      · rfl
      · simp [sget, Ne.symm hk]
    · split
      · rename_i heq
        subst heq
        split <;> simp [sget, Ne.symm hk]
      · simp only [sget]
        split
        · rfl
        · exact sget_sput_ne hk v t

theorem swf_foldl_sput [DecidableEq α] {β : Type} (f : β → Nat) (g : β → α) : ∀ (l : List β) (m : SMap α), swf d m = true →
    swf d (l.foldl (fun a x => sput d a (f x) (g x)) m) = true
  | [], _, h => h
  | x :: t, m, h => swf_foldl_sput f g t _ (swf_sput (f x) (g x) m h)

theorem swf_sputAll [DecidableEq α] (m kvs : SMap α) (h : swf d m = true) : swf d (sputAll d m kvs) = true :=
  swf_foldl_sput (fun kv : Nat × α => kv.1) (fun kv => kv.2) kvs m h

theorem sabove_filter [DecidableEq α] {k : Nat} (p : Nat × α → Bool) : ∀ (m : SMap α), swf d m = true → sabove k m = true → sabove k (m.filter p) = true
  | [], _, _ => rfl
  | (j, v) :: t, h, ha => by
    simp only [sabove, decide_eq_true_eq] at ha
    simp only [swf, Bool.and_eq_true] at h
    by_cases hp : p (j, v) = true
    · simp [List.filter, hp, sabove, ha]
    · simp only [List.filter, Bool.eq_false_iff.mpr hp]
      exact sabove_filter p t h.2 (sabove_trans ha t h.1.2)

/-- Dropping keys keeps the canonical form. -/
theorem swf_filter [DecidableEq α] (p : Nat × α → Bool) : ∀ (m : SMap α), swf d m = true → swf d (m.filter p) = true
  | [], _ => rfl
  | (j, v) :: t, h => by
    have hw := h
    simp only [swf, Bool.and_eq_true] at hw
    by_cases hp : p (j, v) = true
    · simp only [List.filter, hp, swf, Bool.and_eq_true]
      exact ⟨⟨hw.1.1, sabove_filter p t hw.2 hw.1.2⟩, swf_filter p t hw.2⟩
    · simp only [List.filter, Bool.eq_false_iff.mpr hp]
      exact swf_filter p t hw.2

theorem swf_sdrop [DecidableEq α] (p : Nat → Bool) (m : SMap α) (h : swf d m = true) : swf d (sdrop p m) = true := swf_filter _ m h

/-! ### Memories -/

theorem memPut_wf {m : SMap Byte} (a : Nat) (b : Byte) (h : Memory.wf m) : Memory.wf (memPut m a b) := swf_sput a b m h

theorem memByte_memPut {m : SMap Byte} (a : Nat) (b : Byte) (h : Memory.wf m) : memByte (memPut m a b) a = b := sget_sput a b m h

theorem memByte_memPut_ne {m : SMap Byte} {a a' : Nat} (b : Byte) (h : a' ≠ a) : memByte (memPut m a b) a' = memByte m a' :=
  sget_sput_ne h b m

theorem memPutBytes_wf : ∀ (bs : List Byte) (m : SMap Byte) (a : Nat), Memory.wf m → Memory.wf (memPutBytes m a bs)
  | [], _, _, h => h
  | b :: t, _, a, h => memPutBytes_wf t _ (a + 1) (memPut_wf a b h)

theorem memPutMasked_wf (n : Nat) (l : Line) (mask : BitVec 64) (m : SMap Byte) (h : Memory.wf m) : ∀ k, Memory.wf (memPutMasked m n l mask k)
  | 0 => h
  | k + 1 => by
    have ih := memPutMasked_wf n l mask m h k
    simp only [memPutMasked]
    split
    · exact memPut_wf _ _ ih
    · exact ih

theorem memPutLine_wf {m : SMap Byte} (n : Nat) (l : Line) (mask : BitVec 64) (h : Memory.wf m) : Memory.wf (memPutLine m n l mask) :=
  memPutMasked_wf n l mask m h 64

theorem memDropPage_wf {m : SMap Byte} (p : Nat) (h : Memory.wf m) : Memory.wf (memDropPage m p) := swf_sdrop _ m h

theorem memSetPage_wf {m : SMap Byte} (p : Nat) (pg : SMap Byte) (h : Memory.wf m) : Memory.wf (memSetPage m p pg) :=
  swf_foldl_sput (d := (0 : Byte)) (fun kv : Nat × Byte => 4096 * p + kv.1 % 4096) (fun kv => kv.2) pg _ (memDropPage_wf p h)

/-- A masked store of a line leaves every byte outside the line alone. -/
theorem memByte_memPutMasked_ne (n : Nat) (l : Line) (mask : BitVec 64) (m : SMap Byte) (a : Nat) :
    ∀ k, k ≤ 64 → a / 64 ≠ n → memByte (memPutMasked m n l mask k) a = memByte m a
  | 0, _, _ => rfl
  | k + 1, hk, ha => by
    have ih := memByte_memPutMasked_ne n l mask m a k (by omega) ha
    simp only [memPutMasked]
    split
    · rw [memByte_memPut_ne _ (by omega), ih]
    · exact ih

theorem memByte_memPutLine_ne {m : SMap Byte} {n a : Nat} (l : Line) (mask : BitVec 64) (h : a / 64 ≠ n) :
    memByte (memPutLine m n l mask) a = memByte m a := memByte_memPutMasked_ne n l mask m a 64 (Nat.le_refl _) h

/-- A store of a line writes the bytes its mask names, and no other. -/
theorem memByte_memPutMasked (n : Nat) (l : Line) (mask : BitVec 64) (m : SMap Byte) (h : Memory.wf m) (i : Nat) :
    ∀ k, k ≤ 64 → memByte (memPutMasked m n l mask k) (64 * n + i) =
      if i < k ∧ mask.getLsbD i = true then lineByte l i else memByte m (64 * n + i)
  | 0, _ => by simp [memPutMasked]
  | k + 1, hk => by
    have ih := memByte_memPutMasked n l mask m h i k (by omega)
    have hw := memPutMasked_wf n l mask m h k
    simp only [memPutMasked]
    by_cases hik : i = k
    · subst hik
      split
      · rename_i hm
        rw [memByte_memPut _ _ hw]; simp [hm]
      · rename_i hm
        rw [ih]; simp [hm]
    · split
      · rw [memByte_memPut_ne _ (by omega), ih]
        have : (i < k + 1) = (i < k) := by simp only [eq_iff_iff]; omega
        simp only [this]
      · rw [ih]
        have : (i < k + 1) = (i < k) := by simp only [eq_iff_iff]; omega
        simp only [this]

end Sys2Proof.Machine
end

