-- ==== Sys2Proof/Laws/KeepsOps.lean ====
section
/-! SUPPORT. Every operation of Flags, Ops, IcuFx, Memory, Packets, Operands, Dmc, Merge, Landing, TideOps keeps what `Keeps` says; the lemmas that
the proofs of this and the other Keeps files are made of. -/
namespace Sys2Proof.Machine
set_option Elab.async false

theorem Lasts.refl (s : State) : Lasts s s :=
  ⟨fun _ => Nat.min_le_right _ _, fun _ _ => rfl, fun _ h => h, fun _ h => h, fun _ h => h, fun _ h => h, fun _ => ⟨Nat.le_refl _, id⟩⟩
theorem Lasts.frozenWord {s t : State} (h : Lasts s t) {w : Nat} (e : s.frozenWord w = true) : t.frozenWord w = true := by
  have := h.counted w
  simp only [State.frozenWord, decide_eq_true_eq] at *
  omega
theorem Lasts.trans {a b c : State} (h : Lasts a b) (k : Lasts b c) : Lasts a c where
  counted w := by have := h.counted w; have := k.counted w; omega
  frozen w e := (k.frozen w (h.frozenWord e)).trans (h.frozen w e)
  frames x e := k.frames x (h.frames x e)
  ranks x e := k.ranks x (h.ranks x e)
  quay x e := k.quay x (h.quay x e)
  dies x e := k.dies x (h.dies x e)
  worn b := ⟨(h.worn b).1.trans (k.worn b).1, fun e => (k.worn b).2 ((h.worn b).2 e)⟩

theorem Keeps.refl (s : State) : Keeps s s := ⟨rfl, Nat.le_refl _, Nat.le_refl _, List.suffix_refl _, id, fun _ => Lasts.refl s⟩
theorem Keeps.trans {a b c : State} (h : Keeps a b) (k : Keeps b c) : Keeps a c :=
  ⟨k.pending.trans h.pending, Nat.le_trans h.now k.now, Nat.le_trans h.fresh k.fresh, h.out.trans k.out, fun x => k.canon (h.canon x),
    fun x => (h.lasts x).trans (k.lasts (h.canon x))⟩

theorem keeps_ite {a s t : State} {c : Prop} [Decidable c] (hs : Keeps a s) (ht : Keeps a t) : Keeps a (if c then s else t) := by
  split <;> assumption
theorem keeps_ite2 {γ : Type} {a : State} {p q : γ × State} {c : Prop} [Decidable c] (hs : Keeps a p.2) (ht : Keeps a q.2) :
    Keeps a (if c then p else q).2 := by split <;> assumption
theorem keeps_iteS {a : State} {p q : CmdRes} {c : Prop} [Decidable c] (hs : Keeps a p.s) (ht : Keeps a q.s) :
    Keeps a (if c then p else q).s := by split <;> assumption
theorem keeps_of_eq {γ : Type} {a t : State} {p : γ × State} {v : γ} (e : p = (v, t)) (h : Keeps a p.2) : Keeps a t := by subst e; exact h
theorem keeps_foldl {β : Type} {a s : State} {f : State → β → State} {l : List β} (h : Keeps a s)
    (hf : ∀ t x, Keeps a t → Keeps a (f t x)) : Keeps a (l.foldl f s) := by
  induction l generalizing s with
  | nil => exact h
  | cons x l ih => exact ih (hf _ _ h)
theorem keeps_foldlFun {β γ : Type} {a : State} {s : γ × State} {f : γ × State → β → γ × State} {l : List β} (h : Keeps a s.2)
    (hf : ∀ t x, Keeps a t.2 → Keeps a (f t x).2) : Keeps a (l.foldl f s).2 := by
  induction l generalizing s with
  | nil => exact h
  | cons x l ih => exact ih (hf _ _ h)

theorem Icu.route_wf {c : Icu} (h : c.Wf) : c.route.Wf := ⟨h.pend, h.active, h.once⟩
theorem Icu.pendIn_wf {c : Icu} {l : List Nat} (h : c.Wf) (hl : ∀ n ∈ l, validSource n = true) : { c with pend := l }.Wf :=
  ⟨hl, h.active, h.once⟩
theorem mem_insNat_inv {n x : Nat} : ∀ {l : List Nat}, x ∈ insNat n l → x = n ∨ x ∈ l
  | [], h => by simpa [insNat] using h
  | k :: t, h => by
    unfold insNat at h
    split at h
    · simpa using h
    · split at h
      · exact .inr h
      · rcases List.mem_cons.1 h with h | h
        · exact .inr (h ▸ List.mem_cons_self)
        · rcases mem_insNat_inv h with h | h
          · exact .inl h
          · exact .inr (List.mem_cons_of_mem _ h)
theorem insNat_valid {n : Nat} {l : List Nat} (hn : validSource n = true) (hl : ∀ x ∈ l, validSource x = true) :
    ∀ x ∈ insNat n l, validSource x = true := fun x hx => by
  rcases mem_insNat_inv hx with rfl | h
  · exact hn
  · exact hl x h
theorem Icu.edge_wf {c : Icu} (n : Nat) (h : c.Wf) : (c.edge n).Wf := by
  unfold Icu.edge
  split
  · unfold Icu.watch
    split
    · exact h
    · exact ⟨h.pend, h.active, h.once⟩
  · split
    · rename_i e
      simp only [Bool.and_eq_true] at e
      exact Icu.route_wf (Icu.pendIn_wf h (insNat_valid e.2 h.pend))
    · exact h

theorem Icu.wf_nil {c : Icu} (hp : c.pend = []) (ha : c.active = []) : c.Wf :=
  ⟨by rw [hp]; simp, by rw [ha]; simp, by rw [ha]; simp⟩
theorem Icu.main_wf {c : Icu} (h : c.Wf) : c.main.Wf := by
  unfold Icu.main
  split
  · exact h
  · exact Icu.wf_nil rfl rfl

theorem wf_memPutLine {m : SMap Byte} {n : Nat} {l : Line} {k : BitVec 64} (h : Memory.wf m) : Memory.wf (memPutLine m n l k) := memPutLine_wf n l k h
theorem wf_memSetPage {m : SMap Byte} {p : Nat} {g : SMap Byte} (h : Memory.wf m) : Memory.wf (memSetPage m p g) := memSetPage_wf p g h
theorem wf_memDropPage {m : SMap Byte} {p : Nat} (h : Memory.wf m) : Memory.wf (memDropPage m p) := memDropPage_wf p h
theorem wf_sput {m : SMap Nat} {n v : Nat} (h : swf 0 m = true) : swf 0 (sput 0 m n v) = true := swf_sput n v m h
theorem mem_insNat {n x : Nat} : ∀ {l : List Nat}, x = n ∨ x ∈ l → x ∈ insNat n l
  | [], h => by simpa [insNat] using h
  | k :: t, h => by
    unfold insNat
    split
    · simpa using h
    · split
      · rename_i e; subst e; simpa using h
      · rcases h with h | h
        · exact List.mem_cons_of_mem _ (mem_insNat (.inl h))
        · rcases List.mem_cons.1 h with h | h
          · exact h ▸ List.mem_cons_self
          · exact List.mem_cons_of_mem _ (mem_insNat (.inr h))
theorem grows_insNat {n : Nat} {l : List Nat} : ∀ x ∈ l, x ∈ insNat n l := fun _ h => mem_insNat (.inr h)

/-- A state that differs in other fields, and in these only by what keeps them. -/
theorem keeps_updN {a s : State} {n f : Nat} {r : SMap Nat} {icu pers rgn cxl tide entries sharers copies} {fl : Flash} {dr : Dram} {qu : Quay}
    {ig : Integ} {epc twin ute cmd ccx clk agents test} {se : Settings} {recd} (h : Keeps a s)
    (hr : swf 0 s.regs = true → swf 0 r = true := by exact id)
    (hd : Memory.wf s.dram.data → Memory.wf dr.data := by exact id) (hh : Memory.wf s.quay.hot → Memory.wf qu.hot := by exact id)
    (hs : Memory.wf s.quay.staged → Memory.wf qu.staged := by exact id) (hf : Memory.wf s.flash.data → Memory.wf fl.data := by exact id)
    (hl : Memory.wf s.flash.loftData → Memory.wf fl.loftData := by exact id)
    (hn : s.now ≤ n := by exact Nat.le_refl _) (hfr : s.fresh ≤ f := by exact Nat.le_refl _)
    (h1 : ∀ x ∈ s.dram.retired, x ∈ dr.retired := by exact fun _ => id) (h2 : ∀ x ∈ s.dram.retiredRanks, x ∈ dr.retiredRanks := by exact fun _ => id)
    (h3 : ∀ x ∈ s.integ.quayRetired, x ∈ ig.quayRetired := by exact fun _ => id)
    (h4 : ∀ x ∈ s.flash.deadDies, x ∈ fl.deadDies := by exact fun _ => id) (h5 : fl.blocks = s.flash.blocks := by exact rfl)
    (h6 : se.cells = s.sets.cells := by exact rfl) (h7 : se.counts = s.sets.counts := by exact rfl)
    (hi : s.icu.Wf → icu.Wf := by exact id) :
    Keeps a (State.mk n f r icu s.out pers rgn cxl tide entries sharers copies fl dr qu ig epc twin ute cmd ccx clk agents
      test se recd s.pending) := by
  refine h.trans ⟨rfl, hn, hfr, List.suffix_refl _, fun x => ?_, fun _ => ⟨?_, ?_, h1, h2, h3, h4, ?_⟩⟩
  · exact ⟨hr x.regs, h6 ▸ x.cells, h7 ▸ x.counts, h5 ▸ x.blocks, hd x.dram, hh x.hot, hs x.staged, hf x.flash, hl x.loft, hi x.icu⟩
  · exact fun w => by simp only [State.wcount, h7]; omega
  · exact fun w _ => by simp only [State.cell, h6]
  · exact fun b => by simp only [State.block, h5]; exact ⟨Nat.le_refl _, id⟩
/-- The same without time or free values. -/
theorem keeps_upd {a s : State} {r : SMap Nat} {icu pers rgn cxl tide entries sharers copies} {fl : Flash} {dr : Dram} {qu : Quay}
    {ig : Integ} {epc twin ute cmd ccx clk agents test} {se : Settings} {recd} (h : Keeps a s)
    (hr : swf 0 s.regs = true → swf 0 r = true := by exact id)
    (hd : Memory.wf s.dram.data → Memory.wf dr.data := by exact id) (hh : Memory.wf s.quay.hot → Memory.wf qu.hot := by exact id)
    (hs : Memory.wf s.quay.staged → Memory.wf qu.staged := by exact id) (hf : Memory.wf s.flash.data → Memory.wf fl.data := by exact id)
    (hl : Memory.wf s.flash.loftData → Memory.wf fl.loftData := by exact id)
    (h1 : ∀ x ∈ s.dram.retired, x ∈ dr.retired := by exact fun _ => id) (h2 : ∀ x ∈ s.dram.retiredRanks, x ∈ dr.retiredRanks := by exact fun _ => id)
    (h3 : ∀ x ∈ s.integ.quayRetired, x ∈ ig.quayRetired := by exact fun _ => id)
    (h4 : ∀ x ∈ s.flash.deadDies, x ∈ fl.deadDies := by exact fun _ => id) (h5 : fl.blocks = s.flash.blocks := by exact rfl)
    (h6 : se.cells = s.sets.cells := by exact rfl) (h7 : se.counts = s.sets.counts := by exact rfl)
    (hi : s.icu.Wf → icu.Wf := by exact id) :
    Keeps a (State.mk s.now s.fresh r icu s.out pers rgn cxl tide entries sharers copies fl dr qu ig epc twin ute cmd ccx clk agents
      test se recd s.pending) :=
  keeps_updN h hr hd hh hs hf hl (Nat.le_refl _) (Nat.le_refl _) h1 h2 h3 h4 h5 h6 h7 hi
/-- More has been sent. -/
theorem keeps_sent {a s : State} {o : List Out} (h : Keeps a s) (ho : s.out <:+ o) : Keeps a { s with out := o } :=
  h.trans ⟨rfl, Nat.le_refl _, Nat.le_refl _, ho, fun x => ⟨x.regs, x.cells, x.counts, x.blocks, x.dram, x.hot, x.staged, x.flash,
    x.loft, x.icu⟩, fun _ => ⟨(Lasts.refl s).counted, (Lasts.refl s).frozen, fun _ => id, fun _ => id, fun _ => id,
    fun _ => id, (Lasts.refl s).worn⟩⟩
/-- A block changes, its wear not falling and a bad one staying bad. -/
theorem keeps_block {a s : State} {b : Nat} {x : Block} (h : Keeps a s) (hw : (s.block b).wear ≤ x.wear)
    (hb : (s.block b).bad = true → x.bad = true) : Keeps a (s.setBlock b x) := by
  refine h.trans ⟨rfl, Nat.le_refl _, Nat.le_refl _, List.suffix_refl _, fun x => ?_, fun k => ⟨(Lasts.refl s).counted, (Lasts.refl s).frozen,
    fun _ => id, fun _ => id, fun _ => id, fun _ => id, fun c => ?_⟩⟩
  · exact ⟨x.regs, x.cells, x.counts, swf_sput _ _ _ x.blocks, x.dram, x.hot, x.staged, x.flash, x.loft, x.icu⟩
  · by_cases e : c = b
    · subst e
      have : (s.setBlock c x).block c = x := sget_sput _ _ _ k.blocks
      rw [this]; exact ⟨hw, hb⟩
    · have : (s.setBlock b x).block c = s.block c := sget_sput_ne e _ _
      rw [this]; exact ⟨Nat.le_refl _, id⟩

/-! ### Flags.lean -/

theorem State.fset_keeps {a s : State} (x2 : _) (x3 : _) (h : Keeps a s) : Keeps a (State.fset s x2 x3) := by
  unfold State.fset
  refine keeps_updN ?_ (hr := ?_)
  · assumption
  · exact wf_sput
theorem State.setBit_keeps {a s : State} (x2 : _) (x3 : _) (h : Keeps a s) : Keeps a (State.setBit s x2 x3) := by
  unfold State.setBit
  exact State.fset_keeps _ _ (by assumption)
theorem State.emit_keeps {a s : State} (o : _) (h : Keeps a s) : Keeps a (s.emit o) := keeps_sent h (List.suffix_cons _ _)

theorem State.raise_keeps {a s : State} (n : _) (h : Keeps a s) : Keeps a (State.raise s n) := keeps_upd h (hi := Icu.edge_wf n)

theorem State.bump_keeps {a s : State} (x2 : _) (x3 : _) (x4 : _) (h : Keeps a s) : Keeps a (State.bump s x2 x3 x4) := by
  unfold State.bump
  extract_lets +onlyGivenNames v1
  clear_value v1
  extract_lets +onlyGivenNames v2
  clear_value v2
  refine keeps_ite ?_ ?_
  · assumption
  · refine keeps_ite ?_ ?_
    · exact State.raise_keeps _ (State.setBit_keeps _ _ (State.fset_keeps _ _ (by assumption)))
    · exact State.fset_keeps _ _ (by assumption)
theorem State.bumpQuiet_keeps {a s : State} (x2 : _) (h : Keeps a s) : Keeps a (State.bumpQuiet s x2) := by
  unfold State.bumpQuiet
  extract_lets +onlyGivenNames v1
  clear_value v1
  refine keeps_ite ?_ ?_
  · assumption
  · exact State.fset_keeps _ _ (by assumption)
theorem State.free_keeps {a s : State} (n : _) (h : Keeps a s) : Keeps a (s.free n).2 := keeps_updN h (hfr := Nat.le_succ _)

theorem State.bothPhases_keeps {a s : State} (h : Keeps a s) : Keeps a s.bothPhases := keeps_updN h (hfr := Nat.le_add_right _ _)

/-! ### Ops.lean -/

theorem State.setFbit_keeps {a s : State} (x2 : _) (x3 : _) (x4 : _) (h : Keeps a s) : Keeps a (State.setFbit s x2 x3 x4) := by
  unfold State.setFbit
  exact State.fset_keeps _ _ (by assumption)
theorem State.bumpAt_keeps {a s : State} (x2 : _) (x3 : _) (x4 : _) (x5 : _) (h : Keeps a s) : Keeps a (State.bumpAt s x2 x3 x4 x5) := by
  unfold State.bumpAt
  extract_lets +onlyGivenNames v1
  clear_value v1
  extract_lets +onlyGivenNames v2
  clear_value v2
  refine keeps_ite ?_ ?_
  · assumption
  · refine keeps_ite ?_ ?_
    · exact State.raise_keeps _ (State.setFbit_keeps _ _ _ (State.fset_keeps _ _ (by assumption)))
    · exact State.fset_keeps _ _ (by assumption)
theorem State.setRegime_keeps {a s : State} (x2 : _) (h : Keeps a s) : Keeps a (State.setRegime s x2) := by
  unfold State.setRegime
  refine keeps_ite ?_ ?_
  · assumption
  · exact State.raise_keeps _ (State.fset_keeps _ _ (by assumption))
theorem State.putRegion_keeps {a s : State} (x2 : _) (x3 : _) (h : Keeps a s) : Keeps a (State.putRegion s x2 x3) := by
  unfold State.putRegion
  extract_lets +onlyGivenNames v1
  clear_value v1
  exact State.fset_keeps _ _ (keeps_upd (by assumption))
theorem State.setRegion_keeps {a s : State} (x2 : _) (x3 : _) (h : Keeps a s) : Keeps a (State.setRegion s x2 x3) := by
  unfold State.setRegion
  extract_lets +onlyGivenNames v1
  have h2 : Keeps a v1 := by
    unfold v1
    exact State.putRegion_keeps _ _ (by assumption)
  clear_value v1
  refine keeps_ite ?_ ?_
  · exact keeps_upd (by assumption)
  · assumption
theorem State.setRState_keeps {a s : State} (x2 : _) (x3 : _) (h : Keeps a s) : Keeps a (State.setRState s x2 x3) := by
  unfold State.setRState
  exact State.raise_keeps _ (State.setRegion_keeps _ _ (by assumption))
theorem State.record_keeps {a s : State} (x2 : _) (x3 : _) (x4 : _) (h : Keeps a s) : Keeps a (State.record s x2 x3 x4) := by
  unfold State.record
  extract_lets +onlyGivenNames v1
  clear_value v1
  refine keeps_ite ?_ ?_
  · extract_lets +onlyGivenNames v2
    clear_value v2
    extract_lets +onlyGivenNames v3
    clear_value v3
    extract_lets +onlyGivenNames v4
    clear_value v4
    extract_lets +onlyGivenNames v5
    have h6 : Keeps a v5 := by
      unfold v5
      exact keeps_upd (by assumption)
    clear_value v5
    refine keeps_ite ?_ ?_
    · exact State.emit_keeps _ (by assumption)
    · assumption
  · extract_lets +onlyGivenNames v7
    clear_value v7
    exact keeps_upd (by assumption)
theorem State.recordAll_keeps {a s : State} (x2 : _) (x3 : _) (x4 : _) (h : Keeps a s) : Keeps a (State.recordAll s x2 x3 x4) := by
  unfold State.recordAll
  refine keeps_foldl ?_ ?_
  · assumption
  · intro u1 u2 u3
    beta_reduce
    exact State.record_keeps _ _ _ (by assumption)
theorem State.setPage_keeps {a s : State} (x2 : _) (x3 : _) (h : Keeps a s) : Keeps a (State.setPage s x2 x3) := by
  unfold State.setPage
  exact keeps_upd (by assumption)
theorem State.touch_keeps {a s : State} (x2 : _) (h : Keeps a s) : Keeps a (State.touch s x2) := by
  unfold State.touch
  extract_lets +onlyGivenNames v1
  clear_value v1
  extract_lets +onlyGivenNames v2
  clear_value v2
  extract_lets +onlyGivenNames v3
  clear_value v3
  extract_lets +onlyGivenNames v4
  have h5 : Keeps a v4 := by
    unfold v4
    exact keeps_upd (by assumption)
  clear_value v4
  refine keeps_ite ?_ ?_
  · extract_lets +onlyGivenNames v6
    clear_value v6
    exact State.setPage_keeps _ _ (by assumption)
  · assumption
theorem State.countCe_keeps {a s : State} (x2 : _) (h : Keeps a s) : Keeps a (State.countCe s x2) := by
  unfold State.countCe
  extract_lets +onlyGivenNames v1
  have h2 : Keeps a v1 := by
    unfold v1
    exact State.bumpAt_keeps _ _ _ _ (by assumption)
  clear_value v1
  exact keeps_upd (by assumption)
theorem State.countUe_keeps {a s : State} (x2 : _) (h : Keeps a s) : Keeps a (State.countUe s x2) := by
  unfold State.countUe
  extract_lets +onlyGivenNames v1
  have h2 : Keeps a v1 := by
    unfold v1
    exact State.bumpAt_keeps _ _ _ _ (by assumption)
  clear_value v1
  exact keeps_upd (by assumption)
theorem State.syncPoison_keeps {a s : State} (x2 : _) (h : Keeps a s) : Keeps a (State.syncPoison s x2) := by
  unfold State.syncPoison
  extract_lets +onlyGivenNames v1
  clear_value v1
  extract_lets +onlyGivenNames v2
  clear_value v2
  extract_lets +onlyGivenNames v3
  have h4 : Keeps a v3 := by
    unfold v3
    exact State.setPage_keeps _ _ (by assumption)
  clear_value v3
  extract_lets +onlyGivenNames v5
  clear_value v5
  refine keeps_ite ?_ ?_
  · extract_lets +onlyGivenNames v6
    clear_value v6
    exact State.fset_keeps _ _ (keeps_upd (by assumption))
  · refine keeps_ite ?_ ?_
    · extract_lets +onlyGivenNames v7
      clear_value v7
      exact State.fset_keeps _ _ (keeps_upd (by assumption))
    · refine keeps_ite ?_ ?_
      · assumption
      · exact State.raise_keeps _ (State.setBit_keeps _ _ (by assumption))
theorem State.poisonLine_keeps {a s : State} (x2 : _) (h : Keeps a s) : Keeps a (State.poisonLine s x2) := by
  unfold State.poisonLine
  refine keeps_ite ?_ ?_
  · assumption
  · extract_lets +onlyGivenNames v1
    extract_lets +onlyGivenNames v2
    have h3 : Keeps a v2 := by
      unfold v2
      exact keeps_upd (by assumption)
    clear_value v2
    exact State.syncPoison_keeps _ (State.raise_keeps _ (State.bump_keeps _ _ _ (by assumption)))
theorem State.poisonLines_keeps {a s : State} (x2 : _) (h : Keeps a s) : Keeps a (State.poisonLines s x2) := by
  unfold State.poisonLines
  refine keeps_foldl ?_ ?_
  · assumption
  · intro u1 u2 u3
    beta_reduce
    exact State.poisonLine_keeps _ (by assumption)
theorem State.unpoisonLine_keeps {a s : State} (x2 : _) (h : Keeps a s) : Keeps a (State.unpoisonLine s x2) := by
  unfold State.unpoisonLine
  refine keeps_ite ?_ ?_
  · assumption
  · exact State.syncPoison_keeps _ (keeps_upd (by assumption))
theorem State.unpoisonPage_keeps {a s : State} (x2 : _) (h : Keeps a s) : Keeps a (State.unpoisonPage s x2) := by
  unfold State.unpoisonPage
  refine keeps_ite ?_ ?_
  · assumption
  · exact State.syncPoison_keeps _ (keeps_upd (by assumption))
theorem State.pushErr_keeps {a s : State} (x2 : _) (h : Keeps a s) : Keeps a (State.pushErr s x2) := by
  unfold State.pushErr
  extract_lets +onlyGivenNames v1
  clear_value v1
  extract_lets +onlyGivenNames v2
  extract_lets +onlyGivenNames v3
  have h4 : Keeps a v3 := by
    unfold v3
    exact keeps_upd (by assumption)
  clear_value v3
  extract_lets +onlyGivenNames v5
  have h6 : Keeps a v5 := by
    unfold v5
    exact State.fset_keeps _ _ (State.fset_keeps _ _ (by assumption))
  clear_value v5
  refine keeps_ite ?_ ?_
  · exact State.raise_keeps _ (State.setBit_keeps _ _ (by assumption))
  · assumption
theorem State.logErr_keeps {a s : State} (x2 : _) (x3 : _) (x4 : _) (x5 : _) (x6 : _) (x7 : _) (x8 : _) (h : Keeps a s) : Keeps a (State.logErr s x2 x3 x4 x5 x6 x7 x8) := by
  unfold State.logErr
  extract_lets +onlyGivenNames v1
  clear_value v1
  extract_lets +onlyGivenNames v2
  have h3 : Keeps a v2 := by
    unfold v2
    refine keeps_ite ?_ ?_
    · exact State.raise_keeps _ (by assumption)
    · assumption
  clear_value v2
  extract_lets +onlyGivenNames v4
  clear_value v4
  refine keeps_ite ?_ ?_
  · assumption
  · split
    · exact keeps_upd (by assumption)
    · refine keeps_ite ?_ ?_
      · exact State.pushErr_keeps _ (by assumption)
      · split
        · exact State.fset_keeps _ _ (keeps_upd (by assumption))
        · exact State.bump_keeps _ _ _ (by assumption)
/-! ### IcuFx.lean -/

theorem State.setIcu_keeps {a s : State} (c : _) (h : Keeps a s) (hi : s.icu.Wf → c.Wf := by first | exact id | exact Icu.main_wf) : Keeps a (State.setIcu s c) :=
  keeps_upd h (hi := hi)

theorem State.sourceEdge_keeps {a s : State} (x2 : _) (h : Keeps a s) : Keeps a (State.sourceEdge s x2) := by
  unfold State.sourceEdge
  refine keeps_ite ?_ ?_
  · assumption
  · exact State.raise_keeps _ (by assumption)
theorem State.icuClaim_keeps {a s : State} (t : _) (h : Keeps a s) : Keeps a (State.icuClaim s t).2 := by
  unfold State.icuClaim
  extract_lets +onlyGivenNames n
  split
  · rename_i e
    refine State.setIcu_keeps _ h fun w => Icu.route_wf ?_
    have hc : n ∈ s.icu.cand := by simp only [Bool.and_eq_true] at e; simpa using e.1.2
    have hp := List.mem_filter.1 hc
    refine ⟨fun x hx => w.pend x (List.mem_filter.1 hx).1, fun p hp' => ?_, ?_⟩
    · rcases List.mem_append.1 hp' with h1 | h1
      · exact w.active p h1
      · rw [List.mem_singleton] at h1; subst h1; exact w.pend _ hp.1
    · have hna : n ∉ s.icu.active.map (·.1) := by
        have h2 := hp.2
        simp only [Icu.isActive, Bool.and_eq_true, Bool.not_eq_true', List.any_eq_false] at h2
        intro hm
        obtain ⟨p, hp1, hp2⟩ := List.mem_map.1 hm
        exact absurd (by simpa using hp2) (h2.1 p hp1)
      rw [List.map_append]
      refine List.Nodup.append w.once (List.nodup_singleton _) ?_
      simpa [List.disjoint_singleton] using hna
  · exact State.bump_keeps _ _ _ h

theorem State.icuComplete_keeps {a s : State} (t n : _) (h : Keeps a s) : Keeps a (State.icuComplete s t n) := by
  unfold State.icuComplete
  refine keeps_ite h (keeps_ite ?_ (State.bump_keeps _ _ _ h))
  refine State.setIcu_keeps _ h fun w => Icu.route_wf ⟨w.pend, fun p hp => w.active p (List.mem_filter.1 hp).1, ?_⟩
  exact w.once.sublist (List.Sublist.map _ List.filter_sublist)

theorem State.icuPendSet_keeps {a s : State} (n : _) (h : Keeps a s) : Keeps a (State.icuPendSet s n) := by
  unfold State.icuPendSet
  split
  · exact h
  · rename_i e
    exact State.setIcu_keeps _ h fun w => Icu.route_wf (Icu.pendIn_wf w (insNat_valid (by simpa using e) w.pend))

theorem State.icuPendClr_keeps {a s : State} (n : _) (h : Keeps a s) : Keeps a (State.icuPendClr s n) := by
  unfold State.icuPendClr
  exact State.setIcu_keeps _ h fun w => Icu.route_wf (Icu.pendIn_wf w fun x hx => w.pend x (List.mem_filter.1 hx).1)

theorem State.icuSrcCfg_keeps {a s : State} (n v : _) (h : Keeps a s) : Keeps a (State.icuSrcCfg s n v) := by
  unfold State.icuSrcCfg
  refine keeps_ite h (State.setIcu_keeps _ h fun w => Icu.route_wf ⟨fun x hx => ?_, w.active, w.once⟩)
  simp only at hx
  split at hx
  · exact w.pend x hx
  · exact w.pend x (List.mem_filter.1 hx).1

theorem State.icuTgtCtrl_keeps {a s : State} (t v : _) (h : Keeps a s) : Keeps a (State.icuTgtCtrl s t v) := by
  unfold State.icuTgtCtrl
  exact State.setIcu_keeps _ h fun w => Icu.route_wf ⟨w.pend, w.active, w.once⟩

theorem foldl_insNat_valid {p : Nat → Bool} {l m : List Nat} (hl : ∀ x ∈ l, p x = true) (hm : ∀ x ∈ m, p x = true) :
    ∀ x ∈ m.foldl (fun l n => insNat n l) l, p x = true := by
  induction m generalizing l with
  | nil => exact hl
  | cons k m ih =>
    refine ih (fun x hx => ?_) fun x hx => hm x (List.mem_cons_of_mem _ hx)
    rcases mem_insNat_inv hx with rfl | h
    · exact hm _ List.mem_cons_self
    · exact hl x h
theorem State.setCore_keeps {a s : State} (k st : _) (h : Keeps a s) : Keeps a (State.setCore s k st) := by
  unfold State.setCore
  extract_lets +onlyGivenNames t mine stop c
  have ht : Keeps a t := State.fset_keeps _ _ h
  refine State.setIcu_keeps _ ht fun w => Icu.route_wf ⟨fun x hx => ?_, fun p hp => ?_, ?_⟩
  · simp only [c] at hx
    split at hx
    · refine foldl_insNat_valid w.pend (fun y hy => ?_) x hx
      obtain ⟨p, hp1, rfl⟩ := List.mem_map.1 hy
      exact w.active p (List.mem_filter.1 hp1).1
    · exact w.pend x hx
  · simp only [c] at hp
    split at hp
    · exact w.active p (List.mem_filter.1 hp).1
    · exact w.active p hp
  · simp only [c]
    split
    · exact w.once.sublist (List.Sublist.map _ List.filter_sublist)
    · exact w.once

theorem State.watchOn_keeps {a s : State} (h : Keeps a s) : Keeps a (State.watchOn s) := by
  unfold State.watchOn
  exact State.setIcu_keeps _ h fun _ => Icu.wf_nil rfl rfl

theorem State.watchEdge_keeps {a s : State} (x2 : _) (h : Keeps a s) : Keeps a (State.watchEdge s x2) := by
  unfold State.watchEdge
  refine keeps_ite ?_ ?_
  · exact State.raise_keeps _ (by assumption)
  · assumption
theorem State.watchOff_keeps {a s : State} (h : Keeps a s) : Keeps a (State.watchOff s) := by
  unfold State.watchOff
  extract_lets +onlyGivenNames hit srcs srcs' c
  refine State.setIcu_keeps _ h fun w => Icu.route_wf ⟨fun x hx => foldl_insNat_valid w.pend (fun y hy => ?_) x hx, w.active, w.once⟩
  have hs : ∀ y ∈ srcs, validSource y = true := fun y hy => (List.mem_filter.1 hy).2
  simp only [srcs'] at hy
  split at hy
  · rcases List.mem_append.1 hy with h1 | h1
    · exact hs y h1
    · rw [List.mem_singleton] at h1; subst h1; rfl
  · exact hs y hy

/-! ### Memory.lean -/

theorem State.setSub_keeps {a s : State} (x2 : _) (x3 : _) (h : Keeps a s) : Keeps a (State.setSub s x2 x3) := by
  unfold State.setSub
  refine keeps_ite ?_ ?_
  · exact keeps_upd (by assumption)
  · exact keeps_upd (by assumption)
theorem State.dramAccess_keeps {a s : State} (x2 : _) (h : Keeps a s) : Keeps a (State.dramAccess s x2).2 := by
  unfold State.dramAccess
  extract_lets +onlyGivenNames v1
  clear_value v1
  extract_lets +onlyGivenNames v2
  clear_value v2
  extract_lets +onlyGivenNames v3
  clear_value v3
  extract_lets +onlyGivenNames v4
  clear_value v4
  extract_lets +onlyGivenNames v5
  clear_value v5
  dsimp only
  exact keeps_upd (by assumption)
theorem State.quayAccess_keeps {a s : State} (x2 : _) (h : Keeps a s) : Keeps a (State.quayAccess s x2).2 := by
  unfold State.quayAccess
  extract_lets +onlyGivenNames v1
  clear_value v1
  extract_lets +onlyGivenNames v2
  clear_value v2
  extract_lets +onlyGivenNames v3
  clear_value v3
  extract_lets +onlyGivenNames v4
  clear_value v4
  dsimp only
  exact keeps_upd (by assumption)
theorem State.access_keeps {a s : State} (x2 : _) (h : Keeps a s) : Keeps a (State.access s x2).2 := by
  unfold State.access
  refine keeps_ite2 ?_ ?_
  · extract_lets +onlyGivenNames v1
    have h2 : Keeps a v1.2 := by
      unfold v1
      exact State.quayAccess_keeps _ (by assumption)
    clear_value v1
    assumption
  · extract_lets +onlyGivenNames v3
    have h4 : Keeps a v3.2 := by
      unfold v3
      exact State.dramAccess_keeps _ (by assumption)
    clear_value v3
    assumption
theorem State.setFrame_keeps {a s : State} (x2 : _) (x3 : _) (h : Keeps a s) : Keeps a (State.setFrame s x2 x3) := by
  unfold State.setFrame
  exact keeps_upd (by assumption)
theorem State.ensureFrame_keeps {a s : State} (x2 : _) (x3 : _) (h : Keeps a s) : Keeps a (State.ensureFrame s x2 x3) := by
  unfold State.ensureFrame
  extract_lets +onlyGivenNames v1
  clear_value v1
  refine keeps_ite ?_ ?_
  · assumption
  · split
    · exact State.setFrame_keeps _ _ (by assumption)
    · assumption
theorem State.quayFrame_keeps {a s : State} (x2 : _) (x3 : _) (x4 : _) (h : Keeps a s) : Keeps a (State.quayFrame s x2 x3 x4).2 := by
  unfold State.quayFrame
  extract_lets +onlyGivenNames v1
  clear_value v1
  refine keeps_ite2 ?_ ?_
  · assumption
  · extract_lets +onlyGivenNames v2
    have h3 : Keeps a v2.2 := by
      unfold v2
      exact State.free_keeps _ (by assumption)
    clear_value v2
    assumption
theorem State.ensureHot_keeps {a s : State} (x2 : _) (h : Keeps a s) : Keeps a (State.ensureHot s x2) := by
  unfold State.ensureHot
  refine keeps_ite ?_ ?_
  · assumption
  · extract_lets +onlyGivenNames v1
    have h2 : Keeps a v1.2 := by
      unfold v1
      exact State.quayFrame_keeps _ _ _ (by assumption)
    clear_value v1
    split
    · extract_lets +onlyGivenNames v3
      have h4 : Keeps a v3 := by
        unfold v3
        assumption
      exact keeps_upd (by assumption)
    · assumption
theorem State.ensureStg_keeps {a s : State} (p : _) (h : Keeps a s) : Keeps a (State.ensureStg s p) := by
  unfold State.ensureStg
  refine keeps_ite h ?_
  have key : ∀ r : Option Nat × State, Keeps a r.2 → Keeps a (match r.1 with
      | some qa => { r.2 with quay := { r.2.quay with stgQa := sput 0 r.2.quay.stgQa p (qa + 1) } }
      | none => r.2) := by
    intro r hr
    split
    · exact keeps_upd hr
    · exact hr
  exact key _ (State.quayFrame_keeps _ _ _ h)

theorem State.setMap_keeps {a s : State} (x2 : _) (x3 : _) (h : Keeps a s) : Keeps a (State.setMap s x2 x3) := by
  unfold State.setMap
  exact keeps_upd (by assumption)
theorem State.writeCopies_keeps {a s : State} (x2 : _) (x3 : _) (x4 : _) (h : Keeps a s) : Keeps a (State.writeCopies s x2 x3 x4) := by
  unfold State.writeCopies
  extract_lets +onlyGivenNames v1
  clear_value v1
  extract_lets +onlyGivenNames v2
  clear_value v2
  extract_lets +onlyGivenNames v3
  clear_value v3
  extract_lets +onlyGivenNames v4
  clear_value v4
  extract_lets +onlyGivenNames v5
  extract_lets +onlyGivenNames v6
  have h7 : Keeps a v6 := by
    unfold v6
    refine keeps_ite ?_ ?_
    · refine keeps_updN ?_ (hd := ?_)
      · assumption
      · exact wf_memPutLine
    · assumption
  clear_value v6
  extract_lets +onlyGivenNames v8
  extract_lets +onlyGivenNames v9
  have h10 : Keeps a v9 := by
    unfold v9
    refine keeps_ite ?_ ?_
    · refine keeps_updN ?_ (hh := ?_)
      · assumption
      · exact wf_memPutLine
    · assumption
  clear_value v9
  refine keeps_ite ?_ ?_
  · refine keeps_updN ?_ (hs := ?_)
    · assumption
    · exact wf_memPutLine
  · assumption
theorem State.fillDram_keeps {a s : State} (x2 : _) (x3 : _) (x4 : _) (h : Keeps a s) : Keeps a (State.fillDram s x2 x3 x4) := by
  unfold State.fillDram
  extract_lets +onlyGivenNames v1
  have h2 : Keeps a v1 := by
    unfold v1
    exact State.ensureFrame_keeps _ _ (by assumption)
  clear_value v1
  extract_lets +onlyGivenNames v3
  extract_lets +onlyGivenNames v4
  have h5 : Keeps a v4 := by
    unfold v4
    refine keeps_updN ?_ (hd := ?_)
    · assumption
    · exact wf_memSetPage
  clear_value v4
  exact State.setPage_keeps _ _ (by assumption)
theorem State.dropDram_keeps {a s : State} (x2 : _) (h : Keeps a s) : Keeps a (State.dropDram s x2) := by
  unfold State.dropDram
  extract_lets +onlyGivenNames v1
  extract_lets +onlyGivenNames v2
  have h3 : Keeps a v2 := by
    unfold v2
    refine keeps_updN ?_ (hd := ?_)
    · assumption
    · exact wf_memDropPage
  clear_value v2
  exact State.setPage_keeps _ _ (by assumption)
theorem State.dropHot_keeps {a s : State} (x2 : _) (h : Keeps a s) : Keeps a (State.dropHot s x2) := by
  unfold State.dropHot
  extract_lets +onlyGivenNames v1
  extract_lets +onlyGivenNames v2
  have h3 : Keeps a v2 := by
    unfold v2
    refine keeps_updN ?_ (hh := ?_)
    · assumption
    · exact wf_memDropPage
  clear_value v2
  exact State.setPage_keeps _ _ (by assumption)
theorem State.dropStaged_keeps {a s : State} (x2 : _) (h : Keeps a s) : Keeps a (State.dropStaged s x2) := by
  unfold State.dropStaged
  refine keeps_ite ?_ ?_
  · assumption
  · extract_lets +onlyGivenNames v1
    extract_lets +onlyGivenNames v2
    have h3 : Keeps a v2 := by
      unfold v2
      refine keeps_updN ?_ (hs := ?_)
      · assumption
      · exact wf_memDropPage
    clear_value v2
    extract_lets +onlyGivenNames v4
    have h5 : Keeps a v4 := by
      unfold v4
      exact State.fset_keeps _ _ (by assumption)
    clear_value v4
    exact State.setPage_keeps _ _ (by assumption)
theorem State.trim_keeps {a s : State} (x2 : _) (h : Keeps a s) : Keeps a (State.trim s x2) := by
  unfold State.trim
  extract_lets +onlyGivenNames v1
  extract_lets +onlyGivenNames v2
  have h3 : Keeps a v2 := by
    unfold v2
    refine keeps_updN ?_ (hf := ?_)
    · assumption
    · exact wf_memDropPage
  clear_value v2
  exact State.setPage_keeps _ _ (by assumption)
theorem State.startFetch_keeps {a s : State} (x2 : _) (x3 : _) (x4 : _) (h : Keeps a s) : Keeps a (State.startFetch s x2 x3 x4) := by
  unfold State.startFetch
  extract_lets +onlyGivenNames v1
  clear_value v1
  refine keeps_ite ?_ ?_
  · exact keeps_upd (by assumption)
  · exact keeps_upd (by assumption)
theorem State.progress_keeps {a s : State} (h : Keeps a s) : Keeps a (State.progress s).2 := by
  unfold State.progress
  extract_lets +onlyGivenNames v1
  have h2 : Keeps a v1.2 := by
    unfold v1
    exact State.free_keeps _ (by assumption)
  clear_value v1
  assumption
theorem State.startMove_keeps {a s : State} (x2 : _) (x3 : _) (x4 : _) (h : Keeps a s) : Keeps a (State.startMove s x2 x3 x4) := by
  unfold State.startMove
  refine keeps_ite ?_ ?_
  · assumption
  · extract_lets +onlyGivenNames v1
    have h2 : Keeps a v1.2 := by
      unfold v1
      exact State.progress_keeps (by assumption)
    clear_value v1
    extract_lets +onlyGivenNames v3
    have h4 : Keeps a v3 := by
      unfold v3
      assumption
    extract_lets +onlyGivenNames v5
    clear_value v5
    extract_lets +onlyGivenNames v6
    extract_lets +onlyGivenNames v7
    extract_lets +onlyGivenNames v8
    have h9 : Keeps a v8 := by
      unfold v8
      split
      · refine keeps_updN ?_ (hh := ?_)
        · assumption
        · exact wf_memSetPage
      · refine keeps_ite ?_ ?_
        · assumption
        · refine keeps_updN ?_ (hd := ?_)
          · assumption
          · exact wf_memSetPage
    clear_value v8
    extract_lets +onlyGivenNames v10
    clear_value v10
    extract_lets +onlyGivenNames v11
    have h12 : Keeps a v11 := by
      unfold v11
      exact keeps_upd (by assumption)
    clear_value v11
    exact State.setPage_keeps _ _ (by assumption)
theorem State.countLat_keeps {a s : State} (x2 : _) (h : Keeps a s) : Keeps a (State.countLat s x2) := by
  unfold State.countLat
  extract_lets +onlyGivenNames v1
  clear_value v1
  extract_lets +onlyGivenNames v2
  clear_value v2
  exact keeps_upd (by assumption)
theorem State.leaveAt_keeps {a s : State} (x2 : _) (h : Keeps a s) : Keeps a (State.leaveAt s x2) := by
  unfold State.leaveAt
  exact keeps_upd (by assumption)
/-! ### Packets.lean -/

theorem State.utSend_keeps {a s : State} (x2 : _) (x3 : _) (x4 : _) (x5 : _) (x6 : _) (h : Keeps a s) : Keeps a (State.utSend s x2 x3 x4 x5 x6) := by
  unfold State.utSend
  extract_lets +onlyGivenNames v1
  clear_value v1
  exact State.emit_keeps _ (by assumption)
theorem State.twinSend_keeps {a s : State} (x2 : _) (x3 : _) (x4 : _) (h : Keeps a s) : Keeps a (State.twinSend s x2 x3 x4) := by
  unfold State.twinSend
  split
  · assumption
  · extract_lets +onlyGivenNames v1
    have h2 : Keeps a v1.2 := by
      unfold v1
      exact State.free_keeps _ (by assumption)
    clear_value v1
    exact State.utSend_keeps _ _ _ _ _ (by assumption)
theorem State.twinKeep_keeps {a s : State} (x2 : _) (x3 : _) (x4 : _) (h : Keeps a s) : Keeps a (State.twinKeep s x2 x3 x4) := by
  unfold State.twinKeep
  exact State.twinSend_keeps _ _ _ (keeps_upd (by assumption))
theorem State.twinCtl_keeps {a s : State} (x2 : _) (x3 : _) (x4 : _) (x5 : _) (h : Keeps a s) : Keeps a (State.twinCtl s x2 x3 x4 x5) := by
  unfold State.twinCtl
  extract_lets +onlyGivenNames v1
  clear_value v1
  extract_lets +onlyGivenNames v2
  clear_value v2
  extract_lets +onlyGivenNames v3
  clear_value v3
  exact State.twinKeep_keeps _ _ _ (by assumption)
theorem State.sendFwd_keeps {a s : State} (x2 : _) (x3 : _) (h : Keeps a s) : Keeps a (State.sendFwd s x2 x3) := by
  unfold State.sendFwd
  extract_lets +onlyGivenNames v1
  clear_value v1
  extract_lets +onlyGivenNames v2
  clear_value v2
  split
  · extract_lets +onlyGivenNames v3
    clear_value v3
    exact State.twinSend_keeps _ _ _ (by assumption)
  · extract_lets +onlyGivenNames v4
    clear_value v4
    exact State.twinSend_keeps _ _ _ (by assumption)
  · extract_lets +onlyGivenNames v5
    clear_value v5
    exact State.twinSend_keeps _ _ _ (by assumption)
  · extract_lets +onlyGivenNames v6
    clear_value v6
    exact State.twinSend_keeps _ _ _ (by assumption)
  · extract_lets +onlyGivenNames v7
    clear_value v7
    exact State.twinSend_keeps _ _ _ (by assumption)
theorem State.fetchTwin_keeps {a s : State} (x2 : _) (x3 : _) (h : Keeps a s) : Keeps a (State.fetchTwin s x2 x3) := by
  unfold State.fetchTwin
  refine keeps_foldl ?_ ?_
  · assumption
  · intro u1 u2 u3
    beta_reduce
    extract_lets +onlyGivenNames v4
    clear_value v4
    exact State.sendFwd_keeps _ _ (keeps_upd (by assumption))
theorem State.forward_keeps {a s : State} (x2 : _) (x3 : _) (x4 : _) (h : Keeps a s) : Keeps a (State.forward s x2 x3 x4) := by
  unfold State.forward
  extract_lets +onlyGivenNames v1
  clear_value v1
  extract_lets +onlyGivenNames v2
  clear_value v2
  extract_lets +onlyGivenNames v3
  clear_value v3
  extract_lets +onlyGivenNames v4
  have h5 : Keeps a v4 := by
    unfold v4
    exact keeps_upd (by assumption)
  clear_value v4
  refine keeps_ite ?_ ?_
  · exact State.sendFwd_keeps _ _ (by assumption)
  · assumption
theorem State.setSf_keeps {a s : State} (x2 : _) (x3 : _) (h : Keeps a s) : Keeps a (State.setSf s x2 x3) := by
  unfold State.setSf
  extract_lets +onlyGivenNames v1
  clear_value v1
  refine keeps_ite ?_ ?_
  · assumption
  · extract_lets +onlyGivenNames v2
    have h3 : Keeps a v2 := by
      unfold v2
      exact State.setPage_keeps _ _ (by assumption)
    clear_value v2
    split
    · refine keeps_ite ?_ ?_
      · exact keeps_upd (by assumption)
      · assumption
    · assumption
/-! ### Operands.lean -/

theorem State.losePage_keeps {a s : State} (x2 : _) (h : Keeps a s) : Keeps a (State.losePage s x2) := by
  unfold State.losePage
  extract_lets +onlyGivenNames v1
  clear_value v1
  extract_lets +onlyGivenNames v2
  have h3 : Keeps a v2 := by
    unfold v2
    exact State.setPage_keeps _ _ (by assumption)
  clear_value v2
  extract_lets +onlyGivenNames v4
  have h5 : Keeps a v4 := by
    unfold v4
    exact State.poisonLines_keeps _ (State.fillDram_keeps _ _ _ (by assumption))
  clear_value v4
  split
  · exact State.recordAll_keeps _ _ _ (by assumption)
  · assumption
theorem State.startRestore_keeps {a s : State} (x2 : _) (x3 : _) (h : Keeps a s) : Keeps a (State.startRestore s x2 x3) := by
  unfold State.startRestore
  refine keeps_ite ?_ ?_
  · exact State.startFetch_keeps _ _ _ (by assumption)
  · refine keeps_ite ?_ ?_
    · exact State.fetchTwin_keeps _ _ (State.startFetch_keeps _ _ _ (by assumption))
    · exact State.startFetch_keeps _ _ _ (by assumption)
theorem State.countUnmapped_keeps {a s : State} (h : Keeps a s) : Keeps a (State.countUnmapped s) := by
  unfold State.countUnmapped
  exact State.bump_keeps _ _ _ (by assumption)
theorem State.countDiscard_keeps {a s : State} (x2 : _) (h : Keeps a s) : Keeps a (State.countDiscard s x2) := by
  unfold State.countDiscard
  exact State.bump_keeps _ _ _ (by assumption)
theorem State.sendDrs_keeps {a s : State} (x2 : _) (x3 : _) (x4 : _) (x5 : _) (x6 : _) (h : Keeps a s) : Keeps a (State.sendDrs s x2 x3 x4 x5 x6) := by
  unfold State.sendDrs
  extract_lets +onlyGivenNames v1
  clear_value v1
  refine keeps_ite ?_ ?_
  · assumption
  · extract_lets +onlyGivenNames v2
    clear_value v2
    exact State.bothPhases_keeps (State.leaveAt_keeps _ (by assumption))
theorem State.sendPoison_keeps {a s : State} (x2 : _) (x3 : _) (x4 : _) (h : Keeps a s) : Keeps a (State.sendPoison s x2 x3 x4) := by
  unfold State.sendPoison
  extract_lets +onlyGivenNames v1
  have h2 : Keeps a v1.2 := by
    unfold v1
    exact State.free_keeps _ (by assumption)
  clear_value v1
  exact State.sendDrs_keeps _ _ _ _ _ (by assumption)
theorem State.sendLine_keeps {a s : State} (x2 : _) (x3 : _) (x4 : _) (x5 : _) (x6 : _) (h : Keeps a s) : Keeps a (State.sendLine s x2 x3 x4 x5 x6) := by
  unfold State.sendLine
  refine keeps_ite ?_ ?_
  · exact State.sendPoison_keeps _ _ _ (by assumption)
  · exact State.sendDrs_keeps _ _ _ _ _ (by assumption)
theorem State.sendNdr_keeps {a s : State} (x2 : _) (x3 : _) (x4 : _) (x5 : _) (x6 : _) (x7 : _) (x8 : _) (h : Keeps a s) : Keeps a (State.sendNdr s x2 x3 x4 x5 x6 x7 x8) := by
  unfold State.sendNdr
  extract_lets +onlyGivenNames v1
  clear_value v1
  extract_lets +onlyGivenNames v2
  clear_value v2
  exact State.bothPhases_keeps (State.leaveAt_keeps _ (by assumption))
theorem State.sendPlainNdr_keeps {a s : State} (x2 : _) (x3 : _) (h : Keeps a s) : Keeps a (State.sendPlainNdr s x2 x3) := by
  unfold State.sendPlainNdr
  refine keeps_ite ?_ ?_
  · assumption
  · extract_lets +onlyGivenNames v1
    clear_value v1
    exact State.bothPhases_keeps (State.leaveAt_keeps _ (by assumption))
theorem State.sent_keeps {a s : State} (x2 : _) (h : Keeps a s) : Keeps a (State.sent s x2) := by
  unfold State.sent
  split
  · assumption
  · extract_lets +onlyGivenNames v1
    have h2 : Keeps a v1 := by
      unfold v1
      refine keeps_ite ?_ ?_
      · exact State.bump_keeps _ _ _ (by assumption)
      · assumption
    clear_value v1
    exact State.emit_keeps _ (State.countLat_keeps _ (by assumption))
  · exact State.emit_keeps _ (by assumption)
  · exact State.emit_keeps _ (by assumption)
theorem State.leave_keeps {a s : State} (h : Keeps a s) : Keeps a (State.leave s) := by
  unfold State.leave
  extract_lets +onlyGivenNames v1
  clear_value v1
  extract_lets +onlyGivenNames v2
  clear_value v2
  extract_lets +onlyGivenNames v3
  have h4 : Keeps a v3 := by
    unfold v3
    exact keeps_upd (by assumption)
  clear_value v3
  refine keeps_foldl ?_ ?_
  · assumption
  · intro u5 u6 u7
    beta_reduce
    exact State.sent_keeps _ (by assumption)
/-! ### Dmc.lean -/

theorem State.queueWrite_keeps {a s : State} (x2 : _) (h : Keeps a s) : Keeps a (State.queueWrite s x2) := by
  unfold State.queueWrite
  extract_lets +onlyGivenNames v1
  clear_value v1
  extract_lets +onlyGivenNames v2
  clear_value v2
  extract_lets +onlyGivenNames v3
  clear_value v3
  extract_lets +onlyGivenNames v4
  clear_value v4
  exact State.setSub_keeps _ _ (by assumption)
theorem State.portFill_keeps {a s : State} (x2 : _) (x3 : _) (x4 : _) (h : Keeps a s) : Keeps a (State.portFill s x2 x3 x4) := by
  unfold State.portFill
  extract_lets +onlyGivenNames v1
  clear_value v1
  extract_lets +onlyGivenNames v2
  clear_value v2
  extract_lets +onlyGivenNames v3
  clear_value v3
  extract_lets +onlyGivenNames v4
  clear_value v4
  extract_lets +onlyGivenNames v5
  clear_value v5
  extract_lets +onlyGivenNames v6
  clear_value v6
  extract_lets +onlyGivenNames v7
  clear_value v7
  extract_lets +onlyGivenNames v8
  clear_value v8
  extract_lets +onlyGivenNames v9
  extract_lets +onlyGivenNames v10
  have h11 : Keeps a v10 := by
    unfold v10
    exact keeps_upd (by assumption)
  clear_value v10
  extract_lets +onlyGivenNames v12
  have h13 : Keeps a v12 := by
    unfold v12
    refine keeps_ite ?_ ?_
    · exact State.bump_keeps _ _ _ (by assumption)
    · assumption
  clear_value v12
  exact State.setBit_keeps _ _ (by assumption)
theorem State.portLess_keeps {a s : State} (x2 : _) (x3 : _) (h : Keeps a s) : Keeps a (State.portLess s x2 x3) := by
  unfold State.portLess
  split
  · exact State.portFill_keeps _ _ _ (by assumption)
  · assumption
theorem State.drainWrite_keeps {a s : State} (x2 : _) (x3 : _) (x4 : _) (x5 : _) (h : Keeps a s) : Keeps a (State.drainWrite s x2 x3 x4 x5) := by
  unfold State.drainWrite
  extract_lets +onlyGivenNames v1
  clear_value v1
  refine keeps_ite ?_ ?_
  · assumption
  · extract_lets +onlyGivenNames v2
    clear_value v2
    extract_lets +onlyGivenNames v3
    have h4 : Keeps a v3 := by
      unfold v3
      exact State.queueWrite_keeps _ (by assumption)
    clear_value v3
    split
    · exact State.portFill_keeps _ _ _ (by assumption)
    · assumption
theorem State.quayWrite_keeps {a s : State} (x2 : _) (x3 : _) (x4 : _) (x5 : _) (h : Keeps a s) : Keeps a (State.quayWrite s x2 x3 x4 x5) := by
  unfold State.quayWrite
  extract_lets +onlyGivenNames v1
  clear_value v1
  extract_lets +onlyGivenNames v2
  clear_value v2
  extract_lets +onlyGivenNames v3
  have h4 : Keeps a v3 := by
    unfold v3
    refine keeps_ite ?_ ?_
    · assumption
    · exact State.queueWrite_keeps _ (by assumption)
  clear_value v3
  refine keeps_ite ?_ ?_
  · assumption
  · exact State.queueWrite_keeps _ (by assumption)
theorem State.queueRead_keeps {a s : State} (x2 : _) (h : Keeps a s) : Keeps a (State.queueRead s x2) := by
  unfold State.queueRead
  extract_lets +onlyGivenNames v1
  clear_value v1
  extract_lets +onlyGivenNames v2
  clear_value v2
  exact State.setSub_keeps _ _ (by assumption)
theorem State.passOver_keeps {a s : State} (x2 : _) (x3 : _) (h : Keeps a s) : Keeps a (State.passOver s x2 x3) := by
  unfold State.passOver
  extract_lets +onlyGivenNames v1
  clear_value v1
  extract_lets +onlyGivenNames v2
  clear_value v2
  extract_lets +onlyGivenNames v3
  clear_value v3
  extract_lets +onlyGivenNames v4
  clear_value v4
  extract_lets +onlyGivenNames v5
  clear_value v5
  exact State.setSub_keeps _ _ (by assumption)
/-! ### Merge.lean -/

theorem State.setMerge_keeps {a s : State} (x2 : _) (x3 : _) (x4 : _) (h : Keeps a s) : Keeps a (State.setMerge s x2 x3 x4) := by
  unfold State.setMerge
  exact keeps_upd (by assumption)
theorem State.drainMerge_keeps {a s : State} (x2 : _) (h : Keeps a s) : Keeps a (State.drainMerge s x2) := by
  unfold State.drainMerge
  extract_lets +onlyGivenNames v1
  clear_value v1
  extract_lets +onlyGivenNames v2
  have h3 : Keeps a v2.2 := by
    unfold v2
    exact State.free_keeps _ (by assumption)
  clear_value v2
  extract_lets +onlyGivenNames v4
  clear_value v4
  extract_lets +onlyGivenNames v5
  clear_value v5
  extract_lets +onlyGivenNames v6
  have h7 : Keeps a v6 := by
    unfold v6
    exact State.setMerge_keeps _ _ _ (by assumption)
  clear_value v6
  refine keeps_ite ?_ ?_
  · extract_lets +onlyGivenNames v8
    have h9 : Keeps a v8 := by
      unfold v8
      exact State.logErr_keeps _ _ _ _ _ _ _ (State.countUe_keeps _ (by assumption))
    clear_value v8
    exact State.raise_keeps _ (State.bump_keeps _ _ _ (by assumption))
  · assumption
theorem State.mergeIdle_keeps {a s : State} (x2 : _) (x3 : _) (h : Keeps a s) : Keeps a (State.mergeIdle s x2 x3) := by
  unfold State.mergeIdle
  split
  · assumption
  · refine keeps_ite ?_ ?_
    · assumption
    · exact State.drainMerge_keeps _ (by assumption)
theorem State.drainAllMerge_keeps {a s : State} (h : Keeps a s) : Keeps a (State.drainAllMerge s) := by
  unfold State.drainAllMerge
  refine keeps_foldl ?_ ?_
  · assumption
  · intro u1 u2 u3
    beta_reduce
    exact State.drainMerge_keeps _ (by assumption)
theorem State.mergeWrite_keeps {a s : State} (x2 : _) (x3 : _) (x4 : _) (x5 : _) (h : Keeps a s) : Keeps a (State.mergeWrite s x2 x3 x4 x5) := by
  unfold State.mergeWrite
  extract_lets +onlyGivenNames v1
  clear_value v1
  extract_lets +onlyGivenNames v2
  clear_value v2
  extract_lets +onlyGivenNames v3
  have hf4 : ∀ y0, Keeps a (v3 y0) := by
    intro u5
    unfold v3
    exact State.setMerge_keeps _ _ _ (by assumption)
  clear_value v3
  refine keeps_ite ?_ ?_
  · assumption
  · refine keeps_ite ?_ ?_
    · apply hf4
    · split
      · extract_lets +onlyGivenNames v6
        clear_value v6
        refine keeps_ite ?_ ?_
        · apply hf4
        · exact State.setMerge_keeps _ _ _ (by assumption)
      · extract_lets +onlyGivenNames v7
        clear_value v7
        extract_lets +onlyGivenNames v8
        have h9 : Keeps a v8 := by
          unfold v8
          split
          · refine keeps_ite ?_ ?_
            · exact State.drainMerge_keeps _ (by assumption)
            · assumption
          · assumption
        clear_value v8
        extract_lets +onlyGivenNames v10
        clear_value v10
        exact State.setMerge_keeps _ _ _ (by assumption)
theorem State.mergeLine_keeps {a s : State} (x2 : _) (x3 : _) (x4 : _) (x5 : _) (h : Keeps a s) : Keeps a (State.mergeLine s x2 x3 x4 x5) := by
  unfold State.mergeLine
  refine keeps_foldl ?_ ?_
  · assumption
  · intro u1 u2 u3
    beta_reduce
    extract_lets +onlyGivenNames v4
    clear_value v4
    refine keeps_ite ?_ ?_
    · assumption
    · exact State.mergeWrite_keeps _ _ _ _ (by assumption)
theorem State.mergeStore_keeps {a s : State} (x2 : _) (x3 : _) (h : Keeps a s) : Keeps a (State.mergeStore s x2 x3) := by
  unfold State.mergeStore
  refine keeps_ite ?_ ?_
  · assumption
  · extract_lets +onlyGivenNames v1
    have h2 : Keeps a v1.2 := by
      unfold v1
      exact State.free_keeps _ (by assumption)
    clear_value v1
    exact State.mergeLine_keeps _ _ _ _ (by assumption)
/-! ### Landing.lean -/

theorem State.setPdk_keeps {a s : State} (x2 : _) (x3 : _) (h : Keeps a s) : Keeps a (State.setPdk s x2 x3) := by
  unfold State.setPdk
  extract_lets +onlyGivenNames v1
  clear_value v1
  extract_lets +onlyGivenNames v2
  have h3 : Keeps a v2 := by
    unfold v2
    exact State.fset_keeps _ _ (State.fset_keeps _ _ (by assumption))
  clear_value v2
  extract_lets +onlyGivenNames v4
  have h5 : Keeps a v4 := by
    unfold v4
    exact State.fset_keeps _ _ (by assumption)
  clear_value v4
  refine keeps_ite ?_ ?_
  · exact keeps_upd (by assumption)
  · assumption
theorem State.leavePdk_keeps {a s : State} (x2 : _) (h : Keeps a s) : Keeps a (State.leavePdk s x2) := by
  unfold State.leavePdk
  exact State.setPdk_keeps _ _ (by assumption)
theorem State.admitPage_keeps {a s : State} (x2 : _) (x3 : _) (h : Keeps a s) : Keeps a (State.admitPage s x2 x3) := by
  unfold State.admitPage
  extract_lets +onlyGivenNames v1
  have h2 : Keeps a v1 := by
    unfold v1
    exact State.setPdk_keeps _ _ (by assumption)
  clear_value v1
  extract_lets +onlyGivenNames v3
  clear_value v3
  extract_lets +onlyGivenNames v4
  have h5 : Keeps a v4 := by
    unfold v4
    exact State.setPage_keeps _ _ (by assumption)
  clear_value v4
  exact keeps_upd (by assumption)
theorem State.stretchExit_keeps {a s : State} (h : Keeps a s) : Keeps a (State.stretchExit s) := by
  unfold State.stretchExit
  refine keeps_ite ?_ ?_
  · exact State.setRegime_keeps _ (by assumption)
  · assumption
theorem State.complete_keeps {a s : State} (x2 : _) (x3 : _) (x4 : _) (x5 : _) (x6 : _) (x7 : _) (h : Keeps a s) : Keeps a (State.complete s x2 x3 x4 x5 x6 x7) := by
  unfold State.complete
  split
  · exact State.sendNdr_keeps _ _ _ _ _ _ _ (by assumption)
  · extract_lets +onlyGivenNames v1
    clear_value v1
    exact keeps_upd (by assumption)
  · exact keeps_upd (by assumption)
  · exact State.emit_keeps _ (by assumption)
  · assumption
  · assumption
  · assumption
theorem State.noteAck_keeps {a s : State} (x2 : _) (h : Keeps a s) : Keeps a (State.noteAck s x2) := by
  unfold State.noteAck
  extract_lets +onlyGivenNames v1
  clear_value v1
  refine keeps_ite ?_ ?_
  · exact State.setPage_keeps _ _ (by assumption)
  · assumption
theorem State.ackLoop_keeps {a s : State} (x2 : _) (x3 : _) (h : Keeps a s) : Keeps a (State.ackLoop s x2 x3).2 := by
  unfold State.ackLoop
  split
  · assumption
  · refine keeps_ite2 ?_ ?_
    · extract_lets +onlyGivenNames v1
      have h2 : Keeps a v1.2 := by
        unfold v1
        exact State.ackLoop_keeps _ _ (State.complete_keeps _ _ _ _ _ _ (State.noteAck_keeps _ (by assumption)))
      clear_value v1
      assumption
    · extract_lets +onlyGivenNames v3
      have h4 : Keeps a v3.2 := by
        unfold v3
        exact State.ackLoop_keeps _ _ (by assumption)
      clear_value v3
      assumption
theorem State.settleAcks_keeps {a s : State} (h : Keeps a s) : Keeps a (State.settleAcks s) := by
  unfold State.settleAcks
  extract_lets +onlyGivenNames v1
  have h2 : Keeps a v1.2 := by
    unfold v1
    refine keeps_ite2 ?_ ?_
    · exact State.ackLoop_keeps _ _ (by assumption)
    · assumption
  clear_value v1
  extract_lets +onlyGivenNames v3
  have h4 : Keeps a v3 := by
    unfold v3
    assumption
  exact keeps_upd (by assumption)
theorem State.mirrorOut_keeps {a s : State} (x2 : _) (x3 : _) (x4 : _) (x5 : _) (h : Keeps a s) : Keeps a (State.mirrorOut s x2 x3 x4 x5) := by
  unfold State.mirrorOut
  extract_lets +onlyGivenNames v1
  clear_value v1
  extract_lets +onlyGivenNames v2
  clear_value v2
  exact keeps_upd (by assumption)
theorem State.firstStore_keeps {a s : State} (x2 : _) (x3 : _) (h : Keeps a s) : Keeps a (State.firstStore s x2 x3) := by
  unfold State.firstStore
  refine keeps_ite ?_ ?_
  · assumption
  · extract_lets +onlyGivenNames v1
    clear_value v1
    extract_lets +onlyGivenNames v2
    have h3 : Keeps a v2 := by
      unfold v2
      exact State.setPage_keeps _ _ (by assumption)
    clear_value v2
    extract_lets +onlyGivenNames v4
    have h5 : Keeps a v4 := by
      unfold v4
      exact State.ensureHot_keeps _ (by assumption)
    clear_value v4
    extract_lets +onlyGivenNames v6
    clear_value v6
    extract_lets +onlyGivenNames v7
    have h8 : Keeps a v7 := by
      unfold v7
      refine keeps_ite ?_ ?_
      · exact State.setPage_keeps _ _ (by assumption)
      · assumption
    clear_value v7
    refine keeps_ite ?_ ?_
    · assumption
    · extract_lets +onlyGivenNames v9
      have h10 : Keeps a v9 := by
        unfold v9
        exact State.ensureFrame_keeps _ _ (by assumption)
      clear_value v9
      exact State.setPage_keeps _ _ (by assumption)
theorem State.oweWt_keeps {a s : State} (x2 : _) (h : Keeps a s) : Keeps a (State.oweWt s x2) := by
  unfold State.oweWt
  refine keeps_ite ?_ ?_
  · assumption
  · exact keeps_upd (by assumption)
theorem State.storePoison_keeps {a s : State} (x2 : _) (x3 : _) (x4 : _) (h : Keeps a s) : Keeps a (State.storePoison s x2 x3 x4) := by
  unfold State.storePoison
  refine keeps_ite ?_ ?_
  · exact State.poisonLine_keeps _ (by assumption)
  · refine keeps_ite ?_ ?_
    · exact State.unpoisonLine_keeps _ (by assumption)
    · assumption
theorem State.noteStretch_keeps {a s : State} (h : Keeps a s) : Keeps a (State.noteStretch s) := by
  unfold State.noteStretch
  exact State.bump_keeps _ _ _ (State.setRegime_keeps _ (by assumption))
theorem State.land_keeps {a s : State} (x2 : _) (h : Keeps a s) : Keeps a (State.land s x2) := by
  unfold State.land
  extract_lets +onlyGivenNames v1
  clear_value v1
  extract_lets +onlyGivenNames v2
  clear_value v2
  extract_lets +onlyGivenNames v3
  extract_lets +onlyGivenNames v4
  clear_value v4
  extract_lets +onlyGivenNames v5
  clear_value v5
  extract_lets +onlyGivenNames v6
  extract_lets +onlyGivenNames v7
  clear_value v7
  extract_lets +onlyGivenNames v8
  clear_value v8
  extract_lets +onlyGivenNames v9
  clear_value v9
  extract_lets +onlyGivenNames v10
  have h11 : Keeps a v10 := by
    unfold v10
    exact State.storePoison_keeps _ _ _ (by assumption)
  clear_value v10
  extract_lets +onlyGivenNames v12
  have h13 : Keeps a v12 := by
    unfold v12
    exact State.firstStore_keeps _ _ (by assumption)
  clear_value v12
  extract_lets +onlyGivenNames v14
  have h15 : Keeps a v14 := by
    unfold v14
    refine keeps_ite ?_ ?_
    · exact State.mirrorOut_keeps _ _ _ _ (by assumption)
    · assumption
  clear_value v14
  extract_lets +onlyGivenNames v16
  clear_value v16
  extract_lets +onlyGivenNames v17
  clear_value v17
  extract_lets +onlyGivenNames v18
  clear_value v18
  extract_lets +onlyGivenNames v19
  have h20 : Keeps a v19 := by
    unfold v19
    exact State.setPage_keeps _ _ (by assumption)
  clear_value v19
  extract_lets +onlyGivenNames v21
  have h22 : Keeps a v21 := by
    unfold v21
    refine keeps_ite ?_ ?_
    · exact State.startFetch_keeps _ _ _ (by assumption)
    · assumption
  clear_value v21
  extract_lets +onlyGivenNames v23
  clear_value v23
  extract_lets +onlyGivenNames v24
  have h25 : Keeps a v24 := by
    unfold v24
    exact keeps_upd (by assumption)
  clear_value v24
  extract_lets +onlyGivenNames v26
  have h27 : Keeps a v26 := by
    unfold v26
    refine keeps_ite ?_ ?_
    · exact State.oweWt_keeps _ (by assumption)
    · refine keeps_ite ?_ ?_
      · exact State.noteStretch_keeps (by assumption)
      · refine keeps_ite ?_ ?_
        · assumption
        · exact State.ensureFrame_keeps _ _ (State.admitPage_keeps _ _ (by assumption))
  clear_value v26
  exact State.settleAcks_keeps (by assumption)
theorem State.landStore_keeps {a s : State} (x2 : _) (h : Keeps a s) : Keeps a (State.landStore s x2) := by
  unfold State.landStore
  refine keeps_ite ?_ ?_
  · exact State.land_keeps _ (by assumption)
  · exact keeps_upd (by assumption)
theorem State.ingressResume_keeps {a s : State} (h : Keeps a s) : Keeps a (State.ingressResume s) := by
  unfold State.ingressResume
  split
  · assumption
  · refine keeps_ite ?_ ?_
    · exact State.land_keeps _ (keeps_upd (by assumption))
    · assumption
theorem State.newId_keeps {a s : State} (h : Keeps a s) : Keeps a (State.newId s).2 := by
  unfold State.newId
  dsimp only
  exact keeps_upd (by assumption)
theorem State.storeV_keeps {a s : State} (x2 : _) (h : Keeps a s) : Keeps a (State.storeV s x2) := by
  unfold State.storeV
  extract_lets +onlyGivenNames v1
  clear_value v1
  extract_lets +onlyGivenNames v2
  have h3 : Keeps a v2 := by
    unfold v2
    exact State.firstStore_keeps _ _ (by assumption)
  clear_value v2
  extract_lets +onlyGivenNames v4
  have h5 : Keeps a v4 := by
    unfold v4
    exact State.writeCopies_keeps _ _ _ (State.mergeStore_keeps _ _ (State.storePoison_keeps _ _ _ (by assumption)))
  clear_value v4
  extract_lets +onlyGivenNames v6
  clear_value v6
  extract_lets +onlyGivenNames v7
  clear_value v7
  extract_lets +onlyGivenNames v8
  clear_value v8
  extract_lets +onlyGivenNames v9
  clear_value v9
  refine keeps_ite ?_ ?_
  · refine keeps_ite ?_ ?_
    · exact State.quayWrite_keeps _ _ _ _ (by assumption)
    · exact State.complete_keeps _ _ _ _ _ _ (State.quayWrite_keeps _ _ _ _ (by assumption))
  · refine keeps_ite ?_ ?_
    · exact State.drainWrite_keeps _ _ _ _ (by assumption)
    · extract_lets +onlyGivenNames v10
      have h11 : Keeps a v10 := by
        unfold v10
        refine keeps_ite ?_ ?_
        · exact State.drainWrite_keeps _ _ _ _ (by assumption)
        · assumption
      clear_value v10
      exact State.complete_keeps _ _ _ _ _ _ (by assumption)
theorem State.noteHold_keeps {a s : State} (x2 : _) (h : Keeps a s) : Keeps a (State.noteHold s x2) := by
  unfold State.noteHold
  exact State.fset_keeps _ _ (by assumption)
theorem State.noteHolds_keeps {a s : State} (x2 : _) (h : Keeps a s) : Keeps a (State.noteHolds s x2) := by
  unfold State.noteHolds
  refine keeps_foldl ?_ ?_
  · assumption
  · intro u1 u2 u3
    beta_reduce
    exact State.noteHold_keeps _ (by assumption)
theorem State.heldToWt_keeps {a s : State} (x2 : _) (h : Keeps a s) : Keeps a (State.heldToWt s x2) := by
  unfold State.heldToWt
  extract_lets +onlyGivenNames v1
  clear_value v1
  extract_lets +onlyGivenNames v2
  clear_value v2
  extract_lets +onlyGivenNames v3
  have h4 : Keeps a v3 := by
    unfold v3
    exact State.noteHolds_keeps _ (by assumption)
  clear_value v3
  extract_lets +onlyGivenNames v5
  clear_value v5
  extract_lets +onlyGivenNames v6
  have h7 : Keeps a v6 := by
    unfold v6
    exact keeps_upd (by assumption)
  clear_value v6
  refine keeps_foldl ?_ ?_
  · assumption
  · intro u8 u9 u10
    beta_reduce
    exact State.oweWt_keeps _ (by assumption)
theorem State.applyLimit_keeps {a s : State} (x2 : _) (h : Keeps a s) : Keeps a (State.applyLimit s x2) := by
  unfold State.applyLimit
  extract_lets +onlyGivenNames v1
  extract_lets +onlyGivenNames v2
  have h3 : Keeps a v2 := by
    unfold v2
    exact State.fset_keeps _ _ (by assumption)
  extract_lets +onlyGivenNames v4
  extract_lets +onlyGivenNames v5
  have h6 : Keeps a v5 := by
    unfold v5
    exact keeps_upd (by assumption)
  extract_lets +onlyGivenNames v7
  extract_lets +onlyGivenNames v8
  have h9 : Keeps a v8 := by
    unfold v8
    refine keeps_ite ?_ ?_
    · exact State.raise_keeps _ (State.setBit_keeps _ _ (by assumption))
    · assumption
  extract_lets +onlyGivenNames v10
  clear_value v10
  extract_lets +onlyGivenNames v11
  have h12 : Keeps a v11 := by
    unfold v11
    exact keeps_upd (by assumption)
  refine keeps_ite ?_ ?_
  · refine keeps_ite ?_ ?_
    · assumption
    · exact State.heldToWt_keeps _ (State.setRegime_keeps _ (by assumption))
  · refine keeps_ite ?_ ?_
    · exact State.setRegime_keeps _ (by assumption)
    · exact State.stretchExit_keeps (by assumption)
theorem State.setTwinLimit_keeps {a s : State} (x2 : _) (x3 : _) (h : Keeps a s) : Keeps a (State.setTwinLimit s x2 x3) := by
  unfold State.setTwinLimit
  extract_lets +onlyGivenNames v1
  have h2 : Keeps a v1 := by
    unfold v1
    exact State.setBit_keeps _ _ (State.setBit_keeps _ _ (State.fset_keeps _ _ (by assumption)))
  clear_value v1
  refine keeps_ite ?_ ?_
  · exact State.heldToWt_keeps _ (by assumption)
  · assumption
theorem State.admitHeld_keeps {a s : State} (h : Keeps a s) : Keeps a (State.admitHeld s) := by
  unfold State.admitHeld
  split
  · assumption
  · extract_lets +onlyGivenNames v1
    clear_value v1
    extract_lets +onlyGivenNames v2
    refine keeps_ite ?_ ?_
    · assumption
    · extract_lets +onlyGivenNames v3
      clear_value v3
      extract_lets +onlyGivenNames v4
      clear_value v4
      extract_lets +onlyGivenNames v5
      have h6 : Keeps a v5 := by
        unfold v5
        exact State.noteHolds_keeps _ (by assumption)
      clear_value v5
      extract_lets +onlyGivenNames v7
      clear_value v7
      extract_lets +onlyGivenNames v8
      have h9 : Keeps a v8 := by
        unfold v8
        exact keeps_upd (by assumption)
      clear_value v8
      refine State.stretchExit_keeps ?_
      refine State.settleAcks_keeps ?_
      refine keeps_ite ?_ ?_
      · assumption
      · exact State.ensureFrame_keeps _ _ (State.admitPage_keeps _ _ (by assumption))
theorem State.readmit_keeps {a s : State} (x2 : _) (x3 : _) (h : Keeps a s) : Keeps a (State.readmit s x2 x3) := by
  unfold State.readmit
  extract_lets +onlyGivenNames v1
  clear_value v1
  split
  · assumption
  · extract_lets +onlyGivenNames v2
    clear_value v2
    extract_lets +onlyGivenNames v3
    have hf4 : ∀ y0, Keeps a (v3 y0) := by
      intro u5
      unfold v3
      exact keeps_upd (by assumption)
    clear_value v3
    refine keeps_ite ?_ ?_
    · refine State.oweWt_keeps _ ?_
      apply hf4
    · refine keeps_ite ?_ ?_
      · exact State.ensureFrame_keeps _ _ (State.admitPage_keeps _ _ (by assumption))
      · refine State.noteStretch_keeps ?_
        apply hf4
/-! ### TideOps.lean -/

theorem State.tideCounts_keeps {a s : State} (h : Keeps a s) : Keeps a (State.tideCounts s) := by
  unfold State.tideCounts
  exact State.fset_keeps _ _ (State.fset_keeps _ _ (by assumption))
theorem State.setTable_keeps {a s : State} (x2 : _) (x3 : _) (h : Keeps a s) : Keeps a (State.setTable s x2 x3) := by
  unfold State.setTable
  extract_lets +onlyGivenNames v1
  clear_value v1
  extract_lets +onlyGivenNames v2
  have h3 : Keeps a v2 := by
    unfold v2
    exact State.tideCounts_keeps (keeps_upd (by assumption))
  clear_value v2
  refine keeps_ite ?_ ?_
  · assumption
  · exact State.raise_keeps _ (by assumption)
theorem State.setSharer_keeps {a s : State} (x2 : _) (x3 : _) (h : Keeps a s) : Keeps a (State.setSharer s x2 x3) := by
  unfold State.setSharer
  exact State.tideCounts_keeps (keeps_upd (by assumption))
theorem State.setEntry_keeps {a s : State} (x2 : _) (x3 : _) (h : Keeps a s) : Keeps a (State.setEntry s x2 x3) := by
  unfold State.setEntry
  exact keeps_upd (by assumption)
theorem State.checkEntry_keeps {a s : State} (x2 : _) (h : Keeps a s) : Keeps a (State.checkEntry s x2) := by
  unfold State.checkEntry
  extract_lets +onlyGivenNames v1
  clear_value v1
  refine keeps_ite ?_ ?_
  · exact State.setEntry_keeps _ _ (by assumption)
  · assumption
theorem State.checkPage_keeps {a s : State} (x2 : _) (h : Keeps a s) : Keeps a (State.checkPage s x2) := by
  unfold State.checkPage
  refine keeps_foldl ?_ ?_
  · assumption
  · intro u1 u2 u3
    beta_reduce
    exact State.checkEntry_keeps _ (by assumption)
theorem State.unpin_keeps {a s : State} (x2 : _) (h : Keeps a s) : Keeps a (State.unpin s x2) := by
  unfold State.unpin
  extract_lets +onlyGivenNames v1
  clear_value v1
  extract_lets +onlyGivenNames v2
  have h3 : Keeps a v2 := by
    unfold v2
    exact State.setPage_keeps _ _ (by assumption)
  clear_value v2
  refine keeps_ite ?_ ?_
  · exact keeps_upd (by assumption)
  · assumption
theorem State.releaseEntry_keeps {a s : State} (x2 : _) (x3 : _) (h : Keeps a s) : Keeps a (State.releaseEntry s x2 x3) := by
  unfold State.releaseEntry
  extract_lets +onlyGivenNames v1
  clear_value v1
  refine keeps_ite ?_ ?_
  · extract_lets +onlyGivenNames v2
    have h3 : Keeps a v2 := by
      unfold v2
      exact State.setEntry_keeps _ _ (by assumption)
    clear_value v2
    extract_lets +onlyGivenNames v4
    clear_value v4
    extract_lets +onlyGivenNames v5
    have h6 : Keeps a v5 := by
      unfold v5
      exact State.setTable_keeps _ _ (by assumption)
    clear_value v5
    refine keeps_foldl ?_ ?_
    · assumption
    · intro u7 u8 u9
      beta_reduce
      exact State.unpin_keeps _ (by assumption)
  · refine keeps_ite ?_ ?_
    · exact State.setEntry_keeps _ _ (by assumption)
    · assumption
theorem State.retune_keeps {a s : State} (x2 : _) (h : Keeps a s) : Keeps a (State.retune s x2) := by
  unfold State.retune
  extract_lets +onlyGivenNames v1
  clear_value v1
  refine keeps_foldl ?_ ?_
  · assumption
  · intro u2 u3 u4
    beta_reduce
    refine keeps_ite ?_ ?_
    · assumption
    · exact State.releaseEntry_keeps _ _ (by assumption)
theorem State.lateTest_keeps {a s : State} (x2 : _) (x3 : _) (h : Keeps a s) : Keeps a (State.lateTest s x2 x3) := by
  unfold State.lateTest
  extract_lets +onlyGivenNames v1
  clear_value v1
  refine keeps_ite ?_ ?_
  · assumption
  · extract_lets +onlyGivenNames v2
    clear_value v2
    extract_lets +onlyGivenNames v3
    clear_value v3
    refine keeps_ite ?_ ?_
    · assumption
    · extract_lets +onlyGivenNames v4
      have h5 : Keeps a v4 := by
        unfold v4
        exact State.setEntry_keeps _ _ (by assumption)
      clear_value v4
      refine keeps_ite ?_ ?_
      · assumption
      · extract_lets +onlyGivenNames v6
        have h7 : Keeps a v6 := by
          unfold v6
          exact State.setSharer_keeps _ _ (by assumption)
        clear_value v6
        extract_lets +onlyGivenNames v8
        extract_lets +onlyGivenNames v9
        have h10 : Keeps a v9 := by
          unfold v9
          exact State.setTable_keeps _ _ (by assumption)
        clear_value v9
        extract_lets +onlyGivenNames v11
        have h12 : Keeps a v11 := by
          unfold v11
          refine keeps_ite ?_ ?_
          · exact State.raise_keeps _ (by assumption)
          · assumption
        clear_value v11
        extract_lets +onlyGivenNames v13
        have h14 : Keeps a v13 := by
          unfold v13
          exact State.bump_keeps _ _ _ (by assumption)
        clear_value v13
        extract_lets +onlyGivenNames v15
        have h16 : Keeps a v15 := by
          unfold v15
          refine keeps_ite ?_ ?_
          · exact State.raise_keeps _ (by assumption)
          · assumption
        clear_value v15
        refine keeps_ite ?_ ?_
        · exact State.record_keeps _ _ _ (by assumption)
        · assumption
theorem State.takeStep_keeps {a s : State} (x2 : _) (x3 : _) (h : Keeps a s) : Keeps a (State.takeStep s x2 x3) := by
  unfold State.takeStep
  extract_lets +onlyGivenNames v1
  clear_value v1
  extract_lets +onlyGivenNames v2
  clear_value v2
  exact State.lateTest_keeps _ _ (State.retune_keeps _ (State.setSharer_keeps _ _ (by assumption)))
theorem State.stepUpdate_keeps {a s : State} (x2 : _) (x3 : _) (h : Keeps a s) : Keeps a (State.stepUpdate s x2 x3) := by
  unfold State.stepUpdate
  extract_lets +onlyGivenNames v1
  clear_value v1
  split
  · assumption
  · refine keeps_ite ?_ ?_
    · exact State.takeStep_keeps _ _ (by assumption)
    · refine keeps_ite ?_ ?_
      · exact State.setSharer_keeps _ _ (by assumption)
      · assumption
  · refine keeps_ite ?_ ?_
    · exact State.takeStep_keeps _ _ (by assumption)
    · assumption
theorem State.stepStore_keeps {a s : State} (x2 : _) (x3 : _) (x4 : _) (x5 : _) (h : Keeps a s) : Keeps a (State.stepStore s x2 x3 x4 x5) := by
  unfold State.stepStore
  refine keeps_ite ?_ ?_
  · assumption
  · split
    · exact State.stepUpdate_keeps _ _ (by assumption)
    · assumption
theorem State.makeDormant_keeps {a s : State} (x2 : _) (h : Keeps a s) : Keeps a (State.makeDormant s x2) := by
  unfold State.makeDormant
  extract_lets +onlyGivenNames v1
  clear_value v1
  refine keeps_ite ?_ ?_
  · exact State.raise_keeps _ (State.retune_keeps _ (State.setSharer_keeps _ _ (by assumption)))
  · assumption
theorem State.freeSharer_keeps {a s : State} (x2 : _) (h : Keeps a s) : Keeps a (State.freeSharer s x2) := by
  unfold State.freeSharer
  extract_lets +onlyGivenNames v1
  clear_value v1
  exact State.retune_keeps _ (State.setSharer_keeps _ _ (by assumption))
theorem State.closeTable_keeps {a s : State} (x2 : _) (h : Keeps a s) : Keeps a (State.closeTable s x2) := by
  unfold State.closeTable
  extract_lets +onlyGivenNames v1
  clear_value v1
  extract_lets +onlyGivenNames v2
  have h3 : Keeps a v2 := by
    unfold v2
    exact State.setTable_keeps _ _ (by assumption)
  clear_value v2
  extract_lets +onlyGivenNames v4
  have h5 : Keeps a v4 := by
    unfold v4
    refine keeps_foldl ?_ ?_
    · assumption
    · intro u6 u7 u8
      beta_reduce
      exact State.freeSharer_keeps _ (by assumption)
  clear_value v4
  extract_lets +onlyGivenNames v9
  have h10 : Keeps a v9 := by
    unfold v9
    refine keeps_foldl ?_ ?_
    · assumption
    · intro u11 u12 u13
      beta_reduce
      exact State.setEntry_keeps _ _ (State.releaseEntry_keeps _ _ (by assumption))
  clear_value v9
  exact State.setTable_keeps _ _ (by assumption)
theorem State.voidRegion_keeps {a s : State} (x2 : _) (h : Keeps a s) : Keeps a (State.voidRegion s x2) := by
  unfold State.voidRegion
  refine keeps_foldl ?_ ?_
  · assumption
  · intro u1 u2 u3
    beta_reduce
    extract_lets +onlyGivenNames v4
    have h5 : Keeps a v4 := by
      unfold v4
      exact State.releaseEntry_keeps _ _ (by assumption)
    clear_value v4
    exact State.setEntry_keeps _ _ (by assumption)
theorem State.closeSet_keeps {a s : State} (x2 : _) (h : Keeps a s) : Keeps a (State.closeSet s x2) := by
  unfold State.closeSet
  refine keeps_foldl ?_ ?_
  · assumption
  · intro u1 u2 u3
    beta_reduce
    exact State.closeTable_keeps _ (by assumption)

end Sys2Proof.Machine
end

