-- ==== Sys2Proof/Laws/KeepsHost.lean ====
section
/-! SUPPORT. Every operation of HostPath, HostFx keeps what `Keeps` says. -/
namespace Sys2Proof.Machine
set_option Elab.async false

/-! ### HostPath.lean -/

theorem State.setFilter_keeps {a s : State} (x2 : _) (x3 : _) (h : Keeps a s) : Keeps a (State.setFilter s x2 x3) := by
  unfold State.setFilter
  extract_lets +onlyGivenNames v1
  clear_value v1
  extract_lets +onlyGivenNames v2
  have h3 : Keeps a v2 := by
    unfold v2
    exact State.fset_keeps _ _ (keeps_upd (by assumption))
  clear_value v2
  exact State.setSf_keeps _ _ (by assumption)
theorem State.sfUpdate_keeps {a s : State} (x2 : _) (x3 : _) (h : Keeps a s) : Keeps a (State.sfUpdate s x2 x3) := by
  unfold State.sfUpdate
  exact State.setFilter_keeps _ _ (by assumption)
theorem State.sfPutLine_keeps {a s : State} (x2 : _) (x3 : _) (h : Keeps a s) : Keeps a (State.sfPutLine s x2 x3) := by
  unfold State.sfPutLine
  refine keeps_foldl ?_ ?_
  · assumption
  · intro u1 u2 u3
    beta_reduce
    extract_lets +onlyGivenNames v4
    clear_value v4
    extract_lets +onlyGivenNames v5
    clear_value v5
    extract_lets +onlyGivenNames v6
    clear_value v6
    extract_lets +onlyGivenNames v7
    clear_value v7
    refine keeps_ite ?_ ?_
    · assumption
    · extract_lets +onlyGivenNames v8
      have h9 : Keeps a v8 := by
        unfold v8
        split
        · exact State.setFilter_keeps _ _ (by assumption)
        · assumption
      clear_value v8
      split
      · exact State.setFilter_keeps _ _ (by assumption)
      · assumption
theorem State.filterAccess_keeps {a s : State} (x2 : _) (x3 : _) (h : Keeps a s) : Keeps a (State.filterAccess s x2 x3).2 := by
  unfold State.filterAccess
  refine keeps_ite2 ?_ ?_
  · exact State.quayAccess_keeps _ (by assumption)
  · assumption
theorem State.sendSnoops_keeps {a s : State} (x2 : _) (x3 : _) (x4 : _) (x5 : _) (h : Keeps a s) : Keeps a (State.sendSnoops s x2 x3 x4 x5) := by
  unfold State.sendSnoops
  split
  · assumption
  · extract_lets +onlyGivenNames v1
    have h2 : Keeps a v1 := by
      unfold v1
      split
      · assumption
      · extract_lets +onlyGivenNames v3
        clear_value v3
        exact State.leaveAt_keeps _ (by assumption)
    clear_value v1
    exact State.sendSnoops_keeps _ _ _ _ (by assumption)
theorem State.startBi_keeps {a s : State} (x2 : _) (x3 : _) (x4 : _) (x5 : _) (x6 : _) (x7 : _) (h : Keeps a s) : Keeps a (State.startBi s x2 x3 x4 x5 x6 x7) := by
  unfold State.startBi
  extract_lets +onlyGivenNames v1
  have h2 : Keeps a v1 := by
    unfold v1
    exact State.bothPhases_keeps (State.sendSnoops_keeps _ _ _ _ (by assumption))
  clear_value v1
  extract_lets +onlyGivenNames v3
  have h4 : Keeps a v3 := by
    unfold v3
    exact State.sfUpdate_keeps _ _ (by assumption)
  clear_value v3
  exact keeps_upd (by assumption)
theorem State.waitBehind_keeps {a s : State} (x2 : _) (x3 : _) (h : Keeps a s) : Keeps a (State.waitBehind s x2 x3) := by
  unfold State.waitBehind
  exact keeps_upd (by assumption)
theorem State.sweepPage_keeps {a s : State} (x2 : _) (h : Keeps a s) : Keeps a (State.sweepPage s x2) := by
  unfold State.sweepPage
  split
  · exact keeps_upd (by assumption)
  · extract_lets +onlyGivenNames v1
    clear_value v1
    extract_lets +onlyGivenNames v2
    clear_value v2
    extract_lets +onlyGivenNames v3
    have h4 : Keeps a v3 := by
      unfold v3
      exact keeps_upd (by assumption)
    clear_value v3
    extract_lets +onlyGivenNames v5
    have h6 : Keeps a v5 := by
      unfold v5
      refine keeps_foldl ?_ ?_
      · assumption
      · intro u7 u8 u9
        beta_reduce
        refine keeps_ite ?_ ?_
        · assumption
        · exact State.startBi_keeps _ _ _ _ _ _ (by assumption)
    clear_value v5
    extract_lets +onlyGivenNames v10
    have h11 : Keeps a v10 := by
      unfold v10
      exact State.setSf_keeps _ _ (by assumption)
    clear_value v10
    refine keeps_ite ?_ ?_
    · exact State.setBit_keeps _ _ (by assumption)
    · assumption
theorem State.sweepFirst_keeps {a s : State} (x2 : _) (x3 : _) (h : Keeps a s) : Keeps a (State.sweepFirst s x2 x3) := by
  unfold State.sweepFirst
  refine keeps_ite ?_ ?_
  · exact State.sweepPage_keeps _ (by assumption)
  · assumption
theorem State.waitPage_keeps {a s : State} (x2 : _) (x3 : _) (x4 : _) (h : Keeps a s) : Keeps a (State.waitPage s x2 x3 x4) := by
  unfold State.waitPage
  exact keeps_upd (by assumption)
theorem State.holdStore_keeps {a s : State} (x2 : _) (h : Keeps a s) : Keeps a (State.holdStore s x2) := by
  unfold State.holdStore
  exact keeps_upd (by assumption)
theorem State.writeLine_keeps {a s : State} (x2 : _) (x3 : _) (x4 : _) (x5 : _) (h : Keeps a s) : Keeps a (State.writeLine s x2 x3 x4 x5) := by
  unfold State.writeLine
  extract_lets +onlyGivenNames v1
  clear_value v1
  extract_lets +onlyGivenNames v2
  clear_value v2
  refine keeps_ite ?_ ?_
  · exact State.holdStore_keeps _ (by assumption)
  · extract_lets +onlyGivenNames v3
    have h4 : Keeps a v3 := by
      unfold v3
      refine keeps_ite ?_ ?_
      · assumption
      · exact State.sweepFirst_keeps _ _ (by assumption)
    clear_value v3
    refine keeps_ite ?_ ?_
    · exact State.waitBehind_keeps _ _ (by assumption)
    · extract_lets +onlyGivenNames v5
      clear_value v5
      refine keeps_ite ?_ ?_
      · exact State.startBi_keeps _ _ _ _ _ _ (by assumption)
      · refine keeps_ite ?_ ?_
        · refine State.waitPage_keeps _ _ _ ?_
          refine keeps_ite ?_ ?_
          · exact State.startRestore_keeps _ _ (by assumption)
          · refine keeps_ite ?_ ?_
            · assumption
            · exact State.startFetch_keeps _ _ _ (by assumption)
        · refine keeps_ite ?_ ?_
          · exact State.stepStore_keeps _ _ _ _ (State.storeV_keeps _ (State.touch_keeps _ (by assumption)))
          · exact State.landStore_keeps _ (State.touch_keeps _ (by assumption))
theorem State.answerFwd_keeps {a s : State} (x2 : _) (x3 : _) (h : Keeps a s) : Keeps a (State.answerFwd s x2 x3) := by
  unfold State.answerFwd
  extract_lets +onlyGivenNames v1
  clear_value v1
  extract_lets +onlyGivenNames v2
  clear_value v2
  split
  · extract_lets +onlyGivenNames v3
    clear_value v3
    exact State.twinSend_keeps _ _ _ (by assumption)
  · extract_lets +onlyGivenNames v4
    clear_value v4
    exact State.twinSend_keeps _ _ _ (by assumption)
  · extract_lets +onlyGivenNames v5
    have h6 : Keeps a v5.2 := by
      unfold v5
      exact State.free_keeps _ (by assumption)
    clear_value v5
    extract_lets +onlyGivenNames v7
    clear_value v7
    exact State.twinSend_keeps _ _ _ (by assumption)
theorem State.gotLine_keeps {a s : State} (x2 : _) (x3 : _) (x4 : _) (x5 : _) (h : Keeps a s) : Keeps a (State.gotLine s x2 x3 x4 x5) := by
  unfold State.gotLine
  extract_lets +onlyGivenNames v1
  clear_value v1
  exact keeps_upd (by assumption)
theorem State.coreGotAt_keeps {a s : State} (x2 : _) (x3 : _) (x4 : _) (x5 : _) (h : Keeps a s) : Keeps a (State.coreGotAt s x2 x3 x4 x5) := by
  unfold State.coreGotAt
  extract_lets +onlyGivenNames v1
  clear_value v1
  extract_lets +onlyGivenNames v2
  clear_value v2
  extract_lets +onlyGivenNames v3
  clear_value v3
  exact keeps_upd (by assumption)
theorem State.coreGot_keeps {a s : State} (x2 : _) (x3 : _) (x4 : _) (x5 : _) (x6 : _) (h : Keeps a s) : Keeps a (State.coreGot s x2 x3 x4 x5 x6) := by
  unfold State.coreGot
  extract_lets +onlyGivenNames v1
  clear_value v1
  exact State.coreGotAt_keeps _ _ _ _ (by assumption)
theorem State.give_keeps {a s : State} (x2 : _) (x3 : _) (x4 : _) (x5 : _) (x6 : _) (h : Keeps a s) : Keeps a (State.give s x2 x3 x4 x5 x6) := by
  unfold State.give
  split
  · split
    · exact State.sendDrs_keeps _ _ _ _ _ (by assumption)
    · exact State.sendPoison_keeps _ _ _ (by assumption)
  · exact State.answerFwd_keeps _ _ (by assumption)
  · exact State.gotLine_keeps _ _ _ _ (by assumption)
  · exact State.coreGot_keeps _ _ _ _ _ (by assumption)
  · assumption
theorem State.cancelled_keeps {a s : State} (x2 : _) (x3 : _) (x4 : _) (h : Keeps a s) : Keeps a (State.cancelled s x2 x3 x4) := by
  unfold State.cancelled
  split
  · extract_lets +onlyGivenNames v1
    clear_value v1
    extract_lets +onlyGivenNames v2
    clear_value v2
    refine keeps_ite ?_ ?_
    · assumption
    · refine keeps_ite ?_ ?_
      · assumption
      · extract_lets +onlyGivenNames v3
        have h4 : Keeps a v3.2 := by
          unfold v3
          exact State.quayAccess_keeps _ (by assumption)
        clear_value v3
        extract_lets +onlyGivenNames v5
        have h6 : Keeps a v5.2 := by
          unfold v5
          exact State.dramAccess_keeps _ (by assumption)
        clear_value v5
        extract_lets +onlyGivenNames v7
        have h8 : Keeps a v7.2 := by
          unfold v7
          refine keeps_ite2 ?_ ?_
          · assumption
          · assumption
        clear_value v7
        extract_lets +onlyGivenNames v9
        have h10 : Keeps a v9 := by
          unfold v9
          assumption
        extract_lets +onlyGivenNames v11
        clear_value v11
        refine keeps_ite ?_ ?_
        · assumption
        · exact State.leaveAt_keeps _ (by assumption)
  · assumption
theorem State.giveOwn_keeps {a s : State} (x2 : _) (x3 : _) (x4 : _) (x5 : _) (x6 : _) (h : Keeps a s) : Keeps a (State.giveOwn s x2 x3 x4 x5 x6) := by
  unfold State.giveOwn
  extract_lets +onlyGivenNames v1
  clear_value v1
  extract_lets +onlyGivenNames v2
  clear_value v2
  extract_lets +onlyGivenNames v3
  clear_value v3
  exact State.give_keeps _ _ _ _ _ (State.cancelled_keeps _ _ _ (by assumption))
theorem State.waitData_keeps {a s : State} (x2 : _) (x3 : _) (h : Keeps a s) : Keeps a (State.waitData s x2 x3) := by
  unfold State.waitData
  exact keeps_upd (by assumption)
theorem State.serveRead_keeps {a s : State} (x2 : _) (x3 : _) (x4 : _) (x5 : _) (h : Keeps a s) : Keeps a (State.serveRead s x2 x3 x4 x5) := by
  unfold State.serveRead
  extract_lets +onlyGivenNames v1
  clear_value v1
  extract_lets +onlyGivenNames v2
  clear_value v2
  extract_lets +onlyGivenNames v3
  have h4 : Keeps a v3 := by
    unfold v3
    exact State.touch_keeps _ (by assumption)
  clear_value v3
  extract_lets +onlyGivenNames v5
  clear_value v5
  extract_lets +onlyGivenNames v6
  have hf7 : ∀ y0, Keeps a (v6 y0) := by
    intro u8
    unfold v6
    refine keeps_ite ?_ ?_
    · extract_lets +onlyGivenNames v9
      have h10 : Keeps a v9.2 := by
        unfold v9
        exact State.access_keeps _ (by assumption)
      clear_value v9
      exact State.give_keeps _ _ _ _ _ (by assumption)
    · exact State.queueRead_keeps _ (by assumption)
  clear_value v6
  refine keeps_ite ?_ ?_
  · exact State.giveOwn_keeps _ _ _ _ _ (by assumption)
  · refine keeps_ite ?_ ?_
    · apply hf7
    · refine keeps_ite ?_ ?_
      · apply hf7
      · refine keeps_ite ?_ ?_
        · apply hf7
        · refine keeps_ite ?_ ?_
          · exact State.giveOwn_keeps _ _ _ _ _ (by assumption)
          · refine keeps_ite ?_ ?_
            · exact State.waitData_keeps _ _ (State.startRestore_keeps _ _ (by assumption))
            · exact State.waitData_keeps _ _ (State.startFetch_keeps _ _ _ (by assumption))
theorem State.serveQueued_keeps {a s : State} (x2 : _) (x3 : _) (h : Keeps a s) : Keeps a (State.serveQueued s x2 x3) := by
  unfold State.serveQueued
  extract_lets +onlyGivenNames v1
  clear_value v1
  extract_lets +onlyGivenNames v2
  clear_value v2
  extract_lets +onlyGivenNames v3
  clear_value v3
  exact State.give_keeps _ _ _ _ _ (by assumption)
theorem State.filterRead_keeps {a s : State} (x2 : _) (x3 : _) (x4 : _) (x5 : _) (x6 : _) (x7 : _) (x8 : _) (h : Keeps a s) : Keeps a (State.filterRead s x2 x3 x4 x5 x6 x7 x8).2 := by
  unfold State.filterRead
  refine keeps_ite2 ?_ ?_
  · assumption
  · extract_lets +onlyGivenNames v1
    clear_value v1
    extract_lets +onlyGivenNames v2
    clear_value v2
    refine keeps_ite2 ?_ ?_
    · dsimp only
      exact State.startBi_keeps _ _ _ _ _ _ (by assumption)
    · refine keeps_ite2 ?_ ?_
      · dsimp only
        exact State.startBi_keeps _ _ _ _ _ _ (by assumption)
      · extract_lets +onlyGivenNames v3
        clear_value v3
        split
        · dsimp only
          exact State.sfUpdate_keeps _ _ (by assumption)
        · split
          · extract_lets +onlyGivenNames v4
            clear_value v4
            refine keeps_ite2 ?_ ?_
            · dsimp only
              exact State.setFilter_keeps _ _ (State.sfUpdate_keeps _ _ (by assumption))
            · refine keeps_ite2 ?_ ?_
              · dsimp only
                exact State.waitBehind_keeps _ _ (by assumption)
              · dsimp only
                exact State.startBi_keeps _ _ _ _ _ _ (by assumption)
          · dsimp only
            exact State.setFilter_keeps _ _ (by assumption)
theorem State.handWait_keeps {a s : State} (x2 : _) (h : Keeps a s) : Keeps a (State.handWait s x2) := by
  unfold State.handWait
  split
  · exact keeps_upd (by assumption)
  · exact keeps_upd (by assumption)
theorem State.readOn_keeps {a s : State} (x2 : _) (x3 : _) (x4 : _) (x5 : _) (h : Keeps a s) : Keeps a (State.readOn s x2 x3 x4 x5) := by
  unfold State.readOn
  extract_lets +onlyGivenNames v1
  have h2 : Keeps a v1 := by
    unfold v1
    exact State.sweepFirst_keeps _ _ (by assumption)
  clear_value v1
  refine keeps_ite ?_ ?_
  · exact State.waitBehind_keeps _ _ (by assumption)
  · refine keeps_ite ?_ ?_
    · exact State.waitPage_keeps _ _ _ (by assumption)
    · extract_lets +onlyGivenNames v3
      have h4 : Keeps a v3.2 := by
        unfold v3
        exact State.filterAccess_keeps _ _ (by assumption)
      clear_value v3
      extract_lets +onlyGivenNames v5
      have h6 : Keeps a v5.2 := by
        unfold v5
        split
        · exact State.filterRead_keeps _ _ _ _ _ _ _ (by assumption)
        · assumption
      clear_value v5
      refine keeps_ite ?_ ?_
      · assumption
      · refine keeps_ite ?_ ?_
        · exact State.waitData_keeps _ _ (by assumption)
        · exact State.serveRead_keeps _ _ _ _ (by assumption)
theorem State.runFwd_keeps {a s : State} (x2 : _) (x3 : _) (x4 : _) (x5 : _) (x6 : _) (x7 : _) (h : Keeps a s) : Keeps a (State.runFwd s x2 x3 x4 x5 x6 x7) := by
  unfold State.runFwd
  extract_lets +onlyGivenNames v1
  clear_value v1
  split
  · exact State.answerFwd_keeps _ _ (by assumption)
  · extract_lets +onlyGivenNames v2
    clear_value v2
    refine keeps_ite ?_ ?_
    · exact State.handWait_keeps _ (by assumption)
    · refine keeps_ite ?_ ?_
      · exact State.answerFwd_keeps _ _ (by assumption)
      · exact State.readOn_keeps _ _ _ _ (by assumption)
theorem State.answerHdr_keeps {a s : State} (x2 : _) (x3 : _) (h : Keeps a s) : Keeps a (State.answerHdr s x2 x3).2 := by
  unfold State.answerHdr
  extract_lets +onlyGivenNames v1
  have h2 : Keeps a v1.2 := by
    unfold v1
    exact State.free_keeps _ (by assumption)
  clear_value v1
  assumption
theorem State.atomicResp_keeps {a s : State} (x2 : _) (x3 : _) (x4 : _) (x5 : _) (h : Keeps a s) : Keeps a (State.atomicResp s x2 x3 x4 x5) := by
  unfold State.atomicResp
  extract_lets +onlyGivenNames v1
  have h2 : Keeps a v1.2 := by
    unfold v1
    exact State.answerHdr_keeps _ _ (by assumption)
  clear_value v1
  exact State.utSend_keeps _ _ _ _ _ (by assumption)
theorem State.setMct_keeps {a s : State} (x2 : _) (x3 : _) (x4 : _) (h : Keeps a s) : Keeps a (State.setMct s x2 x3 x4) := by
  unfold State.setMct
  extract_lets +onlyGivenNames v1
  clear_value v1
  exact keeps_upd (by assumption)
theorem State.dropOp_keeps {a s : State} (x2 : _) (h : Keeps a s) : Keeps a (State.dropOp s x2) := by
  unfold State.dropOp
  exact keeps_upd (by assumption)
theorem State.doAtomic_keeps {a s : State} (x2 : _) (x3 : _) (x4 : _) (h : Keeps a s) : Keeps a (State.doAtomic s x2 x3 x4) := by
  unfold State.doAtomic
  extract_lets +onlyGivenNames v1
  have h2 : Keeps a v1 := by
    unfold v1
    exact State.dropOp_keeps _ (by assumption)
  clear_value v1
  split
  · extract_lets +onlyGivenNames v3
    have h4 : Keeps a v3 := by
      unfold v3
      exact State.setMct_keeps _ _ _ (by assumption)
    clear_value v3
    exact State.atomicResp_keeps _ _ _ _ (by assumption)
  · extract_lets +onlyGivenNames v5
    clear_value v5
    extract_lets +onlyGivenNames v6
    clear_value v6
    extract_lets +onlyGivenNames v7
    clear_value v7
    extract_lets +onlyGivenNames v8
    have h9 : Keeps a v8.2 := by
      unfold v8
      exact State.newId_keeps (by assumption)
    clear_value v8
    extract_lets +onlyGivenNames v10
    have h11 : Keeps a v10 := by
      unfold v10
      exact State.setMct_keeps _ _ _ (by assumption)
    clear_value v10
    extract_lets +onlyGivenNames v12
    clear_value v12
    extract_lets +onlyGivenNames v13
    clear_value v13
    extract_lets +onlyGivenNames v14
    have h15 : Keeps a v14 := by
      unfold v14
      exact keeps_upd (by assumption)
    clear_value v14
    extract_lets +onlyGivenNames v16
    clear_value v16
    exact State.writeLine_keeps _ _ _ _ (by assumption)
theorem State.retryAtomic_keeps {a s : State} (x2 : _) (h : Keeps a s) : Keeps a (State.retryAtomic s x2) := by
  unfold State.retryAtomic
  extract_lets +onlyGivenNames v1
  have h2 : Keeps a v1 := by
    unfold v1
    exact State.dropOp_keeps _ (by assumption)
  clear_value v1
  extract_lets +onlyGivenNames v3
  clear_value v3
  extract_lets +onlyGivenNames v4
  have h5 : Keeps a v4 := by
    unfold v4
    exact keeps_upd (by assumption)
  clear_value v4
  extract_lets +onlyGivenNames v6
  have h7 : Keeps a v6.2 := by
    unfold v6
    exact State.answerHdr_keeps _ _ (by assumption)
  clear_value v6
  extract_lets +onlyGivenNames v8
  have h9 : Keeps a v8 := by
    unfold v8
    exact State.bumpAt_keeps _ _ _ _ (by assumption)
  clear_value v8
  exact State.utSend_keeps _ _ _ _ _ (by assumption)
theorem State.atomicOn_keeps {a s : State} (x2 : _) (x3 : _) (x4 : _) (h : Keeps a s) : Keeps a (State.atomicOn s x2 x3 x4) := by
  unfold State.atomicOn
  extract_lets +onlyGivenNames v1
  clear_value v1
  extract_lets +onlyGivenNames v2
  clear_value v2
  extract_lets +onlyGivenNames v3
  clear_value v3
  extract_lets +onlyGivenNames v4
  have h5 : Keeps a v4 := by
    unfold v4
    exact State.sweepFirst_keeps _ _ (by assumption)
  clear_value v4
  refine keeps_ite ?_ ?_
  · exact State.waitBehind_keeps _ _ (by assumption)
  · refine keeps_ite ?_ ?_
    · exact State.waitPage_keeps _ _ _ (by assumption)
    · extract_lets +onlyGivenNames v6
      have h7 : Keeps a v6.2 := by
        unfold v6
        exact State.filterAccess_keeps _ _ (by assumption)
      clear_value v6
      extract_lets +onlyGivenNames v8
      have h9 : Keeps a v8 := by
        unfold v8
        assumption
      extract_lets +onlyGivenNames v10
      clear_value v10
      extract_lets +onlyGivenNames v11
      clear_value v11
      refine keeps_ite ?_ ?_
      · exact State.waitPage_keeps _ _ _ (State.startRestore_keeps _ _ (by assumption))
      · refine keeps_ite ?_ ?_
        · exact State.waitPage_keeps _ _ _ (State.startFetch_keeps _ _ _ (by assumption))
        · refine keeps_ite ?_ ?_
          · exact State.waitPage_keeps _ _ _ (by assumption)
          · refine keeps_ite ?_ ?_
            · exact State.startBi_keeps _ _ _ _ _ _ (by assumption)
            · exact State.doAtomic_keeps _ _ _ (State.touch_keeps _ (by assumption))
theorem State.peerLine_keeps {a s : State} (x2 : _) (x3 : _) (h : Keeps a s) : Keeps a (State.peerLine s x2 x3) := by
  unfold State.peerLine
  split
  · assumption
  · extract_lets +onlyGivenNames v1
    clear_value v1
    split
    · refine keeps_ite ?_ ?_
      · exact State.retryAtomic_keeps _ (by assumption)
      · exact State.gotLine_keeps _ _ _ _ (by assumption)
    · extract_lets +onlyGivenNames v2
      clear_value v2
      refine keeps_ite ?_ ?_
      · exact State.handWait_keeps _ (by assumption)
      · refine keeps_ite ?_ ?_
        · refine keeps_ite ?_ ?_
          · exact State.retryAtomic_keeps _ (by assumption)
          · exact State.forward_keeps _ _ _ (by assumption)
        · refine keeps_ite ?_ ?_
          · refine keeps_ite ?_ ?_
            · exact State.holdStore_keeps _ (by assumption)
            · exact State.atomicOn_keeps _ _ _ (by assumption)
          · exact State.readOn_keeps _ _ _ _ (by assumption)
theorem State.coreLine_keeps {a s : State} (x2 : _) (x3 : _) (x4 : _) (x5 : _) (h : Keeps a s) : Keeps a (State.coreLine s x2 x3 x4 x5) := by
  unfold State.coreLine
  extract_lets +onlyGivenNames v1
  clear_value v1
  split
  · exact State.coreGot_keeps _ _ _ _ _ (State.countUnmapped_keeps (by assumption))
  · extract_lets +onlyGivenNames v2
    clear_value v2
    refine keeps_ite ?_ ?_
    · exact State.coreGot_keeps _ _ _ _ _ (State.countUnmapped_keeps (by assumption))
    · refine keeps_ite ?_ ?_
      · exact State.handWait_keeps _ (by assumption)
      · refine keeps_ite ?_ ?_
        · exact State.forward_keeps _ _ _ (by assumption)
        · exact State.readOn_keeps _ _ _ _ (by assumption)
theorem State.toDoorbell_keeps {a s : State} (x2 : _) (h : Keeps a s) : Keeps a (State.toDoorbell s x2) := by
  unfold State.toDoorbell
  exact keeps_upd (by assumption)
theorem State.runRead_keeps {a s : State} (x2 : _) (x3 : _) (h : Keeps a s) : Keeps a (State.runRead s x2 x3) := by
  unfold State.runRead
  refine keeps_ite ?_ ?_
  · exact State.toDoorbell_keeps _ (by assumption)
  · split
    · extract_lets +onlyGivenNames v1
      clear_value v1
      extract_lets +onlyGivenNames v2
      have h3 : Keeps a v2 := by
        unfold v2
        exact State.countUnmapped_keeps (by assumption)
      clear_value v2
      extract_lets +onlyGivenNames v4
      have h5 : Keeps a v4 := by
        unfold v4
        split
        · exact State.cancelled_keeps _ _ _ (by assumption)
        · assumption
      clear_value v4
      exact State.sendPoison_keeps _ _ _ (by assumption)
    · extract_lets +onlyGivenNames v6
      clear_value v6
      refine keeps_ite ?_ ?_
      · exact State.handWait_keeps _ (by assumption)
      · refine keeps_ite ?_ ?_
        · exact State.forward_keeps _ _ _ (by assumption)
        · exact State.readOn_keeps _ _ _ _ (by assumption)
theorem State.runStore_keeps {a s : State} (x2 : _) (x3 : _) (x4 : _) (x5 : _) (h : Keeps a s) : Keeps a (State.runStore s x2 x3 x4 x5) := by
  unfold State.runStore
  extract_lets +onlyGivenNames v1
  clear_value v1
  refine keeps_ite ?_ ?_
  · exact State.holdStore_keeps _ (by assumption)
  · refine keeps_ite ?_ ?_
    · exact State.toDoorbell_keeps _ (by assumption)
    · split
      · exact State.sendPlainNdr_keeps _ _ (State.countUnmapped_keeps (by assumption))
      · extract_lets +onlyGivenNames v2
        clear_value v2
        refine keeps_ite ?_ ?_
        · exact State.handWait_keeps _ (by assumption)
        · refine keeps_ite ?_ ?_
          · exact State.forward_keeps _ _ _ (by assumption)
          · refine keeps_ite ?_ ?_
            · exact State.waitPage_keeps _ _ _ (by assumption)
            · extract_lets +onlyGivenNames v3
              have h4 : Keeps a v3.2 := by
                unfold v3
                exact State.filterAccess_keeps _ _ (by assumption)
              clear_value v3
              exact State.writeLine_keeps _ _ _ _ (State.bothPhases_keeps (by assumption))
theorem State.biAnswer_keeps {a s : State} (x2 : _) (x3 : _) (x4 : _) (h : Keeps a s) : Keeps a (State.biAnswer s x2 x3 x4) := by
  unfold State.biAnswer
  extract_lets +onlyGivenNames v1
  clear_value v1
  exact keeps_upd (by assumption)
theorem State.biWritten_keeps {a s : State} (x2 : _) (x3 : _) (h : Keeps a s) : Keeps a (State.biWritten s x2 x3) := by
  unfold State.biWritten
  extract_lets +onlyGivenNames v1
  clear_value v1
  exact keeps_upd (by assumption)
theorem State.runBack_keeps {a s : State} (x2 : _) (x3 : _) (x4 : _) (x5 : _) (h : Keeps a s) : Keeps a (State.runBack s x2 x3 x4 x5) := by
  unfold State.runBack
  extract_lets +onlyGivenNames v1
  clear_value v1
  refine keeps_ite ?_ ?_
  · exact State.holdStore_keeps _ (by assumption)
  · refine keeps_ite ?_ ?_
    · exact State.toDoorbell_keeps _ (by assumption)
    · split
      · exact State.sendPlainNdr_keeps _ _ (State.countUnmapped_keeps (by assumption))
      · extract_lets +onlyGivenNames v2
        clear_value v2
        extract_lets +onlyGivenNames v3
        clear_value v3
        refine keeps_ite ?_ ?_
        · exact State.handWait_keeps _ (by assumption)
        · refine keeps_ite ?_ ?_
          · exact State.forward_keeps _ _ _ (by assumption)
          · refine keeps_ite ?_ ?_
            · exact State.waitPage_keeps _ _ _ (by assumption)
            · extract_lets +onlyGivenNames v4
              have h5 : Keeps a v4.2 := by
                unfold v4
                exact State.filterAccess_keeps _ _ (by assumption)
              clear_value v4
              extract_lets +onlyGivenNames v6
              have h7 : Keeps a v6 := by
                unfold v6
                assumption
              extract_lets +onlyGivenNames v8
              clear_value v8
              refine keeps_ite ?_ ?_
              · exact State.sendPlainNdr_keeps _ _ (State.countDiscard_keeps _ (by assumption))
              · exact State.biWritten_keeps _ _ (State.writeLine_keeps _ _ _ _ (State.bothPhases_keeps (by assumption)))
theorem State.placeLine_keeps {a s : State} (x2 : _) (h : Keeps a s) : Keeps a (State.placeLine s x2) := by
  unfold State.placeLine
  extract_lets +onlyGivenNames v1
  clear_value v1
  extract_lets +onlyGivenNames v2
  clear_value v2
  refine keeps_ite ?_ ?_
  · exact State.holdStore_keeps _ (by assumption)
  · refine keeps_ite ?_ ?_
    · refine keeps_ite ?_ ?_
      · exact State.waitPage_keeps _ _ _ (by assumption)
      · refine keeps_ite ?_ ?_
        · exact State.waitPage_keeps _ _ _ (State.startRestore_keeps _ _ (by assumption))
        · exact State.landStore_keeps _ (State.touch_keeps _ (by assumption))
    · refine keeps_ite ?_ ?_
      · exact State.handWait_keeps _ (by assumption)
      · refine keeps_ite ?_ ?_
        · split
          · exact State.answerFwd_keeps _ _ (keeps_upd (by assumption))
          · exact State.forward_keeps _ _ _ (by assumption)
        · refine keeps_ite ?_ ?_
          · exact State.waitPage_keeps _ _ _ (by assumption)
          · extract_lets +onlyGivenNames v3
            have h4 : Keeps a v3.2 := by
              unfold v3
              exact State.filterAccess_keeps _ _ (by assumption)
            clear_value v3
            exact State.writeLine_keeps _ _ _ _ (by assumption)
theorem State.runReq_keeps {a s : State} (x2 : _) (h : Keeps a s) : Keeps a (State.runReq s x2) := by
  unfold State.runReq
  split
  · exact State.runRead_keeps _ _ (by assumption)
  · exact State.runStore_keeps _ _ _ _ (by assumption)
  · exact State.runBack_keeps _ _ _ _ (by assumption)
  · exact State.placeLine_keeps _ (by assumption)
  · assumption
  · exact State.runFwd_keeps _ _ _ _ _ _ (by assumption)
  · exact State.peerLine_keeps _ _ (by assumption)
  · exact State.coreLine_keeps _ _ _ _ (by assumption)
theorem State.runAll_keeps {a s : State} (x2 : _) (x3 : _) (h : Keeps a s) : Keeps a (State.runAll s x2 x3) := by
  unfold State.runAll
  refine keeps_foldl ?_ ?_
  · assumption
  · intro u1 u2 u3
    beta_reduce
    exact State.runReq_keeps _ (by assumption)
theorem State.runBehind_keeps {a s : State} (x2 : _) (h : Keeps a s) : Keeps a (State.runBehind s x2) := by
  unfold State.runBehind
  extract_lets +onlyGivenNames v1
  clear_value v1
  exact State.runAll_keeps _ _ (keeps_upd (by assumption))
theorem State.sfAfter_keeps {a s : State} (x2 : _) (h : Keeps a s) : Keeps a (State.sfAfter s x2) := by
  unfold State.sfAfter
  extract_lets +onlyGivenNames v1
  have hf2 : ∀ y0 y1, Keeps a (v1 y0 y1) := by
    intro u3 u4
    unfold v1
    exact State.sfUpdate_keeps _ _ (by assumption)
  clear_value v1
  refine keeps_ite ?_ ?_
  · exact State.bump_keeps _ _ _ (State.sfUpdate_keeps _ _ (by assumption))
  · refine keeps_ite ?_ ?_
    · split
      · split
        · apply hf2
        · exact State.sfUpdate_keeps _ _ (by assumption)
      · split
        · apply hf2
        · exact State.sfUpdate_keeps _ _ (by assumption)
      · apply hf2
      · exact State.sfUpdate_keeps _ _ (by assumption)
    · exact State.sfUpdate_keeps _ _ (by assumption)
theorem State.finishBi_keeps {a s : State} (x2 : _) (h : Keeps a s) : Keeps a (State.finishBi s x2) := by
  unfold State.finishBi
  extract_lets +onlyGivenNames v1
  clear_value v1
  extract_lets +onlyGivenNames v2
  have h3 : Keeps a v2 := by
    unfold v2
    exact keeps_upd (by assumption)
  clear_value v2
  extract_lets +onlyGivenNames v4
  have h5 : Keeps a v4 := by
    unfold v4
    exact State.sfAfter_keeps _ (by assumption)
  clear_value v4
  extract_lets +onlyGivenNames v6
  extract_lets +onlyGivenNames v7
  have h8 : Keeps a v7 := by
    unfold v7
    exact keeps_upd (by assumption)
  clear_value v7
  extract_lets +onlyGivenNames v9
  have h10 : Keeps a v9 := by
    unfold v9
    split
    · extract_lets +onlyGivenNames v11
      clear_value v11
      exact State.writeLine_keeps _ _ _ _ (by assumption)
    · exact State.runReq_keeps _ (by assumption)
  clear_value v9
  exact State.runBehind_keeps _ (by assumption)
theorem State.runFetched_keeps {a s : State} (x2 : _) (x3 : _) (h : Keeps a s) : Keeps a (State.runFetched s x2 x3) := by
  unfold State.runFetched
  extract_lets +onlyGivenNames v1
  clear_value v1
  extract_lets +onlyGivenNames v2
  clear_value v2
  extract_lets +onlyGivenNames v3
  have h4 : Keeps a v3 := by
    unfold v3
    exact keeps_upd (by assumption)
  clear_value v3
  refine keeps_foldl ?_ ?_
  · assumption
  · intro u5 u6 u7
    beta_reduce
    exact State.runReq_keeps _ (by assumption)
theorem State.runPageWaiters_keeps {a s : State} (x2 : _) (h : Keeps a s) : Keeps a (State.runPageWaiters s x2) := by
  unfold State.runPageWaiters
  extract_lets +onlyGivenNames v1
  clear_value v1
  exact State.runAll_keeps _ _ (keeps_upd (by assumption))
theorem State.answerWaits_keeps {a s : State} (x2 : _) (h : Keeps a s) : Keeps a (State.answerWaits s x2) := by
  unfold State.answerWaits
  extract_lets +onlyGivenNames v1
  clear_value v1
  extract_lets +onlyGivenNames v2
  clear_value v2
  extract_lets +onlyGivenNames v3
  have h4 : Keeps a v3 := by
    unfold v3
    exact keeps_upd (by assumption)
  clear_value v3
  refine keeps_foldl ?_ ?_
  · assumption
  · intro u5 u6 u7
    beta_reduce
    exact State.give_keeps _ _ _ _ _ (by assumption)
theorem State.yardFill_keeps {a s : State} (x2 : _) (h : Keeps a s) : Keeps a (State.yardFill s x2) := by
  unfold State.yardFill
  refine keeps_ite ?_ ?_
  · assumption
  · extract_lets +onlyGivenNames v1
    have h2 : Keeps a v1.2 := by
      unfold v1
      exact State.free_keeps _ (by assumption)
    clear_value v1
    extract_lets +onlyGivenNames v3
    have h4 : Keeps a v3 := by
      unfold v3
      assumption
    extract_lets +onlyGivenNames v5
    clear_value v5
    extract_lets +onlyGivenNames v6
    have h7 : Keeps a v6 := by
      unfold v6
      refine keeps_ite ?_ ?_
      · assumption
      · exact keeps_upd (by assumption)
    clear_value v6
    exact keeps_upd (by assumption)
/-! ### HostFx.lean -/

theorem State.exitTrigger_keeps {a s : State} (h : Keeps a s) : Keeps a (State.exitTrigger s) := by
  unfold State.exitTrigger
  refine keeps_ite ?_ ?_
  · assumption
  · split
    · exact keeps_upd (by assumption)
    · exact keeps_upd (by assumption)
    · assumption
theorem State.abandonMoves_keeps {a s : State} (x2 : _) (h : Keeps a s) : Keeps a (State.abandonMoves s x2) := by
  unfold State.abandonMoves
  extract_lets +onlyGivenNames v1
  clear_value v1
  extract_lets +onlyGivenNames v2
  clear_value v2
  extract_lets +onlyGivenNames v3
  clear_value v3
  extract_lets +onlyGivenNames v4
  have h5 : Keeps a v4 := by
    unfold v4
    exact keeps_upd (by assumption)
  clear_value v4
  refine keeps_foldl ?_ ?_
  · assumption
  · intro u6 u7 u8
    beta_reduce
    exact State.setPage_keeps _ _ (by assumption)
theorem State.dropStore_keeps {a s : State} (x2 : _) (x3 : _) (x4 : _) (h : Keeps a s) : Keeps a (State.dropStore s x2 x3 x4) := by
  unfold State.dropStore
  exact State.countUnmapped_keeps (State.complete_keeps _ _ _ _ _ _ (by assumption))
theorem State.discardStores_keeps {a s : State} (x2 : _) (h : Keeps a s) : Keeps a (State.discardStores s x2) := by
  unfold State.discardStores
  extract_lets +onlyGivenNames v1
  clear_value v1
  extract_lets +onlyGivenNames v2
  clear_value v2
  extract_lets +onlyGivenNames v3
  clear_value v3
  extract_lets +onlyGivenNames v4
  have h5 : Keeps a v4 := by
    unfold v4
    exact State.noteHolds_keeps _ (by assumption)
  clear_value v4
  extract_lets +onlyGivenNames v6
  clear_value v6
  extract_lets +onlyGivenNames v7
  have h8 : Keeps a v7 := by
    unfold v7
    exact keeps_upd (by assumption)
  clear_value v7
  extract_lets +onlyGivenNames v9
  have h10 : Keeps a v9 := by
    unfold v9
    refine keeps_foldl ?_ ?_
    · assumption
    · intro u11 u12 u13
      beta_reduce
      exact State.dropStore_keeps _ _ _ (by assumption)
  clear_value v9
  refine keeps_foldl ?_ ?_
  · assumption
  · intro u14 u15 u16
    beta_reduce
    exact State.dropStore_keeps _ _ _ (by assumption)
theorem State.enterDraining_keeps {a s : State} (x2 : _) (h : Keeps a s) : Keeps a (State.enterDraining s x2) := by
  unfold State.enterDraining
  extract_lets +onlyGivenNames v1
  have h2 : Keeps a v1 := by
    unfold v1
    exact State.voidRegion_keeps _ (State.abandonMoves_keeps _ (by assumption))
  clear_value v1
  exact State.settleAcks_keeps (State.discardStores_keeps _ (State.setRState_keeps _ _ (by assumption)))
theorem State.enterReleasing_keeps {a s : State} (x2 : _) (h : Keeps a s) : Keeps a (State.enterReleasing s x2) := by
  unfold State.enterReleasing
  extract_lets +onlyGivenNames v1
  have h2 : Keeps a v1 := by
    unfold v1
    exact State.setRState_keeps _ _ (State.voidRegion_keeps _ (State.abandonMoves_keeps _ (by assumption)))
  clear_value v1
  extract_lets +onlyGivenNames v3
  clear_value v3
  exact State.recordAll_keeps _ _ _ (by assumption)
theorem State.enter_keeps {a s : State} (x2 : _) (h : Keeps a s) : Keeps a (State.enter s x2) := by
  unfold State.enter
  extract_lets +onlyGivenNames v1
  have hf2 : ∀ y0, Keeps a y0 → Keeps a (v1 y0) := by
    intro u3 u4
    unfold v1
    exact keeps_upd (by assumption)
  clear_value v1
  refine keeps_ite ?_ ?_
  · refine State.exitTrigger_keeps ?_
    apply hf2
    assumption
  · exact State.runReq_keeps _ (by assumption)
theorem State.offer_keeps {a s : State} (x2 : _) (x3 : _) (h : Keeps a s) : Keeps a (State.offer s x2 x3) := by
  unfold State.offer
  refine keeps_ite ?_ ?_
  · exact keeps_upd (by assumption)
  · exact State.enter_keeps _ (by assumption)
theorem State.grant_keeps {a s : State} (x2 : _) (h : Keeps a s) : Keeps a (State.grant s x2) := by
  unfold State.grant
  extract_lets +onlyGivenNames v1
  clear_value v1
  extract_lets +onlyGivenNames v2
  have h3 : Keeps a v2 := by
    unfold v2
    exact keeps_upd (by assumption)
  clear_value v2
  extract_lets +onlyGivenNames v4
  have h5 : Keeps a v4 := by
    unfold v4
    refine keeps_ite ?_ ?_
    · exact State.bumpAt_keeps _ _ _ _ (by assumption)
    · assumption
  clear_value v4
  exact State.enter_keeps _ (by assumption)
theorem State.hostRead_keeps {a s : State} (x2 : _) (h : Keeps a s) : Keeps a (State.hostRead s x2) := by
  unfold State.hostRead
  refine keeps_ite ?_ ?_
  · assumption
  · exact State.offer_keeps _ _ (by assumption)
theorem State.hostStore_keeps {a s : State} (x2 : _) (h : Keeps a s) : Keeps a (State.hostStore s x2) := by
  unfold State.hostStore
  refine keeps_ite ?_ ?_
  · assumption
  · refine keeps_ite ?_ ?_
    · exact State.sendPlainNdr_keeps _ _ (State.countDiscard_keeps _ (by assumption))
    · extract_lets +onlyGivenNames v1
      have h2 : Keeps a v1.2 := by
        unfold v1
        exact State.newId_keeps (by assumption)
      clear_value v1
      exact State.offer_keeps _ _ (by assumption)
theorem State.hostWriteback_keeps {a s : State} (x2 : _) (h : Keeps a s) : Keeps a (State.hostWriteback s x2) := by
  unfold State.hostWriteback
  refine keeps_ite ?_ ?_
  · assumption
  · refine keeps_ite ?_ ?_
    · exact State.sendPlainNdr_keeps _ _ (State.countDiscard_keeps _ (by assumption))
    · extract_lets +onlyGivenNames v1
      have h2 : Keeps a v1.2 := by
        unfold v1
        exact State.newId_keeps (by assumption)
      clear_value v1
      exact State.offer_keeps _ _ (by assumption)
theorem State.releaseHold_keeps {a s : State} (h : Keeps a s) : Keeps a (State.releaseHold s) := by
  unfold State.releaseHold
  extract_lets +onlyGivenNames v1
  clear_value v1
  exact State.runAll_keeps _ _ (keeps_upd (by assumption))
theorem State.landingDrain_keeps {a s : State} (x2 : _) (h : Keeps a s) : Keeps a (State.landingDrain s x2) := by
  unfold State.landingDrain
  split
  · assumption
  · extract_lets +onlyGivenNames v1
    clear_value v1
    extract_lets +onlyGivenNames v2
    clear_value v2
    refine keeps_ite ?_ ?_
    · assumption
    · extract_lets +onlyGivenNames v3
      have h4 : Keeps a v3 := by
        unfold v3
        exact State.quayWrite_keeps _ _ _ _ (State.writeCopies_keeps _ _ _ (by assumption))
      clear_value v3
      extract_lets +onlyGivenNames v5
      clear_value v5
      extract_lets +onlyGivenNames v6
      have h7 : Keeps a v6 := by
        unfold v6
        exact keeps_upd (by assumption)
      clear_value v6
      extract_lets +onlyGivenNames v8
      clear_value v8
      extract_lets +onlyGivenNames v9
      have h10 : Keeps a v9 := by
        unfold v9
        exact keeps_upd (by assumption)
      clear_value v9
      exact State.settleAcks_keeps (State.drainWrite_keeps _ _ _ _ (by assumption))
theorem State.birsp_keeps {a s : State} (x2 : _) (h : Keeps a s) : Keeps a (State.birsp s x2) := by
  unfold State.birsp
  extract_lets +onlyGivenNames v1
  have h2 : Keeps a v1 := by
    unfold v1
    refine keeps_ite ?_ ?_
    · exact State.emit_keeps _ (by assumption)
    · assumption
  clear_value v1
  exact State.biAnswer_keeps _ _ _ (by assumption)
theorem State.bisnpTimeout_keeps {a s : State} (x2 : _) (x3 : _) (h : Keeps a s) : Keeps a (State.bisnpTimeout s x2 x3) := by
  unfold State.bisnpTimeout
  split
  · assumption
  · refine keeps_ite ?_ ?_
    · assumption
    · extract_lets +onlyGivenNames v1
      have h2 : Keeps a v1 := by
        unfold v1
        exact State.sfUpdate_keeps _ _ (by assumption)
      clear_value v1
      exact State.biWritten_keeps _ _ (State.biAnswer_keeps _ _ _ (State.raise_keeps _ (State.bump_keeps _ _ _ (by assumption))))
theorem State.gpfRequest_keeps {a s : State} (x2 : _) (h : Keeps a s) : Keeps a (State.gpfRequest s x2) := by
  unfold State.gpfRequest
  refine keeps_ite ?_ ?_
  · assumption
  · extract_lets +onlyGivenNames v1
    extract_lets +onlyGivenNames v2
    clear_value v2
    exact keeps_upd (by assumption)
theorem State.gpfDurable_keeps {a s : State} (x2 : _) (x3 : _) (h : Keeps a s) : Keeps a (State.gpfDurable s x2 x3) := by
  unfold State.gpfDurable
  exact keeps_upd (by assumption)
theorem State.gpfComplete_keeps {a s : State} (x2 : _) (h : Keeps a s) : Keeps a (State.gpfComplete s x2) := by
  unfold State.gpfComplete
  split
  · assumption
  · refine keeps_ite ?_ ?_
    · assumption
    · extract_lets +onlyGivenNames v1
      clear_value v1
      extract_lets +onlyGivenNames v2
      have h3 : Keeps a v2 := by
        unfold v2
        exact keeps_upd (by assumption)
      clear_value v2
      exact State.emit_keeps _ (State.bump_keeps _ _ _ (by assumption))
theorem State.viral_keeps {a s : State} (x2 : _) (h : Keeps a s) : Keeps a (State.viral s x2) := by
  unfold State.viral
  refine keeps_ite ?_ ?_
  · assumption
  · extract_lets +onlyGivenNames v1
    clear_value v1
    refine keeps_ite ?_ ?_
    · assumption
    · exact State.raise_keeps _ (State.setBit_keeps _ _ (by assumption))
theorem State.dropHolders_keeps {a s : State} (x2 : _) (h : Keeps a s) : Keeps a (State.dropHolders s x2) := by
  unfold State.dropHolders
  extract_lets +onlyGivenNames v1
  clear_value v1
  refine keeps_foldl ?_ ?_
  · assumption
  · intro u2 u3 u4
    beta_reduce
    exact State.sfUpdate_keeps _ _ (by assumption)
theorem State.mapRequests_keeps {a s : State} (x2 : _) (h : Keeps a s) : Keeps a (State.mapRequests s x2) := by
  unfold State.mapRequests
  exact keeps_upd (by assumption)
theorem State.discardResponses_keeps {a s : State} (x2 : _) (h : Keeps a s) : Keeps a (State.discardResponses s x2) := by
  unfold State.discardResponses
  extract_lets +onlyGivenNames v1
  have h2 : Keeps a v1 := by
    unfold v1
    exact State.mapRequests_keeps _ (by assumption)
  clear_value v1
  exact keeps_upd (by assumption)
theorem State.linkDown_keeps {a s : State} (x2 : _) (h : Keeps a s) : Keeps a (State.linkDown s x2) := by
  unfold State.linkDown
  refine keeps_ite ?_ ?_
  · assumption
  · extract_lets +onlyGivenNames v1
    have h2 : Keeps a v1 := by
      unfold v1
      exact State.discardResponses_keeps _ (by assumption)
    clear_value v1
    extract_lets +onlyGivenNames v3
    clear_value v3
    extract_lets +onlyGivenNames v4
    have h5 : Keeps a v4 := by
      unfold v4
      exact keeps_upd (by assumption)
    clear_value v4
    extract_lets +onlyGivenNames v6
    have h7 : Keeps a v6 := by
      unfold v6
      exact State.fset_keeps _ _ (by assumption)
    clear_value v6
    extract_lets +onlyGivenNames v8
    have h9 : Keeps a v8 := by
      unfold v8
      exact State.fset_keeps _ _ (State.fset_keeps _ _ (by assumption))
    clear_value v8
    extract_lets +onlyGivenNames v10
    have h11 : Keeps a v10 := by
      unfold v10
      exact State.setBit_keeps _ _ (State.setBit_keeps _ _ (State.setBit_keeps _ _ (by assumption)))
    clear_value v10
    extract_lets +onlyGivenNames v12
    clear_value v12
    extract_lets +onlyGivenNames v13
    have h14 : Keeps a v13 := by
      unfold v13
      exact keeps_upd (by assumption)
    clear_value v13
    extract_lets +onlyGivenNames v15
    have h16 : Keeps a v15 := by
      unfold v15
      exact State.bump_keeps _ _ _ (by assumption)
    clear_value v15
    extract_lets +onlyGivenNames v17
    have h18 : Keeps a v17 := by
      unfold v17
      exact State.raise_keeps _ (by assumption)
    clear_value v17
    refine keeps_ite ?_ ?_
    · assumption
    · extract_lets +onlyGivenNames v19
      have h20 : Keeps a v19 := by
        unfold v19
        refine keeps_foldl ?_ ?_
        · assumption
        · intro u21 u22 u23
          beta_reduce
          exact State.record_keeps _ _ _ (by assumption)
      clear_value v19
      refine keeps_ite ?_ ?_
      · exact State.dropHolders_keeps _ (by assumption)
      · assumption
theorem State.linkTrain_keeps {a s : State} (x2 : _) (x3 : _) (h : Keeps a s) : Keeps a (State.linkTrain s x2 x3) := by
  unfold State.linkTrain
  extract_lets +onlyGivenNames v1
  clear_value v1
  refine keeps_ite ?_ ?_
  · assumption
  · refine keeps_ite ?_ ?_
    · extract_lets +onlyGivenNames v2
      have h3 : Keeps a v2 := by
        unfold v2
        exact State.fset_keeps _ _ (State.fset_keeps _ _ (by assumption))
      clear_value v2
      extract_lets +onlyGivenNames v4
      have h5 : Keeps a v4 := by
        unfold v4
        exact State.setBit_keeps _ _ (by assumption)
      clear_value v4
      refine keeps_ite ?_ ?_
      · exact State.raise_keeps _ (State.fset_keeps _ _ (by assumption))
      · exact State.fset_keeps _ _ (by assumption)
    · exact State.fset_keeps _ _ (by assumption)
theorem State.rasIde_keeps {a s : State} (x2 : _) (h : Keeps a s) : Keeps a (State.rasIde s x2) := by
  unfold State.rasIde
  extract_lets +onlyGivenNames v1
  clear_value v1
  exact keeps_upd (by assumption)
theorem State.ideMacFail_keeps {a s : State} (x2 : _) (h : Keeps a s) : Keeps a (State.ideMacFail s x2) := by
  unfold State.ideMacFail
  refine keeps_ite ?_ ?_
  · assumption
  · extract_lets +onlyGivenNames v1
    clear_value v1
    split
    · assumption
    · exact State.linkDown_keeps _ (State.rasIde_keeps _ (by assumption))
    · extract_lets +onlyGivenNames v2
      have h3 : Keeps a v2 := by
        unfold v2
        exact State.rasIde_keeps _ (by assumption)
      clear_value v2
      exact keeps_upd (by assumption)
theorem State.ideKm_keeps {a s : State} (x2 : _) (x3 : _) (x4 : _) (h : Keeps a s) : Keeps a (State.ideKm s x2 x3 x4) := by
  unfold State.ideKm
  refine keeps_ite ?_ ?_
  · assumption
  · extract_lets +onlyGivenNames v1
    clear_value v1
    extract_lets +onlyGivenNames v2
    have h3 : Keeps a v2 := by
      unfold v2
      exact keeps_upd (by assumption)
    clear_value v2
    exact State.setBit_keeps _ _ (State.setBit_keeps _ _ (by assumption))
theorem State.perstAssert_keeps {a s : State} (x2 : _) (h : Keeps a s) : Keeps a (State.perstAssert s x2) := by
  unfold State.perstAssert
  extract_lets +onlyGivenNames v1
  clear_value v1
  extract_lets +onlyGivenNames v2
  have h3 : Keeps a v2 := by
    unfold v2
    exact keeps_upd (by assumption)
  clear_value v2
  refine keeps_ite ?_ ?_
  · assumption
  · refine keeps_foldl ?_ ?_
    · assumption
    · intro u4 u5 u6
      beta_reduce
      extract_lets +onlyGivenNames v7
      clear_value v7
      refine keeps_ite ?_ ?_
      · exact State.fset_keeps _ _ (by assumption)
      · exact State.linkDown_keeps _ (by assumption)
theorem State.resetLdRegs_keeps {a s : State} (x2 : _) (h : Keeps a s) : Keeps a (State.resetLdRegs s x2) := by
  unfold State.resetLdRegs
  exact keeps_upd (by assumption)
theorem State.flr_keeps {a s : State} (x2 : _) (h : Keeps a s) : Keeps a (State.flr s x2) := by
  unfold State.flr
  refine keeps_ite ?_ ?_
  · assumption
  · extract_lets +onlyGivenNames v1
    have h2 : Keeps a v1 := by
      unfold v1
      exact State.discardResponses_keeps _ (by assumption)
    clear_value v1
    extract_lets +onlyGivenNames v3
    have h4 : Keeps a v3 := by
      unfold v3
      exact State.resetLdRegs_keeps _ (State.dropHolders_keeps _ (by assumption))
    clear_value v3
    refine keeps_foldl ?_ ?_
    · assumption
    · intro u5 u6 u7
      beta_reduce
      exact State.makeDormant_keeps _ (by assumption)
theorem State.hostBind_keeps {a s : State} (x2 : _) (x3 : _) (x4 : _) (h : Keeps a s) : Keeps a (State.hostBind s x2 x3 x4) := by
  unfold State.hostBind
  refine keeps_ite ?_ ?_
  · exact State.emit_keeps _ (by assumption)
  · extract_lets +onlyGivenNames v1
    have h2 : Keeps a v1 := by
      unfold v1
      exact State.fset_keeps _ _ (State.fset_keeps _ _ (by assumption))
    clear_value v1
    exact State.emit_keeps _ (State.setBit_keeps _ _ (by assumption))
theorem State.hostUnbind_keeps {a s : State} (x2 : _) (h : Keeps a s) : Keeps a (State.hostUnbind s x2) := by
  unfold State.hostUnbind
  refine keeps_ite ?_ ?_
  · exact State.emit_keeps _ (by assumption)
  · extract_lets +onlyGivenNames v1
    have h2 : Keeps a v1 := by
      unfold v1
      exact State.setBit_keeps _ _ (by assumption)
    clear_value v1
    refine State.emit_keeps _ ?_
    refine keeps_foldl ?_ ?_
    · assumption
    · intro u3 u4 u5
      beta_reduce
      exact State.makeDormant_keeps _ (by assumption)
theorem State.gfdCommit_keeps {a s : State} (x2 : _) (x3 : _) (h : Keeps a s) : Keeps a (State.gfdCommit s x2 x3) := by
  unfold State.gfdCommit
  extract_lets +onlyGivenNames v1
  clear_value v1
  refine keeps_ite ?_ ?_
  · exact State.emit_keeps _ (by assumption)
  · exact State.emit_keeps _ (keeps_upd (by assumption))
theorem State.mbox_keeps {a s : State} (x2 : _) (x3 : _) (h : Keeps a s) : Keeps a (State.mbox s x2 x3) := by
  unfold State.mbox
  exact State.emit_keeps _ (by assumption)
theorem State.dcResponse_keeps {a s : State} (x2 : _) (x3 : _) (x4 : _) (h : Keeps a s) : Keeps a (State.dcResponse s x2 x3 x4) := by
  unfold State.dcResponse
  refine keeps_ite ?_ ?_
  · assumption
  · extract_lets +onlyGivenNames v1
    clear_value v1
    refine keeps_ite ?_ ?_
    · refine State.mbox_keeps _ _ ?_
      refine keeps_ite ?_ ?_
      · exact State.setRState_keeps _ _ (by assumption)
      · exact State.enterDraining_keeps _ (by assumption)
    · exact State.mbox_keeps _ _ (by assumption)
theorem State.dcRelease_keeps {a s : State} (x2 : _) (x3 : _) (h : Keeps a s) : Keeps a (State.dcRelease s x2 x3) := by
  unfold State.dcRelease
  refine keeps_ite ?_ ?_
  · assumption
  · extract_lets +onlyGivenNames v1
    clear_value v1
    refine keeps_ite ?_ ?_
    · exact State.mbox_keeps _ _ (State.enterDraining_keeps _ (by assumption))
    · exact State.mbox_keeps _ _ (by assumption)
theorem State.dcTimeout_keeps {a s : State} (x2 : _) (h : Keeps a s) : Keeps a (State.dcTimeout s x2) := by
  unfold State.dcTimeout
  refine keeps_ite ?_ ?_
  · exact State.enterDraining_keeps _ (by assumption)
  · assumption
theorem State.getPoison_keeps {a s : State} (x2 : _) (h : Keeps a s) : Keeps a (State.getPoison s x2) := by
  unfold State.getPoison
  refine keeps_ite ?_ ?_
  · assumption
  · exact State.emit_keeps _ (by assumption)
theorem State.poisonStore_keeps {a s : State} (x2 : _) (x3 : _) (x4 : _) (x5 : _) (x6 : _) (h : Keeps a s) : Keeps a (State.poisonStore s x2 x3 x4 x5 x6) := by
  unfold State.poisonStore
  refine keeps_ite ?_ ?_
  · assumption
  · split
    · exact State.mbox_keeps _ _ (by assumption)
    · extract_lets +onlyGivenNames v1
      clear_value v1
      refine keeps_ite ?_ ?_
      · exact State.mbox_keeps _ _ (by assumption)
      · extract_lets +onlyGivenNames v2
        have h3 : Keeps a v2.2 := by
          unfold v2
          exact State.newId_keeps (by assumption)
        clear_value v2
        extract_lets +onlyGivenNames v4
        clear_value v4
        exact State.enter_keeps _ (by assumption)
theorem State.getEvents_keeps {a s : State} (x2 : _) (x3 : _) (x4 : _) (h : Keeps a s) : Keeps a (State.getEvents s x2 x3 x4) := by
  unfold State.getEvents
  refine keeps_ite ?_ ?_
  · assumption
  · exact State.emit_keeps _ (by assumption)
theorem State.clearEvents_keeps {a s : State} (x2 : _) (x3 : _) (x4 : _) (h : Keeps a s) : Keeps a (State.clearEvents s x2 x3 x4) := by
  unfold State.clearEvents
  refine keeps_ite ?_ ?_
  · assumption
  · exact State.mbox_keeps _ _ (keeps_upd (by assumption))
theorem State.eventPolicy_keeps {a s : State} (x2 : _) (x3 : _) (x4 : _) (h : Keeps a s) : Keeps a (State.eventPolicy s x2 x3 x4) := by
  unfold State.eventPolicy
  refine keeps_ite ?_ ?_
  · assumption
  · split
    · refine keeps_ite ?_ ?_
      · exact State.mbox_keeps _ _ (by assumption)
      · exact State.mbox_keeps _ _ (keeps_upd (by assumption))
    · exact State.mbox_keeps _ _ (keeps_upd (by assumption))

end Sys2Proof.Machine
end

