-- ==== Sys2Proof/Laws/KeepsMemory.lean ====
section
/-! SUPPORT. Every operation of FlushFx, MoveFx, IntegFx, FlashFx, TideFx, DramFx keeps what `Keeps` says. -/
namespace Sys2Proof.Machine
set_option Elab.async false

/-! ### FlushFx.lean -/

theorem State.setBlock_keeps {a s : State} (b : Nat) (x : Block) (h : Keeps a s)
    (hw : (s.block b).wear ≤ x.wear := by first | exact Nat.le_refl _ | exact Nat.le_add_right _ _)
    (hb : (s.block b).bad = true → x.bad = true := by first | exact id | exact fun _ => rfl) : Keeps a (s.setBlock b x) :=
  keeps_block h hw hb

theorem State.freeBlock_keeps {a s : State} (h : Keeps a s) : Keeps a (State.freeBlock s).2 := by
  unfold State.freeBlock
  extract_lets +onlyGivenNames v1
  clear_value v1
  refine keeps_ite2 ?_ ?_
  · assumption
  · extract_lets +onlyGivenNames v2
    have h3 : Keeps a v2.2 := by
      unfold v2
      exact State.free_keeps _ (by assumption)
    clear_value v2
    extract_lets +onlyGivenNames v4
    clear_value v4
    split
    · assumption
    · assumption
theorem State.place_keeps {a s : State} (x2 : _) (x3 : _) (h : Keeps a s) : Keeps a (State.place s x2 x3).2 := by
  unfold State.place
  extract_lets +onlyGivenNames v1
  clear_value v1
  split
  · assumption
  · extract_lets +onlyGivenNames v2
    have h3 : Keeps a v2.2 := by
      unfold v2
      exact State.freeBlock_keeps (by assumption)
    clear_value v2
    split
    · assumption
    · exact State.free_keeps _ (by assumption)
theorem State.setFree_keeps {a s : State} (x2 : _) (h : Keeps a s) : Keeps a (State.setFree s x2) := by
  unfold State.setFree
  extract_lets +onlyGivenNames v1
  clear_value v1
  extract_lets +onlyGivenNames v2
  clear_value v2
  extract_lets +onlyGivenNames v3
  extract_lets +onlyGivenNames v4
  have h5 : Keeps a v4 := by
    unfold v4
    exact State.fset_keeps _ _ (keeps_upd (by assumption))
  clear_value v4
  extract_lets +onlyGivenNames v6
  extract_lets +onlyGivenNames v7
  extract_lets +onlyGivenNames v8
  clear_value v8
  extract_lets +onlyGivenNames v9
  clear_value v9
  extract_lets +onlyGivenNames v10
  have h11 : Keeps a v10 := by
    unfold v10
    exact State.setBit_keeps _ _ (State.setBit_keeps _ _ (by assumption))
  clear_value v10
  extract_lets +onlyGivenNames v12
  have h13 : Keeps a v12 := by
    unfold v12
    refine keeps_ite ?_ ?_
    · exact State.raise_keeps _ (by assumption)
    · assumption
  clear_value v12
  refine keeps_ite ?_ ?_
  · exact State.raise_keeps _ (by assumption)
  · assumption
theorem State.setWear_keeps {a s : State} (h : Keeps a s) : Keeps a (State.setWear s) := by
  unfold State.setWear
  extract_lets +onlyGivenNames v1
  clear_value v1
  extract_lets +onlyGivenNames v2
  clear_value v2
  extract_lets +onlyGivenNames v3
  clear_value v3
  extract_lets +onlyGivenNames v4
  clear_value v4
  extract_lets +onlyGivenNames v5
  clear_value v5
  exact State.fset_keeps _ _ (State.fset_keeps _ _ (by assumption))
theorem State.retireDie_keeps {a s : State} (x2 : _) (x3 : _) (x4 : _) (h : Keeps a s) : Keeps a (State.retireDie s x2 x3 x4) := by
  unfold State.retireDie
  extract_lets +onlyGivenNames v1
  clear_value v1
  refine keeps_ite ?_ ?_
  · assumption
  · extract_lets +onlyGivenNames v2
    extract_lets +onlyGivenNames v3
    have h4 : Keeps a v3 := by
      unfold v3
      refine keeps_updN ?_ (h4 := ?_)
      · assumption
      · exact grows_insNat
    clear_value v3
    extract_lets +onlyGivenNames v5
    have h6 : Keeps a v5 := by
      unfold v5
      exact State.fset_keeps _ _ (by assumption)
    clear_value v5
    extract_lets +onlyGivenNames v7
    have h8 : Keeps a v7 := by
      unfold v7
      exact State.fset_keeps _ _ (by assumption)
    clear_value v7
    exact State.raise_keeps _ (State.logErr_keeps _ _ _ _ _ _ _ (by assumption))
theorem State.setFree_block (s : State) (n b : Nat) : (s.setFree n).block b = s.block b := by
  have key : ∀ (c : Prop) [Decidable c] (t : State) (k : Nat), (if c then t.raise k else t).block b = t.block b := by
    intro c _ t k; split <;> rfl
  unfold State.setFree
  exact (key _ _ _).trans (key _ _ _)
theorem State.retireBlock_keeps {a s : State} (b src : _) (h : Keeps a s) : Keeps a (State.retireBlock s b src) := by
  unfold State.retireBlock
  extract_lets +onlyGivenNames x
  refine keeps_ite h ?_
  extract_lets +onlyGivenNames t u
  have hb : t.block b = x := by
    unfold t; split
    · exact State.setFree_block _ _ _
    · rfl
  have ht : Keeps a t := keeps_ite (State.setFree_keeps _ h) h
  have hu : Keeps a u := State.setBlock_keeps _ _ ht (by rw [hb])
  clear_value u
  extract_lets +onlyGivenNames d v w bad
  have hw : Keeps a w := State.logErr_keeps _ _ _ _ _ _ _ (State.bump_keeps _ _ _ hu)
  exact keeps_ite (State.retireDie_keeps _ _ _ hw) hw

theorem State.joinStripe_keeps {a s : State} (x2 : _) (x3 : _) (x4 : _) (h : Keeps a s) : Keeps a (State.joinStripe s x2 x3 x4) := by
  unfold State.joinStripe
  extract_lets +onlyGivenNames v1
  clear_value v1
  split
  · exact keeps_upd (by assumption)
  · exact keeps_upd (by assumption)
theorem State.extentForm_keeps {a s : State} (x2 : _) (x3 : _) (h : Keeps a s) : Keeps a (State.extentForm s x2 x3).2 := by
  unfold State.extentForm
  refine keeps_ite2 ?_ ?_
  · assumption
  · refine keeps_ite2 ?_ ?_
    · assumption
    · extract_lets +onlyGivenNames v1
      have h2 : Keeps a v1.2 := by
        unfold v1
        exact State.free_keeps _ (by assumption)
      clear_value v1
      assumption
theorem State.takePage_keeps {a s : State} (x2 : _) (x3 : _) (h : Keeps a s) : Keeps a (State.takePage s x2 x3) := by
  unfold State.takePage
  split
  · assumption
  · extract_lets +onlyGivenNames v1
    clear_value v1
    extract_lets +onlyGivenNames v2
    clear_value v2
    extract_lets +onlyGivenNames v3
    clear_value v3
    extract_lets +onlyGivenNames v4
    clear_value v4
    extract_lets +onlyGivenNames v5
    have h6 : Keeps a v5.2 := by
      unfold v5
      exact State.extentForm_keeps _ _ (by assumption)
    clear_value v5
    extract_lets +onlyGivenNames v7
    have h8 : Keeps a v7 := by
      unfold v7
      assumption
    extract_lets +onlyGivenNames v9
    clear_value v9
    extract_lets +onlyGivenNames v10
    have h11 : Keeps a v10 := by
      unfold v10
      exact State.setPage_keeps _ _ (by assumption)
    clear_value v10
    extract_lets +onlyGivenNames v12
    have h13 : Keeps a v12 := by
      unfold v12
      exact State.joinStripe_keeps _ _ _ (by assumption)
    clear_value v12
    exact keeps_upd (by assumption)
theorem State.flusherTake_keeps {a s : State} (h : Keeps a s) : Keeps a (State.flusherTake s) := by
  unfold State.flusherTake
  refine keeps_ite ?_ ?_
  · assumption
  · split
    · exact State.takePage_keeps _ _ (by assumption)
    · assumption
theorem State.useBlock_keeps {a s : State} (x2 x3 u : _) (h : Keeps a s) : Keeps a (State.useBlock s x2 x3 u) := by
  unfold State.useBlock
  extract_lets +onlyGivenNames n b x
  refine keeps_ite h ?_
  extract_lets +onlyGivenNames fill y
  have key : ∀ t : State, Keeps a t → t.block b = s.block b →
      Keeps a (t.setBlock b { y with use := u, since := s.now }) := fun t ht e =>
    State.setBlock_keeps _ _ ht (by rw [e]) (by rw [e]; exact id)
  refine keeps_ite ?_ (State.setBlock_keeps _ _ h)
  split
  · exact key _ h rfl
  · exact key _ (State.setFree_keeps _ h) (State.setFree_block _ _ _)

theorem State.install_keeps {a s : State} (x2 : _) (x3 : _) (h : Keeps a s) : Keeps a (State.install s x2 x3) := by
  unfold State.install
  refine keeps_ite ?_ ?_
  · assumption
  · extract_lets +onlyGivenNames v1
    have h2 : Keeps a v1 := by
      unfold v1
      exact State.setMap_keeps _ _ (by assumption)
    clear_value v1
    extract_lets +onlyGivenNames v3
    extract_lets +onlyGivenNames v4
    have h5 : Keeps a v4 := by
      unfold v4
      refine keeps_updN ?_ (hf := ?_)
      · assumption
      · exact wf_memSetPage
    clear_value v4
    extract_lets +onlyGivenNames v6
    have h7 : Keeps a v6 := by
      unfold v6
      exact State.useBlock_keeps _ _ _ (by assumption)
    clear_value v6
    exact State.setPage_keeps _ _ (by assumption)
theorem State.pdkDurable_keeps {a s : State} (x2 : _) (x3 : _) (x4 : _) (h : Keeps a s) : Keeps a (State.pdkDurable s x2 x3 x4) := by
  unfold State.pdkDurable
  extract_lets +onlyGivenNames v1
  clear_value v1
  split
  · exact State.readmit_keeps _ _ (State.leavePdk_keeps _ (State.setPage_keeps _ _ (by assumption)))
  · extract_lets +onlyGivenNames v2
    have h3 : Keeps a v2 := by
      unfold v2
      exact State.setPage_keeps _ _ (by assumption)
    clear_value v2
    exact keeps_upd (by assumption)
  · assumption
theorem State.leaveStripe_keeps {a s : State} (x2 : _) (h : Keeps a s) : Keeps a (State.leaveStripe s x2) := by
  unfold State.leaveStripe
  exact keeps_upd (by assumption)
theorem State.relogged_keeps {a s : State} (x2 : _) (h : Keeps a s) : Keeps a (State.relogged s x2) := by
  unfold State.relogged
  exact keeps_upd (by assumption)
theorem State.durable_keeps {a s : State} (x2 : _) (x3 : _) (x4 : _) (h : Keeps a s) : Keeps a (State.durable s x2 x3 x4) := by
  unfold State.durable
  split
  · assumption
  · refine keeps_ite ?_ ?_
    · assumption
    · extract_lets +onlyGivenNames v1
      clear_value v1
      extract_lets +onlyGivenNames v2
      have h3 : Keeps a v2 := by
        unfold v2
        exact keeps_upd (by assumption)
      clear_value v2
      extract_lets +onlyGivenNames v4
      have h5 : Keeps a v4 := by
        unfold v4
        exact State.gpfDurable_keeps _ _ (State.relogged_keeps _ (State.leaveStripe_keeps _ (by assumption)))
      clear_value v4
      extract_lets +onlyGivenNames v6
      have h7 : Keeps a v6 := by
        unfold v6
        refine keeps_ite ?_ ?_
        · exact State.pdkDurable_keeps _ _ _ (State.install_keeps _ _ (by assumption))
        · assumption
      clear_value v6
      extract_lets +onlyGivenNames v8
      clear_value v8
      extract_lets +onlyGivenNames v9
      have h10 : Keeps a v9 := by
        unfold v9
        exact keeps_upd (by assumption)
      clear_value v9
      exact State.stretchExit_keeps (State.settleAcks_keeps (by assumption))
theorem State.flushAgain_keeps {a s : State} (x2 : _) (h : Keeps a s) : Keeps a (State.flushAgain s x2) := by
  unfold State.flushAgain
  split
  · assumption
  · extract_lets +onlyGivenNames v1
    have h2 : Keeps a v1 := by
      unfold v1
      exact State.leaveStripe_keeps _ (by assumption)
    clear_value v1
    refine keeps_ite ?_ ?_
    · exact State.joinStripe_keeps _ _ _ (by assumption)
    · extract_lets +onlyGivenNames v3
      clear_value v3
      extract_lets +onlyGivenNames v4
      clear_value v4
      extract_lets +onlyGivenNames v5
      have h6 : Keeps a v5 := by
        unfold v5
        exact keeps_upd (by assumption)
      clear_value v5
      refine keeps_ite ?_ ?_
      · exact State.setPage_keeps _ _ (by assumption)
      · assumption
theorem State.programFail_keeps {a s : State} (x2 : _) (x3 : _) (h : Keeps a s) : Keeps a (State.programFail s x2 x3) := by
  unfold State.programFail
  split
  · assumption
  · extract_lets +onlyGivenNames v1
    extract_lets +onlyGivenNames v2
    have h3 : Keeps a v2 := by
      unfold v2
      exact keeps_upd (by assumption)
    clear_value v2
    exact State.flushAgain_keeps _ (State.retireBlock_keeps _ _ (by assumption))
/-! ### MoveFx.lean -/

theorem State.heatDecay_keeps {a s : State} (h : Keeps a s) : Keeps a (State.heatDecay s) := by
  unfold State.heatDecay
  refine keeps_ite ?_ ?_
  · assumption
  · refine keeps_foldl ?_ ?_
    · assumption
    · intro u1 u2 u3
      beta_reduce
      exact State.setPage_keeps _ _ (by assumption)
theorem State.demote_keeps {a s : State} (x2 : _) (h : Keeps a s) : Keeps a (State.demote s x2) := by
  unfold State.demote
  refine keeps_ite ?_ ?_
  · exact State.bump_keeps _ _ _ (State.dropHot_keeps _ (by assumption))
  · exact State.startMove_keeps _ _ _ (State.ensureFrame_keeps _ _ (by assumption))
theorem State.promote_keeps {a s : State} (x2 : _) (h : Keeps a s) : Keeps a (State.promote s x2) := by
  unfold State.promote
  extract_lets +onlyGivenNames v1
  have h2 : Keeps a v1 := by
    unfold v1
    exact State.ensureHot_keeps _ (by assumption)
  clear_value v1
  refine keeps_ite ?_ ?_
  · exact State.startMove_keeps _ _ _ (by assumption)
  · extract_lets +onlyGivenNames v3
    clear_value v3
    split
    · assumption
    · refine keeps_ite ?_ ?_
      · exact State.demote_keeps _ (by assumption)
      · assumption
theorem State.promotionSweep_keeps {a s : State} (h : Keeps a s) : Keeps a (State.promotionSweep s) := by
  unfold State.promotionSweep
  refine keeps_ite ?_ ?_
  · assumption
  · extract_lets +onlyGivenNames v1
    clear_value v1
    extract_lets +onlyGivenNames v2
    clear_value v2
    refine keeps_foldl ?_ ?_
    · assumption
    · intro u3 u4 u5
      beta_reduce
      exact State.promote_keeps _ (by assumption)
theorem State.poolCheck_keeps {a s : State} (h : Keeps a s) : Keeps a (State.poolCheck s) := by
  unfold State.poolCheck
  exact keeps_upd (by assumption)
theorem State.evictLoop_keeps {a s : State} (x2 : _) (h : Keeps a s) : Keeps a (State.evictLoop s x2) := by
  unfold State.evictLoop
  split
  · assumption
  · refine keeps_ite ?_ ?_
    · assumption
    · exact State.evictLoop_keeps _ (State.bump_keeps _ _ _ (State.dropDram_keeps _ (by assumption)))
theorem State.dramEvict_keeps {a s : State} (h : Keeps a s) : Keeps a (State.dramEvict s) := by
  unfold State.dramEvict
  refine keeps_ite ?_ ?_
  · assumption
  · extract_lets +onlyGivenNames v1
    have h2 : Keeps a v1 := by
      unfold v1
      exact State.poolCheck_keeps (by assumption)
    clear_value v1
    refine keeps_ite ?_ ?_
    · assumption
    · exact State.poolCheck_keeps (State.evictLoop_keeps _ (by assumption))
theorem State.spill_keeps {a s : State} (x2 : _) (h : Keeps a s) : Keeps a (State.spill s x2) := by
  unfold State.spill
  split
  · assumption
  · extract_lets +onlyGivenNames v1
    have h2 : Keeps a v1 := by
      unfold v1
      exact State.poolCheck_keeps (by assumption)
    clear_value v1
    refine keeps_ite ?_ ?_
    · assumption
    · extract_lets +onlyGivenNames v3
      clear_value v3
      extract_lets +onlyGivenNames v4
      have h5 : Keeps a v4.2 := by
        unfold v4
        exact State.extentForm_keeps _ _ (by assumption)
      clear_value v4
      extract_lets +onlyGivenNames v6
      clear_value v6
      extract_lets +onlyGivenNames v7
      have h8 : Keeps a v7.2 := by
        unfold v7
        exact State.place_keeps _ _ (by assumption)
      clear_value v7
      extract_lets +onlyGivenNames v9
      have h10 : Keeps a v9 := by
        unfold v9
        exact State.install_keeps _ _ (by assumption)
      clear_value v9
      exact State.poolCheck_keeps (State.bump_keeps _ _ _ (State.dropDram_keeps _ (by assumption)))
theorem State.keepHot_keeps {a s : State} (x2 : _) (h : Keeps a s) : Keeps a (State.keepHot s x2) := by
  unfold State.keepHot
  exact State.trim_keeps _ (State.dropDram_keeps _ (by assumption))
theorem State.fillHot_keeps {a s : State} (x2 : _) (h : Keeps a s) : Keeps a (State.fillHot s x2) := by
  unfold State.fillHot
  extract_lets +onlyGivenNames v1
  have h2 : Keeps a v1 := by
    unfold v1
    exact State.ensureHot_keeps _ (by assumption)
  clear_value v1
  extract_lets +onlyGivenNames v3
  extract_lets +onlyGivenNames v4
  have h5 : Keeps a v4 := by
    unfold v4
    refine keeps_updN ?_ (hh := ?_)
    · assumption
    · exact wf_memSetPage
  clear_value v4
  exact State.setPage_keeps _ _ (by assumption)
theorem State.fillFrom_keeps {a s : State} (x2 : _) (h : Keeps a s) : Keeps a (State.fillFrom s x2) := by
  unfold State.fillFrom
  extract_lets +onlyGivenNames v1
  clear_value v1
  refine keeps_ite ?_ ?_
  · exact State.trim_keeps _ (State.fillHot_keeps _ (by assumption))
  · extract_lets +onlyGivenNames v2
    have h3 : Keeps a v2 := by
      unfold v2
      exact State.fillDram_keeps _ _ _ (by assumption)
    clear_value v2
    extract_lets +onlyGivenNames v4
    have h5 : Keeps a v4 := by
      unfold v4
      refine keeps_ite ?_ ?_
      · exact State.fillHot_keeps _ (by assumption)
      · assumption
    clear_value v4
    refine keeps_ite ?_ ?_
    · exact State.trim_keeps _ (by assumption)
    · assumption
theorem State.moveDone_keeps {a s : State} (x2 : _) (h : Keeps a s) : Keeps a (State.moveDone s x2) := by
  unfold State.moveDone
  split
  · assumption
  · refine keeps_ite ?_ ?_
    · assumption
    · extract_lets +onlyGivenNames v1
      clear_value v1
      extract_lets +onlyGivenNames v2
      clear_value v2
      extract_lets +onlyGivenNames v3
      have h4 : Keeps a v3 := by
        unfold v3
        exact keeps_upd (by assumption)
      clear_value v3
      extract_lets +onlyGivenNames v5
      clear_value v5
      extract_lets +onlyGivenNames v6
      have h7 : Keeps a v6 := by
        unfold v6
        exact State.setPage_keeps _ _ (by assumption)
      clear_value v6
      split
      · extract_lets +onlyGivenNames v8
        extract_lets +onlyGivenNames v9
        have h10 : Keeps a v9 := by
          unfold v9
          refine keeps_updN ?_ (hh := ?_)
          · assumption
          · exact wf_memSetPage
        clear_value v9
        extract_lets +onlyGivenNames v11
        clear_value v11
        extract_lets +onlyGivenNames v12
        have h13 : Keeps a v12 := by
          unfold v12
          exact State.bump_keeps _ _ _ (State.setPage_keeps _ _ (by assumption))
        clear_value v12
        refine keeps_ite ?_ ?_
        · exact State.keepHot_keeps _ (by assumption)
        · assumption
      · extract_lets +onlyGivenNames v14
        have h15 : Keeps a v14 := by
          unfold v14
          refine keeps_ite ?_ ?_
          · assumption
          · exact State.setFrame_keeps _ _ (by assumption)
        clear_value v14
        exact State.fillDram_keeps _ _ _ (by assumption)
      · exact State.bump_keeps _ _ _ (State.dropHot_keeps _ (State.fillDram_keeps _ _ _ (by assumption)))
theorem State.restoreWord_keeps {a s : State} (x2 : _) (h : Keeps a s) : Keeps a (State.restoreWord s x2) := by
  unfold State.restoreWord
  extract_lets +onlyGivenNames v1
  clear_value v1
  extract_lets +onlyGivenNames v2
  clear_value v2
  extract_lets +onlyGivenNames v3
  clear_value v3
  refine keeps_ite ?_ ?_
  · exact State.setPage_keeps _ _ (by assumption)
  · exact State.setPage_keeps _ _ (by assumption)
theorem State.fetchDone_keeps {a s : State} (x2 : _) (h : Keeps a s) : Keeps a (State.fetchDone s x2) := by
  unfold State.fetchDone
  refine keeps_ite ?_ ?_
  · assumption
  · extract_lets +onlyGivenNames v1
    clear_value v1
    extract_lets +onlyGivenNames v2
    extract_lets +onlyGivenNames v3
    have h4 : Keeps a v3 := by
      unfold v3
      exact keeps_upd (by assumption)
    clear_value v3
    extract_lets +onlyGivenNames v5
    have h6 : Keeps a v5 := by
      unfold v5
      refine keeps_ite ?_ ?_
      · exact State.restoreWord_keeps _ (by assumption)
      · assumption
    clear_value v5
    extract_lets +onlyGivenNames v7
    have h8 : Keeps a v7 := by
      unfold v7
      refine keeps_ite ?_ ?_
      · exact State.fillFrom_keeps _ (by assumption)
      · assumption
    clear_value v7
    exact State.runPageWaiters_keeps _ (State.answerWaits_keeps _ (by assumption))
theorem State.wordDone_keeps {a s : State} (x2 : _) (x3 : _) (h : Keeps a s) : Keeps a (State.wordDone s x2 x3) := by
  unfold State.wordDone
  refine keeps_ite ?_ ?_
  · assumption
  · refine keeps_ite ?_ ?_
    · exact State.runFetched_keeps _ _ (State.yardFill_keeps _ (by assumption))
    · refine keeps_ite ?_ ?_
      · assumption
      · extract_lets +onlyGivenNames v1
        have h2 : Keeps a v1.2 := by
          unfold v1
          exact State.free_keeps _ (by assumption)
        clear_value v1
        extract_lets +onlyGivenNames v3
        have h4 : Keeps a v3.2 := by
          unfold v3
          exact State.dramAccess_keeps _ (by assumption)
        clear_value v3
        exact State.runFetched_keeps _ _ (State.yardFill_keeps _ (by assumption))
theorem State.restoreNext_keeps {a s : State} (h : Keeps a s) : Keeps a (State.restoreNext s) := by
  unfold State.restoreNext
  refine keeps_ite ?_ ?_
  · assumption
  · split
    · refine keeps_ite ?_ ?_
      · assumption
      · exact State.raise_keeps _ (State.setBit_keeps _ _ (by assumption))
    · refine keeps_ite ?_ ?_
      · exact State.startRestore_keeps _ _ (by assumption)
      · extract_lets +onlyGivenNames v1
        have h2 : Keeps a v1 := by
          unfold v1
          exact State.restoreWord_keeps _ (by assumption)
        clear_value v1
        extract_lets +onlyGivenNames v3
        clear_value v3
        extract_lets +onlyGivenNames v4
        have h5 : Keeps a v4 := by
          unfold v4
          refine keeps_ite ?_ ?_
          · exact State.fillFrom_keeps _ (by assumption)
          · assumption
        clear_value v4
        refine keeps_ite ?_ ?_
        · exact State.fetchDone_keeps _ (by assumption)
        · assumption
/-! ### IntegFx.lean -/

theorem State.deviceOf_keeps {a s : State} (x2 : _) (h : Keeps a s) : Keeps a (State.deviceOf s x2).2 := by
  unfold State.deviceOf
  split
  · exact State.free_keeps _ (by assumption)
  · assumption
theorem State.correctedWriteback_keeps {a s : State} (x2 : _) (h : Keeps a s) : Keeps a (State.correctedWriteback s x2) := by
  unfold State.correctedWriteback
  refine keeps_ite ?_ ?_
  · assumption
  · split
    · extract_lets +onlyGivenNames v1
      have h2 : Keeps a v1.2 := by
        unfold v1
        exact State.deviceOf_keeps _ (by assumption)
      clear_value v1
      exact State.logErr_keeps _ _ _ _ _ _ _ (State.countCe_keeps _ (by assumption))
    · assumption
theorem State.undrain_keeps {a s : State} (x2 : _) (h : Keeps a s) : Keeps a (State.undrain s x2) := by
  unfold State.undrain
  exact keeps_upd (by assumption)
theorem State.rewriteCopy_keeps {a s : State} (x2 : _) (x3 : _) (x4 : _) (h : Keeps a s) : Keeps a (State.rewriteCopy s x2 x3 x4) := by
  unfold State.rewriteCopy
  extract_lets +onlyGivenNames v1
  clear_value v1
  extract_lets +onlyGivenNames v2
  clear_value v2
  split
  · refine keeps_ite ?_ ?_
    · refine keeps_updN ?_ (hh := ?_)
      · assumption
      · exact wf_memPutLine
    · refine keeps_updN ?_ (hs := ?_)
      · assumption
      · exact wf_memPutLine
  · refine keeps_updN ?_ (hd := ?_)
    · assumption
    · exact wf_memPutLine
  · extract_lets +onlyGivenNames v3
    clear_value v3
    exact keeps_upd (by assumption)
  · extract_lets +onlyGivenNames v4
    have h5 : Keeps a v4 := by
      unfold v4
      refine keeps_ite ?_ ?_
      · assumption
      · exact State.fillFrom_keeps _ (by assumption)
    clear_value v4
    refine keeps_ite ?_ ?_
    · assumption
    · exact State.oweWt_keeps _ (by assumption)
theorem State.addRecovery_keeps {a s : State} (x2 : _) (h : Keeps a s) : Keeps a (State.addRecovery s x2) := by
  unfold State.addRecovery
  exact keeps_upd (by assumption)
theorem State.endRecovery_keeps {a s : State} (x2 : _) (h : Keeps a s) : Keeps a (State.endRecovery s x2) := by
  unfold State.endRecovery
  exact keeps_upd (by assumption)
theorem State.askTwin_keeps {a s : State} (x2 : _) (h : Keeps a s) : Keeps a (State.askTwin s x2) := by
  unfold State.askTwin
  exact State.fetchTwin_keeps _ _ (State.addRecovery_keeps _ (State.endRecovery_keeps _ (by assumption)))
theorem State.unpark_keeps {a s : State} (x2 : _) (h : Keeps a s) : Keeps a (State.unpark s x2) := by
  unfold State.unpark
  extract_lets +onlyGivenNames v1
  have h2 : Keeps a v1 := by
    unfold v1
    exact State.endRecovery_keeps _ (by assumption)
  clear_value v1
  exact State.runPageWaiters_keeps _ (State.answerWaits_keeps _ (by assumption))
theorem State.poisonUnit_keeps {a s : State} (x2 : _) (h : Keeps a s) : Keeps a (State.poisonUnit s x2) := by
  unfold State.poisonUnit
  extract_lets +onlyGivenNames v1
  have h2 : Keeps a v1 := by
    unfold v1
    exact State.poisonLines_keeps _ (by assumption)
  clear_value v1
  split
  · exact State.recordAll_keeps _ _ _ (by assumption)
  · assumption
theorem State.rewriteFailed_keeps {a s : State} (x2 : _) (x3 : _) (x4 : _) (h : Keeps a s) : Keeps a (State.rewriteFailed s x2 x3 x4) := by
  unfold State.rewriteFailed
  extract_lets +onlyGivenNames v1
  have h2 : Keeps a v1 := by
    unfold v1
    exact State.rewriteCopy_keeps _ _ _ (by assumption)
  clear_value v1
  refine keeps_ite ?_ ?_
  · extract_lets +onlyGivenNames v3
    have h4 : Keeps a v3.2 := by
      unfold v3
      exact State.free_keeps _ (by assumption)
    clear_value v3
    refine keeps_ite ?_ ?_
    · exact State.logErr_keeps _ _ _ _ _ _ _ (by assumption)
    · assumption
  · assumption
theorem State.recovered_keeps {a s : State} (x2 : _) (x3 : _) (x4 : _) (h : Keeps a s) : Keeps a (State.recovered s x2 x3 x4) := by
  unfold State.recovered
  extract_lets +onlyGivenNames v1
  have h2 : Keeps a v1 := by
    unfold v1
    exact State.logErr_keeps _ _ _ _ _ _ _ (by assumption)
  clear_value v1
  extract_lets +onlyGivenNames v3
  have h4 : Keeps a v3 := by
    unfold v3
    refine keeps_ite ?_ ?_
    · exact State.undrain_keeps _ (State.fillDram_keeps _ _ _ (by assumption))
    · assumption
  clear_value v3
  exact State.unpark_keeps _ (State.rewriteFailed_keeps _ _ _ (by assumption))
theorem State.unrecovered_keeps {a s : State} (x2 : _) (h : Keeps a s) : Keeps a (State.unrecovered s x2) := by
  unfold State.unrecovered
  exact State.unpark_keeps _ (State.poisonUnit_keeps _ (State.logErr_keeps _ _ _ _ _ _ _ (by assumption)))
theorem State.resolve_keeps {a s : State} (x2 : _) (x3 : _) (h : Keeps a s) : Keeps a (State.resolve s x2 x3) := by
  unfold State.resolve
  split
  · exact State.unrecovered_keeps _ (by assumption)
  · exact State.askTwin_keeps _ (by assumption)
  · exact State.recovered_keeps _ _ _ (by assumption)
theorem State.ueRecovery_keeps {a s : State} (x2 : _) (h : Keeps a s) : Keeps a (State.ueRecovery s x2) := by
  unfold State.ueRecovery
  extract_lets +onlyGivenNames v1
  clear_value v1
  refine keeps_ite ?_ ?_
  · assumption
  · split
    · assumption
    · refine keeps_ite ?_ ?_
      · assumption
      · exact State.addRecovery_keeps _ (State.countUe_keeps _ (by assumption))
theorem State.ueResolved_keeps {a s : State} (x2 : _) (x3 : _) (h : Keeps a s) : Keeps a (State.ueResolved s x2 x3) := by
  unfold State.ueResolved
  split
  · assumption
  · refine keeps_ite ?_ ?_
    · assumption
    · exact State.resolve_keeps _ _ (by assumption)
theorem keeps_putStaged {a s : State} (n : Nat) (l : Line) (m : BitVec 64) (h : Keeps a s) :
    Keeps a { s with quay := { s.quay with staged := memPutLine s.quay.staged n l m } } :=
  keeps_upd h (hs := wf_memPutLine)
theorem keeps_putDram {a s : State} (n : Nat) (l : Line) (m : BitVec 64) (h : Keeps a s) :
    Keeps a { s with dram := { s.dram with data := memPutLine s.dram.data n l m } } :=
  keeps_upd h (hd := wf_memPutLine)
theorem State.stagedOk_keeps {a s : State} (r step data : _) (h : Keeps a s) : Keeps a (State.stagedOk s r step data) := by
  unfold State.stagedOk
  extract_lets +onlyGivenNames t u q v w
  have hu : Keeps a u := State.raise_keeps _ (State.bump_keeps _ _ _ (State.logErr_keeps _ _ _ _ _ _ _ h))
  clear_value u
  have hv : Keeps a v := keeps_ite hu (keeps_putStaged _ _ _ hu)
  clear_value v
  have hw : Keeps a w := keeps_ite hv (State.rewriteFailed_keeps _ _ _ hv)
  exact State.unpark_keeps _ hw

theorem State.stagedLost_keeps {a s : State} (x2 : _) (h : Keeps a s) : Keeps a (State.stagedLost s x2) := by
  unfold State.stagedLost
  extract_lets +onlyGivenNames v1
  have h2 : Keeps a v1 := by
    unfold v1
    exact State.poisonUnit_keeps _ (State.logErr_keeps _ _ _ _ _ _ _ (by assumption))
  clear_value v1
  exact State.unpark_keeps _ (State.raise_keeps _ (State.bump_keeps _ _ _ (by assumption)))
theorem State.resolveStaged_keeps {a s : State} (x2 : _) (x3 : _) (h : Keeps a s) : Keeps a (State.resolveStaged s x2 x3) := by
  unfold State.resolveStaged
  split
  · exact State.stagedLost_keeps _ (by assumption)
  · exact State.askTwin_keeps _ (by assumption)
  · exact State.stagedOk_keeps _ _ _ (by assumption)
theorem State.stagedUe_keeps {a s : State} (x2 : _) (x3 : _) (x4 : _) (h : Keeps a s) : Keeps a (State.stagedUe s x2 x3 x4) := by
  unfold State.stagedUe
  extract_lets +onlyGivenNames v1
  clear_value v1
  refine keeps_ite ?_ ?_
  · assumption
  · split
    · assumption
    · extract_lets +onlyGivenNames v2
      clear_value v2
      exact State.resolveStaged_keeps _ _ (State.addRecovery_keeps _ (State.countUe_keeps _ (by assumption)))
theorem State.dropTwinAsk_keeps {a s : State} (x2 : _) (x3 : _) (h : Keeps a s) : Keeps a (State.dropTwinAsk s x2 x3) := by
  unfold State.dropTwinAsk
  exact keeps_upd (by assumption)
theorem State.noMirror_keeps {a s : State} (x2 : _) (h : Keeps a s) : Keeps a (State.noMirror s x2) := by
  unfold State.noMirror
  extract_lets +onlyGivenNames v1
  have h2 : Keeps a v1 := by
    unfold v1
    exact State.dropTwinAsk_keeps _ _ (by assumption)
  clear_value v1
  refine keeps_ite ?_ ?_
  · exact State.stagedLost_keeps _ (by assumption)
  · exact State.unrecovered_keeps _ (by assumption)
theorem State.fromTwin_keeps {a s : State} (x2 : _) (h : Keeps a s) : Keeps a (State.fromTwin s x2) := by
  unfold State.fromTwin
  extract_lets +onlyGivenNames v1
  have h2 : Keeps a v1 := by
    unfold v1
    exact State.ensureFrame_keeps _ _ (by assumption)
  clear_value v1
  exact State.undrain_keeps _ (State.setPage_keeps _ _ (by assumption))
theorem State.mirrorFetched_keeps {a s : State} (x2 : _) (h : Keeps a s) : Keeps a (State.mirrorFetched s x2) := by
  unfold State.mirrorFetched
  extract_lets +onlyGivenNames v1
  extract_lets +onlyGivenNames v2
  have h3 : Keeps a v2 := by
    unfold v2
    exact keeps_upd (by assumption)
  clear_value v2
  exact State.runPageWaiters_keeps _ (State.answerWaits_keeps _ (by assumption))
theorem State.twinSupplied_keeps {a s : State} (line data : _) (h : Keeps a s) : Keeps a (State.twinSupplied s line data) := by
  unfold State.twinSupplied
  extract_lets +onlyGivenNames p dr put
  have hp : ∀ d, Keeps a (put d) := fun d => keeps_putDram _ _ _ h
  clear_value put
  split
  · split
    · exact State.noMirror_keeps _ h
    · refine keeps_ite (keeps_ite (State.stagedOk_keeps _ _ _ h) (State.recovered_keeps _ _ _ h)) (keeps_ite (hp _) ?_)
      extract_lets +onlyGivenNames t
      have ht : Keeps a t := State.fromTwin_keeps _ (hp _)
      exact keeps_ite (State.stagedOk_keeps _ _ _ ht) (State.recovered_keeps _ _ _ ht)
  · refine keeps_ite h ?_
    split
    · exact keeps_ite (hp _) (State.mirrorFetched_keeps _ (State.oweWt_keeps _ (State.fromTwin_keeps _ (hp _))))
    · exact State.mirrorFetched_keeps _ (State.losePage_keeps _ (State.dropTwinAsk_keeps _ _ h))

theorem State.mirrorTimeout_keeps {a s : State} (x2 : _) (h : Keeps a s) : Keeps a (State.mirrorTimeout s x2) := by
  unfold State.mirrorTimeout
  split
  · refine keeps_ite ?_ ?_
    · assumption
    · exact State.noMirror_keeps _ (by assumption)
  · split
    · assumption
    · refine keeps_ite ?_ ?_
      · assumption
      · exact State.mirrorFetched_keeps _ (State.losePage_keeps _ (State.dropTwinAsk_keeps _ _ (by assumption)))
theorem State.scrubUe_keeps {a s : State} (x2 : _) (x3 : _) (x4 : _) (h : Keeps a s) : Keeps a (State.scrubUe s x2 x3 x4) := by
  unfold State.scrubUe
  extract_lets +onlyGivenNames v1
  clear_value v1
  refine keeps_ite ?_ ?_
  · assumption
  · extract_lets +onlyGivenNames v2
    have h3 : Keeps a v2 := by
      unfold v2
      exact State.countUe_keeps _ (by assumption)
    clear_value v2
    refine keeps_ite ?_ ?_
    · extract_lets +onlyGivenNames v4
      clear_value v4
      exact State.resolveStaged_keeps _ _ (State.addRecovery_keeps _ (by assumption))
    · extract_lets +onlyGivenNames v5
      clear_value v5
      exact State.resolve_keeps _ _ (State.addRecovery_keeps _ (by assumption))
theorem State.poisonRebuild_keeps {a s : State} (h : Keeps a s) : Keeps a (State.poisonRebuild s) := by
  unfold State.poisonRebuild
  refine keeps_ite ?_ ?_
  · assumption
  · extract_lets +onlyGivenNames v1
    clear_value v1
    refine keeps_ite ?_ ?_
    · assumption
    · exact State.setBit_keeps _ _ (State.fset_keeps _ _ (keeps_upd (by assumption)))
theorem State.bumpBy_keeps {a s : State} (x2 : _) (x3 : _) (x4 : _) (x5 : _) (h : Keeps a s) : Keeps a (State.bumpBy s x2 x3 x4 x5) := by
  unfold State.bumpBy
  extract_lets +onlyGivenNames v1
  clear_value v1
  extract_lets +onlyGivenNames v2
  clear_value v2
  refine keeps_ite ?_ ?_
  · assumption
  · refine keeps_ite ?_ ?_
    · exact State.raise_keeps _ (State.setBit_keeps _ _ (State.fset_keeps _ _ (by assumption)))
    · exact State.fset_keeps _ _ (by assumption)
theorem State.reframe_keeps {a s : State} (x2 : _) (h : Keeps a s) : Keeps a (State.reframe s x2) := by
  unfold State.reframe
  split
  · exact State.setFrame_keeps _ _ (by assumption)
  · assumption
theorem State.evacDone_keeps {a s : State} (h : Keeps a s) : Keeps a (State.evacDone s) := by
  unfold State.evacDone
  split
  · assumption
  · refine keeps_ite ?_ ?_
    · assumption
    · extract_lets +onlyGivenNames v1
      extract_lets +onlyGivenNames v2
      have h3 : Keeps a v2 := by
        unfold v2
        refine keeps_updN ?_ (h2 := ?_)
        · assumption
        · exact grows_insNat
      clear_value v2
      extract_lets +onlyGivenNames v4
      have h5 : Keeps a v4 := by
        unfold v4
        refine keeps_foldl ?_ ?_
        · assumption
        · intro u6 u7 u8
          beta_reduce
          exact State.reframe_keeps _ (by assumption)
      clear_value v4
      extract_lets +onlyGivenNames v9
      extract_lets +onlyGivenNames v10
      have h11 : Keeps a v10 := by
        unfold v10
        exact keeps_upd (by assumption)
      clear_value v10
      extract_lets +onlyGivenNames v12
      have h13 : Keeps a v12 := by
        unfold v12
        exact State.bumpBy_keeps _ _ _ _ (by assumption)
      clear_value v12
      extract_lets +onlyGivenNames v14
      clear_value v14
      extract_lets +onlyGivenNames v15
      clear_value v15
      exact State.raise_keeps _ (State.setBit_keeps _ _ (State.logErr_keeps _ _ _ _ _ _ _ (by assumption)))
theorem State.setChkValue_keeps {a s : State} (x2 : _) (x3 : _) (h : Keeps a s) : Keeps a (State.setChkValue s x2 x3) := by
  unfold State.setChkValue
  extract_lets +onlyGivenNames v1
  clear_value v1
  exact State.fset_keeps _ _ (State.fset_keeps _ _ (by assumption))
theorem State.chkEnd_keeps {a s : State} (x2 : _) (x3 : _) (h : Keeps a s) : Keeps a (State.chkEnd s x2 x3) := by
  unfold State.chkEnd
  extract_lets +onlyGivenNames v1
  clear_value v1
  extract_lets +onlyGivenNames v2
  extract_lets +onlyGivenNames v3
  have h4 : Keeps a v3 := by
    unfold v3
    exact keeps_upd (by assumption)
  clear_value v3
  exact State.raise_keeps _ (State.fset_keeps _ _ (by assumption))
theorem State.chkBegin_keeps {a s : State} (x2 : _) (h : Keeps a s) : Keeps a (State.chkBegin s x2) := by
  unfold State.chkBegin
  exact State.fset_keeps _ _ (State.fset_keeps _ _ (by assumption))
theorem State.chkStart_keeps {a s : State} (x2 : _) (h : Keeps a s) : Keeps a (State.chkStart s x2) := by
  unfold State.chkStart
  refine keeps_ite ?_ ?_
  · assumption
  · extract_lets +onlyGivenNames v1
    extract_lets +onlyGivenNames v2
    have h3 : Keeps a v2 := by
      unfold v2
      exact keeps_upd (by assumption)
    clear_value v2
    extract_lets +onlyGivenNames v4
    have h5 : Keeps a v4 := by
      unfold v4
      exact State.setBit_keeps _ _ (State.fset_keeps _ _ (by assumption))
    clear_value v4
    exact State.chkBegin_keeps _ (State.setChkValue_keeps _ _ (by assumption))
theorem State.chkStop_keeps {a s : State} (x2 : _) (h : Keeps a s) : Keeps a (State.chkStop s x2) := by
  unfold State.chkStop
  refine keeps_ite ?_ ?_
  · assumption
  · extract_lets +onlyGivenNames v1
    clear_value v1
    exact keeps_upd (by assumption)
theorem State.chkFeed_keeps {a s : State} (x2 : _) (x3 : _) (x4 : _) (x5 : _) (h : Keeps a s) : Keeps a (State.chkFeed s x2 x3 x4 x5) := by
  unfold State.chkFeed
  extract_lets +onlyGivenNames v1
  clear_value v1
  extract_lets +onlyGivenNames v2
  clear_value v2
  extract_lets +onlyGivenNames v3
  clear_value v3
  exact State.fset_keeps _ _ (State.setChkValue_keeps _ _ (by assumption))
theorem State.chkLine_keeps {a s : State} (x2 : _) (h : Keeps a s) : Keeps a (State.chkLine s x2) := by
  unfold State.chkLine
  refine keeps_ite ?_ ?_
  · assumption
  · extract_lets +onlyGivenNames v1
    clear_value v1
    extract_lets +onlyGivenNames v2
    clear_value v2
    refine keeps_ite ?_ ?_
    · exact State.chkEnd_keeps _ _ (by assumption)
    · split
      · exact State.chkEnd_keeps _ _ (by assumption)
      · refine keeps_ite ?_ ?_
        · exact State.chkEnd_keeps _ _ (by assumption)
        · refine keeps_ite ?_ ?_
          · assumption
          · refine keeps_ite ?_ ?_
            · exact State.chkEnd_keeps _ _ (by assumption)
            · refine keeps_ite ?_ ?_
              · exact State.startRestore_keeps _ _ (by assumption)
              · refine keeps_ite ?_ ?_
                · assumption
                · extract_lets +onlyGivenNames v3
                  have h4 : Keeps a v3 := by
                    unfold v3
                    exact State.chkFeed_keeps _ _ _ _ (by assumption)
                  clear_value v3
                  refine keeps_ite ?_ ?_
                  · exact State.chkEnd_keeps _ _ (by assumption)
                  · refine keeps_ite ?_ ?_
                    · exact State.chkEnd_keeps _ _ (by assumption)
                    · assumption
theorem State.chkStopAll_keeps {a s : State} (h : Keeps a s) : Keeps a (State.chkStopAll s) := by
  unfold State.chkStopAll
  refine keeps_foldl ?_ ?_
  · assumption
  · intro u1 u2 u3
    beta_reduce
    refine keeps_ite ?_ ?_
    · exact State.chkEnd_keeps _ _ (by assumption)
    · assumption
/-! ### FlashFx.lean -/

theorem State.countBlockRead_keeps {a s : State} (x2 : _) (h : Keeps a s) : Keeps a (State.countBlockRead s x2) := by
  unfold State.countBlockRead
  extract_lets +onlyGivenNames v1
  clear_value v1
  exact State.setBlock_keeps _ _ (by assumption)
theorem State.flashRead_keeps {a s : State} (x2 : _) (x3 : _) (h : Keeps a s) : Keeps a (State.flashRead s x2 x3) := by
  unfold State.flashRead
  extract_lets +onlyGivenNames v1
  clear_value v1
  refine keeps_ite ?_ ?_
  · assumption
  · extract_lets +onlyGivenNames v2
    have h3 : Keeps a v2 := by
      unfold v2
      exact State.countBlockRead_keeps _ (by assumption)
    clear_value v2
    extract_lets +onlyGivenNames v4
    have h5 : Keeps a v4 := by
      unfold v4
      refine keeps_ite ?_ ?_
      · exact State.restoreWord_keeps _ (by assumption)
      · assumption
    clear_value v4
    extract_lets +onlyGivenNames v6
    have hf7 : ∀ y0, Keeps a y0 → Keeps a (v6 y0) := by
      intro u8 u9
      unfold v6
      exact State.answerWaits_keeps _ (by assumption)
    clear_value v6
    extract_lets +onlyGivenNames v10
    clear_value v10
    extract_lets +onlyGivenNames v11
    clear_value v11
    split
    · apply hf7
      assumption
    · refine keeps_ite ?_ ?_
      · assumption
      · extract_lets +onlyGivenNames v12
        have h13 : Keeps a v12 := by
          unfold v12
          exact State.bump_keeps _ _ _ (by assumption)
        clear_value v12
        apply hf7
        exact State.logErr_keeps _ _ _ _ _ _ _ (State.countCe_keeps _ (by assumption))
    · extract_lets +onlyGivenNames v14
      have h15 : Keeps a v14 := by
        unfold v14
        exact State.countUe_keeps _ (by assumption)
      clear_value v14
      refine keeps_ite ?_ ?_
      · extract_lets +onlyGivenNames v16
        have h17 : Keeps a v16 := by
          unfold v16
          exact State.bump_keeps _ _ _ (by assumption)
        clear_value v16
        extract_lets +onlyGivenNames v18
        have h19 : Keeps a v18 := by
          unfold v18
          exact State.retireBlock_keeps _ _ (by assumption)
        clear_value v18
        extract_lets +onlyGivenNames v20
        have h21 : Keeps a v20 := by
          unfold v20
          exact State.logErr_keeps _ _ _ _ _ _ _ (by assumption)
        clear_value v20
        extract_lets +onlyGivenNames v22
        have h23 : Keeps a v22 := by
          unfold v22
          refine keeps_ite ?_ ?_
          · exact State.raise_keeps _ (State.bump_keeps _ _ _ (by assumption))
          · assumption
        clear_value v22
        apply hf7
        exact State.rewriteCopy_keeps _ _ _ (by assumption)
      · extract_lets +onlyGivenNames v24
        clear_value v24
        refine keeps_ite ?_ ?_
        · exact State.stagedOk_keeps _ _ _ (State.addRecovery_keeps _ (by assumption))
        · refine keeps_ite ?_ ?_
          · exact State.askTwin_keeps _ (State.addRecovery_keeps _ (by assumption))
          · refine keeps_ite ?_ ?_
            · exact State.stagedLost_keeps _ (by assumption)
            · exact State.unrecovered_keeps _ (by assumption)
theorem State.closeStripes_keeps {a s : State} (x2 : _) (h : Keeps a s) : Keeps a (State.closeStripes s x2) := by
  unfold State.closeStripes
  exact keeps_upd (by assumption)
theorem State.stripeClose_keeps {a s : State} (x2 : _) (h : Keeps a s) : Keeps a (State.stripeClose s x2) := by
  unfold State.stripeClose
  split
  · assumption
  · refine keeps_ite ?_ ?_
    · assumption
    · exact State.closeStripes_keeps _ (by assumption)
theorem State.relocate_keeps {a s : State} (x2 : _) (h : Keeps a s) : Keeps a (State.relocate s x2) := by
  unfold State.relocate
  split
  · assumption
  · refine keeps_ite ?_ ?_
    · exact State.trim_keeps _ (by assumption)
    · refine keeps_ite ?_ ?_
      · assumption
      · extract_lets +onlyGivenNames v1
        extract_lets +onlyGivenNames v2
        clear_value v2
        extract_lets +onlyGivenNames v3
        have h4 : Keeps a v3.2 := by
          unfold v3
          exact State.place_keeps _ _ (by assumption)
        clear_value v3
        exact State.useBlock_keeps _ _ _ (State.setMap_keeps _ _ (by assumption))
theorem State.eraseBlock_keeps {a s : State} (b : _) (h : Keeps a s) : Keeps a (State.eraseBlock s b) := by
  unfold State.eraseBlock
  extract_lets +onlyGivenNames u t
  have ht : Keeps a t := State.free_keeps _ h
  refine keeps_ite (State.retireBlock_keeps _ _ ht) ?_
  clear_value t
  extract_lets +onlyGivenNames x slc w v
  exact State.setWear_keeps (State.setFree_keeps _ (State.setBlock_keeps _ _ ht (Nat.le_add_right _ _)))

theorem State.emptyBlock_keeps {a s : State} (x2 : _) (h : Keeps a s) : Keeps a (State.emptyBlock s x2) := by
  unfold State.emptyBlock
  extract_lets +onlyGivenNames v1
  have h2 : Keeps a v1 := by
    unfold v1
    refine keeps_foldl ?_ ?_
    · assumption
    · intro u3 u4 u5
      beta_reduce
      exact State.relocate_keeps _ (by assumption)
  clear_value v1
  refine keeps_ite ?_ ?_
  · exact State.eraseBlock_keeps _ (by assumption)
  · assumption
theorem State.garbageCollect_keeps {a s : State} (x2 : _) (h : Keeps a s) : Keeps a (State.garbageCollect s x2) := by
  unfold State.garbageCollect
  refine keeps_ite ?_ ?_
  · assumption
  · exact State.emptyBlock_keeps _ (by assumption)
theorem State.wearLevel_keeps {a s : State} (x2 : _) (h : Keeps a s) : Keeps a (State.wearLevel s x2) := by
  unfold State.wearLevel
  extract_lets +onlyGivenNames v1
  clear_value v1
  extract_lets +onlyGivenNames v2
  clear_value v2
  extract_lets +onlyGivenNames v3
  clear_value v3
  refine keeps_ite ?_ ?_
  · assumption
  · exact State.emptyBlock_keeps _ (by assumption)
theorem State.countReloc_keeps {a s : State} (h : Keeps a s) : Keeps a (State.countReloc s) := by
  unfold State.countReloc
  exact State.bump_keeps _ _ _ (by assumption)
theorem State.disturbRelocate_keeps {a s : State} (x2 : _) (h : Keeps a s) : Keeps a (State.disturbRelocate s x2) := by
  unfold State.disturbRelocate
  refine keeps_ite ?_ ?_
  · assumption
  · exact State.countReloc_keeps (State.emptyBlock_keeps _ (by assumption))
theorem State.scrubAll_keeps {a s : State} (x2 : _) (h : Keeps a s) : Keeps a (State.scrubAll s x2) := by
  unfold State.scrubAll
  exact keeps_upd (by assumption)
theorem State.retentionScrub_keeps {a s : State} (b weak : _) (h : Keeps a s) : Keeps a (State.retentionScrub s b weak) := by
  unfold State.retentionScrub
  extract_lets +onlyGivenNames x
  refine keeps_ite h ?_
  extract_lets +onlyGivenNames fl t u
  have ht : Keeps a t := keeps_upd h
  have hu : Keeps a u := State.setBlock_keeps _ _ ht
  exact keeps_ite (State.countReloc_keeps (State.emptyBlock_keeps _ hu)) hu

theorem State.dieRetire_keeps {a s : State} (x2 : _) (x3 : _) (h : Keeps a s) : Keeps a (State.dieRetire s x2 x3) := by
  unfold State.dieRetire
  refine keeps_ite ?_ ?_
  · assumption
  · exact State.retireDie_keeps _ _ _ (by assumption)
theorem State.setChannels_keeps {a s : State} (h : Keeps a s) : Keeps a (State.setChannels s) := by
  unfold State.setChannels
  extract_lets +onlyGivenNames v1
  clear_value v1
  exact State.fset_keeps _ _ (State.fset_keeps _ _ (by assumption))
theorem State.channelLoss_keeps {a s : State} (x2 : _) (h : Keeps a s) : Keeps a (State.channelLoss s x2) := by
  unfold State.channelLoss
  refine keeps_ite ?_ ?_
  · assumption
  · extract_lets +onlyGivenNames v1
    have h2 : Keeps a v1 := by
      unfold v1
      exact State.setChannels_keeps (State.fset_keeps _ _ (by assumption))
    clear_value v1
    extract_lets +onlyGivenNames v3
    have h4 : Keeps a v3 := by
      unfold v3
      exact State.closeStripes_keeps _ (by assumption)
    clear_value v3
    extract_lets +onlyGivenNames v5
    extract_lets +onlyGivenNames v6
    clear_value v6
    extract_lets +onlyGivenNames v7
    extract_lets +onlyGivenNames v8
    have h9 : Keeps a v8 := by
      unfold v8
      exact keeps_upd (by assumption)
    clear_value v8
    extract_lets +onlyGivenNames v10
    have h11 : Keeps a v10 := by
      unfold v10
      refine keeps_foldl ?_ ?_
      · assumption
      · intro u12 u13 u14
        beta_reduce
        exact State.flushAgain_keeps _ (by assumption)
    clear_value v10
    exact State.raise_keeps _ (State.logErr_keeps _ _ _ _ _ _ _ (by assumption))
theorem State.mapLoad_keeps {a s : State} (h : Keeps a s) : Keeps a (State.mapLoad s) := by
  unfold State.mapLoad
  refine keeps_ite ?_ ?_
  · assumption
  · exact State.raise_keeps _ (State.setBit_keeps _ _ (keeps_upd (by assumption)))
theorem State.loftErase_keeps {a s : State} (b : _) (h : Keeps a s) : Keeps a (State.loftErase s b) := by
  unfold State.loftErase
  extract_lets +onlyGivenNames x u t v
  have ht : Keeps a t := State.free_keeps _ h
  refine keeps_ite (State.setFree_keeps _ (State.retireBlock_keeps _ _ ht)) ?_
  exact State.setWear_keeps (State.setBlock_keeps _ _ ht (Nat.le_add_right _ _))

theorem State.foldExtent_keeps {a s : State} (h : Keeps a s) : Keeps a (State.foldExtent s) := by
  unfold State.foldExtent
  refine keeps_ite ?_ ?_
  · assumption
  · split
    · exact State.setBit_keeps _ _ (by assumption)
    · refine keeps_ite ?_ ?_
      · exact keeps_upd (by assumption)
      · extract_lets +onlyGivenNames v1
        extract_lets +onlyGivenNames v2
        have h3 : Keeps a v2 := by
          unfold v2
          exact keeps_upd (by assumption)
        clear_value v2
        extract_lets +onlyGivenNames v4
        clear_value v4
        extract_lets +onlyGivenNames v5
        have h6 : Keeps a v5 := by
          unfold v5
          refine keeps_ite ?_ ?_
          · exact State.relocate_keeps _ (by assumption)
          · assumption
        clear_value v5
        extract_lets +onlyGivenNames v7
        have h8 : Keeps a v7 := by
          unfold v7
          refine keeps_foldl ?_ ?_
          · assumption
          · intro u9 u10 u11
            beta_reduce
            exact State.loftErase_keeps _ (by assumption)
        clear_value v7
        extract_lets +onlyGivenNames v12
        have h13 : Keeps a v12 := by
          unfold v12
          exact State.setFree_keeps _ (by assumption)
        clear_value v12
        refine keeps_ite ?_ ?_
        · refine State.setBit_keeps _ _ ?_
          refine keeps_updN ?_ (hl := ?_)
          · assumption
          · exact fun _ => rfl
        · assumption
theorem State.rehErase_keeps {a s : State} (h : Keeps a s) : Keeps a (State.rehErase s) := by
  unfold State.rehErase
  refine keeps_ite ?_ ?_
  · assumption
  · split
    · assumption
    · exact State.loftErase_keeps _ (keeps_upd (by assumption))
theorem State.factoryMark_keeps {a s : State} (b bad : _) (h : Keeps a s) : Keeps a (State.factoryMark s b bad) := by
  unfold State.factoryMark
  extract_lets +onlyGivenNames x
  refine keeps_ite h ?_
  extract_lets +onlyGivenNames t
  have hb : t.block b = x := by
    unfold t; split
    · exact State.setFree_block _ _ _
    · rfl
  have ht : Keeps a t := keeps_ite (State.setFree_keeps _ h) h
  exact State.setBlock_keeps _ _ ht (by rw [hb]) (by rw [hb]; exact fun e => by simp [e])

/-! ### TideFx.lean -/

theorem State.sharerIdle_keeps {a s : State} (x2 : _) (h : Keeps a s) : Keeps a (State.sharerIdle s x2) := by
  unfold State.sharerIdle
  extract_lets +onlyGivenNames v1
  clear_value v1
  extract_lets +onlyGivenNames v2
  clear_value v2
  refine keeps_ite ?_ ?_
  · assumption
  · exact State.makeDormant_keeps _ (by assumption)
theorem State.startCopy_keeps {a s : State} (x2 : _) (x3 : _) (h : Keeps a s) : Keeps a (State.startCopy s x2 x3) := by
  unfold State.startCopy
  extract_lets +onlyGivenNames v1
  have h2 : Keeps a v1 := by
    unfold v1
    exact State.ensureStg_keeps _ (by assumption)
  clear_value v1
  extract_lets +onlyGivenNames v3
  clear_value v3
  extract_lets +onlyGivenNames v4
  have h5 : Keeps a v4 := by
    unfold v4
    exact keeps_upd (by assumption)
  clear_value v4
  refine keeps_ite ?_ ?_
  · exact State.startRestore_keeps _ _ (by assumption)
  · refine keeps_ite ?_ ?_
    · exact State.startFetch_keeps _ _ _ (by assumption)
    · refine keeps_ite ?_ ?_
      · assumption
      · extract_lets +onlyGivenNames v6
        have h7 : Keeps a v6.2 := by
          unfold v6
          exact State.progress_keeps (by assumption)
        clear_value v6
        extract_lets +onlyGivenNames v8
        have h9 : Keeps a v8 := by
          unfold v8
          assumption
        refine keeps_updN ?_ (hs := ?_)
        · assumption
        · exact wf_memSetPage
theorem State.nextCopy_keeps {a s : State} (x2 : _) (h : Keeps a s) : Keeps a (State.nextCopy s x2) := by
  unfold State.nextCopy
  extract_lets +onlyGivenNames v1
  clear_value v1
  refine keeps_ite ?_ ?_
  · assumption
  · split
    · exact State.startCopy_keeps _ _ (by assumption)
    · assumption
theorem State.stagingBegin_keeps {a s : State} (h : Keeps a s) : Keeps a (State.stagingBegin s) := by
  unfold State.stagingBegin
  refine keeps_ite ?_ ?_
  · assumption
  · split
    · assumption
    · extract_lets +onlyGivenNames v1
      clear_value v1
      extract_lets +onlyGivenNames v2
      clear_value v2
      extract_lets +onlyGivenNames v3
      clear_value v3
      extract_lets +onlyGivenNames v4
      have h5 : Keeps a v4 := by
        unfold v4
        exact State.setTable_keeps _ _ (by assumption)
      clear_value v4
      extract_lets +onlyGivenNames v6
      have h7 : Keeps a v6 := by
        unfold v6
        exact State.setEntry_keeps _ _ (by assumption)
      clear_value v6
      extract_lets +onlyGivenNames v8
      have h9 : Keeps a v8 := by
        unfold v8
        refine keeps_foldl ?_ ?_
        · assumption
        · intro u10 u11 u12
          beta_reduce
          extract_lets +onlyGivenNames v13
          clear_value v13
          exact State.setPage_keeps _ _ (by assumption)
      clear_value v8
      exact State.nextCopy_keeps _ (State.checkEntry_keeps _ (by assumption))
theorem State.mergedPage_wf (s : State) {m : SMap Byte} (p : Nat) (h : Memory.wf m) : Memory.wf (s.mergedPage m p) := by
  unfold State.mergedPage
  induction s.landOf p generalizing m with
  | nil => exact h
  | cons e l ih => exact ih (memPutLine_wf _ _ _ h)
theorem State.copyDone_keeps {a s : State} (p : _) (h : Keeps a s) : Keeps a (State.copyDone s p) := by
  unfold State.copyDone
  refine keeps_ite h ?_
  extract_lets +onlyGivenNames fl t
  have ht : Keeps a t := keeps_upd h
  clear_value t
  extract_lets +onlyGivenNames m qu u
  have hu : Keeps a u := keeps_upd ht (hs := fun w => t.mergedPage_wf _ (memSetPage_wf _ _ w))
  clear_value u
  extract_lets +onlyGivenNames pw v w x
  have hx : Keeps a x := State.answerWaits_keeps _ (State.checkPage_keeps _ (State.fset_keeps _ _ (State.setPage_keeps _ _ hu)))
  clear_value x
  exact keeps_foldl hx fun t y ht => State.nextCopy_keeps _ ht

theorem State.restage_keeps {a s : State} (x2 : _) (h : Keeps a s) : Keeps a (State.restage s x2) := by
  unfold State.restage
  extract_lets +onlyGivenNames v1
  have h2 : Keeps a v1 := by
    unfold v1
    exact State.dropStaged_keeps _ (by assumption)
  clear_value v1
  extract_lets +onlyGivenNames v3
  clear_value v3
  extract_lets +onlyGivenNames v4
  have h5 : Keeps a v4 := by
    unfold v4
    refine keeps_foldl ?_ ?_
    · assumption
    · intro u6 u7 u8
      beta_reduce
      exact State.setEntry_keeps _ _ (by assumption)
  clear_value v4
  refine keeps_foldl ?_ ?_
  · assumption
  · intro u9 u10 u11
    beta_reduce
    exact State.nextCopy_keeps _ (by assumption)
theorem State.copyFree_keeps {a s : State} (x2 : _) (h : Keeps a s) : Keeps a (State.copyFree s x2) := by
  unfold State.copyFree
  refine keeps_ite ?_ ?_
  · assumption
  · exact State.dropStaged_keeps _ (by assumption)
theorem State.tideStandby_keeps {a s : State} (h : Keeps a s) : Keeps a (State.tideStandby s) := by
  unfold State.tideStandby
  extract_lets +onlyGivenNames v1
  have h2 : Keeps a v1 := by
    unfold v1
    refine keeps_foldl ?_ ?_
    · assumption
    · intro u3 u4 u5
      beta_reduce
      refine keeps_foldl ?_ ?_
      · assumption
      · intro u6 u7 u8
        beta_reduce
        exact State.releaseEntry_keeps _ _ (by assumption)
  clear_value v1
  refine keeps_foldl ?_ ?_
  · exact keeps_upd (by assumption)
  · intro u9 u10 u11
    beta_reduce
    exact State.dropStaged_keeps _ (by assumption)
/-! ### DramFx.lean -/

theorem State.refresh_keeps {a s : State} (x2 : _) (x3 : _) (h : Keeps a s) : Keeps a (State.refresh s x2 x3) := by
  unfold State.refresh
  extract_lets +onlyGivenNames v1
  clear_value v1
  extract_lets +onlyGivenNames v2
  clear_value v2
  refine keeps_ite ?_ ?_
  · assumption
  · extract_lets +onlyGivenNames v3
    clear_value v3
    extract_lets +onlyGivenNames v4
    clear_value v4
    exact keeps_upd (by assumption)
theorem State.refreshManage_keeps {a s : State} (x2 : _) (x3 : _) (h : Keeps a s) : Keeps a (State.refreshManage s x2 x3) := by
  unfold State.refreshManage
  refine keeps_ite ?_ ?_
  · assumption
  · extract_lets +onlyGivenNames v1
    extract_lets +onlyGivenNames v2
    have h3 : Keeps a v2 := by
      unfold v2
      exact keeps_upd (by assumption)
    clear_value v2
    exact State.bump_keeps _ _ _ (by assumption)
theorem State.dimmThermal_keeps {a s : State} (x2 : _) (x3 : _) (x4 : _) (h : Keeps a s) : Keeps a (State.dimmThermal s x2 x3 x4) := by
  unfold State.dimmThermal
  refine keeps_ite ?_ ?_
  · assumption
  · extract_lets +onlyGivenNames v1
    clear_value v1
    extract_lets +onlyGivenNames v2
    clear_value v2
    extract_lets +onlyGivenNames v3
    extract_lets +onlyGivenNames v4
    have h5 : Keeps a v4 := by
      unfold v4
      exact keeps_upd (by assumption)
    clear_value v4
    extract_lets +onlyGivenNames v6
    clear_value v6
    extract_lets +onlyGivenNames v7
    clear_value v7
    extract_lets +onlyGivenNames v8
    have h9 : Keeps a v8 := by
      unfold v8
      exact State.setBit_keeps _ _ (by assumption)
    clear_value v8
    refine keeps_ite ?_ ?_
    · exact State.raise_keeps _ (by assumption)
    · assumption
theorem State.quayRefresh_keeps {a s : State} (h : Keeps a s) : Keeps a (State.quayRefresh s) := by
  unfold State.quayRefresh
  refine keeps_ite ?_ ?_
  · assumption
  · extract_lets +onlyGivenNames v1
    clear_value v1
    refine keeps_ite ?_ ?_
    · assumption
    · extract_lets +onlyGivenNames v2
      clear_value v2
      exact keeps_upd (by assumption)
theorem State.hbmThermal_keeps {a s : State} (x2 : _) (h : Keeps a s) : Keeps a (State.hbmThermal s x2) := by
  unfold State.hbmThermal
  refine keeps_ite ?_ ?_
  · assumption
  · extract_lets +onlyGivenNames v1
    clear_value v1
    extract_lets +onlyGivenNames v2
    clear_value v2
    extract_lets +onlyGivenNames v3
    have h4 : Keeps a v3 := by
      unfold v3
      exact State.setBit_keeps _ _ (by assumption)
    clear_value v3
    refine keeps_ite ?_ ?_
    · exact State.raise_keeps _ (by assumption)
    · assumption
theorem State.moveLanes_keeps {a s : State} (ch ls : _) (h : Keeps a s) : Keeps a (State.moveLanes s ch ls) := by
  induction ls generalizing s with
  | nil => exact h
  | cons l ls ih =>
    rw [State.moveLanes]
    extract_lets +onlyGivenNames t d
    refine ih ?_
    have ht : ∀ x : SMap Nat, Keeps a { t with dram := { d with lanes := x } } :=
      fun x => keeps_upd (State.free_keeps _ h)
    exact keeps_ite (State.raise_keeps _ (State.setBit_keeps _ _ (ht _))) (ht _)

theorem State.retrainPause_keeps {a s : State} (x2 : _) (h : Keeps a s) : Keeps a (State.retrainPause s x2) := by
  unfold State.retrainPause
  extract_lets +onlyGivenNames v1
  clear_value v1
  refine keeps_ite ?_ ?_
  · assumption
  · extract_lets +onlyGivenNames v2
    extract_lets +onlyGivenNames v3
    have h4 : Keeps a v3 := by
      unfold v3
      exact keeps_upd (by assumption)
    clear_value v3
    extract_lets +onlyGivenNames v5
    have h6 : Keeps a v5 := by
      unfold v5
      exact State.bump_keeps _ _ _ (by assumption)
    clear_value v5
    exact State.moveLanes_keeps _ _ (by assumption)
theorem State.rowIdle_keeps {a s : State} (x2 : _) (x3 : _) (h : Keeps a s) : Keeps a (State.rowIdle s x2 x3) := by
  unfold State.rowIdle
  split
  · assumption
  · refine keeps_ite ?_ ?_
    · assumption
    · exact keeps_upd (by assumption)
theorem State.panicExpiry_keeps {a s : State} (x2 : _) (x3 : _) (h : Keeps a s) : Keeps a (State.panicExpiry s x2 x3) := by
  unfold State.panicExpiry
  extract_lets +onlyGivenNames v1
  clear_value v1
  extract_lets +onlyGivenNames v2
  clear_value v2
  refine keeps_ite ?_ ?_
  · assumption
  · extract_lets +onlyGivenNames v3
    extract_lets +onlyGivenNames v4
    have h5 : Keeps a v4 := by
      unfold v4
      exact keeps_upd (by assumption)
    clear_value v4
    exact State.setBit_keeps _ _ (by assumption)
theorem State.wroteOne_keeps {a s : State} (x2 : _) (x3 : _) (h : Keeps a s) : Keeps a (State.wroteOne s x2 x3) := by
  unfold State.wroteOne
  extract_lets +onlyGivenNames v1
  clear_value v1
  extract_lets +onlyGivenNames v2
  clear_value v2
  extract_lets +onlyGivenNames v3
  extract_lets +onlyGivenNames v4
  have h5 : Keeps a v4 := by
    unfold v4
    exact State.setSub_keeps _ _ (by assumption)
  clear_value v4
  extract_lets +onlyGivenNames v6
  have h7 : Keeps a v6 := by
    unfold v6
    refine keeps_ite ?_ ?_
    · exact State.portLess_keeps _ _ (by assumption)
    · assumption
  clear_value v6
  split
  · split
    · exact State.complete_keeps _ _ _ _ _ _ (State.setSub_keeps _ _ (by assumption))
    · assumption
  · assumption
theorem State.accessDone_keeps {a s : State} (x2 : _) (h : Keeps a s) : Keeps a (State.accessDone s x2) := by
  unfold State.accessDone
  extract_lets +onlyGivenNames v1
  clear_value v1
  extract_lets +onlyGivenNames v2
  clear_value v2
  refine keeps_ite ?_ ?_
  · exact State.access_keeps _ (by assumption)
  · split
    · assumption
    · refine keeps_ite ?_ ?_
      · assumption
      · extract_lets +onlyGivenNames v3
        have h4 : Keeps a v3 := by
          unfold v3
          exact State.passOver_keeps _ _ (by assumption)
        clear_value v3
        extract_lets +onlyGivenNames v5
        have h6 : Keeps a v5.2 := by
          unfold v5
          exact State.access_keeps _ (by assumption)
        clear_value v5
        extract_lets +onlyGivenNames v7
        have h8 : Keeps a v7 := by
          unfold v7
          assumption
        extract_lets +onlyGivenNames v9
        clear_value v9
        refine keeps_ite ?_ ?_
        · split
          · exact State.serveQueued_keeps _ _ (State.setSub_keeps _ _ (by assumption))
          · assumption
        · split
          · exact State.wroteOne_keeps _ _ (by assumption)
          · assumption
theorem State.dramDone_keeps {a s : State} (x2 : _) (h : Keeps a s) : Keeps a (State.dramDone s x2) := by
  unfold State.dramDone
  refine keeps_ite ?_ ?_
  · assumption
  · exact State.accessDone_keeps _ (by assumption)
theorem State.quayDone_keeps {a s : State} (x2 : _) (h : Keeps a s) : Keeps a (State.quayDone s x2) := by
  unfold State.quayDone
  refine keeps_ite ?_ ?_
  · assumption
  · exact State.accessDone_keeps _ (by assumption)
theorem State.freqBegin_keeps {a s : State} (x2 : _) (x3 : _) (h : Keeps a s) : Keeps a (State.freqBegin s x2 x3) := by
  unfold State.freqBegin
  exact State.setBit_keeps _ _ (keeps_upd (by assumption))
theorem State.freqNext_keeps {a s : State} (h : Keeps a s) : Keeps a (State.freqNext s) := by
  unfold State.freqNext
  refine keeps_ite ?_ ?_
  · assumption
  · split
    · assumption
    · exact State.freqBegin_keeps _ _ (keeps_upd (by assumption))
theorem State.freqDone_keeps {a s : State} (h : Keeps a s) : Keeps a (State.freqDone s) := by
  unfold State.freqDone
  split
  · assumption
  · refine keeps_ite ?_ ?_
    · assumption
    · extract_lets +onlyGivenNames v1
      extract_lets +onlyGivenNames v2
      have h3 : Keeps a v2 := by
        unfold v2
        exact keeps_upd (by assumption)
      clear_value v2
      extract_lets +onlyGivenNames v4
      have h5 : Keeps a v4 := by
        unfold v4
        exact State.raise_keeps _ (State.setBit_keeps _ _ (State.fset_keeps _ _ (by assumption)))
      clear_value v4
      extract_lets +onlyGivenNames v6
      clear_value v6
      extract_lets +onlyGivenNames v7
      have h8 : Keeps a v7 := by
        unfold v7
        split
        · exact keeps_upd (by assumption)
        · assumption
      clear_value v7
      extract_lets +onlyGivenNames v9
      have h10 : Keeps a v9 := by
        unfold v9
        refine keeps_foldl ?_ ?_
        · assumption
        · intro u11 u12 u13
          beta_reduce
          exact State.runPageWaiters_keeps _ (by assumption)
      clear_value v9
      exact State.freqNext_keeps (by assumption)
theorem State.dropQueued_keeps {a s : State} (x2 : _) (x3 : _) (h : Keeps a s) : Keeps a (State.dropQueued s x2 x3) := by
  unfold State.dropQueued
  refine keeps_foldl ?_ ?_
  · assumption
  · intro u1 u2 u3
    beta_reduce
    extract_lets +onlyGivenNames v4
    clear_value v4
    extract_lets +onlyGivenNames v5
    clear_value v5
    extract_lets +onlyGivenNames v6
    clear_value v6
    extract_lets +onlyGivenNames v7
    have h8 : Keeps a v7 := by
      unfold v7
      exact State.setSub_keeps _ _ (by assumption)
    clear_value v7
    extract_lets +onlyGivenNames v9
    clear_value v9
    extract_lets +onlyGivenNames v10
    clear_value v10
    extract_lets +onlyGivenNames v11
    clear_value v11
    extract_lets +onlyGivenNames v12
    have h13 : Keeps a v12 := by
      unfold v12
      exact keeps_upd (by assumption)
    clear_value v12
    refine keeps_foldl ?_ ?_
    · assumption
    · intro u14 u15 u16
      beta_reduce
      extract_lets +onlyGivenNames v17
      have h18 : Keeps a v17 := by
        unfold v17
        refine keeps_ite ?_ ?_
        · exact State.portLess_keeps _ _ (by assumption)
        · assumption
      clear_value v17
      split
      · exact State.complete_keeps _ _ _ _ _ _ (by assumption)
      · assumption
theorem State.dimmLoss_keeps {a s : State} (x2 : _) (x3 : _) (h : Keeps a s) : Keeps a (State.dimmLoss s x2 x3) := by
  unfold State.dimmLoss
  extract_lets +onlyGivenNames v1
  clear_value v1
  refine keeps_ite ?_ ?_
  · assumption
  · extract_lets +onlyGivenNames v2
    extract_lets +onlyGivenNames v3
    have h4 : Keeps a v3 := by
      unfold v3
      exact keeps_upd (by assumption)
    clear_value v3
    extract_lets +onlyGivenNames v5
    have h6 : Keeps a v5 := by
      unfold v5
      exact State.setFbit_keeps _ _ _ (by assumption)
    clear_value v5
    extract_lets +onlyGivenNames v7
    have h8 : Keeps a v7 := by
      unfold v7
      refine keeps_ite ?_ ?_
      · exact State.fset_keeps _ _ (by assumption)
      · assumption
    clear_value v7
    extract_lets +onlyGivenNames v9
    have h10 : Keeps a v9 := by
      unfold v9
      exact State.dropQueued_keeps _ _ (by assumption)
    clear_value v9
    exact State.raise_keeps _ (State.logErr_keeps _ _ _ _ _ _ _ (by assumption))
theorem State.homeFrame_keeps {a s : State} (x2 : _) (x3 : _) (h : Keeps a s) : Keeps a (State.homeFrame s x2 x3) := by
  unfold State.homeFrame
  extract_lets +onlyGivenNames v1
  have h2 : Keeps a v1 := by
    unfold v1
    split
    · assumption
    · split
      · exact State.bump_keeps _ _ _ (State.dropDram_keeps _ (by assumption))
      · assumption
  clear_value v1
  exact State.ensureFrame_keeps _ _ (by assumption)
theorem State.loseLines_keeps {a s : State} (x2 : _) (x3 : _) (h : Keeps a s) : Keeps a (State.loseLines s x2 x3) := by
  unfold State.loseLines
  split
  · assumption
  · exact State.recordAll_keeps _ _ _ (State.poisonLines_keeps _ (by assumption))
theorem State.homeDone_keeps {a s : State} (x2 : _) (h : Keeps a s) : Keeps a (State.homeDone s x2) := by
  unfold State.homeDone
  exact State.runPageWaiters_keeps _ (State.answerWaits_keeps _ (by assumption))
theorem State.rehome_keeps {a s : State} (x2 : _) (h : Keeps a s) : Keeps a (State.rehome s x2) := by
  unfold State.rehome
  refine keeps_ite ?_ ?_
  · assumption
  · extract_lets +onlyGivenNames v1
    clear_value v1
    extract_lets +onlyGivenNames v2
    clear_value v2
    extract_lets +onlyGivenNames v3
    have h4 : Keeps a v3 := by
      unfold v3
      exact State.undrain_keeps _ (State.setFrame_keeps _ _ (by assumption))
    clear_value v3
    extract_lets +onlyGivenNames v5
    clear_value v5
    extract_lets +onlyGivenNames v6
    clear_value v6
    extract_lets +onlyGivenNames v7
    have hf8 : ∀ y0, Keeps a (v7 y0) := by
      intro u9
      unfold v7
      exact State.fillDram_keeps _ _ _ (State.homeFrame_keeps _ _ (by assumption))
    clear_value v7
    refine keeps_ite ?_ ?_
    · assumption
    · refine keeps_ite ?_ ?_
      · exact State.homeDone_keeps _ (State.fillDram_keeps _ _ _ (State.homeFrame_keeps _ _ (by assumption)))
      · refine keeps_ite ?_ ?_
        · refine State.homeDone_keeps _ ?_
          refine State.loseLines_keeps _ _ ?_
          apply hf8
        · refine keeps_ite ?_ ?_
          · extract_lets +onlyGivenNames v10
            have h11 : Keeps a v10 := by
              unfold v10
              exact State.setPage_keeps _ _ (by assumption)
            clear_value v10
            extract_lets +onlyGivenNames v12
            extract_lets +onlyGivenNames v13
            have h14 : Keeps a v13 := by
              unfold v13
              refine keeps_updN ?_ (hd := ?_)
              · assumption
              · exact wf_memDropPage
            clear_value v13
            extract_lets +onlyGivenNames v15
            clear_value v15
            extract_lets +onlyGivenNames v16
            have h17 : Keeps a v16 := by
              unfold v16
              refine keeps_ite ?_ ?_
              · exact State.startFetch_keeps _ _ _ (by assumption)
              · assumption
            clear_value v16
            exact State.runPageWaiters_keeps _ (by assumption)
          · refine keeps_ite ?_ ?_
            · refine State.homeDone_keeps _ ?_
              apply hf8
            · refine keeps_ite ?_ ?_
              · exact State.askTwin_keeps _ (State.addRecovery_keeps _ (State.homeFrame_keeps _ _ (by assumption)))
              · refine keeps_ite ?_ ?_
                · refine State.homeDone_keeps _ ?_
                  refine State.loseLines_keeps _ _ ?_
                  apply hf8
                · refine keeps_ite ?_ ?_
                  · refine State.homeDone_keeps _ ?_
                    apply hf8
                  · refine State.homeDone_keeps _ ?_
                    refine State.loseLines_keeps _ _ ?_
                    apply hf8
theorem State.quayDemote_keeps {a s : State} (x2 : _) (x3 : _) (h : Keeps a s) : Keeps a (State.quayDemote s x2 x3) := by
  unfold State.quayDemote
  extract_lets +onlyGivenNames v1
  clear_value v1
  refine keeps_ite ?_ ?_
  · exact State.dropHot_keeps _ (by assumption)
  · extract_lets +onlyGivenNames v2
    clear_value v2
    extract_lets +onlyGivenNames v3
    have h4 : Keeps a v3 := by
      unfold v3
      exact State.fillDram_keeps _ _ _ (by assumption)
    clear_value v3
    exact State.loseLines_keeps _ _ (State.dropHot_keeps _ (by assumption))
theorem State.quayLoss_keeps {a s : State} (x2 : _) (h : Keeps a s) : Keeps a (State.quayLoss s x2) := by
  unfold State.quayLoss
  refine keeps_ite ?_ ?_
  · assumption
  · extract_lets +onlyGivenNames v1
    extract_lets +onlyGivenNames v2
    have h3 : Keeps a v2 := by
      unfold v2
      exact keeps_upd (by assumption)
    clear_value v2
    extract_lets +onlyGivenNames v4
    have h5 : Keeps a v4 := by
      unfold v4
      exact State.fset_keeps _ _ (by assumption)
    clear_value v4
    extract_lets +onlyGivenNames v6
    have h7 : Keeps a v6 := by
      unfold v6
      exact State.setFbit_keeps _ _ _ (by assumption)
    clear_value v6
    extract_lets +onlyGivenNames v8
    have h9 : Keeps a v8 := by
      unfold v8
      exact State.setBit_keeps _ _ (by assumption)
    clear_value v8
    extract_lets +onlyGivenNames v10
    have h11 : Keeps a v10 := by
      unfold v10
      exact State.dropQueued_keeps _ _ (by assumption)
    clear_value v10
    extract_lets +onlyGivenNames v12
    have h13 : Keeps a v12 := by
      unfold v12
      refine keeps_foldl ?_ ?_
      · assumption
      · intro u14 u15 u16
        beta_reduce
        exact State.quayDemote_keeps _ _ (by assumption)
    clear_value v12
    extract_lets +onlyGivenNames v17
    have h18 : Keeps a v17 := by
      unfold v17
      refine keeps_foldl ?_ ?_
      · assumption
      · intro u19 u20 u21
        beta_reduce
        exact State.restage_keeps _ (by assumption)
    clear_value v17
    extract_lets +onlyGivenNames v22
    have h23 : Keeps a v22 := by
      unfold v22
      refine keeps_foldl ?_ ?_
      · assumption
      · intro u24 u25 u26
        beta_reduce
        exact State.answerWaits_keeps _ (by assumption)
    clear_value v22
    extract_lets +onlyGivenNames v27
    clear_value v27
    extract_lets +onlyGivenNames v28
    extract_lets +onlyGivenNames v29
    have h30 : Keeps a v29 := by
      unfold v29
      exact keeps_upd (by assumption)
    clear_value v29
    exact State.raise_keeps _ (State.logErr_keeps _ _ _ _ _ _ _ (by assumption))
theorem State.dClearPass_keeps {a s : State} (h : Keeps a s) : Keeps a (State.dClearPass s) := by
  unfold State.dClearPass
  refine keeps_ite ?_ ?_
  · assumption
  · extract_lets +onlyGivenNames v1
    clear_value v1
    extract_lets +onlyGivenNames v2
    have h3 : Keeps a v2 := by
      unfold v2
      refine keeps_foldl ?_ ?_
      · assumption
      · intro u4 u5 u6
        beta_reduce
        exact State.dropDram_keeps _ (by assumption)
    clear_value v2
    exact keeps_upd (by assumption)
theorem State.outsideReturn_keeps {a s : State} (h : Keeps a s) : Keeps a (State.outsideReturn s) := by
  unfold State.outsideReturn
  refine keeps_ite ?_ ?_
  · assumption
  · extract_lets +onlyGivenNames v1
    have h2 : Keeps a v1 := by
      unfold v1
      refine keeps_foldl ?_ ?_
      · assumption
      · intro u3 u4 u5
        beta_reduce
        exact State.setFbit_keeps _ _ _ (by assumption)
    clear_value v1
    exact keeps_upd (by assumption)

end Sys2Proof.Machine
end

