-- ==== Sys2Proof/Laws/KeepsCommands.lean ====
section
/-! SUPPORT. Every operation of CmdCore, CmdRegion, CmdTide, SetFx, RecFx, EpcFx keeps what `Keeps` says. -/
namespace Sys2Proof.Machine
set_option Elab.async false

/-! ### CmdCore.lean -/

theorem refuse_keeps {a s : State} (x1 : _) (x2 : _) (h : Keeps a s) : Keeps a (refuse x1 x2 s).s := by
  unfold refuse
  assumption
theorem done_keeps {a s : State} (x2 : _) (h : Keeps a s) : Keeps a (done s x2).s := by
  unfold done
  assumption
theorem later_keeps {a s : State} (x2 : _) (x3 : _) (h : Keeps a s) : Keeps a (later s x2 x3).s := by
  unfold later
  assumption
theorem guarded_keeps {a s : State} {cs : _} {k : CmdRes} (h : Keeps a s) (hk : Keeps a k.s) : Keeps a (guarded cs s k).s := by
  unfold guarded; split
  · exact h
  · exact hk

theorem State.checkCmd_keeps {a s : State} (op d c : _) (h : Keeps a s) (hd : ∀ D, d = some D → Keeps a (D.run c s).s) :
    Keeps a (State.checkCmd s op d c).s := by
  unfold State.checkCmd
  refine keeps_iteS (refuse_keeps _ _ h) (keeps_iteS (refuse_keeps _ _ h) (keeps_iteS (refuse_keeps _ _ h) ?_))
  split
  · exact refuse_keeps _ _ h
  · split
    · exact refuse_keeps _ _ h
    · exact keeps_iteS (refuse_keeps _ _ h) (keeps_iteS (refuse_keeps _ _ h) (keeps_iteS (refuse_keeps _ _ h) (hd _ rfl)))

theorem State.deliver_keeps {a s : State} (x2 : _) (h : Keeps a s) : Keeps a (State.deliver s x2) := by
  unfold State.deliver
  split
  · exact State.emit_keeps _ (State.emit_keeps _ (by assumption))
  · exact State.emit_keeps _ (by assumption)
theorem State.countRefused_keeps {a s : State} (x2 : _) (h : Keeps a s) : Keeps a (State.countRefused s x2) := by
  unfold State.countRefused
  refine keeps_ite ?_ ?_
  · assumption
  · extract_lets +onlyGivenNames v1
    have h2 : Keeps a v1 := by
      unfold v1
      refine keeps_ite ?_ ?_
      · exact State.bump_keeps _ _ _ (by assumption)
      · assumption
    clear_value v1
    extract_lets +onlyGivenNames v3
    have h4 : Keeps a v3 := by
      unfold v3
      exact State.bump_keeps _ _ _ (by assumption)
    clear_value v3
    exact State.fset_keeps _ _ (State.fset_keeps _ _ (State.fset_keeps _ _ (by assumption)))
theorem State.mkReply_keeps {a s : State} (x2 : _) (x3 : _) (x4 : _) (x5 : _) (x6 : _) (x7 : _) (h : Keeps a s) : Keeps a (State.mkReply s x2 x3 x4 x5 x6 x7).2 := by
  unfold State.mkReply
  extract_lets +onlyGivenNames v1
  have h2 : Keeps a v1.2 := by
    unfold v1
    exact State.free_keeps _ (by assumption)
  clear_value v1
  assumption
theorem State.mboxIrq_keeps {a s : State} (x2 : _) (h : Keeps a s) : Keeps a (State.mboxIrq s x2) := by
  unfold State.mboxIrq
  refine keeps_ite ?_ ?_
  · assumption
  · exact State.emit_keeps _ (by assumption)
theorem State.answer_keeps {a s : State} (x2 : _) (x3 : _) (x4 : _) (x5 : _) (x6 : _) (x7 : _) (h : Keeps a s) : Keeps a (State.answer s x2 x3 x4 x5 x6 x7) := by
  unfold State.answer
  extract_lets +onlyGivenNames v1
  have h2 : Keeps a v1.2 := by
    unfold v1
    exact State.mkReply_keeps _ _ _ _ _ _ (by assumption)
  clear_value v1
  extract_lets +onlyGivenNames v3
  have h4 : Keeps a v3 := by
    unfold v3
    exact State.countRefused_keeps _ (by assumption)
  clear_value v3
  extract_lets +onlyGivenNames v5
  clear_value v5
  extract_lets +onlyGivenNames v6
  clear_value v6
  extract_lets +onlyGivenNames v7
  clear_value v7
  extract_lets +onlyGivenNames v8
  have h9 : Keeps a v8 := by
    unfold v8
    exact keeps_upd (by assumption)
  clear_value v8
  split
  · refine keeps_ite ?_ ?_
    · exact State.mboxIrq_keeps _ (keeps_upd (by assumption))
    · exact State.deliver_keeps _ (by assumption)
  · exact State.deliver_keeps _ (by assumption)
theorem State.countSlots_keeps {a s : State} (h : Keeps a s) : Keeps a (State.countSlots s) := by
  unfold State.countSlots
  exact State.fset_keeps _ _ (by assumption)
theorem State.setSlots_keeps {a s : State} (x2 : _) (h : Keeps a s) : Keeps a (State.setSlots s x2) := by
  unfold State.setSlots
  exact State.countSlots_keeps (keeps_upd (by assumption))
theorem State.takeSlot_keeps {a s : State} (x2 : _) (x3 : _) (x4 : _) (x5 : _) (h : Keeps a s) : Keeps a (State.takeSlot s x2 x3 x4 x5) := by
  unfold State.takeSlot
  extract_lets +onlyGivenNames v1
  clear_value v1
  extract_lets +onlyGivenNames v2
  have h3 : Keeps a v2 := by
    unfold v2
    exact State.setSlots_keeps _ (by assumption)
  clear_value v2
  exact keeps_upd (by assumption)
theorem State.handle_keeps {a s : State} (op d c : _) (h : Keeps a s) (hd : ∀ D, d = some D → Keeps a (D.run c s).s) :
    Keeps a (State.handle s op d c) := by
  unfold State.handle
  extract_lets +onlyGivenNames r
  have hr : Keeps a r.s := State.checkCmd_keeps _ _ _ h hd
  clear_value r
  extract_lets +onlyGivenNames m
  split
  · exact State.answer_keeps _ _ _ _ _ _ hr
  · exact State.takeSlot_keeps _ _ _ _ hr

theorem State.arrive_keeps {a s : State} (op d c : _) (h : Keeps a s) (hd : ∀ D, d = some D → ∀ t, Keeps a t → Keeps a (D.run c t).s) :
    Keeps a (State.arrive s op d c) := by
  unfold State.arrive
  refine keeps_ite h ?_
  extract_lets +onlyGivenNames busy t
  have ht : Keeps a t := keeps_ite h (State.raise_keeps _ h)
  clear_value t
  split
  · exact State.deliver_keeps _ ht
  · refine keeps_ite ?_ (keeps_ite ?_ ?_)
    · split
      · exact State.emit_keeps _ ht
      · exact State.deliver_keeps _ (State.countRefused_keeps _ (State.mkReply_keeps _ _ _ _ _ _ ht))
      · exact ht
    · exact State.deliver_keeps _ (State.countRefused_keeps _ (State.mkReply_keeps _ _ _ _ _ _ ht))
    · extract_lets +onlyGivenNames bg
      clear_value bg
      extract_lets +onlyGivenNames u
      have hu : Keeps a u := by
        unfold u
        split
        · exact State.emit_keeps _ ht
        · exact ht
      clear_value u
      exact keeps_ite (State.takeSlot_keeps _ _ _ _ hu)
        (keeps_ite (State.handle_keeps _ _ _ hu fun D e => hd D e _ hu) (State.takeSlot_keeps _ _ _ _ hu))

/-! ### CmdRegion.lean -/

theorem State.setUse_keeps {a s : State} (h : Keeps a s) : Keeps a (State.setUse s) := by
  unfold State.setUse
  extract_lets +onlyGivenNames v1
  have h2 : Keeps a v1 := by
    unfold v1
    exact State.fset_keeps _ _ (State.fset_keeps _ _ (State.fset_keeps _ _ (by assumption)))
  clear_value v1
  refine keeps_ite ?_ ?_
  · assumption
  · exact State.setBit_keeps _ _ (by assumption)
theorem State.testOvercommit_keeps {a s : State} (h : Keeps a s) : Keeps a (State.testOvercommit s) := by
  unfold State.testOvercommit
  extract_lets +onlyGivenNames v1
  have h2 : Keeps a v1 := by
    unfold v1
    exact State.setUse_keeps (by assumption)
  clear_value v1
  refine keeps_ite ?_ ?_
  · exact State.raise_keeps _ (State.setBit_keeps _ _ (by assumption))
  · assumption
theorem State.regionDone_keeps {a s : State} (x2 : _) (x3 : _) (h : Keeps a s) : Keeps a (State.regionDone s x2 x3).s := by
  unfold State.regionDone
  refine keeps_iteS ?_ ?_
  · exact later_keeps _ _ (by assumption)
  · exact done_keeps _ (by assumption)
theorem State.placeRegion_keeps {a s : State} (x2 : _) (x3 : _) (h : Keeps a s) : Keeps a (State.placeRegion s x2 x3) := by
  unfold State.placeRegion
  extract_lets +onlyGivenNames v1
  have h2 : Keeps a v1 := by
    unfold v1
    exact State.setUse_keeps (State.setRegion_keeps _ _ (by assumption))
  clear_value v1
  extract_lets +onlyGivenNames v3
  clear_value v3
  extract_lets +onlyGivenNames v4
  have h5 : Keeps a v4 := by
    unfold v4
    exact keeps_upd (by assumption)
  clear_value v4
  extract_lets +onlyGivenNames v6
  have h7 : Keeps a v6 := by
    unfold v6
    refine keeps_ite ?_ ?_
    · exact State.recordAll_keeps _ _ _ (by assumption)
    · assumption
  clear_value v6
  exact State.raise_keeps _ (by assumption)
theorem cmdRegionCreate_keeps {a s : State} (x1 : _) (h : Keeps a s) : Keeps a (cmdRegionCreate x1 s).s := by
  unfold cmdRegionCreate
  extract_lets +onlyGivenNames v1
  clear_value v1
  extract_lets +onlyGivenNames v2
  have h3 : Keeps a v2.2 := by
    unfold v2
    exact State.free_keeps _ (by assumption)
  clear_value v2
  extract_lets +onlyGivenNames v4
  clear_value v4
  extract_lets +onlyGivenNames v5
  clear_value v5
  extract_lets +onlyGivenNames v6
  clear_value v6
  extract_lets +onlyGivenNames v7
  clear_value v7
  extract_lets +onlyGivenNames v8
  clear_value v8
  refine guarded_keeps ?_ ?_
  · assumption
  · split
    · extract_lets +onlyGivenNames v9
      clear_value v9
      extract_lets +onlyGivenNames v10
      have h11 : Keeps a v10 := by
        unfold v10
        assumption
      extract_lets +onlyGivenNames v12
      clear_value v12
      extract_lets +onlyGivenNames v13
      have h14 : Keeps a v13 := by
        unfold v13
        refine keeps_ite ?_ ?_
        · exact keeps_upd (by assumption)
        · assumption
      clear_value v13
      exact State.regionDone_keeps _ _ (State.placeRegion_keeps _ _ (by assumption))
    · exact refuse_keeps _ _ (by assumption)
theorem State.beginMeet_keeps {a s : State} (x2 : _) (x3 : _) (h : Keeps a s) : Keeps a (State.beginMeet s x2 x3) := by
  unfold State.beginMeet
  extract_lets +onlyGivenNames v1
  clear_value v1
  extract_lets +onlyGivenNames v2
  have h3 : Keeps a v2 := by
    unfold v2
    refine keeps_ite ?_ ?_
    · exact State.startRestore_keeps _ _ (by assumption)
    · exact State.startFetch_keeps _ _ _ (by assumption)
  clear_value v2
  refine keeps_ite ?_ ?_
  · assumption
  · refine keeps_ite ?_ ?_
    · refine keeps_ite ?_ ?_
      · exact State.startMove_keeps _ _ _ (State.ensureHot_keeps _ (by assumption))
      · assumption
    · refine keeps_ite ?_ ?_
      · exact State.keepHot_keeps _ (by assumption)
      · refine keeps_ite ?_ ?_
        · refine keeps_ite ?_ ?_
          · exact State.startMove_keeps _ _ _ (State.ensureFrame_keeps _ _ (by assumption))
          · assumption
        · refine keeps_ite ?_ ?_
          · refine keeps_ite ?_ ?_
            · exact State.dropHot_keeps _ (by assumption)
            · exact State.startMove_keeps _ _ _ (State.ensureFrame_keeps _ _ (by assumption))
          · assumption
theorem State.changeDur_keeps {a s : State} (x2 : _) (x3 : _) (x4 : _) (h : Keeps a s) : Keeps a (State.changeDur s x2 x3 x4) := by
  unfold State.changeDur
  refine keeps_ite ?_ ?_
  · assumption
  · extract_lets +onlyGivenNames v1
    have h2 : Keeps a v1 := by
      unfold v1
      exact State.voidRegion_keeps _ (by assumption)
    clear_value v1
    extract_lets +onlyGivenNames v3
    clear_value v3
    refine keeps_ite ?_ ?_
    · extract_lets +onlyGivenNames v4
      have h5 : Keeps a v4 := by
        unfold v4
        refine State.setPdk_keeps _ _ ?_
        refine keeps_foldl ?_ ?_
        · assumption
        · intro u6 u7 u8
          beta_reduce
          extract_lets +onlyGivenNames v9
          clear_value v9
          refine keeps_ite ?_ ?_
          · assumption
          · exact State.setPage_keeps _ _ (by assumption)
      clear_value v4
      refine keeps_ite ?_ ?_
      · exact State.setBit_keeps _ _ (keeps_upd (by assumption))
      · assumption
    · refine State.setPdk_keeps _ _ ?_
      refine keeps_foldl ?_ ?_
      · assumption
      · intro u10 u11 u12
        beta_reduce
        exact State.setPage_keeps _ _ (by assumption)
theorem cmdRegionSetFlags_keeps {a s : State} (x1 : _) (h : Keeps a s) : Keeps a (cmdRegionSetFlags x1 s).s := by
  unfold cmdRegionSetFlags
  extract_lets +onlyGivenNames v1
  clear_value v1
  extract_lets +onlyGivenNames v2
  clear_value v2
  extract_lets +onlyGivenNames v3
  clear_value v3
  extract_lets +onlyGivenNames v4
  refine guarded_keeps ?_ ?_
  · assumption
  · extract_lets +onlyGivenNames v5
    extract_lets +onlyGivenNames v6
    have h7 : Keeps a v6 := by
      unfold v6
      exact State.changeDur_keeps _ _ _ (by assumption)
    clear_value v6
    extract_lets +onlyGivenNames v8
    have h9 : Keeps a v8 := by
      unfold v8
      refine keeps_ite ?_ ?_
      · refine keeps_foldl ?_ ?_
        · assumption
        · intro u10 u11 u12
          beta_reduce
          exact State.dropStaged_keeps _ (by assumption)
      · assumption
    clear_value v8
    extract_lets +onlyGivenNames v13
    clear_value v13
    extract_lets +onlyGivenNames v14
    have h15 : Keeps a v14 := by
      unfold v14
      exact State.setUse_keeps (State.setRegion_keeps _ _ (by assumption))
    clear_value v14
    extract_lets +onlyGivenNames v16
    have h17 : Keeps a v16 := by
      unfold v16
      refine keeps_ite ?_ ?_
      · refine State.raise_keeps _ ?_
        refine keeps_foldl ?_ ?_
        · assumption
        · intro u18 u19 u20
          beta_reduce
          exact State.beginMeet_keeps _ _ (by assumption)
      · assumption
    clear_value v16
    extract_lets +onlyGivenNames v21
    have h22 : Keeps a v21 := by
      unfold v21
      refine keeps_foldl ?_ ?_
      · assumption
      · intro u23 u24 u25
        beta_reduce
        exact State.checkEntry_keeps _ (by assumption)
    clear_value v21
    exact State.regionDone_keeps _ _ (by assumption)
theorem State.rewriteEnc_keeps {a s : State} (x2 : _) (x3 : _) (h : Keeps a s) : Keeps a (State.rewriteEnc s x2 x3) := by
  unfold State.rewriteEnc
  extract_lets +onlyGivenNames v1
  clear_value v1
  refine keeps_ite ?_ ?_
  · assumption
  · extract_lets +onlyGivenNames v2
    extract_lets +onlyGivenNames v3
    clear_value v3
    extract_lets +onlyGivenNames v4
    have h5 : Keeps a v4.2 := by
      unfold v4
      exact State.place_keeps _ _ (by assumption)
    clear_value v4
    extract_lets +onlyGivenNames v6
    clear_value v6
    exact State.useBlock_keeps _ _ _ (State.setMap_keeps _ _ (by assumption))
theorem State.retypeDone_keeps {a s : State} (x2 : _) (h : Keeps a s) : Keeps a (State.retypeDone s x2) := by
  unfold State.retypeDone
  extract_lets +onlyGivenNames v1
  clear_value v1
  refine keeps_ite ?_ ?_
  · assumption
  · extract_lets +onlyGivenNames v2
    have h3 : Keeps a v2 := by
      unfold v2
      refine keeps_foldl ?_ ?_
      · assumption
      · intro u4 u5 u6
        beta_reduce
        exact State.rewriteEnc_keeps _ _ (by assumption)
    clear_value v2
    refine keeps_ite ?_ ?_
    · exact State.setRState_keeps _ _ (by assumption)
    · refine keeps_foldl ?_ ?_
      · assumption
      · intro u7 u8 u9
        beta_reduce
        exact State.beginMeet_keeps _ _ (by assumption)
theorem cmdRegionDelete_keeps {a s : State} (x1 : _) (h : Keeps a s) : Keeps a (cmdRegionDelete x1 s).s := by
  unfold cmdRegionDelete
  extract_lets +onlyGivenNames v1
  clear_value v1
  extract_lets +onlyGivenNames v2
  clear_value v2
  refine guarded_keeps ?_ ?_
  · assumption
  · exact State.regionDone_keeps _ _ (State.enterDraining_keeps _ (by assumption))
theorem cmdRegionDcRelease_keeps {a s : State} (x1 : _) (h : Keeps a s) : Keeps a (cmdRegionDcRelease x1 s).s := by
  unfold cmdRegionDcRelease
  extract_lets +onlyGivenNames v1
  clear_value v1
  extract_lets +onlyGivenNames v2
  clear_value v2
  refine guarded_keeps ?_ ?_
  · assumption
  · exact State.regionDone_keeps _ _ (State.enterReleasing_keeps _ (by assumption))
theorem cmdRegionQuery_keeps {a s : State} (x1 : _) (h : Keeps a s) : Keeps a (cmdRegionQuery x1 s).s := by
  unfold cmdRegionQuery
  extract_lets +onlyGivenNames v1
  clear_value v1
  extract_lets +onlyGivenNames v2
  clear_value v2
  extract_lets +onlyGivenNames v3
  clear_value v3
  refine guarded_keeps ?_ ?_
  · assumption
  · exact done_keeps _ (by assumption)
theorem State.discardPage_keeps {a s : State} (x2 : _) (x3 : _) (h : Keeps a s) : Keeps a (State.discardPage s x2 x3) := by
  unfold State.discardPage
  extract_lets +onlyGivenNames v1
  have h2 : Keeps a v1 := by
    unfold v1
    refine keeps_ite ?_ ?_
    · assumption
    · exact State.leavePdk_keeps _ (by assumption)
  clear_value v1
  extract_lets +onlyGivenNames v3
  have h4 : Keeps a v3 := by
    unfold v3
    exact State.trim_keeps _ (State.dropDram_keeps _ (State.dropHot_keeps _ (State.dropStaged_keeps _ (by assumption))))
  clear_value v3
  extract_lets +onlyGivenNames v5
  have h6 : Keeps a v5 := by
    unfold v5
    exact State.unpoisonPage_keeps _ (by assumption)
  clear_value v5
  exact keeps_upd (by assumption)
theorem State.drainDone_keeps {a s : State} (x2 : _) (h : Keeps a s) : Keeps a (State.drainDone s x2) := by
  unfold State.drainDone
  extract_lets +onlyGivenNames v1
  clear_value v1
  refine keeps_ite ?_ ?_
  · assumption
  · extract_lets +onlyGivenNames v2
    have h3 : Keeps a v2 := by
      unfold v2
      refine keeps_foldl ?_ ?_
      · assumption
      · intro u4 u5 u6
        beta_reduce
        exact State.discardPage_keeps _ _ (by assumption)
    clear_value v2
    extract_lets +onlyGivenNames v7
    clear_value v7
    extract_lets +onlyGivenNames v8
    have h9 : Keeps a v8 := by
      unfold v8
      exact keeps_upd (by assumption)
    clear_value v8
    extract_lets +onlyGivenNames v10
    have h11 : Keeps a v10 := by
      unfold v10
      exact State.settleAcks_keeps (by assumption)
    clear_value v10
    extract_lets +onlyGivenNames v12
    clear_value v12
    extract_lets +onlyGivenNames v13
    have h14 : Keeps a v13 := by
      unfold v13
      exact State.setUse_keeps (State.setRegion_keeps _ _ (by assumption))
    clear_value v13
    exact State.stretchExit_keeps (State.raise_keeps _ (by assumption))
/-! ### CmdTide.lean -/

theorem cmdTableCreate_keeps {a s : State} (x1 : _) (h : Keeps a s) : Keeps a (cmdTableCreate x1 s).s := by
  unfold cmdTableCreate
  extract_lets +onlyGivenNames v1
  clear_value v1
  extract_lets +onlyGivenNames v2
  clear_value v2
  extract_lets +onlyGivenNames v3
  clear_value v3
  extract_lets +onlyGivenNames v4
  clear_value v4
  refine guarded_keeps ?_ ?_
  · assumption
  · split
    · extract_lets +onlyGivenNames v5
      clear_value v5
      exact done_keeps _ (State.setTable_keeps _ _ (by assumption))
    · exact refuse_keeps _ _ (by assumption)
theorem cmdEntryAdd_keeps {a s : State} (x1 : _) (h : Keeps a s) : Keeps a (cmdEntryAdd x1 s).s := by
  unfold cmdEntryAdd
  extract_lets +onlyGivenNames v1
  clear_value v1
  extract_lets +onlyGivenNames v2
  clear_value v2
  extract_lets +onlyGivenNames v3
  clear_value v3
  refine guarded_keeps ?_ ?_
  · assumption
  · extract_lets +onlyGivenNames v4
    have h5 : Keeps a v4 := by
      unfold v4
      refine keeps_foldl ?_ ?_
      · assumption
      · intro u6 u7 u8
        beta_reduce
        exact State.setEntry_keeps _ _ (by assumption)
    clear_value v4
    exact done_keeps _ (State.setTable_keeps _ _ (by assumption))
theorem cmdTableOpen_keeps {a s : State} (x1 : _) (h : Keeps a s) : Keeps a (cmdTableOpen x1 s).s := by
  unfold cmdTableOpen
  extract_lets +onlyGivenNames v1
  clear_value v1
  extract_lets +onlyGivenNames v2
  clear_value v2
  refine guarded_keeps ?_ ?_
  · assumption
  · exact done_keeps _ (State.setTable_keeps _ _ (by assumption))
theorem cmdTableClose_keeps {a s : State} (x1 : _) (h : Keeps a s) : Keeps a (cmdTableClose x1 s).s := by
  unfold cmdTableClose
  extract_lets +onlyGivenNames v1
  clear_value v1
  extract_lets +onlyGivenNames v2
  clear_value v2
  refine guarded_keeps ?_ ?_
  · assumption
  · split
    · exact done_keeps _ (State.closeTable_keeps _ (by assumption))
    · extract_lets +onlyGivenNames v3
      have h4 : Keeps a v3 := by
        unfold v3
        refine keeps_foldl ?_ ?_
        · assumption
        · intro u5 u6 u7
          beta_reduce
          exact State.setEntry_keeps _ _ (by assumption)
      clear_value v3
      exact done_keeps _ (State.setTable_keeps _ _ (by assumption))
    · exact done_keeps _ (by assumption)
theorem cmdSharerJoin_keeps {a s : State} (x1 : _) (h : Keeps a s) : Keeps a (cmdSharerJoin x1 s).s := by
  unfold cmdSharerJoin
  extract_lets +onlyGivenNames v1
  clear_value v1
  extract_lets +onlyGivenNames v2
  clear_value v2
  extract_lets +onlyGivenNames v3
  extract_lets +onlyGivenNames v4
  clear_value v4
  extract_lets +onlyGivenNames v5
  clear_value v5
  refine guarded_keeps ?_ ?_
  · assumption
  · split
    · extract_lets +onlyGivenNames v6
      clear_value v6
      exact done_keeps _ (State.lateTest_keeps _ _ (State.retune_keeps _ (State.setSharer_keeps _ _ (by assumption))))
    · exact refuse_keeps _ _ (by assumption)
theorem cmdSharerLeave_keeps {a s : State} (x1 : _) (h : Keeps a s) : Keeps a (cmdSharerLeave x1 s).s := by
  unfold cmdSharerLeave
  extract_lets +onlyGivenNames v1
  clear_value v1
  refine guarded_keeps ?_ ?_
  · assumption
  · exact done_keeps _ (State.freeSharer_keeps _ (by assumption))
theorem cmdStepSet_keeps {a s : State} (x1 : _) (h : Keeps a s) : Keeps a (cmdStepSet x1 s).s := by
  unfold cmdStepSet
  extract_lets +onlyGivenNames v1
  clear_value v1
  refine guarded_keeps ?_ ?_
  · assumption
  · exact done_keeps _ (State.stepUpdate_keeps _ _ (by assumption))
/-! ### SetFx.lean -/

theorem State.loadReg_keeps {a s : State} (x2 : _) (x3 : _) (x4 : _) (h : Keeps a s) : Keeps a (State.loadReg s x2 x3 x4) := by
  unfold State.loadReg
  refine keeps_foldl ?_ ?_
  · assumption
  · intro u1 u2 u3
    beta_reduce
    exact State.fset_keeps _ _ (by assumption)
theorem State.linkEnable_keeps {a s : State} (x2 : _) (h : Keeps a s) : Keeps a (State.linkEnable s x2) := by
  unfold State.linkEnable
  extract_lets +onlyGivenNames v1
  clear_value v1
  refine keeps_ite ?_ ?_
  · assumption
  · refine keeps_ite ?_ ?_
    · refine keeps_ite ?_ ?_
      · exact State.fset_keeps _ _ (by assumption)
      · refine keeps_ite ?_ ?_
        · assumption
        · exact State.linkDown_keeps _ (by assumption)
    · refine keeps_ite ?_ ?_
      · exact State.fset_keeps _ _ (by assumption)
      · assumption
theorem State.wordHook_keeps {a s : State} (w : _) (h : Keeps a s) : Keeps a (State.wordHook s w) := by
  unfold State.wordHook
  exact keeps_ite (State.testOvercommit_keeps h) (keeps_ite (State.linkEnable_keeps _ h)
    (keeps_ite (keeps_upd h (hi := fun w => ⟨w.pend, w.active, w.once⟩)) h))

theorem State.setLive_keeps {a s : State} (x2 : _) (x3 : _) (h : Keeps a s) : Keeps a (State.setLive s x2 x3) := by
  unfold State.setLive
  refine State.wordHook_keeps _ ?_
  split
  · exact State.loadReg_keeps _ _ _ (by assumption)
  · exact keeps_upd (by assumption)
theorem State.setWrites_keeps {a s : State} (x2 : _) (x3 : _) (h : Keeps a s) : Keeps a (State.setWrites s x2 x3) := by
  unfold State.setWrites
  exact State.setBit_keeps _ _ (keeps_upd (by assumption))
theorem State.denied_keeps {a s : State} (h : Keeps a s) : Keeps a (State.denied s) := by
  unfold State.denied
  exact State.bump_keeps _ _ _ (by assumption)
theorem State.dropFrozen_keeps {a s : State} (x2 : _) (h : Keeps a s) : Keeps a (State.dropFrozen s x2) := by
  unfold State.dropFrozen
  extract_lets +onlyGivenNames v1
  clear_value v1
  refine keeps_foldl ?_ ?_
  · exact State.setWrites_keeps _ _ (by assumption)
  · intro u2 u3 u4
    beta_reduce
    exact State.denied_keeps (by assumption)
theorem State.issueBank_keeps {a s : State} (x2 : _) (h : Keeps a s) : Keeps a (State.issueBank s x2) := by
  unfold State.issueBank
  extract_lets +onlyGivenNames v1
  have h2 : Keeps a v1 := by
    unfold v1
    exact State.dropFrozen_keeps _ (by assumption)
  clear_value v1
  exact State.setWrites_keeps _ _ (by assumption)
theorem State.issueDue_keeps {a s : State} (h : Keeps a s) : Keeps a (State.issueDue s) := by
  unfold State.issueDue
  refine keeps_foldl ?_ ?_
  · assumption
  · intro u1 u2 u3
    beta_reduce
    exact State.issueBank_keeps _ (by assumption)
theorem State.queueWord_keeps {a s : State} (x2 : _) (x3 : _) (x4 : _) (h : Keeps a s) : Keeps a (State.queueWord s x2 x3 x4) := by
  unfold State.queueWord
  exact State.setWrites_keeps _ _ (by assumption)
theorem State.arriveWord_keeps {a s : State} (x2 : _) (x3 : _) (x4 : _) (h : Keeps a s) : Keeps a (State.arriveWord s x2 x3 x4) := by
  unfold State.arriveWord
  refine keeps_ite ?_ ?_
  · exact State.denied_keeps (State.setLive_keeps _ _ (by assumption))
  · exact State.queueWord_keeps _ _ _ (State.setLive_keeps _ _ (by assumption))
theorem State.softWord_keeps {a s : State} (x2 : _) (x3 : _) (h : Keeps a s) : Keeps a (State.softWord s x2 x3) := by
  unfold State.softWord
  refine keeps_ite ?_ ?_
  · exact State.denied_keeps (by assumption)
  · refine keeps_ite ?_ ?_
    · assumption
    · exact State.arriveWord_keeps _ _ _ (by assumption)
theorem State.storeCell_keeps {a s : State} (w v : _) (h : Keeps a s) : Keeps a (State.storeCell s w v) := by
  unfold State.storeCell
  split
  · exact State.denied_keeps h
  · rename_i hf
    extract_lets +onlyGivenNames n st t
    have ht : Keeps a t := by
      refine h.trans ⟨rfl, Nat.le_refl _, Nat.le_refl _, List.suffix_refl _, fun x => ?_, fun k => ⟨fun w' => ?_, fun w' e => ?_,
        fun _ => id, fun _ => id, fun _ => id, fun _ => id, (Lasts.refl s).worn⟩⟩
      · exact ⟨x.regs, swf_sput _ _ _ x.cells, swf_sput _ _ _ x.counts, x.blocks, x.dram, x.hot, x.staged, x.flash, x.loft, x.icu⟩
      · by_cases e : w' = w
        · subst e
          have : t.wcount w' = n := sget_sput _ _ _ k.counts
          rw [this]; omega
        · have : t.wcount w' = s.wcount w' := sget_sput_ne e _ _
          rw [this]; exact Nat.min_le_right _ _
      · by_cases c : w' = w
        · subst c; exact absurd e hf
        · exact sget_sput_ne c _ _
    clear_value t
    extract_lets +onlyGivenNames u
    have hu : Keeps a u := keeps_ite (State.raise_keeps _ ht) ht
    exact keeps_ite (State.raise_keeps _ (State.fset_keeps _ _ hu)) hu

theorem State.storeNew_keeps {a s : State} (x2 : _) (x3 : _) (h : Keeps a s) : Keeps a (State.storeNew s x2 x3) := by
  unfold State.storeNew
  refine keeps_ite ?_ ?_
  · assumption
  · exact State.storeCell_keeps _ _ (by assumption)
theorem State.stageWrite_keeps {a s : State} (x2 : _) (x3 : _) (x4 : _) (h : Keeps a s) : Keeps a (State.stageWrite s x2 x3 x4) := by
  unfold State.stageWrite
  refine keeps_ite ?_ ?_
  · exact State.denied_keeps (by assumption)
  · refine keeps_ite ?_ ?_
    · exact State.queueWord_keeps _ _ _ (by assumption)
    · exact State.issueBank_keeps _ (State.setWrites_keeps _ _ (by assumption))
theorem State.startStage_keeps {a s : State} (x2 : _) (h : Keeps a s) : Keeps a (State.startStage s x2) := by
  unfold State.startStage
  refine keeps_foldl ?_ ?_
  · assumption
  · intro u1 u2 u3
    beta_reduce
    exact State.stageWrite_keeps _ _ _ (by assumption)
theorem State.groupWrite_keeps {a s : State} (x2 : _) (x3 : _) (x4 : _) (h : Keeps a s) : Keeps a (State.groupWrite s x2 x3 x4) := by
  unfold State.groupWrite
  extract_lets +onlyGivenNames v1
  have h2 : Keeps a v1 := by
    unfold v1
    refine keeps_foldl ?_ ?_
    · assumption
    · intro u3 u4 u5
      beta_reduce
      exact State.setLive_keeps _ _ (by assumption)
  clear_value v1
  refine keeps_ite ?_ ?_
  · exact State.denied_keeps (by assumption)
  · extract_lets +onlyGivenNames v6
    clear_value v6
    extract_lets +onlyGivenNames v7
    clear_value v7
    extract_lets +onlyGivenNames v8
    clear_value v8
    extract_lets +onlyGivenNames v9
    have h10 : Keeps a v9 := by
      unfold v9
      exact State.setWrites_keeps _ _ (by assumption)
    clear_value v9
    refine keeps_ite ?_ ?_
    · exact State.startStage_keeps _ (by assumption)
    · assumption
theorem State.groupStageDone_keeps {a s : State} (h : Keeps a s) : Keeps a (State.groupStageDone s) := by
  unfold State.groupStageDone
  split
  · assumption
  · refine keeps_ite ?_ ?_
    · assumption
    · refine keeps_ite ?_ ?_
      · extract_lets +onlyGivenNames v1
        clear_value v1
        exact State.startStage_keeps _ (State.setWrites_keeps _ _ (by assumption))
      · extract_lets +onlyGivenNames v2
        have h3 : Keeps a v2 := by
          unfold v2
          exact State.setWrites_keeps _ _ (by assumption)
        clear_value v2
        split
        · exact State.startStage_keeps _ (by assumption)
        · assumption
theorem State.setWriteDone_keeps {a s : State} (x2 : _) (h : Keeps a s) : Keeps a (State.setWriteDone s x2) := by
  unfold State.setWriteDone
  split
  · split
    · refine keeps_ite ?_ ?_
      · assumption
      · exact State.issueBank_keeps _ (State.setWrites_keeps _ _ (State.storeCell_keeps _ _ (by assumption)))
    · assumption
  · assumption
theorem State.reloadWord_keeps {a s : State} (x2 : _) (h : Keeps a s) : Keeps a (State.reloadWord s x2) := by
  unfold State.reloadWord
  extract_lets +onlyGivenNames v1
  clear_value v1
  split
  · exact State.loadReg_keeps _ _ _ (by assumption)
  · exact keeps_upd (by assumption)
theorem State.reloadWords_keeps {a s : State} (h : Keeps a s) : Keeps a (State.reloadWords s) := by
  unfold State.reloadWords
  extract_lets +onlyGivenNames v1
  extract_lets +onlyGivenNames v2
  have h3 : Keeps a v2 := by
    unfold v2
    exact keeps_upd (by assumption)
  clear_value v2
  extract_lets +onlyGivenNames v4
  have h5 : Keeps a v4 := by
    unfold v4
    refine keeps_foldl ?_ ?_
    · assumption
    · intro u6 u7 u8
      beta_reduce
      exact State.reloadWord_keeps _ (by assumption)
  clear_value v4
  refine keeps_foldl ?_ ?_
  · assumption
  · intro u9 u10 u11
    beta_reduce
    exact State.reloadWord_keeps _ (by assumption)
theorem State.settingsCut_keeps {a s : State} (h : Keeps a s) : Keeps a (State.settingsCut s) := by
  unfold State.settingsCut
  extract_lets +onlyGivenNames v1
  have h2 : Keeps a v1 := by
    unfold v1
    refine keeps_foldl ?_ ?_
    · assumption
    · intro u3 u4 u5
      beta_reduce
      extract_lets +onlyGivenNames v6
      have h7 : Keeps a v6.2 := by
        unfold v6
        exact State.free_keeps _ (by assumption)
      refine keeps_ite ?_ ?_
      · exact State.storeCell_keeps _ _ (by assumption)
      · assumption
  clear_value v1
  exact State.setWrites_keeps _ _ (by assumption)
theorem State.groupRecover_keeps {a s : State} (h : Keeps a s) : Keeps a (State.groupRecover s) := by
  unfold State.groupRecover
  extract_lets +onlyGivenNames v1
  clear_value v1
  refine keeps_ite ?_ ?_
  · assumption
  · extract_lets +onlyGivenNames v2
    have h3 : Keeps a v2 := by
      unfold v2
      refine keeps_foldl ?_ ?_
      · assumption
      · intro u4 u5 u6
        beta_reduce
        exact State.storeNew_keeps _ _ (by assumption)
    clear_value v2
    exact State.storeCell_keeps _ _ (by assumption)
/-! ### RecFx.lean -/

theorem State.setEpoch_keeps {a s : State} (x2 : _) (h : Keeps a s) : Keeps a (State.setEpoch s x2) := by
  unfold State.setEpoch
  exact keeps_upd (by assumption)
theorem State.writeRecord_keeps {a s : State} (x2 : _) (h : Keeps a s) : Keeps a (State.writeRecord s x2) := by
  unfold State.writeRecord
  extract_lets +onlyGivenNames v1
  clear_value v1
  extract_lets +onlyGivenNames v2
  clear_value v2
  extract_lets +onlyGivenNames v3
  have h4 : Keeps a v3 := by
    unfold v3
    exact State.fset_keeps _ _ (State.fset_keeps _ _ (State.fset_keeps _ _ (by assumption)))
  clear_value v3
  extract_lets +onlyGivenNames v5
  clear_value v5
  extract_lets +onlyGivenNames v6
  have h7 : Keeps a v6 := by
    unfold v6
    exact keeps_upd (by assumption)
  clear_value v6
  extract_lets +onlyGivenNames v8
  have h9 : Keeps a v8 := by
    unfold v8
    exact State.raise_keeps _ (State.setBit_keeps _ _ (by assumption))
  clear_value v8
  refine keeps_ite ?_ ?_
  · exact State.raise_keeps _ (by assumption)
  · assumption
theorem State.recPeak_keeps {a s : State} (h : Keeps a s) : Keeps a (State.recPeak s) := by
  unfold State.recPeak
  refine keeps_ite ?_ ?_
  · exact State.setEpoch_keeps _ (by assumption)
  · assumption
theorem State.openEpoch_keeps {a s : State} (h : Keeps a s) : Keeps a (State.openEpoch s) := by
  unfold State.openEpoch
  refine keeps_ite ?_ ?_
  · assumption
  · extract_lets +onlyGivenNames v1
    have h2 : Keeps a v1 := by
      unfold v1
      exact State.recPeak_keeps (State.setBit_keeps _ _ (by assumption))
    clear_value v1
    refine keeps_ite ?_ ?_
    · assumption
    · exact State.fset_keeps _ _ (by assumption)
theorem State.closeEpoch_keeps {a s : State} (x2 : _) (h : Keeps a s) : Keeps a (State.closeEpoch s x2) := by
  unfold State.closeEpoch
  refine keeps_ite ?_ ?_
  · assumption
  · extract_lets +onlyGivenNames v1
    clear_value v1
    extract_lets +onlyGivenNames v2
    clear_value v2
    extract_lets +onlyGivenNames v3
    have h4 : Keeps a v3 := by
      unfold v3
      exact State.setBit_keeps _ _ (by assumption)
    clear_value v3
    refine keeps_ite ?_ ?_
    · refine keeps_ite ?_ ?_
      · exact State.raise_keeps _ (State.setBit_keeps _ _ (State.setEpoch_keeps _ (by assumption)))
      · exact State.setEpoch_keeps _ (by assumption)
    · extract_lets +onlyGivenNames v5
      have h6 : Keeps a v5 := by
        unfold v5
        exact State.writeRecord_keeps _ (by assumption)
      clear_value v5
      refine keeps_ite ?_ ?_
      · exact State.openEpoch_keeps (by assumption)
      · assumption
theorem State.recArm_keeps {a s : State} (h : Keeps a s) : Keeps a (State.recArm s) := by
  unfold State.recArm
  refine keeps_ite ?_ ?_
  · assumption
  · exact State.setBit_keeps _ _ (keeps_upd (by assumption))
theorem State.hoursTick_keeps {a s : State} (x2 : _) (h : Keeps a s) : Keeps a (State.hoursTick s x2) := by
  unfold State.hoursTick
  refine keeps_ite ?_ ?_
  · assumption
  · extract_lets +onlyGivenNames v1
    have h2 : Keeps a v1 := by
      unfold v1
      exact State.bumpQuiet_keeps _ (by assumption)
    clear_value v1
    extract_lets +onlyGivenNames v3
    clear_value v3
    extract_lets +onlyGivenNames v4
    have h5 : Keeps a v4 := by
      unfold v4
      refine keeps_ite ?_ ?_
      · exact State.setEpoch_keeps _ (by assumption)
      · assumption
    clear_value v4
    refine keeps_ite ?_ ?_
    · exact State.closeEpoch_keeps _ (by assumption)
    · assumption
theorem State.recTransfer_keeps {a s : State} (x2 : _) (h : Keeps a s) : Keeps a (State.recTransfer s x2) := by
  unfold State.recTransfer
  refine keeps_ite ?_ ?_
  · assumption
  · extract_lets +onlyGivenNames v1
    clear_value v1
    extract_lets +onlyGivenNames v2
    clear_value v2
    extract_lets +onlyGivenNames v3
    clear_value v3
    exact State.recPeak_keeps (keeps_upd (by assumption))
theorem State.recClaim_keeps {a s : State} (h : Keeps a s) : Keeps a (State.recClaim s) := by
  unfold State.recClaim
  refine keeps_ite ?_ ?_
  · exact State.setEpoch_keeps _ (by assumption)
  · assumption
theorem State.recPack_keeps {a s : State} (x2 : _) (x3 : _) (h : Keeps a s) : Keeps a (State.recPack s x2 x3) := by
  unfold State.recPack
  refine keeps_ite ?_ ?_
  · exact State.setEpoch_keeps _ (by assumption)
  · assumption
theorem State.recVaon_keeps {a s : State} (x2 : _) (h : Keeps a s) : Keeps a (State.recVaon s x2) := by
  unfold State.recVaon
  refine keeps_ite ?_ ?_
  · exact State.setEpoch_keeps _ (by assumption)
  · assumption
theorem State.recSave_keeps {a s : State} (h : Keeps a s) : Keeps a (State.recSave s) := by
  unfold State.recSave
  extract_lets +onlyGivenNames v1
  clear_value v1
  extract_lets +onlyGivenNames v2
  have h3 : Keeps a v2 := by
    unfold v2
    exact State.recPeak_keeps (keeps_upd (by assumption))
  clear_value v2
  refine keeps_ite ?_ ?_
  · exact State.setEpoch_keeps _ (by assumption)
  · assumption
theorem State.recCommit_keeps {a s : State} (h : Keeps a s) : Keeps a (State.recCommit s) := by
  unfold State.recCommit
  split
  · assumption
  · extract_lets +onlyGivenNames v1
    clear_value v1
    extract_lets +onlyGivenNames v2
    clear_value v2
    extract_lets +onlyGivenNames v3
    have h4 : Keeps a v3 := by
      unfold v3
      refine keeps_ite ?_ ?_
      · exact State.setEpoch_keeps _ (by assumption)
      · assumption
    clear_value v3
    exact keeps_upd (by assumption)
theorem State.recCut_keeps {a s : State} (h : Keeps a s) : Keeps a (State.recCut s) := by
  unfold State.recCut
  split
  · assumption
  · extract_lets +onlyGivenNames v1
    clear_value v1
    extract_lets +onlyGivenNames v2
    have h3 : Keeps a v2 := by
      unfold v2
      refine keeps_ite ?_ ?_
      · exact State.setEpoch_keeps _ (by assumption)
      · assumption
    clear_value v2
    exact keeps_upd (by assumption)
/-! ### EpcFx.lean -/

theorem State.setEpc_keeps {a s : State} (x2 : _) (h : Keeps a s) : Keeps a (State.setEpc s x2) := by
  unfold State.setEpc
  exact keeps_upd (by assumption)
theorem State.ocvInverse_keeps {a s : State} (x2 : _) (h : Keeps a s) : Keeps a (State.ocvInverse s x2).2 := by
  unfold State.ocvInverse
  extract_lets +onlyGivenNames v1
  clear_value v1
  split
  · assumption
  · extract_lets +onlyGivenNames v2
    have h3 : Keeps a v2.2 := by
      unfold v2
      exact State.free_keeps _ (by assumption)
    clear_value v2
    assumption
theorem State.setHold_keeps {a s : State} (x2 : _) (h : Keeps a s) : Keeps a (State.setHold s x2) := by
  unfold State.setHold
  exact State.setBit_keeps _ _ (by assumption)
theorem State.actuatorsOff_keeps {a s : State} (h : Keeps a s) : Keeps a (State.actuatorsOff s) := by
  unfold State.actuatorsOff
  exact State.setBit_keeps _ _ (State.fset_keeps _ _ (State.fset_keeps _ _ (State.setBit_keeps _ _ (State.setBit_keeps _ _ (by assumption)))))
theorem State.setHealth_keeps {a s : State} (x2 : _) (h : Keeps a s) : Keeps a (State.setHealth s x2) := by
  unfold State.setHealth
  extract_lets +onlyGivenNames v1
  clear_value v1
  extract_lets +onlyGivenNames v2
  have h3 : Keeps a v2 := by
    unfold v2
    exact State.setEpc_keeps _ (by assumption)
  clear_value v2
  extract_lets +onlyGivenNames v4
  clear_value v4
  extract_lets +onlyGivenNames v5
  have h6 : Keeps a v5 := by
    unfold v5
    exact State.fset_keeps _ _ (by assumption)
  clear_value v5
  refine keeps_ite ?_ ?_
  · assumption
  · exact State.arriveWord_keeps _ _ _ (by assumption)
theorem State.setCharge_keeps {a s : State} (x2 : _) (h : Keeps a s) : Keeps a (State.setCharge s x2) := by
  unfold State.setCharge
  exact State.fset_keeps _ _ (State.setEpc_keeps _ (by assumption))
theorem State.setReh_keeps {a s : State} (x2 : _) (h : Keeps a s) : Keeps a (State.setReh s x2) := by
  unfold State.setReh
  exact State.setEpc_keeps _ (by assumption)
theorem State.requestReh_keeps {a s : State} (h : Keeps a s) : Keeps a (State.requestReh s) := by
  unfold State.requestReh
  extract_lets +onlyGivenNames v1
  clear_value v1
  refine keeps_ite ?_ ?_
  · assumption
  · exact State.setReh_keeps _ (by assumption)
theorem State.failReh_keeps {a s : State} (x2 : _) (x3 : _) (h : Keeps a s) : Keeps a (State.failReh s x2 x3) := by
  unfold State.failReh
  extract_lets +onlyGivenNames v1
  clear_value v1
  refine keeps_ite ?_ ?_
  · assumption
  · extract_lets +onlyGivenNames v2
    have h3 : Keeps a v2 := by
      unfold v2
      exact State.setReh_keeps _ (by assumption)
    clear_value v2
    extract_lets +onlyGivenNames v4
    have h5 : Keeps a v4 := by
      unfold v4
      refine keeps_ite ?_ ?_
      · assumption
      · exact State.setHold_keeps _ (by assumption)
    clear_value v4
    extract_lets +onlyGivenNames v6
    have h7 : Keeps a v6 := by
      unfold v6
      exact State.fset_keeps _ _ (State.setBit_keeps _ _ (State.setBit_keeps _ _ (by assumption)))
    clear_value v6
    exact State.freqNext_keeps (State.raise_keeps _ (by assumption))
theorem State.endReh_keeps {a s : State} (h : Keeps a s) : Keeps a (State.endReh s) := by
  unfold State.endReh
  refine keeps_ite ?_ ?_
  · assumption
  · exact State.setBit_keeps _ _ (State.setHold_keeps _ (State.setReh_keeps _ (by assumption)))
theorem State.guardDrive_keeps {a s : State} (h : Keeps a s) : Keeps a (State.guardDrive s) := by
  unfold State.guardDrive
  extract_lets +onlyGivenNames v1
  have h2 : Keeps a v1 := by
    unfold v1
    refine keeps_ite ?_ ?_
    · exact State.fset_keeps _ _ (State.setBit_keeps _ _ (State.setBit_keeps _ _ (by assumption)))
    · assumption
  clear_value v1
  refine keeps_ite ?_ ?_
  · exact State.setBit_keeps _ _ (State.fset_keeps _ _ (by assumption))
  · assumption
theorem State.setFeFail_keeps {a s : State} (h : Keeps a s) : Keeps a (State.setFeFail s) := by
  unfold State.setFeFail
  refine keeps_ite ?_ ?_
  · assumption
  · exact State.failReh_keeps _ _ (State.raise_keeps _ (State.setBit_keeps _ _ (by assumption)))
theorem State.rejectFrame_keeps {a s : State} (x2 : _) (h : Keeps a s) : Keeps a (State.rejectFrame s x2) := by
  unfold State.rejectFrame
  extract_lets +onlyGivenNames v1
  have h2 : Keeps a v1 := by
    unfold v1
    exact State.bump_keeps _ _ _ (by assumption)
  clear_value v1
  extract_lets +onlyGivenNames v3
  clear_value v3
  extract_lets +onlyGivenNames v4
  clear_value v4
  extract_lets +onlyGivenNames v5
  have h6 : Keeps a v5 := by
    unfold v5
    exact State.setEpc_keeps _ (by assumption)
  clear_value v5
  refine keeps_ite ?_ ?_
  · exact State.setFeFail_keeps (by assumption)
  · assumption
theorem State.groupFaults_keeps {a s : State} (x2 : _) (h : Keeps a s) : Keeps a (State.groupFaults s x2) := by
  unfold State.groupFaults
  extract_lets +onlyGivenNames v1
  clear_value v1
  extract_lets +onlyGivenNames v2
  clear_value v2
  extract_lets +onlyGivenNames v3
  have h4 : Keeps a v3 := by
    unfold v3
    exact State.setEpc_keeps _ (by assumption)
  clear_value v3
  refine keeps_foldl ?_ ?_
  · assumption
  · intro u5 u6 u7
    beta_reduce
    extract_lets +onlyGivenNames v8
    clear_value v8
    extract_lets +onlyGivenNames v9
    clear_value v9
    extract_lets +onlyGivenNames v10
    have h11 : Keeps a v10 := by
      unfold v10
      refine keeps_ite ?_ ?_
      · assumption
      · exact State.setHealth_keeps _ (by assumption)
    clear_value v10
    extract_lets +onlyGivenNames v12
    clear_value v12
    extract_lets +onlyGivenNames v13
    have h14 : Keeps a v13 := by
      unfold v13
      exact State.setEpc_keeps _ (by assumption)
    clear_value v13
    exact State.requestReh_keeps (State.raise_keeps _ (State.setBit_keeps _ _ (by assumption)))
theorem State.countCharge_keeps {a s : State} (x2 : _) (x3 : _) (h : Keeps a s) : Keeps a (State.countCharge s x2 x3) := by
  unfold State.countCharge
  extract_lets +onlyGivenNames v1
  clear_value v1
  refine keeps_ite ?_ ?_
  · assumption
  · refine keeps_ite ?_ ?_
    · extract_lets +onlyGivenNames v2
      have h3 : Keeps a v2.2 := by
        unfold v2
        exact State.free_keeps _ (by assumption)
      clear_value v2
      exact State.setCharge_keeps _ (by assumption)
    · exact State.setCharge_keeps _ (by assumption)
theorem State.phaseA_keeps {a s : State} (h : Keeps a s) : Keeps a (State.phaseA s) := by
  unfold State.phaseA
  extract_lets +onlyGivenNames v1
  clear_value v1
  extract_lets +onlyGivenNames v2
  have h3 : Keeps a v2 := by
    unfold v2
    exact State.setReh_keeps _ (by assumption)
  clear_value v2
  refine keeps_ite ?_ ?_
  · exact State.twinCtl_keeps _ _ _ _ (by assumption)
  · assumption
theorem State.acceptFrame_keeps {a s : State} (x2 : _) (x3 : _) (h : Keeps a s) : Keeps a (State.acceptFrame s x2 x3) := by
  unfold State.acceptFrame
  extract_lets +onlyGivenNames v1
  clear_value v1
  extract_lets +onlyGivenNames v2
  clear_value v2
  extract_lets +onlyGivenNames v3
  clear_value v3
  extract_lets +onlyGivenNames v4
  clear_value v4
  extract_lets +onlyGivenNames v5
  clear_value v5
  extract_lets +onlyGivenNames v6
  clear_value v6
  extract_lets +onlyGivenNames v7
  clear_value v7
  extract_lets +onlyGivenNames v8
  clear_value v8
  extract_lets +onlyGivenNames v9
  have h10 : Keeps a v9 := by
    unfold v9
    exact State.setEpc_keeps _ (by assumption)
  clear_value v9
  extract_lets +onlyGivenNames v11
  have h12 : Keeps a v11 := by
    unfold v11
    refine keeps_ite ?_ ?_
    · exact State.setBit_keeps _ _ (by assumption)
    · assumption
  clear_value v11
  extract_lets +onlyGivenNames v13
  have h14 : Keeps a v13 := by
    unfold v13
    exact State.recPack_keeps _ _ (State.fset_keeps _ _ (State.fset_keeps _ _ (by assumption)))
  clear_value v13
  extract_lets +onlyGivenNames v15
  have h16 : Keeps a v15 := by
    unfold v15
    exact State.fset_keeps _ _ (State.fset_keeps _ _ (by assumption))
  clear_value v15
  extract_lets +onlyGivenNames v17
  have h18 : Keeps a v17 := by
    unfold v17
    exact State.groupFaults_keeps _ (by assumption)
  clear_value v17
  refine keeps_ite ?_ ?_
  · assumption
  · extract_lets +onlyGivenNames v19
    have h20 : Keeps a v19 := by
      unfold v19
      exact State.countCharge_keeps _ _ (by assumption)
    clear_value v19
    extract_lets +onlyGivenNames v21
    clear_value v21
    extract_lets +onlyGivenNames v22
    have h23 : Keeps a v22 := by
      unfold v22
      exact State.setEpc_keeps _ (by assumption)
    clear_value v22
    extract_lets +onlyGivenNames v24
    clear_value v24
    extract_lets +onlyGivenNames v25
    have h26 : Keeps a v25 := by
      unfold v25
      refine keeps_ite ?_ ?_
      · exact State.setEpc_keeps _ (by assumption)
      · assumption
    clear_value v25
    extract_lets +onlyGivenNames v27
    clear_value v27
    split
    · refine keeps_ite ?_ ?_
      · exact State.phaseA_keeps (by assumption)
      · assumption
    · exact State.setReh_keeps _ (by assumption)
    · refine keeps_ite ?_ ?_
      · assumption
      · exact State.setReh_keeps _ (by assumption)
    · assumption
theorem State.readFrame_keeps {a s : State} (x2 : _) (x3 : _) (h : Keeps a s) : Keeps a (State.readFrame s x2 x3) := by
  unfold State.readFrame
  refine keeps_ite ?_ ?_
  · assumption
  · extract_lets +onlyGivenNames v1
    have h2 : Keeps a v1 := by
      unfold v1
      exact State.emit_keeps _ (by assumption)
    clear_value v1
    split
    · exact State.guardDrive_keeps (State.setFeFail_keeps (State.setEpc_keeps _ (by assumption)))
    · extract_lets +onlyGivenNames v3
      clear_value v3
      extract_lets +onlyGivenNames v4
      have h5 : Keeps a v4 := by
        unfold v4
        refine keeps_ite ?_ ?_
        · exact State.rejectFrame_keeps _ (by assumption)
        · refine keeps_ite ?_ ?_
          · exact State.rejectFrame_keeps _ (by assumption)
          · exact State.acceptFrame_keeps _ _ (by assumption)
      clear_value v4
      exact State.guardDrive_keeps (by assumption)
theorem State.modelUpdate_keeps {a s : State} (h : Keeps a s) : Keeps a (State.modelUpdate s) := by
  unfold State.modelUpdate
  refine keeps_ite ?_ ?_
  · assumption
  · extract_lets +onlyGivenNames v1
    clear_value v1
    extract_lets +onlyGivenNames v2
    clear_value v2
    extract_lets +onlyGivenNames v3
    clear_value v3
    extract_lets +onlyGivenNames v4
    have h5 : Keeps a v4 := by
      unfold v4
      refine keeps_ite ?_ ?_
      · exact State.raise_keeps _ (State.setBit_keeps _ _ (by assumption))
      · assumption
    clear_value v4
    extract_lets +onlyGivenNames v6
    clear_value v6
    extract_lets +onlyGivenNames v7
    have h8 : Keeps a v7 := by
      unfold v7
      exact State.setEpc_keeps _ (by assumption)
    clear_value v7
    extract_lets +onlyGivenNames v9
    clear_value v9
    extract_lets +onlyGivenNames v10
    have h11 : Keeps a v10 := by
      unfold v10
      exact State.fset_keeps _ _ (State.fset_keeps _ _ (by assumption))
    clear_value v10
    extract_lets +onlyGivenNames v12
    have h13 : Keeps a v12 := by
      unfold v12
      exact State.setBit_keeps _ _ (State.setBit_keeps _ _ (by assumption))
    clear_value v12
    extract_lets +onlyGivenNames v14
    have h15 : Keeps a v14 := by
      unfold v14
      exact State.guardDrive_keeps (by assumption)
    clear_value v14
    refine keeps_ite ?_ ?_
    · assumption
    · exact State.applyLimit_keeps _ (by assumption)
theorem State.restCorrection_keeps {a s : State} (h : Keeps a s) : Keeps a (State.restCorrection s) := by
  unfold State.restCorrection
  refine keeps_ite ?_ ?_
  · assumption
  · extract_lets +onlyGivenNames v1
    have h2 : Keeps a v1.2 := by
      unfold v1
      exact State.ocvInverse_keeps _ (by assumption)
    clear_value v1
    extract_lets +onlyGivenNames v3
    clear_value v3
    extract_lets +onlyGivenNames v4
    clear_value v4
    extract_lets +onlyGivenNames v5
    clear_value v5
    extract_lets +onlyGivenNames v6
    have h7 : Keeps a v6 := by
      unfold v6
      exact State.setCharge_keeps _ (State.setEpc_keeps _ (by assumption))
    clear_value v6
    split
    · assumption
    · extract_lets +onlyGivenNames v8
      clear_value v8
      refine keeps_ite ?_ ?_
      · assumption
      · extract_lets +onlyGivenNames v9
        clear_value v9
        exact State.setHealth_keeps _ (by assumption)
theorem State.healthFade_keeps {a s : State} (h : Keeps a s) : Keeps a (State.healthFade s) := by
  unfold State.healthFade
  refine keeps_ite ?_ ?_
  · assumption
  · extract_lets +onlyGivenNames v1
    clear_value v1
    extract_lets +onlyGivenNames v2
    have h3 : Keeps a v2 := by
      unfold v2
      exact State.setEpc_keeps _ (by assumption)
    clear_value v2
    exact State.setHealth_keeps _ (by assumption)
theorem State.chargeCurrent_keeps {a s : State} (h : Keeps a s) : Keeps a (State.chargeCurrent s) := by
  unfold State.chargeCurrent
  refine keeps_ite ?_ ?_
  · assumption
  · extract_lets +onlyGivenNames v1
    clear_value v1
    extract_lets +onlyGivenNames v2
    clear_value v2
    extract_lets +onlyGivenNames v3
    clear_value v3
    extract_lets +onlyGivenNames v4
    have h5 : Keeps a v4 := by
      unfold v4
      exact State.setEpc_keeps _ (by assumption)
    clear_value v4
    extract_lets +onlyGivenNames v6
    clear_value v6
    extract_lets +onlyGivenNames v7
    have h8 : Keeps a v7.2 := by
      unfold v7
      refine keeps_ite2 ?_ ?_
      · exact State.free_keeps _ (by assumption)
      · assumption
    clear_value v7
    extract_lets +onlyGivenNames v9
    have h10 : Keeps a v9 := by
      unfold v9
      exact State.setBit_keeps _ _ (State.setBit_keeps _ _ (by assumption))
    clear_value v9
    exact State.fset_keeps _ _ (by assumption)
theorem State.chargeVoltage_keeps {a s : State} (h : Keeps a s) : Keeps a (State.chargeVoltage s) := by
  unfold State.chargeVoltage
  refine keeps_ite ?_ ?_
  · assumption
  · refine keeps_ite ?_ ?_
    · extract_lets +onlyGivenNames v1
      have h2 : Keeps a v1.2 := by
        unfold v1
        exact State.free_keeps _ (by assumption)
      clear_value v1
      exact State.setEpc_keeps _ (by assumption)
    · exact State.setEpc_keeps _ (by assumption)
theorem State.heaterLoop_keeps {a s : State} (h : Keeps a s) : Keeps a (State.heaterLoop s) := by
  unfold State.heaterLoop
  refine keeps_ite ?_ ?_
  · assumption
  · extract_lets +onlyGivenNames v1
    clear_value v1
    extract_lets +onlyGivenNames v2
    clear_value v2
    extract_lets +onlyGivenNames v3
    clear_value v3
    extract_lets +onlyGivenNames v4
    clear_value v4
    extract_lets +onlyGivenNames v5
    clear_value v5
    extract_lets +onlyGivenNames v6
    clear_value v6
    extract_lets +onlyGivenNames v7
    clear_value v7
    extract_lets +onlyGivenNames v8
    clear_value v8
    extract_lets +onlyGivenNames v9
    have h10 : Keeps a v9 := by
      unfold v9
      exact State.setEpc_keeps _ (by assumption)
    clear_value v9
    exact State.setBit_keeps _ _ (State.fset_keeps _ _ (by assumption))
theorem State.rehStart_keeps {a s : State} (h : Keeps a s) : Keeps a (State.rehStart s) := by
  unfold State.rehStart
  extract_lets +onlyGivenNames v1
  clear_value v1
  refine keeps_ite ?_ ?_
  · assumption
  · exact State.setBit_keeps _ _ (State.setHold_keeps _ (State.setReh_keeps _ (by assumption)))
theorem State.rehPostpone_keeps {a s : State} (h : Keeps a s) : Keeps a (State.rehPostpone s) := by
  unfold State.rehPostpone
  extract_lets +onlyGivenNames v1
  clear_value v1
  split
  · assumption
  · refine keeps_ite ?_ ?_
    · assumption
    · exact State.fset_keeps _ _ (State.setReh_keeps _ (by assumption))
theorem State.rehRetry_keeps {a s : State} (h : Keeps a s) : Keeps a (State.rehRetry s) := by
  unfold State.rehRetry
  split
  · assumption
  · refine keeps_ite ?_ ?_
    · assumption
    · exact State.requestReh_keeps (by assumption)
theorem State.rehTimeout_keeps {a s : State} (h : Keeps a s) : Keeps a (State.rehTimeout s) := by
  unfold State.rehTimeout
  extract_lets +onlyGivenNames v1
  clear_value v1
  refine keeps_ite ?_ ?_
  · assumption
  · exact State.failReh_keeps _ _ (by assumption)
theorem State.phaseAEnd_keeps {a s : State} (h : Keeps a s) : Keeps a (State.phaseAEnd s) := by
  unfold State.phaseAEnd
  extract_lets +onlyGivenNames v1
  clear_value v1
  refine keeps_ite ?_ ?_
  · assumption
  · exact State.setReh_keeps _ (by assumption)
theorem State.rehFinish_keeps {a s : State} (h : Keeps a s) : Keeps a (State.rehFinish s) := by
  have key : ∀ (b : Prop) [Decidable b] (x n : Nat) (t : State), Keeps a t → Keeps a (if b then (x, t) else t.free n).2 :=
    fun b _ x n t ht => keeps_ite2 ht (State.free_keeps _ ht)
  unfold State.rehFinish
  exact State.freqNext_keeps (State.raise_keeps _ (State.setBit_keeps _ _ (State.setHold_keeps _ (State.setEpc_keeps _
    (State.fset_keeps _ _ (State.fset_keeps _ _ (State.groupWrite_keeps _ _ _ (key _ _ _ _ (key _ _ _ _ h)))))))))

theorem State.rehBlock_keeps {a s : State} (h : Keeps a s) : Keeps a (State.rehBlock s) := by
  unfold State.rehBlock
  extract_lets +onlyGivenNames v1
  have h2 : Keeps a v1.2 := by
    unfold v1
    exact State.freeBlock_keeps (by assumption)
  clear_value v1
  split
  · assumption
  · extract_lets +onlyGivenNames v3
    have h4 : Keeps a v3 := by
      unfold v3
      exact State.useBlock_keeps _ _ _ (by assumption)
    clear_value v3
    exact keeps_upd (by assumption)
theorem State.phaseBWritten_keeps {a s : State} (x2 : _) (x3 : _) (h : Keeps a s) : Keeps a (State.phaseBWritten s x2 x3) := by
  unfold State.phaseBWritten
  extract_lets +onlyGivenNames v1
  clear_value v1
  extract_lets +onlyGivenNames v2
  have h3 : Keeps a v2 := by
    unfold v2
    refine keeps_foldl ?_ ?_
    · assumption
    · intro u4 u5 u6
      beta_reduce
      exact State.rehBlock_keeps (by assumption)
  clear_value v2
  extract_lets +onlyGivenNames v7
  clear_value v7
  extract_lets +onlyGivenNames v8
  have h9 : Keeps a v8 := by
    unfold v8
    exact State.setReh_keeps _ (by assumption)
  clear_value v8
  extract_lets +onlyGivenNames v10
  have h11 : Keeps a v10 := by
    unfold v10
    refine keeps_ite ?_ ?_
    · exact State.twinCtl_keeps _ _ _ _ (by assumption)
    · assumption
  clear_value v10
  refine keeps_ite ?_ ?_
  · assumption
  · exact State.rehFinish_keeps (by assumption)
theorem State.phaseBEnd_keeps {a s : State} (h : Keeps a s) : Keeps a (State.phaseBEnd s) := by
  unfold State.phaseBEnd
  extract_lets +onlyGivenNames v1
  clear_value v1
  refine keeps_ite ?_ ?_
  · assumption
  · extract_lets +onlyGivenNames v2
    clear_value v2
    refine keeps_ite ?_ ?_
    · exact State.phaseBWritten_keeps _ _ (by assumption)
    · extract_lets +onlyGivenNames v3
      have h4 : Keeps a v3.2 := by
        unfold v3
        exact State.free_keeps _ (by assumption)
      clear_value v3
      exact State.phaseBWritten_keeps _ _ (by assumption)
theorem State.sharedPhaseA_keeps {a s : State} (h : Keeps a s) : Keeps a (State.sharedPhaseA s) := by
  unfold State.sharedPhaseA
  extract_lets +onlyGivenNames v1
  clear_value v1
  split
  · assumption
  · refine keeps_ite ?_ ?_
    · assumption
    · exact State.setBit_keeps _ _ (State.setReh_keeps _ (by assumption))
theorem State.vaonSample_keeps {a s : State} (x2 : _) (h : Keeps a s) : Keeps a (State.vaonSample s x2) := by
  unfold State.vaonSample
  extract_lets +onlyGivenNames v1
  clear_value v1
  extract_lets +onlyGivenNames v2
  have h3 : Keeps a v2 := by
    unfold v2
    exact State.fset_keeps _ _ (State.fset_keeps _ _ (by assumption))
  clear_value v2
  extract_lets +onlyGivenNames v4
  have h5 : Keeps a v4 := by
    unfold v4
    exact State.recVaon_keeps _ (by assumption)
  clear_value v4
  refine keeps_ite ?_ ?_
  · exact State.raise_keeps _ (State.setBit_keeps _ _ (by assumption))
  · assumption
theorem State.saveCostWrite_keeps {a s : State} (h : Keeps a s) : Keeps a (State.saveCostWrite s) := by
  unfold State.saveCostWrite
  exact State.requestReh_keeps (State.groupWrite_keeps _ _ _ (by assumption))
theorem State.operatingTick_keeps {a s : State} (h : Keeps a s) : Keeps a (State.operatingTick s) := by
  unfold State.operatingTick
  refine keeps_ite ?_ ?_
  · assumption
  · extract_lets +onlyGivenNames v1
    have h2 : Keeps a v1 := by
      unfold v1
      exact State.hoursTick_keeps _ (by assumption)
    clear_value v1
    extract_lets +onlyGivenNames v3
    clear_value v3
    refine keeps_ite ?_ ?_
    · exact State.requestReh_keeps (State.setReh_keeps _ (by assumption))
    · assumption

end Sys2Proof.Machine
end

