-- ==== Sys2Proof/Laws/KeepsTwin.lean ====
section
/-! SUPPORT. Every operation of TwinFx keeps what `Keeps` says. -/
namespace Sys2Proof.Machine
set_option Elab.async false

/-! ### TwinFx.lean -/

theorem State.setTwin_keeps {a s : State} (x2 : _) (h : Keeps a s) : Keeps a (State.setTwin s x2) := by
  unfold State.setTwin
  exact keeps_upd (by assumption)
theorem State.setStale_keeps {a s : State} (x2 : _) (h : Keeps a s) : Keeps a (State.setStale s x2) := by
  unfold State.setStale
  exact State.fset_keeps _ _ (by assumption)
theorem State.setClaimEpoch_keeps {a s : State} (x2 : _) (h : Keeps a s) : Keeps a (State.setClaimEpoch s x2) := by
  unfold State.setClaimEpoch
  exact State.recClaim_keeps (State.arriveWord_keeps _ _ _ (by assumption))
theorem State.bumpEpoch_keeps {a s : State} (h : Keeps a s) : Keeps a (State.bumpEpoch s) := by
  unfold State.bumpEpoch
  exact State.setClaimEpoch_keeps _ (by assumption)
theorem State.wantFrame_keeps {a s : State} (x2 : _) (h : Keeps a s) : Keeps a (State.wantFrame s x2) := by
  unfold State.wantFrame
  refine keeps_ite ?_ ?_
  · assumption
  · exact State.setTwin_keeps _ (by assumption)
theorem State.dropWant_keeps {a s : State} (x2 : _) (h : Keeps a s) : Keeps a (State.dropWant s x2) := by
  unfold State.dropWant
  exact State.setTwin_keeps _ (by assumption)
theorem State.recordSet_keeps {a s : State} (x2 : _) (x3 : _) (x4 : _) (h : Keeps a s) : Keeps a (State.recordSet s x2 x3 x4) := by
  unfold State.recordSet
  refine keeps_foldl ?_ ?_
  · assumption
  · intro u1 u2 u3
    beta_reduce
    exact State.record_keeps _ _ _ (by assumption)
theorem State.ownerRecords_keeps {a s : State} (x2 : _) (x3 : _) (h : Keeps a s) : Keeps a (State.ownerRecords s x2 x3) := by
  unfold State.ownerRecords
  refine keeps_foldl ?_ ?_
  · assumption
  · intro u1 u2 u3
    beta_reduce
    exact State.recordSet_keeps _ _ _ (by assumption)
theorem State.setOwn_keeps {a s : State} (x2 : _) (h : Keeps a s) : Keeps a (State.setOwn s x2) := by
  unfold State.setOwn
  refine keeps_ite ?_ ?_
  · assumption
  · exact State.raise_keeps _ (State.fset_keeps _ _ (by assumption))
theorem State.setTwinState_keeps {a s : State} (x2 : _) (h : Keeps a s) : Keeps a (State.setTwinState s x2) := by
  unfold State.setTwinState
  refine keeps_ite ?_ ?_
  · assumption
  · extract_lets +onlyGivenNames v1
    clear_value v1
    extract_lets +onlyGivenNames v2
    have h3 : Keeps a v2 := by
      unfold v2
      exact State.raise_keeps _ (State.fset_keeps _ _ (by assumption))
    clear_value v2
    refine keeps_ite ?_ ?_
    · exact State.releaseHold_keeps (by assumption)
    · assumption
theorem State.dropSetStores_keeps {a s : State} (x2 : _) (h : Keeps a s) : Keeps a (State.dropSetStores s x2) := by
  unfold State.dropSetStores
  extract_lets +onlyGivenNames v1
  clear_value v1
  extract_lets +onlyGivenNames v2
  clear_value v2
  extract_lets +onlyGivenNames v3
  clear_value v3
  extract_lets +onlyGivenNames v4
  have h5 : Keeps a v4 := by
    unfold v4
    exact State.noteHolds_keeps _ (by assumption)
  clear_value v4
  exact keeps_upd (by assumption)
theorem State.rereadSets_keeps {a s : State} (x2 : _) (h : Keeps a s) : Keeps a (State.rereadSets s x2) := by
  unfold State.rereadSets
  extract_lets +onlyGivenNames v1
  clear_value v1
  extract_lets +onlyGivenNames v2
  clear_value v2
  extract_lets +onlyGivenNames v3
  clear_value v3
  extract_lets +onlyGivenNames v4
  clear_value v4
  exact State.runAll_keeps _ _ (keeps_upd (by assumption))
theorem State.loseSets_keeps {a s : State} (x2 : _) (h : Keeps a s) : Keeps a (State.loseSets s x2) := by
  unfold State.loseSets
  extract_lets +onlyGivenNames v1
  clear_value v1
  refine keeps_ite ?_ ?_
  · assumption
  · extract_lets +onlyGivenNames v2
    have h3 : Keeps a v2 := by
      unfold v2
      exact State.dropSetStores_keeps _ (State.setStale_keeps _ (State.setOwn_keeps _ (by assumption)))
    clear_value v2
    extract_lets +onlyGivenNames v4
    clear_value v4
    extract_lets +onlyGivenNames v5
    have h6 : Keeps a v5 := by
      unfold v5
      exact State.setTwin_keeps _ (by assumption)
    clear_value v5
    extract_lets +onlyGivenNames v7
    have h8 : Keeps a v7 := by
      unfold v7
      exact State.setBit_keeps _ _ (by assumption)
    clear_value v7
    refine State.rereadSets_keeps _ ?_
    refine State.ownerRecords_keeps _ _ ?_
    refine keeps_foldl ?_ ?_
    · assumption
    · intro u9 u10 u11
      beta_reduce
      exact State.closeSet_keeps _ (by assumption)
theorem State.runTakeWait_keeps {a s : State} (h : Keeps a s) : Keeps a (State.runTakeWait s) := by
  unfold State.runTakeWait
  exact State.runAll_keeps _ _ (State.setTwin_keeps _ (by assumption))
theorem State.takeover_keeps {a s : State} (x2 : _) (h : Keeps a s) : Keeps a (State.takeover s x2) := by
  unfold State.takeover
  extract_lets +onlyGivenNames v1
  clear_value v1
  extract_lets +onlyGivenNames v2
  have h3 : Keeps a v2 := by
    unfold v2
    refine keeps_foldl ?_ ?_
    · assumption
    · intro u4 u5 u6
      beta_reduce
      exact State.beginMeet_keeps _ _ (by assumption)
  clear_value v2
  extract_lets +onlyGivenNames v7
  clear_value v7
  extract_lets +onlyGivenNames v8
  clear_value v8
  extract_lets +onlyGivenNames v9
  clear_value v9
  extract_lets +onlyGivenNames v10
  have h11 : Keeps a v10 := by
    unfold v10
    exact State.setTwin_keeps _ (by assumption)
  clear_value v10
  extract_lets +onlyGivenNames v12
  have h13 : Keeps a v12 := by
    unfold v12
    exact State.setBit_keeps _ _ (by assumption)
  clear_value v12
  exact State.runAll_keeps _ _ (by assumption)
theorem State.gainSets_keeps {a s : State} (x2 : _) (x3 : _) (h : Keeps a s) : Keeps a (State.gainSets s x2 x3) := by
  unfold State.gainSets
  extract_lets +onlyGivenNames v1
  clear_value v1
  refine keeps_ite ?_ ?_
  · assumption
  · extract_lets +onlyGivenNames v2
    have h3 : Keeps a v2 := by
      unfold v2
      exact State.setStale_keeps _ (State.setOwn_keeps _ (by assumption))
    clear_value v2
    extract_lets +onlyGivenNames v4
    clear_value v4
    extract_lets +onlyGivenNames v5
    clear_value v5
    extract_lets +onlyGivenNames v6
    have h7 : Keeps a v6 := by
      unfold v6
      exact State.setTwin_keeps _ (by assumption)
    clear_value v6
    extract_lets +onlyGivenNames v8
    have h9 : Keeps a v8 := by
      unfold v8
      exact State.ownerRecords_keeps _ _ (State.setBit_keeps _ _ (by assumption))
    clear_value v8
    refine keeps_ite ?_ ?_
    · assumption
    · exact State.takeover_keeps _ (by assumption)
theorem State.setAct_keeps {a s : State} (x2 : _) (h : Keeps a s) : Keeps a (State.setAct s x2) := by
  unfold State.setAct
  extract_lets +onlyGivenNames v1
  clear_value v1
  extract_lets +onlyGivenNames v2
  have h3 : Keeps a v2 := by
    unfold v2
    exact State.fset_keeps _ _ (by assumption)
  clear_value v2
  extract_lets +onlyGivenNames v4
  have h5 : Keeps a v4 := by
    unfold v4
    refine keeps_ite ?_ ?_
    · exact State.actuatorsOff_keeps (by assumption)
    · assumption
  clear_value v4
  refine keeps_ite ?_ ?_
  · exact State.setHold_keeps _ (by assumption)
  · assumption
theorem State.renumber_keeps {a s : State} (x2 : _) (h : Keeps a s) : Keeps a (State.renumber s x2) := by
  unfold State.renumber
  extract_lets +onlyGivenNames v1
  clear_value v1
  extract_lets +onlyGivenNames v2
  clear_value v2
  extract_lets +onlyGivenNames v3
  have h4 : Keeps a v3 := by
    unfold v3
    exact State.mirrorOut_keeps _ _ _ _ (by assumption)
  clear_value v3
  exact keeps_upd (by assumption)
theorem State.restartStreams_keeps {a s : State} (h : Keeps a s) : Keeps a (State.restartStreams s) := by
  unfold State.restartStreams
  extract_lets +onlyGivenNames v1
  clear_value v1
  extract_lets +onlyGivenNames v2
  clear_value v2
  extract_lets +onlyGivenNames v3
  have h4 : Keeps a v3 := by
    unfold v3
    exact keeps_upd (by assumption)
  clear_value v3
  refine keeps_foldl ?_ ?_
  · assumption
  · intro u5 u6 u7
    beta_reduce
    exact State.renumber_keeps _ (by assumption)
theorem State.abortHandover_keeps {a s : State} (h : Keeps a s) : Keeps a (State.abortHandover s) := by
  unfold State.abortHandover
  split
  · assumption
  · extract_lets +onlyGivenNames v1
    clear_value v1
    extract_lets +onlyGivenNames v2
    have h3 : Keeps a v2 := by
      unfold v2
      exact State.setTwin_keeps _ (by assumption)
    clear_value v2
    extract_lets +onlyGivenNames v4
    have h5 : Keeps a v4 := by
      unfold v4
      split
      · exact State.answer_keeps _ _ _ _ _ _ (State.setSlots_keeps _ (by assumption))
      · assumption
    clear_value v4
    exact State.runAll_keeps _ _ (by assumption)
theorem State.releaseKept_keeps {a s : State} (h : Keeps a s) : Keeps a (State.releaseKept s) := by
  unfold State.releaseKept
  extract_lets +onlyGivenNames v1
  clear_value v1
  extract_lets +onlyGivenNames v2
  clear_value v2
  extract_lets +onlyGivenNames v3
  clear_value v3
  extract_lets +onlyGivenNames v4
  have h5 : Keeps a v4 := by
    unfold v4
    exact keeps_upd (by assumption)
  clear_value v4
  extract_lets +onlyGivenNames v6
  have h7 : Keeps a v6 := by
    unfold v6
    refine keeps_foldl ?_ ?_
    · assumption
    · intro u8 u9 u10
      beta_reduce
      extract_lets +onlyGivenNames v11
      clear_value v11
      exact State.setPage_keeps _ _ (by assumption)
  clear_value v6
  extract_lets +onlyGivenNames v12
  clear_value v12
  extract_lets +onlyGivenNames v13
  have h14 : Keeps a v13 := by
    unfold v13
    refine keeps_foldl ?_ ?_
    · assumption
    · intro u15 u16 u17
      beta_reduce
      exact State.setPage_keeps _ _ (by assumption)
  clear_value v13
  exact State.settleAcks_keeps (by assumption)
theorem State.stickFwd_keeps {a s : State} (h : Keeps a s) : Keeps a (State.stickFwd s) := by
  unfold State.stickFwd
  exact State.setTwin_keeps _ (by assumption)
theorem State.enterAlone_keeps {a s : State} (h : Keeps a s) : Keeps a (State.enterAlone s) := by
  unfold State.enterAlone
  refine keeps_ite ?_ ?_
  · assumption
  · extract_lets +onlyGivenNames v1
    have h2 : Keeps a v1 := by
      unfold v1
      exact State.bump_keeps _ _ _ (State.setTwinState_keeps _ (by assumption))
    clear_value v1
    extract_lets +onlyGivenNames v3
    have h4 : Keeps a v3 := by
      unfold v3
      exact State.stickFwd_keeps (State.restartStreams_keeps (State.releaseKept_keeps (State.setTwinLimit_keeps _ _ (by assumption))))
    clear_value v3
    extract_lets +onlyGivenNames v5
    clear_value v5
    extract_lets +onlyGivenNames v6
    have h7 : Keeps a v6 := by
      unfold v6
      exact State.setTwin_keeps _ (by assumption)
    clear_value v6
    exact State.abortHandover_keeps (State.setBit_keeps _ _ (by assumption))
theorem State.enterHold_keeps {a s : State} (h : Keeps a s) : Keeps a (State.enterHold s) := by
  unfold State.enterHold
  refine keeps_ite ?_ ?_
  · assumption
  · extract_lets +onlyGivenNames v1
    clear_value v1
    extract_lets +onlyGivenNames v2
    have h3 : Keeps a v2 := by
      unfold v2
      exact State.setTwin_keeps _ (by assumption)
    clear_value v2
    exact State.stickFwd_keeps (State.setTwinState_keeps _ (State.dropWant_keeps _ (by assumption)))
theorem State.enterPaired_keeps {a s : State} (h : Keeps a s) : Keeps a (State.enterPaired s) := by
  unfold State.enterPaired
  refine keeps_ite ?_ ?_
  · assumption
  · exact State.setTwinState_keeps _ (State.setTwinLimit_keeps _ _ (by assumption))
theorem State.joinSolo_keeps {a s : State} (h : Keeps a s) : Keeps a (State.joinSolo s) := by
  unfold State.joinSolo
  exact State.setTwinLimit_keeps _ _ (State.setAct_keeps _ (State.setOwn_keeps _ (by assumption)))
theorem State.claimFree_keeps {a s : State} (x2 : _) (h : Keeps a s) : Keeps a (State.claimFree s x2) := by
  unfold State.claimFree
  refine keeps_ite ?_ ?_
  · assumption
  · extract_lets +onlyGivenNames v1
    clear_value v1
    extract_lets +onlyGivenNames v2
    clear_value v2
    refine keeps_ite ?_ ?_
    · assumption
    · exact State.wantFrame_keeps _ (by assumption)
theorem State.joinPaired_keeps {a s : State} (x2 : _) (h : Keeps a s) : Keeps a (State.joinPaired s x2) := by
  unfold State.joinPaired
  extract_lets +onlyGivenNames v1
  clear_value v1
  extract_lets +onlyGivenNames v2
  have h3 : Keeps a v2 := by
    unfold v2
    exact keeps_upd (by assumption)
  clear_value v2
  extract_lets +onlyGivenNames v4
  have h5 : Keeps a v4 := by
    unfold v4
    exact State.enterPaired_keeps (State.setStale_keeps _ (by assumption))
  clear_value v4
  refine keeps_ite ?_ ?_
  · exact State.claimFree_keeps _ (by assumption)
  · assumption
theorem State.raiseClaim_keeps {a s : State} (h : Keeps a s) : Keeps a (State.raiseClaim s) := by
  unfold State.raiseClaim
  refine keeps_ite ?_ ?_
  · assumption
  · exact State.wantFrame_keeps _ (by assumption)
theorem State.twinLost_keeps {a s : State} (h : Keeps a s) : Keeps a (State.twinLost s) := by
  unfold State.twinLost
  extract_lets +onlyGivenNames v1
  clear_value v1
  extract_lets +onlyGivenNames v2
  clear_value v2
  extract_lets +onlyGivenNames v3
  have h4 : Keeps a v3 := by
    unfold v3
    exact State.setTwin_keeps _ (by assumption)
  clear_value v3
  refine keeps_ite ?_ ?_
  · assumption
  · refine keeps_ite ?_ ?_
    · refine keeps_ite ?_ ?_
      · exact State.enterHold_keeps (by assumption)
      · exact State.raiseClaim_keeps (State.stickFwd_keeps (by assumption))
    · refine keeps_ite ?_ ?_
      · exact State.enterHold_keeps (by assumption)
      · assumption
theorem State.sendKept_keeps {a s : State} (x2 : _) (x3 : _) (h : Keeps a s) : Keeps a (State.sendKept s x2 x3) := by
  unfold State.sendKept
  split
  · assumption
  · assumption
  · exact State.sendKept_keeps _ _ (State.twinCtl_keeps _ _ _ _ (by assumption))
theorem State.rejoin_keeps {a s : State} (x2 : _) (h : Keeps a s) : Keeps a (State.rejoin s x2) := by
  unfold State.rejoin
  extract_lets +onlyGivenNames v1
  have h2 : Keeps a v1 := by
    unfold v1
    exact State.restartStreams_keeps (by assumption)
  clear_value v1
  extract_lets +onlyGivenNames v3
  clear_value v3
  extract_lets +onlyGivenNames v4
  clear_value v4
  extract_lets +onlyGivenNames v5
  clear_value v5
  extract_lets +onlyGivenNames v6
  have h7 : Keeps a v6 := by
    unfold v6
    exact State.setTwin_keeps _ (by assumption)
  clear_value v6
  extract_lets +onlyGivenNames v8
  have h9 : Keeps a v8 := by
    unfold v8
    exact State.setBit_keeps _ _ (by assumption)
  clear_value v8
  extract_lets +onlyGivenNames v10
  have h11 : Keeps a v10 := by
    unfold v10
    refine keeps_foldl ?_ ?_
    · assumption
    · intro u12 u13 u14
      beta_reduce
      exact State.sendFwd_keeps _ _ (by assumption)
  clear_value v10
  exact State.sendKept_keeps _ _ (by assumption)
theorem State.settleHold_keeps {a s : State} (x2 : _) (h : Keeps a s) : Keeps a (State.settleHold s x2) := by
  unfold State.settleHold
  extract_lets +onlyGivenNames v1
  clear_value v1
  extract_lets +onlyGivenNames v2
  clear_value v2
  extract_lets +onlyGivenNames v3
  clear_value v3
  extract_lets +onlyGivenNames v4
  have h5 : Keeps a v4 := by
    unfold v4
    exact State.setBit_keeps _ _ (by assumption)
  clear_value v4
  extract_lets +onlyGivenNames v6
  clear_value v6
  extract_lets +onlyGivenNames v7
  clear_value v7
  refine keeps_ite ?_ ?_
  · extract_lets +onlyGivenNames v8
    have h9 : Keeps a v8 := by
      unfold v8
      refine keeps_ite ?_ ?_
      · refine keeps_foldl ?_ ?_
        · assumption
        · intro u10 u11 u12
          beta_reduce
          exact State.record_keeps _ _ _ (by assumption)
      · assumption
    clear_value v8
    extract_lets +onlyGivenNames v13
    clear_value v13
    extract_lets +onlyGivenNames v14
    have h15 : Keeps a v14 := by
      unfold v14
      exact State.setStale_keeps _ (State.loseSets_keeps _ (by assumption))
    clear_value v14
    extract_lets +onlyGivenNames v16
    have h17 : Keeps a v16 := by
      unfold v16
      refine keeps_ite ?_ ?_
      · exact State.setAct_keeps _ (by assumption)
      · assumption
    clear_value v16
    exact State.sendKept_keeps _ _ (State.rejoin_keeps _ (State.enterPaired_keeps (by assumption)))
  · refine keeps_ite ?_ ?_
    · exact State.rejoin_keeps _ (State.enterPaired_keeps (State.setTwin_keeps _ (by assumption)))
    · extract_lets +onlyGivenNames v18
      have h19 : Keeps a v18 := by
        unfold v18
        exact State.setOwn_keeps _ (by assumption)
      clear_value v18
      extract_lets +onlyGivenNames v20
      have h21 : Keeps a v20 := by
        unfold v20
        refine keeps_ite ?_ ?_
        · exact State.setAct_keeps _ (by assumption)
        · assumption
      clear_value v20
      extract_lets +onlyGivenNames v22
      clear_value v22
      extract_lets +onlyGivenNames v23
      have h24 : Keeps a v23 := by
        unfold v23
        exact State.setTwin_keeps _ (by assumption)
      clear_value v23
      exact State.rejoin_keeps _ (State.enterPaired_keeps (by assumption))
theorem State.found_keeps {a s : State} (x2 : _) (h : Keeps a s) : Keeps a (State.found s x2) := by
  unfold State.found
  extract_lets +onlyGivenNames v1
  clear_value v1
  extract_lets +onlyGivenNames v2
  have h3 : Keeps a v2 := by
    unfold v2
    exact State.setTwin_keeps _ (by assumption)
  clear_value v2
  refine keeps_ite ?_ ?_
  · exact State.rejoin_keeps _ (State.joinPaired_keeps _ (by assumption))
  · refine keeps_ite ?_ ?_
    · exact State.settleHold_keeps _ (by assumption)
    · refine keeps_ite ?_ ?_
      · exact State.rejoin_keeps _ (State.enterPaired_keeps (by assumption))
      · exact State.rejoin_keeps _ (by assumption)
theorem State.sendHeartbeat_keeps {a s : State} (x2 : _) (h : Keeps a s) : Keeps a (State.sendHeartbeat s x2) := by
  unfold State.sendHeartbeat
  extract_lets +onlyGivenNames v1
  clear_value v1
  extract_lets +onlyGivenNames v2
  have h3 : Keeps a v2 := by
    unfold v2
    exact State.setTwin_keeps _ (by assumption)
  clear_value v2
  extract_lets +onlyGivenNames v4
  clear_value v4
  exact State.twinSend_keeps _ _ _ (State.emit_keeps _ (by assumption))
theorem State.heartbeatTick_keeps {a s : State} (h : Keeps a s) : Keeps a (State.heartbeatTick s) := by
  unfold State.heartbeatTick
  refine keeps_ite ?_ ?_
  · assumption
  · exact State.sendHeartbeat_keeps _ (by assumption)
theorem State.finalHeartbeat_keeps {a s : State} (h : Keeps a s) : Keeps a (State.finalHeartbeat s) := by
  unfold State.finalHeartbeat
  refine keeps_ite ?_ ?_
  · assumption
  · extract_lets +onlyGivenNames v1
    have h2 : Keeps a v1 := by
      unfold v1
      exact State.sendHeartbeat_keeps _ (by assumption)
    clear_value v1
    exact State.setTwin_keeps _ (by assumption)
theorem State.heartbeatIn_keeps {a s : State} (x2 : _) (x3 : _) (h : Keeps a s) : Keeps a (State.heartbeatIn s x2 x3) := by
  unfold State.heartbeatIn
  extract_lets +onlyGivenNames v1
  clear_value v1
  extract_lets +onlyGivenNames v2
  clear_value v2
  extract_lets +onlyGivenNames v3
  clear_value v3
  refine keeps_ite ?_ ?_
  · assumption
  · extract_lets +onlyGivenNames v4
    clear_value v4
    extract_lets +onlyGivenNames v5
    clear_value v5
    extract_lets +onlyGivenNames v6
    have h7 : Keeps a v6 := by
      unfold v6
      exact State.setBit_keeps _ _ (State.setTwin_keeps _ (by assumption))
    clear_value v6
    refine keeps_ite ?_ ?_
    · assumption
    · extract_lets +onlyGivenNames v8
      clear_value v8
      extract_lets +onlyGivenNames v9
      have h10 : Keeps a v9 := by
        unfold v9
        refine keeps_ite ?_ ?_
        · exact State.setTwin_keeps _ (by assumption)
        · assumption
      clear_value v9
      refine keeps_ite ?_ ?_
      · refine keeps_ite ?_ ?_
        · exact State.twinLost_keeps (by assumption)
        · assumption
      · refine keeps_ite ?_ ?_
        · refine keeps_ite ?_ ?_
          · assumption
          · exact State.raise_keeps _ (State.enterHold_keeps (State.setBit_keeps _ _ (keeps_upd (by assumption))))
        · extract_lets +onlyGivenNames v11
          have h12 : Keeps a v11 := by
            unfold v11
            exact State.setBit_keeps _ _ (by assumption)
          clear_value v11
          refine keeps_ite ?_ ?_
          · assumption
          · exact State.found_keeps _ (by assumption)
theorem State.twinHbFrame_keeps {a s : State} (x2 : _) (h : Keeps a s) : Keeps a (State.twinHbFrame s x2) := by
  unfold State.twinHbFrame
  refine keeps_ite ?_ ?_
  · exact State.heartbeatIn_keeps _ _ (by assumption)
  · assumption
theorem State.hbAligned_keeps {a s : State} (x2 : _) (h : Keeps a s) : Keeps a (State.hbAligned s x2) := by
  unfold State.hbAligned
  exact State.setTwin_keeps _ (by assumption)
theorem State.hbPathLoss_keeps {a s : State} (x2 : _) (h : Keeps a s) : Keeps a (State.hbPathLoss s x2) := by
  unfold State.hbPathLoss
  extract_lets +onlyGivenNames v1
  clear_value v1
  extract_lets +onlyGivenNames v2
  clear_value v2
  refine keeps_ite ?_ ?_
  · assumption
  · exact State.raise_keeps _ (State.bump_keeps _ _ _ (State.setBit_keeps _ _ (by assumption)))
theorem State.twinLostEvent_keeps {a s : State} (h : Keeps a s) : Keeps a (State.twinLostEvent s) := by
  unfold State.twinLostEvent
  refine keeps_ite ?_ ?_
  · assumption
  · exact State.twinLost_keeps (by assumption)
theorem State.laneOut_keeps {a s : State} (x2 : _) (h : Keeps a s) : Keeps a (State.laneOut s x2) := by
  unfold State.laneOut
  refine keeps_ite ?_ ?_
  · assumption
  · extract_lets +onlyGivenNames v1
    have h2 : Keeps a v1 := by
      unfold v1
      exact State.raise_keeps _ (State.setFbit_keeps _ _ _ (State.setFbit_keeps _ _ _ (by assumption)))
    clear_value v1
    extract_lets +onlyGivenNames v3
    clear_value v3
    extract_lets +onlyGivenNames v4
    have h5 : Keeps a v4 := by
      unfold v4
      exact State.setTwin_keeps _ (by assumption)
    clear_value v4
    refine keeps_ite ?_ ?_
    · exact State.enterHold_keeps (by assumption)
    · assumption
theorem State.laneIn_keeps {a s : State} (x2 : _) (h : Keeps a s) : Keeps a (State.laneIn s x2) := by
  unfold State.laneIn
  extract_lets +onlyGivenNames v1
  have h2 : Keeps a v1 := by
    unfold v1
    exact State.setFbit_keeps _ _ _ (State.setFbit_keeps _ _ _ (by assumption))
  clear_value v1
  extract_lets +onlyGivenNames v3
  clear_value v3
  extract_lets +onlyGivenNames v4
  have h5 : Keeps a v4 := by
    unfold v4
    exact State.setTwin_keeps _ (by assumption)
  clear_value v4
  refine keeps_ite ?_ ?_
  · exact State.raiseClaim_keeps (by assumption)
  · assumption
theorem State.laneSaw_keeps {a s : State} (x2 : _) (x3 : _) (x4 : _) (h : Keeps a s) : Keeps a (State.laneSaw s x2 x3 x4) := by
  unfold State.laneSaw
  refine keeps_ite ?_ ?_
  · extract_lets +onlyGivenNames v1
    clear_value v1
    extract_lets +onlyGivenNames v2
    clear_value v2
    extract_lets +onlyGivenNames v3
    have h4 : Keeps a v3 := by
      unfold v3
      exact State.setTwin_keeps _ (by assumption)
    clear_value v3
    refine keeps_ite ?_ ?_
    · exact State.laneOut_keeps _ (by assumption)
    · assumption
  · extract_lets +onlyGivenNames v5
    clear_value v5
    extract_lets +onlyGivenNames v6
    clear_value v6
    extract_lets +onlyGivenNames v7
    have h8 : Keeps a v7 := by
      unfold v7
      exact State.setTwin_keeps _ (by assumption)
    clear_value v7
    refine keeps_ite ?_ ?_
    · exact State.laneIn_keeps _ (by assumption)
    · assumption
theorem State.lanesSaw_keeps {a s : State} (x2 : _) (x3 : _) (h : Keeps a s) : Keeps a (State.lanesSaw s x2 x3) := by
  unfold State.lanesSaw
  refine keeps_foldl ?_ ?_
  · assumption
  · intro u1 u2 u3
    beta_reduce
    exact State.laneSaw_keeps _ _ _ (by assumption)
theorem State.laneStuck_keeps {a s : State} (x2 : _) (h : Keeps a s) : Keeps a (State.laneStuck s x2) := by
  unfold State.laneStuck
  refine keeps_ite ?_ ?_
  · assumption
  · exact State.laneOut_keeps _ (State.setFbit_keeps _ _ _ (by assumption))
theorem State.renewIn_keeps {a s : State} (x2 : _) (h : Keeps a s) : Keeps a (State.renewIn s x2) := by
  unfold State.renewIn
  extract_lets +onlyGivenNames v1
  clear_value v1
  extract_lets +onlyGivenNames v2
  have h3 : Keeps a v2 := by
    unfold v2
    exact State.lanesSaw_keeps _ _ (by assumption)
  clear_value v2
  refine keeps_ite ?_ ?_
  · assumption
  · exact State.setTwin_keeps _ (by assumption)
theorem State.claimIn_keeps {a s : State} (x2 : _) (h : Keeps a s) : Keeps a (State.claimIn s x2) := by
  unfold State.claimIn
  extract_lets +onlyGivenNames v1
  clear_value v1
  extract_lets +onlyGivenNames v2
  have h3 : Keeps a v2 := by
    unfold v2
    exact State.lanesSaw_keeps _ _ (by assumption)
  clear_value v2
  refine keeps_ite ?_ ?_
  · assumption
  · extract_lets +onlyGivenNames v4
    extract_lets +onlyGivenNames v5
    clear_value v5
    extract_lets +onlyGivenNames v6
    clear_value v6
    extract_lets +onlyGivenNames v7
    have h8 : Keeps a v7 := by
      unfold v7
      exact State.bumpEpoch_keeps (by assumption)
    clear_value v7
    extract_lets +onlyGivenNames v9
    clear_value v9
    extract_lets +onlyGivenNames v10
    have h11 : Keeps a v10 := by
      unfold v10
      exact State.setTwin_keeps _ (by assumption)
    clear_value v10
    refine keeps_ite ?_ ?_
    · extract_lets +onlyGivenNames v12
      have h13 : Keeps a v12 := by
        unfold v12
        exact State.dropWant_keeps _ (by assumption)
      clear_value v12
      extract_lets +onlyGivenNames v14
      clear_value v14
      extract_lets +onlyGivenNames v15
      have h16 : Keeps a v15 := by
        unfold v15
        exact State.setTwin_keeps _ (by assumption)
      clear_value v15
      extract_lets +onlyGivenNames v17
      have h18 : Keeps a v17 := by
        unfold v17
        exact State.setStale_keeps _ (State.loseSets_keeps _ (by assumption))
      clear_value v17
      extract_lets +onlyGivenNames v19
      have h20 : Keeps a v19 := by
        unfold v19
        refine keeps_ite ?_ ?_
        · exact State.enterPaired_keeps (by assumption)
        · assumption
      clear_value v19
      exact State.runTakeWait_keeps (State.abortHandover_keeps (State.restartStreams_keeps (by assumption)))
    · split
      · assumption
      · refine keeps_ite ?_ ?_
        · assumption
        · extract_lets +onlyGivenNames v21
          clear_value v21
          extract_lets +onlyGivenNames v22
          have h23 : Keeps a v22 := by
            unfold v22
            exact State.setTwin_keeps _ (by assumption)
          clear_value v22
          extract_lets +onlyGivenNames v24
          have h25 : Keeps a v24 := by
            unfold v24
            exact State.setSlots_keeps _ (by assumption)
          clear_value v24
          exact State.runAll_keeps _ _ (by assumption)
theorem State.releaseIn_keeps {a s : State} (x2 : _) (h : Keeps a s) : Keeps a (State.releaseIn s x2) := by
  unfold State.releaseIn
  extract_lets +onlyGivenNames v1
  clear_value v1
  extract_lets +onlyGivenNames v2
  have h3 : Keeps a v2 := by
    unfold v2
    exact State.lanesSaw_keeps _ _ (by assumption)
  clear_value v2
  refine keeps_ite ?_ ?_
  · assumption
  · extract_lets +onlyGivenNames v4
    have h5 : Keeps a v4 := by
      unfold v4
      exact State.bumpEpoch_keeps (by assumption)
    clear_value v4
    extract_lets +onlyGivenNames v6
    clear_value v6
    extract_lets +onlyGivenNames v7
    have h8 : Keeps a v7 := by
      unfold v7
      exact State.setTwin_keeps _ (by assumption)
    clear_value v7
    refine keeps_ite ?_ ?_
    · assumption
    · extract_lets +onlyGivenNames v9
      clear_value v9
      refine keeps_ite ?_ ?_
      · assumption
      · exact State.wantFrame_keeps _ (by assumption)
theorem State.claimTakes_keeps {a s : State} (x2 : _) (x3 : _) (h : Keeps a s) : Keeps a (State.claimTakes s x2 x3).2 := by
  unfold State.claimTakes
  extract_lets +onlyGivenNames v1
  clear_value v1
  extract_lets +onlyGivenNames v2
  clear_value v2
  extract_lets +onlyGivenNames v3
  clear_value v3
  refine keeps_ite2 ?_ ?_
  · assumption
  · extract_lets +onlyGivenNames v4
    have h5 : Keeps a v4 := by
      unfold v4
      exact State.bumpEpoch_keeps (by assumption)
    clear_value v4
    dsimp only
    exact State.setTwin_keeps _ (by assumption)
theorem State.frameSent_keeps {a s : State} (x2 : _) (h : Keeps a s) : Keeps a (State.frameSent s x2) := by
  unfold State.frameSent
  split
  · assumption
  · refine keeps_ite ?_ ?_
    · assumption
    · extract_lets +onlyGivenNames v1
      have h2 : Keeps a v1 := by
        unfold v1
        exact State.emit_keeps _ (by assumption)
      clear_value v1
      extract_lets +onlyGivenNames v3
      clear_value v3
      extract_lets +onlyGivenNames v4
      have h5 : Keeps a v4 := by
        unfold v4
        exact State.setTwin_keeps _ (by assumption)
      clear_value v4
      extract_lets +onlyGivenNames v6
      clear_value v6
      extract_lets +onlyGivenNames v7
      clear_value v7
      extract_lets +onlyGivenNames v8
      have h9 : Keeps a v8.2 := by
        unfold v8
        exact State.claimTakes_keeps _ _ (by assumption)
      clear_value v8
      extract_lets +onlyGivenNames v10
      clear_value v10
      extract_lets +onlyGivenNames v11
      have h12 : Keeps a v11 := by
        unfold v11
        split
        · assumption
        · exact State.dropWant_keeps _ (State.setTwin_keeps _ (by assumption))
        · refine keeps_ite ?_ ?_
          · exact State.setTwin_keeps _ (State.dropWant_keeps _ (by assumption))
          · exact State.bump_keeps _ _ _ (by assumption)
        · exact State.dropWant_keeps _ (by assumption)
        · exact State.bump_keeps _ _ _ (by assumption)
        · exact State.dropWant_keeps _ (State.claimTakes_keeps _ _ (by assumption))
        · refine keeps_ite ?_ ?_
          · exact State.bump_keeps _ _ _ (by assumption)
          · exact State.dropWant_keeps _ (by assumption)
      clear_value v11
      exact State.lanesSaw_keeps _ _ (by assumption)
theorem State.epochDone_keeps {a s : State} (h : Keeps a s) : Keeps a (State.epochDone s) := by
  unfold State.epochDone
  split
  · assumption
  · refine keeps_ite ?_ ?_
    · assumption
    · extract_lets +onlyGivenNames v1
      clear_value v1
      extract_lets +onlyGivenNames v2
      have h3 : Keeps a v2 := by
        unfold v2
        exact State.setTwin_keeps _ (by assumption)
      clear_value v2
      extract_lets +onlyGivenNames v4
      have h5 : Keeps a v4 := by
        unfold v4
        refine keeps_ite ?_ ?_
        · exact State.enterAlone_keeps (by assumption)
        · assumption
      clear_value v4
      extract_lets +onlyGivenNames v6
      have h7 : Keeps a v6 := by
        unfold v6
        exact State.gainSets_keeps _ _ (by assumption)
      clear_value v6
      refine State.runTakeWait_keeps ?_
      refine keeps_ite ?_ ?_
      · exact State.setAct_keeps _ (by assumption)
      · assumption
theorem State.leaseRenew_keeps {a s : State} (h : Keeps a s) : Keeps a (State.leaseRenew s) := by
  unfold State.leaseRenew
  extract_lets +onlyGivenNames v1
  clear_value v1
  refine keeps_ite ?_ ?_
  · assumption
  · exact State.wantFrame_keeps _ (by assumption)
theorem State.leaseLapse_keeps {a s : State} (h : Keeps a s) : Keeps a (State.leaseLapse s) := by
  unfold State.leaseLapse
  extract_lets +onlyGivenNames v1
  clear_value v1
  refine keeps_ite ?_ ?_
  · assumption
  · extract_lets +onlyGivenNames v2
    have h3 : Keeps a v2 := by
      unfold v2
      refine keeps_ite ?_ ?_
      · exact State.setOwn_keeps _ (by assumption)
      · exact State.loseSets_keeps _ (by assumption)
    clear_value v2
    refine keeps_ite ?_ ?_
    · exact State.setAct_keeps _ (by assumption)
    · assumption
theorem State.peerLapse_keeps {a s : State} (h : Keeps a s) : Keeps a (State.peerLapse s) := by
  unfold State.peerLapse
  refine keeps_ite ?_ ?_
  · assumption
  · exact State.setTwin_keeps _ (by assumption)
theorem State.joinExpiry_keeps {a s : State} (h : Keeps a s) : Keeps a (State.joinExpiry s) := by
  unfold State.joinExpiry
  extract_lets +onlyGivenNames v1
  clear_value v1
  extract_lets +onlyGivenNames v2
  clear_value v2
  refine keeps_ite ?_ ?_
  · assumption
  · refine keeps_ite ?_ ?_
    · exact State.joinPaired_keeps _ (by assumption)
    · refine keeps_ite ?_ ?_
      · exact State.enterHold_keeps (keeps_upd (by assumption))
      · refine keeps_ite ?_ ?_
        · assumption
        · extract_lets +onlyGivenNames v3
          clear_value v3
          extract_lets +onlyGivenNames v4
          have h5 : Keeps a v4 := by
            unfold v4
            exact State.enterAlone_keeps (keeps_upd (by assumption))
          clear_value v4
          exact State.claimFree_keeps _ (by assumption)
theorem cmdTwinGrant_keeps {a s : State} (x1 : _) (h : Keeps a s) : Keeps a (cmdTwinGrant x1 s).s := by
  unfold cmdTwinGrant
  refine guarded_keeps ?_ ?_
  · assumption
  · extract_lets +onlyGivenNames v1
    have h2 : Keeps a v1 := by
      unfold v1
      exact State.setBit_keeps _ _ (State.setClaimEpoch_keeps _ (by assumption))
    clear_value v1
    extract_lets +onlyGivenNames v3
    have h4 : Keeps a v3 := by
      unfold v3
      exact State.enterAlone_keeps (by assumption)
    clear_value v3
    extract_lets +onlyGivenNames v5
    have h6 : Keeps a v5 := by
      unfold v5
      exact State.gainSets_keeps _ _ (by assumption)
    clear_value v5
    extract_lets +onlyGivenNames v7
    have h8 : Keeps a v7 := by
      unfold v7
      refine keeps_ite ?_ ?_
      · exact State.setAct_keeps _ (by assumption)
      · assumption
    clear_value v7
    exact later_keeps _ _ (by assumption)
theorem cmdTwinHandover_keeps {a s : State} (x1 : _) (h : Keeps a s) : Keeps a (cmdTwinHandover x1 s).s := by
  unfold cmdTwinHandover
  extract_lets +onlyGivenNames v1
  clear_value v1
  refine guarded_keeps ?_ ?_
  · assumption
  · refine keeps_iteS ?_ ?_
    · exact done_keeps _ (by assumption)
    · extract_lets +onlyGivenNames v2
      clear_value v2
      extract_lets +onlyGivenNames v3
      have h4 : Keeps a v3 := by
        unfold v3
        exact State.setTwin_keeps _ (by assumption)
      clear_value v3
      exact later_keeps _ _ (by assumption)
theorem State.handoverRelease_keeps {a s : State} (h : Keeps a s) : Keeps a (State.handoverRelease s) := by
  unfold State.handoverRelease
  split
  · assumption
  · extract_lets +onlyGivenNames v1
    clear_value v1
    extract_lets +onlyGivenNames v2
    clear_value v2
    refine keeps_ite ?_ ?_
    · assumption
    · extract_lets +onlyGivenNames v3
      clear_value v3
      extract_lets +onlyGivenNames v4
      have h5 : Keeps a v4 := by
        unfold v4
        exact State.setTwin_keeps _ (by assumption)
      clear_value v4
      extract_lets +onlyGivenNames v6
      have h7 : Keeps a v6 := by
        unfold v6
        exact State.bumpEpoch_keeps (State.setOwn_keeps _ (by assumption))
      clear_value v6
      extract_lets +onlyGivenNames v8
      have h9 : Keeps a v8 := by
        unfold v8
        refine State.ownerRecords_keeps _ _ ?_
        refine keeps_foldl ?_ ?_
        · assumption
        · intro u10 u11 u12
          beta_reduce
          exact State.closeSet_keeps _ (by assumption)
      clear_value v8
      exact State.wantFrame_keeps _ (by assumption)
theorem State.takeoverEvent_keeps {a s : State} (h : Keeps a s) : Keeps a (State.takeoverEvent s) := by
  unfold State.takeoverEvent
  refine keeps_ite ?_ ?_
  · assumption
  · exact State.takeover_keeps _ (by assumption)
theorem State.fwdExpiry_keeps {a s : State} (x2 : _) (h : Keeps a s) : Keeps a (State.fwdExpiry s x2) := by
  unfold State.fwdExpiry
  split
  · assumption
  · split
    · assumption
    · refine keeps_ite ?_ ?_
      · assumption
      · extract_lets +onlyGivenNames v1
        clear_value v1
        extract_lets +onlyGivenNames v2
        have h3 : Keeps a v2 := by
          unfold v2
          exact State.setTwin_keeps _ (by assumption)
        clear_value v2
        extract_lets +onlyGivenNames v4
        have h5 : Keeps a v4 := by
          unfold v4
          exact State.bump_keeps _ _ _ (by assumption)
        clear_value v4
        extract_lets +onlyGivenNames v6
        have h7 : Keeps a v6 := by
          unfold v6
          split
          · exact State.sendPoison_keeps _ _ _ (by assumption)
          · exact State.gotLine_keeps _ _ _ _ (by assumption)
          · exact State.coreGot_keeps _ _ _ _ _ (by assumption)
          · assumption
        clear_value v6
        refine keeps_ite ?_ ?_
        · assumption
        · extract_lets +onlyGivenNames v8
          clear_value v8
          extract_lets +onlyGivenNames v9
          have h10 : Keeps a v9 := by
            unfold v9
            exact State.setTwin_keeps _ (by assumption)
          clear_value v9
          exact State.raise_keeps _ (State.recordSet_keeps _ _ _ (by assumption))
theorem State.sfSweep_keeps {a s : State} (x2 : _) (h : Keeps a s) : Keeps a (State.sfSweep s x2) := by
  unfold State.sfSweep
  refine keeps_ite ?_ ?_
  · exact State.sweepPage_keeps _ (by assumption)
  · assumption
theorem State.epochMarkTick_keeps {a s : State} (h : Keeps a s) : Keeps a (State.epochMarkTick s) := by
  unfold State.epochMarkTick
  refine keeps_ite ?_ ?_
  · assumption
  · extract_lets +onlyGivenNames v1
    clear_value v1
    extract_lets +onlyGivenNames v2
    clear_value v2
    extract_lets +onlyGivenNames v3
    have h4 : Keeps a v3 := by
      unfold v3
      exact State.setTwin_keeps _ (by assumption)
    clear_value v3
    exact State.twinCtl_keeps _ _ _ _ (by assumption)
theorem State.mirrorSend_keeps {a s : State} (h : Keeps a s) : Keeps a (State.mirrorSend s) := by
  unfold State.mirrorSend
  refine keeps_ite ?_ ?_
  · assumption
  · extract_lets +onlyGivenNames v1
    clear_value v1
    split
    · extract_lets +onlyGivenNames v2
      clear_value v2
      extract_lets +onlyGivenNames v3
      clear_value v3
      extract_lets +onlyGivenNames v4
      clear_value v4
      extract_lets +onlyGivenNames v5
      clear_value v5
      extract_lets +onlyGivenNames v6
      clear_value v6
      exact State.twinKeep_keeps _ _ _ (State.setTwin_keeps _ (by assumption))
    · extract_lets +onlyGivenNames v7
      clear_value v7
      split
      · exact State.twinCtl_keeps _ _ _ _ (State.setTwin_keeps _ (by assumption))
      · exact State.twinCtl_keeps _ _ _ _ (State.setTwin_keeps _ (by assumption))
      · assumption
theorem State.mirrorResend_keeps {a s : State} (x2 : _) (h : Keeps a s) : Keeps a (State.mirrorResend s x2) := by
  unfold State.mirrorResend
  split
  · assumption
  · exact State.twinSend_keeps _ _ _ (State.bumpAt_keeps _ _ _ _ (by assumption))
theorem State.sendPage_keeps {a s : State} (x2 : _) (h : Keeps a s) : Keeps a (State.sendPage s x2) := by
  unfold State.sendPage
  extract_lets +onlyGivenNames v1
  clear_value v1
  extract_lets +onlyGivenNames v2
  clear_value v2
  extract_lets +onlyGivenNames v3
  clear_value v3
  extract_lets +onlyGivenNames v4
  clear_value v4
  extract_lets +onlyGivenNames v5
  clear_value v5
  extract_lets +onlyGivenNames v6
  have h7 : Keeps a v6 := by
    unfold v6
    exact State.setPage_keeps _ _ (by assumption)
  clear_value v6
  extract_lets +onlyGivenNames v8
  clear_value v8
  extract_lets +onlyGivenNames v9
  have h10 : Keeps a v9 := by
    unfold v9
    exact State.setTwin_keeps _ (by assumption)
  clear_value v9
  exact State.twinCtl_keeps _ _ _ _ (State.twinCtl_keeps _ _ _ _ (by assumption))
theorem State.resyncSend_keeps {a s : State} (h : Keeps a s) : Keeps a (State.resyncSend s) := by
  unfold State.resyncSend
  refine keeps_ite ?_ ?_
  · assumption
  · split
    · extract_lets +onlyGivenNames v1
      clear_value v1
      refine keeps_ite ?_ ?_
      · exact State.startRestore_keeps _ _ (by assumption)
      · refine keeps_ite ?_ ?_
        · exact State.startFetch_keeps _ _ _ (by assumption)
        · refine keeps_ite ?_ ?_
          · assumption
          · exact State.sendPage_keeps _ (by assumption)
    · refine keeps_ite ?_ ?_
      · assumption
      · extract_lets +onlyGivenNames v2
        clear_value v2
        extract_lets +onlyGivenNames v3
        clear_value v3
        extract_lets +onlyGivenNames v4
        clear_value v4
        refine keeps_ite ?_ ?_
        · assumption
        · extract_lets +onlyGivenNames v5
          clear_value v5
          extract_lets +onlyGivenNames v6
          have h7 : Keeps a v6 := by
            unfold v6
            exact State.setTwin_keeps _ (by assumption)
          clear_value v6
          exact State.raise_keeps _ (State.twinCtl_keeps _ _ _ _ (State.setBit_keeps _ _ (by assumption)))
theorem State.mirrorAck_keeps {a s : State} (x2 : _) (h : Keeps a s) : Keeps a (State.mirrorAck s x2) := by
  unfold State.mirrorAck
  extract_lets +onlyGivenNames v1
  clear_value v1
  extract_lets +onlyGivenNames v2
  clear_value v2
  extract_lets +onlyGivenNames v3
  clear_value v3
  extract_lets +onlyGivenNames v4
  clear_value v4
  extract_lets +onlyGivenNames v5
  have h6 : Keeps a v5 := by
    unfold v5
    exact keeps_upd (by assumption)
  clear_value v5
  extract_lets +onlyGivenNames v7
  clear_value v7
  extract_lets +onlyGivenNames v8
  have h9 : Keeps a v8 := by
    unfold v8
    exact keeps_upd (by assumption)
  clear_value v8
  extract_lets +onlyGivenNames v10
  clear_value v10
  extract_lets +onlyGivenNames v11
  have h12 : Keeps a v11 := by
    unfold v11
    exact State.settleAcks_keeps (State.setTwinLimit_keeps _ _ (State.setTwin_keeps _ (by assumption)))
  clear_value v11
  split
  · assumption
  · extract_lets +onlyGivenNames v13
    clear_value v13
    extract_lets +onlyGivenNames v14
    have h15 : Keeps a v14 := by
      unfold v14
      exact State.setTwin_keeps _ (by assumption)
    clear_value v14
    refine keeps_ite ?_ ?_
    · assumption
    · extract_lets +onlyGivenNames v16
      have h17 : Keeps a v16 := by
        unfold v16
        exact State.raise_keeps _ (State.bump_keeps _ _ _ (by assumption))
      clear_value v16
      extract_lets +onlyGivenNames v18
      clear_value v18
      extract_lets +onlyGivenNames v19
      have h20 : Keeps a v19 := by
        unfold v19
        refine keeps_foldl ?_ ?_
        · assumption
        · intro u21 u22 u23
          beta_reduce
          exact State.setPage_keeps _ _ (by assumption)
      clear_value v19
      extract_lets +onlyGivenNames v24
      clear_value v24
      exact State.setBit_keeps _ _ (State.setTwin_keeps _ (by assumption))
theorem State.ctlAck_keeps {a s : State} (x2 : _) (h : Keeps a s) : Keeps a (State.ctlAck s x2) := by
  unfold State.ctlAck
  split
  · assumption
  · extract_lets +onlyGivenNames v1
    clear_value v1
    extract_lets +onlyGivenNames v2
    have h3 : Keeps a v2 := by
      unfold v2
      exact keeps_upd (by assumption)
    clear_value v2
    refine keeps_ite ?_ ?_
    · assumption
    · extract_lets +onlyGivenNames v4
      clear_value v4
      refine keeps_ite ?_ ?_
      · assumption
      · exact State.setPage_keeps _ _ (by assumption)
theorem State.landMirror_keeps {a s : State} (x2 : _) (h : Keeps a s) : Keeps a (State.landMirror s x2) := by
  unfold State.landMirror
  extract_lets +onlyGivenNames v1
  clear_value v1
  extract_lets +onlyGivenNames v2
  clear_value v2
  extract_lets +onlyGivenNames v3
  have h4 : Keeps a v3 := by
    unfold v3
    exact State.setTwin_keeps _ (by assumption)
  clear_value v3
  split
  · assumption
  · refine keeps_ite ?_ ?_
    · assumption
    · extract_lets +onlyGivenNames v5
      clear_value v5
      extract_lets +onlyGivenNames v6
      clear_value v6
      extract_lets +onlyGivenNames v7
      have h8 : Keeps a v7 := by
        unfold v7
        exact State.setTwin_keeps _ (by assumption)
      clear_value v7
      extract_lets +onlyGivenNames v9
      have h10 : Keeps a v9.2 := by
        unfold v9
        exact State.newId_keeps (by assumption)
      clear_value v9
      exact State.placeLine_keeps _ (by assumption)
theorem State.settleClash_keeps {a s : State} (h : Keeps a s) : Keeps a (State.settleClash s) := by
  unfold State.settleClash
  extract_lets +onlyGivenNames v1
  clear_value v1
  refine keeps_ite ?_ ?_
  · assumption
  · exact State.setBit_keeps _ _ (State.setTwin_keeps _ (by assumption))
theorem State.dropMirror_keeps {a s : State} (x2 : _) (h : Keeps a s) : Keeps a (State.dropMirror s x2) := by
  unfold State.dropMirror
  extract_lets +onlyGivenNames v1
  clear_value v1
  refine keeps_ite ?_ ?_
  · assumption
  · extract_lets +onlyGivenNames v2
    have h3 : Keeps a v2 := by
      unfold v2
      refine keeps_foldl ?_ ?_
      · assumption
      · intro u4 u5 u6
        beta_reduce
        exact State.discardPage_keeps _ _ (by assumption)
    clear_value v2
    extract_lets +onlyGivenNames v7
    clear_value v7
    extract_lets +onlyGivenNames v8
    have h9 : Keeps a v8 := by
      unfold v8
      exact keeps_upd (by assumption)
    clear_value v8
    exact State.stretchExit_keeps (State.raise_keeps _ (State.setUse_keeps (State.putRegion_keeps _ _ (by assumption))))
theorem State.unclash_keeps {a s : State} (x2 : _) (h : Keeps a s) : Keeps a (State.unclash s x2) := by
  unfold State.unclash
  split
  · assumption
  · extract_lets +onlyGivenNames v1
    clear_value v1
    extract_lets +onlyGivenNames v2
    clear_value v2
    extract_lets +onlyGivenNames v3
    clear_value v3
    extract_lets +onlyGivenNames v4
    have h5 : Keeps a v4 := by
      unfold v4
      exact keeps_upd (by assumption)
    clear_value v4
    refine keeps_ite ?_ ?_
    · assumption
    · exact State.setBit_keeps _ _ (State.setTwin_keeps _ (by assumption))
theorem State.takeEntry_keeps {a s : State} (x2 : _) (x3 : _) (h : Keeps a s) : Keeps a (State.takeEntry s x2 x3) := by
  unfold State.takeEntry
  extract_lets +onlyGivenNames v1
  clear_value v1
  extract_lets +onlyGivenNames v2
  have h3 : Keeps a v2 := by
    unfold v2
    exact State.setUse_keeps (State.putRegion_keeps _ _ (by assumption))
  clear_value v2
  extract_lets +onlyGivenNames v4
  have h5 : Keeps a v4 := by
    unfold v4
    refine keeps_foldl ?_ ?_
    · assumption
    · intro u6 u7 u8
      beta_reduce
      exact State.beginMeet_keeps _ _ (by assumption)
  clear_value v4
  refine keeps_ite ?_ ?_
  · assumption
  · exact State.raise_keeps _ (by assumption)
theorem State.applyRegion_keeps {a s : State} (x2 : _) (x3 : _) (h : Keeps a s) : Keeps a (State.applyRegion s x2 x3) := by
  unfold State.applyRegion
  extract_lets +onlyGivenNames v1
  clear_value v1
  extract_lets +onlyGivenNames v2
  have h3 : Keeps a v2 := by
    unfold v2
    exact State.unclash_keeps _ (by assumption)
  clear_value v2
  extract_lets +onlyGivenNames v4
  clear_value v4
  extract_lets +onlyGivenNames v5
  have h6 : Keeps a v5 := by
    unfold v5
    exact State.setTwin_keeps _ (by assumption)
  clear_value v5
  extract_lets +onlyGivenNames v7
  have h8 : Keeps a v7 := by
    unfold v7
    exact State.setBit_keeps _ _ (by assumption)
  clear_value v7
  refine keeps_ite ?_ ?_
  · exact State.dropMirror_keeps _ (by assumption)
  · refine keeps_ite ?_ ?_
    · extract_lets +onlyGivenNames v9
      have h10 : Keeps a v9 := by
        unfold v9
        exact State.dropMirror_keeps _ (by assumption)
      clear_value v9
      exact keeps_upd (by assumption)
    · refine keeps_ite ?_ ?_
      · assumption
      · extract_lets +onlyGivenNames v11
        clear_value v11
        refine keeps_ite ?_ ?_
        · extract_lets +onlyGivenNames v12
          clear_value v12
          extract_lets +onlyGivenNames v13
          clear_value v13
          extract_lets +onlyGivenNames v14
          have h15 : Keeps a v14 := by
            unfold v14
            exact State.setTwin_keeps _ (by assumption)
          clear_value v14
          extract_lets +onlyGivenNames v16
          have h17 : Keeps a v16 := by
            unfold v16
            exact State.setStale_keeps _ (by assumption)
          clear_value v16
          refine keeps_ite ?_ ?_
          · assumption
          · exact State.raise_keeps _ (State.setBit_keeps _ _ (by assumption))
        · exact State.takeEntry_keeps _ _ (by assumption)
theorem State.applyNote_keeps {a s : State} (x2 : _) (h : Keeps a s) : Keeps a (State.applyNote s x2) := by
  unfold State.applyNote
  extract_lets +onlyGivenNames v1
  clear_value v1
  split
  · extract_lets +onlyGivenNames v2
    clear_value v2
    extract_lets +onlyGivenNames v3
    clear_value v3
    extract_lets +onlyGivenNames v4
    clear_value v4
    exact State.setTwin_keeps _ (by assumption)
  · extract_lets +onlyGivenNames v5
    clear_value v5
    exact State.setPage_keeps _ _ (by assumption)
  · exact State.applyRegion_keeps _ _ (by assumption)
  · assumption
theorem State.rxLoop_keeps {a s : State} (x2 : _) (h : Keeps a s) : Keeps a (State.rxLoop s x2) := by
  unfold State.rxLoop
  split
  · assumption
  · extract_lets +onlyGivenNames v1
    clear_value v1
    refine keeps_ite ?_ ?_
    · assumption
    · split
      · exact State.rxLoop_keeps _ (State.applyNote_keeps _ (State.setTwin_keeps _ (by assumption)))
      · split
        · exact State.rxLoop_keeps _ (State.landMirror_keeps _ (State.setTwin_keeps _ (by assumption)))
        · assumption
theorem State.rxRun_keeps {a s : State} (h : Keeps a s) : Keeps a (State.rxRun s) := by
  unfold State.rxRun
  exact State.rxLoop_keeps _ (by assumption)
theorem State.mirrorIn_keeps {a s : State} (x2 : _) (x3 : _) (h : Keeps a s) : Keeps a (State.mirrorIn s x2 x3) := by
  unfold State.mirrorIn
  extract_lets +onlyGivenNames v1
  clear_value v1
  extract_lets +onlyGivenNames v2
  clear_value v2
  extract_lets +onlyGivenNames v3
  clear_value v3
  extract_lets +onlyGivenNames v4
  have h5 : Keeps a v4 := by
    unfold v4
    exact State.setTwin_keeps _ (by assumption)
  clear_value v4
  refine keeps_ite ?_ ?_
  · assumption
  · exact State.rxRun_keeps (by assumption)
theorem State.mirrorAckSend_keeps {a s : State} (h : Keeps a s) : Keeps a (State.mirrorAckSend s) := by
  unfold State.mirrorAckSend
  refine keeps_ite ?_ ?_
  · assumption
  · extract_lets +onlyGivenNames v1
    clear_value v1
    extract_lets +onlyGivenNames v2
    clear_value v2
    exact State.twinSend_keeps _ _ _ (by assumption)
theorem State.applyResync_keeps {a s : State} (x2 : _) (x3 : _) (x4 : _) (x5 : _) (h : Keeps a s) : Keeps a (State.applyResync s x2 x3 x4 x5) := by
  unfold State.applyResync
  extract_lets +onlyGivenNames v1
  clear_value v1
  extract_lets +onlyGivenNames v2
  clear_value v2
  extract_lets +onlyGivenNames v3
  have h4 : Keeps a v3 := by
    unfold v3
    exact State.dropStaged_keeps _ (State.dropHot_keeps _ (by assumption))
  clear_value v3
  extract_lets +onlyGivenNames v5
  clear_value v5
  extract_lets +onlyGivenNames v6
  have h7 : Keeps a v6 := by
    unfold v6
    exact keeps_upd (by assumption)
  clear_value v6
  extract_lets +onlyGivenNames v8
  have h9 : Keeps a v8 := by
    unfold v8
    exact State.fillDram_keeps _ _ _ (by assumption)
  clear_value v8
  extract_lets +onlyGivenNames v10
  clear_value v10
  extract_lets +onlyGivenNames v11
  have h12 : Keeps a v11 := by
    unfold v11
    exact State.setPage_keeps _ _ (by assumption)
  clear_value v11
  extract_lets +onlyGivenNames v13
  clear_value v13
  extract_lets +onlyGivenNames v14
  clear_value v14
  extract_lets +onlyGivenNames v15
  have h16 : Keeps a v15 := by
    unfold v15
    exact State.poisonLines_keeps _ (State.unpoisonPage_keeps _ (by assumption))
  clear_value v15
  extract_lets +onlyGivenNames v17
  clear_value v17
  extract_lets +onlyGivenNames v18
  have h19 : Keeps a v18 := by
    unfold v18
    refine keeps_foldl ?_ ?_
    · assumption
    · intro u20 u21 u22
      beta_reduce
      exact State.writeCopies_keeps _ _ _ (State.storePoison_keeps _ _ _ (by assumption))
  clear_value v18
  refine keeps_ite ?_ ?_
  · assumption
  · refine keeps_ite ?_ ?_
    · exact State.admitPage_keeps _ _ (by assumption)
    · exact State.oweWt_keeps _ (by assumption)
theorem State.applyCtl_keeps {a s : State} (x2 : _) (h : Keeps a s) : Keeps a (State.applyCtl s x2) := by
  unfold State.applyCtl
  extract_lets +onlyGivenNames v1
  clear_value v1
  split
  · extract_lets +onlyGivenNames v2
    clear_value v2
    extract_lets +onlyGivenNames v3
    clear_value v3
    split
    · extract_lets +onlyGivenNames v4
      clear_value v4
      extract_lets +onlyGivenNames v5
      clear_value v5
      extract_lets +onlyGivenNames v6
      have h7 : Keeps a v6 := by
        unfold v6
        exact State.setTwin_keeps _ (by assumption)
      clear_value v6
      split
      · refine keeps_ite ?_ ?_
        · assumption
        · exact State.applyResync_keeps _ _ _ _ (by assumption)
      · assumption
    · exact State.setTwin_keeps _ (by assumption)
  · extract_lets +onlyGivenNames v8
    clear_value v8
    exact State.setTwin_keeps _ (by assumption)
  · extract_lets +onlyGivenNames v9
    clear_value v9
    extract_lets +onlyGivenNames v10
    clear_value v10
    extract_lets +onlyGivenNames v11
    have h12 : Keeps a v11 := by
      unfold v11
      exact State.setStale_keeps _ (by assumption)
    clear_value v11
    extract_lets +onlyGivenNames v13
    clear_value v13
    exact State.settleAcks_keeps (keeps_upd (by assumption))
  · extract_lets +onlyGivenNames v14
    clear_value v14
    exact State.setReh_keeps _ (by assumption)
  · extract_lets +onlyGivenNames v15
    clear_value v15
    refine keeps_ite ?_ ?_
    · assumption
    · extract_lets +onlyGivenNames v16
      have h17 : Keeps a v16 := by
        unfold v16
        exact State.setReh_keeps _ (by assumption)
      clear_value v16
      refine keeps_ite ?_ ?_
      · exact State.rehFinish_keeps (by assumption)
      · assumption
  · assumption
theorem State.noteIn_keeps {a s : State} (x2 : _) (h : Keeps a s) : Keeps a (State.noteIn s x2) := by
  unfold State.noteIn
  extract_lets +onlyGivenNames v1
  clear_value v1
  extract_lets +onlyGivenNames v2
  clear_value v2
  refine keeps_ite ?_ ?_
  · assumption
  · extract_lets +onlyGivenNames v3
    clear_value v3
    extract_lets +onlyGivenNames v4
    have h5 : Keeps a v4 := by
      unfold v4
      exact State.setTwin_keeps _ (by assumption)
    clear_value v4
    refine keeps_ite ?_ ?_
    · assumption
    · exact State.rxRun_keeps (by assumption)
theorem State.sampleW_keeps {a s : State} (x2 : _) (h : Keeps a s) : Keeps a (State.sampleW s x2) := by
  unfold State.sampleW
  extract_lets +onlyGivenNames v1
  clear_value v1
  extract_lets +onlyGivenNames v2
  clear_value v2
  exact State.fset_keeps _ _ (State.setTwin_keeps _ (by assumption))
theorem State.fwdResp_keeps {a s : State} (x2 : _) (h : Keeps a s) : Keeps a (State.fwdResp s x2) := by
  unfold State.fwdResp
  extract_lets +onlyGivenNames v1
  clear_value v1
  split
  · assumption
  · refine keeps_ite ?_ ?_
    · refine keeps_ite ?_ ?_
      · assumption
      · exact State.setTwin_keeps _ (by assumption)
    · extract_lets +onlyGivenNames v2
      clear_value v2
      extract_lets +onlyGivenNames v3
      have h4 : Keeps a v3 := by
        unfold v3
        exact State.setTwin_keeps _ (by assumption)
      clear_value v3
      extract_lets +onlyGivenNames v5
      clear_value v5
      extract_lets +onlyGivenNames v6
      clear_value v6
      extract_lets +onlyGivenNames v7
      clear_value v7
      split
      · extract_lets +onlyGivenNames v8
        clear_value v8
        extract_lets +onlyGivenNames v9
        clear_value v9
        extract_lets +onlyGivenNames v10
        clear_value v10
        refine keeps_ite ?_ ?_
        · exact State.sendPoison_keeps _ _ _ (by assumption)
        · exact State.sendDrs_keeps _ _ _ _ _ (by assumption)
      · refine keeps_ite ?_ ?_
        · assumption
        · exact State.sendNdr_keeps _ _ _ _ _ _ _ (by assumption)
      · refine keeps_ite ?_ ?_
        · assumption
        · exact State.sendNdr_keeps _ _ _ _ _ _ _ (by assumption)
      · exact State.complete_keeps _ _ _ _ _ _ (by assumption)
      · exact State.gotLine_keeps _ _ _ _ (by assumption)
      · exact State.coreGot_keeps _ _ _ _ _ (by assumption)
      · exact State.twinSupplied_keeps _ _ (by assumption)
      · assumption

end Sys2Proof.Machine
end

