-- ==== Sys2Proof/Laws/KeepsUte.lean ====
section
/-! SUPPORT. Every operation of UteRx, UteTx keeps what `Keeps` says. -/
namespace Sys2Proof.Machine
set_option Elab.async false

/-! ### UteRx.lean -/

theorem State.setUte_keeps {a s : State} (x2 : _) (h : Keeps a s) : Keeps a (State.setUte s x2) := by
  unfold State.setUte
  exact keeps_upd (by assumption)
theorem State.bumpUte_keeps {a s : State} (x2 : _) (h : Keeps a s) : Keeps a (State.bumpUte s x2) := by
  unfold State.bumpUte
  exact State.bumpAt_keeps _ _ _ _ (by assumption)
theorem State.setCtx_keeps {a s : State} (x2 : _) (x3 : _) (h : Keeps a s) : Keeps a (State.setCtx s x2 x3) := by
  unfold State.setCtx
  exact State.setUte_keeps _ (by assumption)
theorem State.setBerth_keeps {a s : State} (x2 : _) (x3 : _) (x4 : _) (h : Keeps a s) : Keeps a (State.setBerth s x2 x3 x4) := by
  unfold State.setBerth
  exact State.setUte_keeps _ (by assumption)
theorem State.closeBerth_keeps {a s : State} (x2 : _) (x3 : _) (h : Keeps a s) : Keeps a (State.closeBerth s x2 x3) := by
  unfold State.closeBerth
  extract_lets +onlyGivenNames v1
  clear_value v1
  exact State.setBerth_keeps _ _ _ (by assumption)
theorem State.expireBerth_keeps {a s : State} (x2 : _) (x3 : _) (h : Keeps a s) : Keeps a (State.expireBerth s x2 x3) := by
  unfold State.expireBerth
  extract_lets +onlyGivenNames v1
  clear_value v1
  refine keeps_ite ?_ ?_
  · exact State.raise_keeps _ (State.closeBerth_keeps _ _ (by assumption))
  · assumption
theorem State.leaseSweep_keeps {a s : State} (h : Keeps a s) : Keeps a (State.leaseSweep s) := by
  unfold State.leaseSweep
  refine keeps_ite ?_ ?_
  · assumption
  · refine keeps_foldl ?_ ?_
    · assumption
    · intro u1 u2 u3
      beta_reduce
      exact State.expireBerth_keeps _ _ (by assumption)
theorem State.renewBerth_keeps {a s : State} (x2 : _) (x3 : _) (h : Keeps a s) : Keeps a (State.renewBerth s x2 x3) := by
  unfold State.renewBerth
  extract_lets +onlyGivenNames v1
  clear_value v1
  refine keeps_ite ?_ ?_
  · exact State.setBerth_keeps _ _ _ (by assumption)
  · assumption
theorem State.touchCtx_keeps {a s : State} (x2 : _) (h : Keeps a s) : Keeps a (State.touchCtx s x2) := by
  unfold State.touchCtx
  extract_lets +onlyGivenNames v1
  clear_value v1
  extract_lets +onlyGivenNames v2
  clear_value v2
  extract_lets +onlyGivenNames v3
  clear_value v3
  exact State.setUte_keeps _ (by assumption)
theorem State.sendAck_keeps {a s : State} (x2 : _) (x3 : _) (x4 : _) (x5 : _) (h : Keeps a s) : Keeps a (State.sendAck s x2 x3 x4 x5) := by
  unfold State.sendAck
  extract_lets +onlyGivenNames v1
  have h2 : Keeps a v1.2 := by
    unfold v1
    exact State.answerHdr_keeps _ _ (by assumption)
  clear_value v1
  exact State.utSend_keeps _ _ _ _ _ (by assumption)
theorem State.sendNackAfter_keeps {a s : State} (x2 : _) (x3 : _) (x4 : _) (x5 : _) (h : Keeps a s) : Keeps a (State.sendNackAfter s x2 x3 x4 x5) := by
  unfold State.sendNackAfter
  extract_lets +onlyGivenNames v1
  have h2 : Keeps a v1.2 := by
    unfold v1
    exact State.answerHdr_keeps _ _ (by assumption)
  clear_value v1
  extract_lets +onlyGivenNames v3
  have h4 : Keeps a v3 := by
    unfold v3
    exact State.bumpUte_keeps _ (by assumption)
  clear_value v3
  extract_lets +onlyGivenNames v5
  have h6 : Keeps a v5 := by
    unfold v5
    refine keeps_ite ?_ ?_
    · exact State.bumpUte_keeps _ (by assumption)
    · assumption
  clear_value v5
  exact State.utSend_keeps _ _ _ _ _ (by assumption)
theorem State.sendNack_keeps {a s : State} (x2 : _) (x3 : _) (x4 : _) (h : Keeps a s) : Keeps a (State.sendNack s x2 x3 x4) := by
  unfold State.sendNack
  exact State.sendNackAfter_keeps _ _ _ _ (by assumption)
theorem State.utRx_keeps {a s : State} (x2 : _) (x3 : _) (x4 : _) (h : Keeps a s) (h4 : ∀ y0, Keeps a y0 → Keeps a (x4 y0)) : Keeps a (State.utRx s x2 x3 x4) := by
  unfold State.utRx
  extract_lets +onlyGivenNames v1
  clear_value v1
  extract_lets +onlyGivenNames v2
  clear_value v2
  refine keeps_ite ?_ ?_
  · assumption
  · refine keeps_ite ?_ ?_
    · exact State.bumpUte_keeps _ (by assumption)
    · refine keeps_ite ?_ ?_
      · assumption
      · refine keeps_ite ?_ ?_
        · refine keeps_ite ?_ ?_
          · assumption
          · exact State.sendNack_keeps _ _ _ (by assumption)
        · refine keeps_ite ?_ ?_
          · exact State.sendNack_keeps _ _ _ (by assumption)
          · apply h4
            assumption
theorem State.setShed_keeps {a s : State} (x2 : _) (h : Keeps a s) : Keeps a (State.setShed s x2) := by
  unfold State.setShed
  exact State.fset_keeps _ _ (State.setUte_keeps _ (by assumption))
theorem State.ctxFetch_keeps {a s : State} (x2 : _) (h : Keeps a s) : Keeps a (State.ctxFetch s x2).2 := by
  unfold State.ctxFetch
  extract_lets +onlyGivenNames v1
  have h2 : Keeps a v1.2 := by
    unfold v1
    exact State.quayAccess_keeps _ (by assumption)
  clear_value v1
  extract_lets +onlyGivenNames v3
  have h4 : Keeps a v3.2 := by
    unfold v3
    exact State.quayAccess_keeps _ (by assumption)
  clear_value v3
  assumption
theorem State.park_keeps {a s : State} (x2 : _) (h : Keeps a s) : Keeps a (State.park s x2) := by
  unfold State.park
  extract_lets +onlyGivenNames v1
  clear_value v1
  extract_lets +onlyGivenNames v2
  clear_value v2
  refine keeps_ite ?_ ?_
  · extract_lets +onlyGivenNames v3
    clear_value v3
    extract_lets +onlyGivenNames v4
    have h5 : Keeps a v4 := by
      unfold v4
      refine keeps_ite ?_ ?_
      · assumption
      · exact State.raise_keeps _ (State.setUte_keeps _ (by assumption))
    clear_value v4
    exact State.sendNack_keeps _ _ _ (by assumption)
  · extract_lets +onlyGivenNames v6
    clear_value v6
    extract_lets +onlyGivenNames v7
    have h8 : Keeps a v7 := by
      unfold v7
      exact State.setUte_keeps _ (by assumption)
    clear_value v7
    refine keeps_ite ?_ ?_
    · exact State.setShed_keeps _ (by assumption)
    · extract_lets +onlyGivenNames v9
      have h10 : Keeps a v9.2 := by
        unfold v9
        exact State.ctxFetch_keeps _ (by assumption)
      clear_value v9
      extract_lets +onlyGivenNames v11
      have h12 : Keeps a v11 := by
        unfold v11
        exact State.setShed_keeps _ (by assumption)
      clear_value v11
      exact State.bumpUte_keeps _ (State.setUte_keeps _ (by assumption))
theorem State.withCtx_keeps {a s : State} (x2 : _) (x3 : _) (x4 : _) (h : Keeps a s) (h4 : ∀ y0 y1, Keeps a y0 → Keeps a (x4 y0 y1)) : Keeps a (State.withCtx s x2 x3 x4) := by
  unfold State.withCtx
  extract_lets +onlyGivenNames v1
  clear_value v1
  refine keeps_ite ?_ ?_
  · exact State.sendNack_keeps _ _ _ (by assumption)
  · split
    · exact State.sendNackAfter_keeps _ _ _ _ (by assumption)
    · refine keeps_ite ?_ ?_
      · apply h4
        exact State.touchCtx_keeps _ (by assumption)
      · exact State.park_keeps _ (by assumption)
theorem State.dueRecord_keeps {a s : State} (x2 : _) (x3 : _) (x4 : _) (h : Keeps a s) : Keeps a (State.dueRecord s x2 x3 x4) := by
  unfold State.dueRecord
  exact State.setUte_keeps _ (by assumption)
theorem State.addCount_keeps {a s : State} (x2 : _) (h : Keeps a s) : Keeps a (State.addCount s x2) := by
  unfold State.addCount
  split
  · exact State.setCtx_keeps _ _ (by assumption)
  · assumption
theorem State.mctFloor_keeps {a s : State} (x2 : _) (x3 : _) (h : Keeps a s) : Keeps a (State.mctFloor s x2 x3) := by
  unfold State.mctFloor
  exact State.setUte_keeps _ (by assumption)
theorem State.withMct_keeps {a s : State} (x2 : _) (x3 : _) (x4 : _) (x5 : _) (x6 : _) (h : Keeps a s) (h5 : ∀ y0 y1, Keeps a y0 → Keeps a (x5 y0 y1)) (h6 : ∀ y0, Keeps a y0 → Keeps a (x6 y0)) : Keeps a (State.withMct s x2 x3 x4 x5 x6) := by
  unfold State.withMct
  extract_lets +onlyGivenNames v1
  clear_value v1
  extract_lets +onlyGivenNames v2
  have h3 : Keeps a v2 := by
    unfold v2
    exact State.mctFloor_keeps _ _ (by assumption)
  clear_value v2
  split
  · refine keeps_ite ?_ ?_
    · apply h5
      assumption
    · refine keeps_ite ?_ ?_
      · exact State.sendAck_keeps _ _ _ _ (by assumption)
      · apply h6
        assumption
  · refine keeps_ite ?_ ?_
    · exact State.sendNackAfter_keeps _ _ _ _ (by assumption)
    · apply h6
      exact State.setUte_keeps _ (by assumption)
theorem State.placeBytes_keeps {a s : State} (x2 : _) (x3 : _) (x4 : _) (x5 : _) (h : Keeps a s) : Keeps a (State.placeBytes s x2 x3 x4 x5).2 := by
  unfold State.placeBytes
  refine keeps_foldlFun ?_ ?_
  · assumption
  · intro u1 u2 u3
    beta_reduce
    split
    · assumption
    · extract_lets +onlyGivenNames v4
      have h5 : Keeps a v4.2 := by
        unfold v4
        exact State.newId_keeps (by assumption)
      clear_value v4
      assumption
theorem State.placed_keeps {a s : State} (x2 : _) (h : Keeps a s) : Keeps a (State.placed s x2) := by
  unfold State.placed
  extract_lets +onlyGivenNames v1
  clear_value v1
  split
  · exact State.sendAck_keeps _ _ _ _ (by assumption)
  · refine keeps_ite ?_ ?_
    · extract_lets +onlyGivenNames v2
      have h3 : Keeps a v2 := by
        unfold v2
        exact State.setMct_keeps _ _ _ (by assumption)
      clear_value v2
      exact State.atomicResp_keeps _ _ _ _ (by assumption)
    · extract_lets +onlyGivenNames v4
      clear_value v4
      extract_lets +onlyGivenNames v5
      clear_value v5
      refine keeps_ite ?_ ?_
      · exact State.sendAck_keeps _ _ _ _ (State.setMct_keeps _ _ _ (by assumption))
      · extract_lets +onlyGivenNames v6
        have h7 : Keeps a v6 := by
          unfold v6
          exact State.setMct_keeps _ _ _ (by assumption)
        clear_value v6
        extract_lets +onlyGivenNames v8
        clear_value v8
        extract_lets +onlyGivenNames v9
        have h10 : Keeps a v9 := by
          unfold v9
          refine keeps_ite ?_ ?_
          · exact State.addCount_keeps _ (by assumption)
          · assumption
        clear_value v9
        extract_lets +onlyGivenNames v11
        have h12 : Keeps a v11 := by
          unfold v11
          refine keeps_ite ?_ ?_
          · exact State.dueRecord_keeps _ _ _ (by assumption)
          · assumption
        clear_value v11
        exact State.sendAck_keeps _ _ _ _ (by assumption)
theorem State.endPlacing_keeps {a s : State} (x2 : _) (h : Keeps a s) : Keeps a (State.endPlacing s x2) := by
  unfold State.endPlacing
  exact State.placed_keeps _ (State.setUte_keeps _ (by assumption))
theorem State.serveWrite_keeps {a s : State} (x2 : _) (x3 : _) (x4 : _) (h : Keeps a s) : Keeps a (State.serveWrite s x2 x3 x4) := by
  unfold State.serveWrite
  extract_lets +onlyGivenNames v1
  clear_value v1
  extract_lets +onlyGivenNames v2
  clear_value v2
  refine keeps_ite ?_ ?_
  · exact State.sendNackAfter_keeps _ _ _ _ (by assumption)
  · extract_lets +onlyGivenNames v3
    have h4 : Keeps a v3 := by
      unfold v3
      exact State.expireBerth_keeps _ _ (by assumption)
    clear_value v3
    extract_lets +onlyGivenNames v5
    clear_value v5
    refine keeps_ite ?_ ?_
    · exact State.sendNackAfter_keeps _ _ _ _ (by assumption)
    · refine State.withMct_keeps _ _ _ _ _ ?_ ?_ ?_
      · assumption
      · intro u6 u7 u8
        beta_reduce
        exact State.sendAck_keeps _ _ _ _ (by assumption)
      · intro u9 u10
        beta_reduce
        extract_lets +onlyGivenNames v11
        clear_value v11
        extract_lets +onlyGivenNames v12
        have h13 : Keeps a v12.2 := by
          unfold v12
          exact State.placeBytes_keeps _ _ _ _ (by assumption)
        clear_value v12
        extract_lets +onlyGivenNames v14
        clear_value v14
        extract_lets +onlyGivenNames v15
        clear_value v15
        extract_lets +onlyGivenNames v16
        have h17 : Keeps a v16 := by
          unfold v16
          exact State.setUte_keeps _ (by assumption)
        clear_value v16
        extract_lets +onlyGivenNames v18
        have h19 : Keeps a v18 := by
          unfold v18
          refine keeps_foldl ?_ ?_
          · assumption
          · intro u20 u21 u22
            beta_reduce
            exact State.placeLine_keeps _ (by assumption)
        clear_value v18
        split
        · exact State.endPlacing_keeps _ (by assumption)
        · assumption
theorem State.beginOp_keeps {a s : State} (x2 : _) (x3 : _) (x4 : _) (x5 : _) (x6 : _) (h : Keeps a s) : Keeps a (State.beginOp s x2 x3 x4 x5 x6) := by
  unfold State.beginOp
  extract_lets +onlyGivenNames v1
  have h2 : Keeps a v1.2 := by
    unfold v1
    exact State.newId_keeps (by assumption)
  clear_value v1
  extract_lets +onlyGivenNames v3
  clear_value v3
  extract_lets +onlyGivenNames v4
  clear_value v4
  extract_lets +onlyGivenNames v5
  clear_value v5
  extract_lets +onlyGivenNames v6
  have h7 : Keeps a v6 := by
    unfold v6
    exact State.setUte_keeps _ (by assumption)
  clear_value v6
  refine keeps_foldl ?_ ?_
  · assumption
  · intro u8 u9 u10
    beta_reduce
    exact State.peerLine_keeps _ _ (by assumption)
theorem State.serveUtRead_keeps {a s : State} (x2 : _) (x3 : _) (x4 : _) (h : Keeps a s) : Keeps a (State.serveUtRead s x2 x3 x4) := by
  unfold State.serveUtRead
  extract_lets +onlyGivenNames v1
  clear_value v1
  extract_lets +onlyGivenNames v2
  have h3 : Keeps a v2 := by
    unfold v2
    exact State.expireBerth_keeps _ _ (by assumption)
  clear_value v2
  extract_lets +onlyGivenNames v4
  clear_value v4
  refine keeps_ite ?_ ?_
  · exact State.sendNackAfter_keeps _ _ _ _ (by assumption)
  · exact State.beginOp_keeps _ _ _ _ _ (by assumption)
theorem State.serveAtomic_keeps {a s : State} (x2 : _) (x3 : _) (x4 : _) (h : Keeps a s) : Keeps a (State.serveAtomic s x2 x3 x4) := by
  unfold State.serveAtomic
  extract_lets +onlyGivenNames v1
  clear_value v1
  refine keeps_ite ?_ ?_
  · exact State.sendNackAfter_keeps _ _ _ _ (by assumption)
  · extract_lets +onlyGivenNames v2
    have h3 : Keeps a v2 := by
      unfold v2
      exact State.expireBerth_keeps _ _ (by assumption)
    clear_value v2
    extract_lets +onlyGivenNames v4
    clear_value v4
    refine keeps_ite ?_ ?_
    · exact State.sendNackAfter_keeps _ _ _ _ (by assumption)
    · refine State.withMct_keeps _ _ _ _ _ ?_ ?_ ?_
      · assumption
      · intro u5 u6 u7
        beta_reduce
        exact State.atomicResp_keeps _ _ _ _ (by assumption)
      · intro u8 u9
        beta_reduce
        refine keeps_ite ?_ ?_
        · assumption
        · exact State.beginOp_keeps _ _ _ _ _ (by assumption)
theorem State.serveFlush_keeps {a s : State} (x2 : _) (x3 : _) (h : Keeps a s) : Keeps a (State.serveFlush s x2 x3) := by
  unfold State.serveFlush
  extract_lets +onlyGivenNames v1
  clear_value v1
  extract_lets +onlyGivenNames v2
  clear_value v2
  extract_lets +onlyGivenNames v3
  clear_value v3
  exact State.setUte_keeps _ (by assumption)
theorem State.flushAnswer_keeps {a s : State} (x2 : _) (h : Keeps a s) : Keeps a (State.flushAnswer s x2) := by
  unfold State.flushAnswer
  split
  · assumption
  · exact State.sendAck_keeps _ _ _ _ (State.setUte_keeps _ (by assumption))
theorem State.serveCtx_keeps {a s : State} (x2 : _) (x3 : _) (x4 : _) (h : Keeps a s) : Keeps a (State.serveCtx s x2 x3 x4) := by
  unfold State.serveCtx
  split
  · exact State.serveWrite_keeps _ _ _ (by assumption)
  · exact State.serveUtRead_keeps _ _ _ (by assumption)
  · exact State.serveAtomic_keeps _ _ _ (by assumption)
  · exact State.serveAtomic_keeps _ _ _ (by assumption)
  · exact State.serveFlush_keeps _ _ (by assumption)
  · assumption
theorem State.utRequest_keeps {a s : State} (x2 : _) (x3 : _) (h : Keeps a s) : Keeps a (State.utRequest s x2 x3) := by
  unfold State.utRequest
  refine State.utRx_keeps _ _ _ ?_ ?_
  · assumption
  · intro u1 u2
    beta_reduce
    refine State.withCtx_keeps _ _ _ ?_ ?_
    · assumption
    · intro u3 u4 u5
      beta_reduce
      exact State.serveCtx_keeps _ _ _ (by assumption)
theorem State.ctxFetched_keeps {a s : State} (x2 : _) (h : Keeps a s) : Keeps a (State.ctxFetched s x2) := by
  unfold State.ctxFetched
  refine keeps_ite ?_ ?_
  · assumption
  · extract_lets +onlyGivenNames v1
    clear_value v1
    extract_lets +onlyGivenNames v2
    have h3 : Keeps a v2 := by
      unfold v2
      exact State.setShed_keeps _ (by assumption)
    clear_value v2
    extract_lets +onlyGivenNames v4
    clear_value v4
    extract_lets +onlyGivenNames v5
    have h6 : Keeps a v5 := by
      unfold v5
      exact State.touchCtx_keeps _ (State.setUte_keeps _ (by assumption))
    clear_value v5
    refine keeps_foldl ?_ ?_
    · assumption
    · intro u7 u8 u9
      beta_reduce
      refine State.withCtx_keeps _ _ _ ?_ ?_
      · assumption
      · intro u10 u11 u12
        beta_reduce
        exact State.serveCtx_keeps _ _ _ (by assumption)
theorem State.fillGot_keeps {a s : State} (x2 : _) (h : Keeps a s) : Keeps a (State.fillGot s x2).2 := by
  unfold State.fillGot
  split
  · assumption
  · extract_lets +onlyGivenNames v1
    have h2 : Keeps a v1.2 := by
      unfold v1
      exact State.free_keeps _ (by assumption)
    clear_value v1
    extract_lets +onlyGivenNames v3
    have h4 : Keeps a v3.2 := by
      unfold v3
      split
      · assumption
      · assumption
    clear_value v3
    extract_lets +onlyGivenNames v5
    have h6 : Keeps a v5.2 := by
      unfold v5
      exact State.fillGot_keeps _ (by assumption)
    clear_value v5
    assumption
theorem State.readResp_keeps {a s : State} (x2 : _) (x3 : _) (x4 : _) (x5 : _) (h : Keeps a s) : Keeps a (State.readResp s x2 x3 x4 x5) := by
  unfold State.readResp
  extract_lets +onlyGivenNames v1
  clear_value v1
  extract_lets +onlyGivenNames v2
  have h3 : Keeps a v2.2 := by
    unfold v2
    exact State.answerHdr_keeps _ _ (by assumption)
  clear_value v2
  exact State.utSend_keeps _ _ _ _ _ (by assumption)
theorem State.readDone_keeps {a s : State} (x2 : _) (h : Keeps a s) : Keeps a (State.readDone s x2) := by
  unfold State.readDone
  extract_lets +onlyGivenNames v1
  clear_value v1
  extract_lets +onlyGivenNames v2
  have h3 : Keeps a v2.2 := by
    unfold v2
    exact State.fillGot_keeps _ (State.dropOp_keeps _ (by assumption))
  clear_value v2
  extract_lets +onlyGivenNames v4
  have h5 : Keeps a v4 := by
    unfold v4
    assumption
  refine keeps_foldl ?_ ?_
  · assumption
  · intro u6 u7 u8
    beta_reduce
    extract_lets +onlyGivenNames v9
    clear_value v9
    refine keeps_ite ?_ ?_
    · exact State.readResp_keeps _ _ _ _ (State.readResp_keeps _ _ _ _ (by assumption))
    · exact State.readResp_keeps _ _ _ _ (by assumption)
theorem State.mctExpire_keeps {a s : State} (x2 : _) (x3 : _) (x4 : _) (x5 : _) (h : Keeps a s) : Keeps a (State.mctExpire s x2 x3 x4 x5) := by
  unfold State.mctExpire
  split
  · assumption
  · refine keeps_ite ?_ ?_
    · assumption
    · exact State.countSlots_keeps (State.setUte_keeps _ (by assumption))
theorem State.utProbe_keeps {a s : State} (x2 : _) (h : Keeps a s) : Keeps a (State.utProbe s x2) := by
  unfold State.utProbe
  refine State.utRx_keeps _ _ _ ?_ ?_
  · assumption
  · intro u1 u2
    beta_reduce
    exact State.sendAck_keeps _ _ _ _ (by assumption)
theorem State.twinRx_keeps {a s : State} (x2 : _) (x3 : _) (x4 : _) (h : Keeps a s) (h4 : ∀ y0, Keeps a y0 → Keeps a (x4 y0)) : Keeps a (State.twinRx s x2 x3 x4) := by
  unfold State.twinRx
  refine State.utRx_keeps _ _ _ ?_ ?_
  · assumption
  · intro u1 u2
    beta_reduce
    refine keeps_ite ?_ ?_
    · apply h4
      assumption
    · refine keeps_ite ?_ ?_
      · assumption
      · exact State.sendNack_keeps _ _ _ (by assumption)
theorem State.utCtl_keeps {a s : State} (x2 : _) (x3 : _) (h : Keeps a s) : Keeps a (State.utCtl s x2 x3) := by
  unfold State.utCtl
  refine State.twinRx_keeps _ _ _ ?_ ?_
  · assumption
  · intro u1 u2
    beta_reduce
    refine keeps_ite ?_ ?_
    · assumption
    · refine keeps_ite ?_ ?_
      · exact State.noteIn_keeps _ (by assumption)
      · exact State.sendAck_keeps _ _ _ _ (State.applyCtl_keeps _ (by assumption))
theorem State.twinSample_keeps {a s : State} (x2 : _) (h : Keeps a s) : Keeps a (State.twinSample s x2) := by
  unfold State.twinSample
  refine keeps_ite ?_ ?_
  · exact State.sampleW_keeps _ (by assumption)
  · assumption
theorem State.utFwdReq_keeps {a s : State} (x2 : _) (h : Keeps a s) : Keeps a (State.utFwdReq s x2) := by
  unfold State.utFwdReq
  refine State.twinRx_keeps _ _ _ ?_ ?_
  · assumption
  · intro u1 u2
    beta_reduce
    extract_lets +onlyGivenNames v3
    clear_value v3
    extract_lets +onlyGivenNames v4
    clear_value v4
    refine keeps_ite ?_ ?_
    · exact State.runFwd_keeps _ _ _ _ _ _ (by assumption)
    · extract_lets +onlyGivenNames v5
      clear_value v5
      extract_lets +onlyGivenNames v6
      clear_value v6
      extract_lets +onlyGivenNames v7
      have hf8 : ∀ y0 y1, Keeps a y0 → Keeps a (v7 y0 y1) := by
        intro u9 u10 u11
        unfold v7
        exact State.twinSend_keeps _ _ _ (by assumption)
      clear_value v7
      split
      · apply hf8
        assumption
      · extract_lets +onlyGivenNames v12
        clear_value v12
        refine keeps_ite ?_ ?_
        · apply hf8
          assumption
        · split
          · refine keeps_ite ?_ ?_
            · apply hf8
              assumption
            · assumption
          · extract_lets +onlyGivenNames v13
            clear_value v13
            extract_lets +onlyGivenNames v14
            clear_value v14
            extract_lets +onlyGivenNames v15
            have h16 : Keeps a v15.2 := by
              unfold v15
              exact State.newId_keeps (State.setUte_keeps _ (by assumption))
            clear_value v15
            exact State.placeLine_keeps _ (by assumption)
theorem State.fwdAcked_keeps {a s : State} (x2 : _) (h : Keeps a s) : Keeps a (State.fwdAcked s x2) := by
  unfold State.fwdAcked
  extract_lets +onlyGivenNames v1
  clear_value v1
  extract_lets +onlyGivenNames v2
  have h3 : Keeps a v2 := by
    unfold v2
    exact keeps_upd (by assumption)
  clear_value v2
  extract_lets +onlyGivenNames v4
  clear_value v4
  extract_lets +onlyGivenNames v5
  clear_value v5
  extract_lets +onlyGivenNames v6
  have h7 : Keeps a v6 := by
    unfold v6
    exact State.setUte_keeps _ (by assumption)
  clear_value v6
  exact State.twinSend_keeps _ _ _ (by assumption)
theorem State.utCmd_keeps {a s : State} (x2 : _) (x3 : _) (h : Keeps a s) (h3 : ∀ y0 y1 y2, Keeps a y0 → Keeps a (x3 y0 y1 y2)) : Keeps a (State.utCmd s x2 x3) := by
  unfold State.utCmd
  refine State.utRx_keeps _ _ _ ?_ ?_
  · assumption
  · intro u1 u2
    beta_reduce
    extract_lets +onlyGivenNames v3
    clear_value v3
    refine keeps_ite ?_ ?_
    · exact State.sendNack_keeps _ _ _ (by assumption)
    · refine keeps_ite ?_ ?_
      · exact State.sendNack_keeps _ _ _ (by assumption)
      · refine State.withMct_keeps _ _ _ _ _ ?_ ?_ ?_
        · assumption
        · intro u4 u5 u6
          beta_reduce
          exact State.sendAck_keeps _ _ _ _ (by assumption)
        · intro u7 u8
          beta_reduce
          extract_lets +onlyGivenNames v9
          clear_value v9
          extract_lets +onlyGivenNames v10
          clear_value v10
          extract_lets +onlyGivenNames v11
          clear_value v11
          extract_lets +onlyGivenNames v12
          clear_value v12
          extract_lets +onlyGivenNames v13
          clear_value v13
          refine keeps_ite ?_ ?_
          · exact State.sendAck_keeps _ _ _ _ (State.countSlots_keeps (State.setUte_keeps _ (State.setMct_keeps _ _ _ (by assumption))))
          · extract_lets +onlyGivenNames v14
            have h15 : Keeps a v14 := by
              unfold v14
              exact State.setMct_keeps _ _ _ (by assumption)
            clear_value v14
            extract_lets +onlyGivenNames v16
            clear_value v16
            extract_lets +onlyGivenNames v17
            have h18 : Keeps a v17 := by
              unfold v17
              exact State.sendAck_keeps _ _ _ _ (State.countSlots_keeps (State.setUte_keeps _ (by assumption)))
            clear_value v17
            extract_lets +onlyGivenNames v19
            clear_value v19
            apply h3
            assumption
/-! ### UteTx.lean -/

theorem State.cacheDest_keeps {a s : State} (x2 : _) (h : Keeps a s) : Keeps a (State.cacheDest s x2).2 := by
  unfold State.cacheDest
  split
  · dsimp only
    exact State.setUte_keeps _ (by assumption)
  · extract_lets +onlyGivenNames v1
    clear_value v1
    extract_lets +onlyGivenNames v2
    clear_value v2
    dsimp only
    exact State.setUte_keeps _ (by assumption)
theorem State.setDestState_keeps {a s : State} (x2 : _) (h : Keeps a s) : Keeps a (State.setDestState s x2) := by
  unfold State.setDestState
  exact State.setUte_keeps _ (by assumption)
theorem State.setPath_keeps {a s : State} (x2 : _) (x3 : _) (x4 : _) (h : Keeps a s) : Keeps a (State.setPath s x2 x3 x4) := by
  unfold State.setPath
  extract_lets +onlyGivenNames v1
  have h2 : Keeps a v1.2 := by
    unfold v1
    exact State.cacheDest_keeps _ (by assumption)
  clear_value v1
  exact State.setDestState_keeps _ (by assumption)
theorem State.choosePath_keeps {a s : State} (x2 : _) (x3 : _) (x4 : _) (h : Keeps a s) : Keeps a (State.choosePath s x2 x3 x4).2 := by
  unfold State.choosePath
  split
  · assumption
  · extract_lets +onlyGivenNames v1
    have h2 : Keeps a v1.2 := by
      unfold v1
      exact State.cacheDest_keeps _ (by assumption)
    clear_value v1
    extract_lets +onlyGivenNames v3
    clear_value v3
    extract_lets +onlyGivenNames v4
    have h5 : Keeps a v4 := by
      unfold v4
      assumption
    refine keeps_ite2 ?_ ?_
    · assumption
    · extract_lets +onlyGivenNames v6
      clear_value v6
      extract_lets +onlyGivenNames v7
      clear_value v7
      refine keeps_ite2 ?_ ?_
      · assumption
      · assumption
theorem State.ccAnswer_keeps {a s : State} (x2 : _) (x3 : _) (x4 : _) (h : Keeps a s) : Keeps a (State.ccAnswer s x2 x3 x4) := by
  unfold State.ccAnswer
  extract_lets +onlyGivenNames v1
  clear_value v1
  extract_lets +onlyGivenNames v2
  clear_value v2
  extract_lets +onlyGivenNames v3
  have h4 : Keeps a v3.2 := by
    unfold v3
    exact State.cacheDest_keeps _ (by assumption)
  clear_value v3
  extract_lets +onlyGivenNames v5
  clear_value v5
  extract_lets +onlyGivenNames v6
  have h7 : Keeps a v6 := by
    unfold v6
    assumption
  extract_lets +onlyGivenNames v8
  extract_lets +onlyGivenNames v9
  clear_value v9
  extract_lets +onlyGivenNames v10
  clear_value v10
  extract_lets +onlyGivenNames v11
  have h12 : Keeps a v11 := by
    unfold v11
    exact State.setDestState_keeps _ (by assumption)
  clear_value v11
  exact State.setPath_keeps _ _ _ (by assumption)
theorem State.ccTimeout_keeps {a s : State} (x2 : _) (x3 : _) (h : Keeps a s) : Keeps a (State.ccTimeout s x2 x3) := by
  unfold State.ccTimeout
  extract_lets +onlyGivenNames v1
  clear_value v1
  extract_lets +onlyGivenNames v2
  clear_value v2
  extract_lets +onlyGivenNames v3
  have h4 : Keeps a v3 := by
    unfold v3
    exact State.setPath_keeps _ _ _ (by assumption)
  clear_value v3
  refine keeps_ite ?_ ?_
  · exact State.raise_keeps _ (by assumption)
  · assumption
theorem State.waitLoop_keeps {a s : State} (x2 : _) (h : Keeps a s) : Keeps a (State.waitLoop s x2) := by
  unfold State.waitLoop
  split
  · assumption
  · split
    · exact State.fset_keeps _ _ (by assumption)
    · extract_lets +onlyGivenNames v1
      clear_value v1
      extract_lets +onlyGivenNames v2
      have h3 : Keeps a v2 := by
        unfold v2
        exact State.addCount_keeps _ (State.setUte_keeps _ (by assumption))
      clear_value v2
      extract_lets +onlyGivenNames v4
      have h5 : Keeps a v4 := by
        unfold v4
        refine keeps_ite ?_ ?_
        · assumption
        · exact State.dueRecord_keeps _ _ _ (by assumption)
      clear_value v4
      exact State.waitLoop_keeps _ (by assumption)
theorem State.runWaits_keeps {a s : State} (h : Keeps a s) : Keeps a (State.runWaits s) := by
  unfold State.runWaits
  exact State.waitLoop_keeps _ (by assumption)
theorem State.completeDesc_keeps {a s : State} (x2 : _) (x3 : _) (x4 : _) (x5 : _) (x6 : _) (x7 : _) (x8 : _) (h : Keeps a s) : Keeps a (State.completeDesc s x2 x3 x4 x5 x6 x7 x8) := by
  unfold State.completeDesc
  extract_lets +onlyGivenNames v1
  have h2 : Keeps a v1 := by
    unfold v1
    exact State.addCount_keeps _ (by assumption)
  clear_value v1
  extract_lets +onlyGivenNames v3
  have h4 : Keeps a v3 := by
    unfold v3
    refine keeps_ite ?_ ?_
    · exact State.dueRecord_keeps _ _ _ (by assumption)
    · assumption
  clear_value v3
  exact State.runWaits_keeps (by assumption)
theorem State.notify_keeps {a s : State} (x2 : _) (h : Keeps a s) : Keeps a (State.notify s x2) := by
  unfold State.notify
  split
  · assumption
  · split
    · refine keeps_ite ?_ ?_
      · exact State.emit_keeps _ (by assumption)
      · assumption
    · exact State.raise_keeps _ (by assumption)
    · assumption
theorem State.writeDue_keeps {a s : State} (x2 : _) (h : Keeps a s) : Keeps a (State.writeDue s x2) := by
  unfold State.writeDue
  extract_lets +onlyGivenNames v1
  clear_value v1
  split
  · exact State.setUte_keeps _ (by assumption)
  · extract_lets +onlyGivenNames v2
    clear_value v2
    extract_lets +onlyGivenNames v3
    have h4 : Keeps a v3 := by
      unfold v3
      exact State.setUte_keeps _ (by assumption)
    clear_value v3
    extract_lets +onlyGivenNames v5
    have h6 : Keeps a v5 := by
      unfold v5
      exact State.setCtx_keeps _ _ (by assumption)
    clear_value v5
    extract_lets +onlyGivenNames v7
    have h8 : Keeps a v7.2 := by
      unfold v7
      exact State.placeBytes_keeps _ _ _ _ (by assumption)
    clear_value v7
    extract_lets +onlyGivenNames v9
    have h10 : Keeps a v9 := by
      unfold v9
      refine keeps_foldl ?_ ?_
      · assumption
      · intro u11 u12 u13
        beta_reduce
        exact State.placeLine_keeps _ (by assumption)
    clear_value v9
    refine keeps_ite ?_ ?_
    · exact State.notify_keeps _ (by assumption)
    · assumption
theorem State.addMsg_keeps {a s : State} (x2 : _) (x3 : _) (x4 : _) (h : Keeps a s) : Keeps a (State.addMsg s x2 x3 x4) := by
  unfold State.addMsg
  split
  · assumption
  · extract_lets +onlyGivenNames v1
    clear_value v1
    extract_lets +onlyGivenNames v2
    clear_value v2
    extract_lets +onlyGivenNames v3
    clear_value v3
    extract_lets +onlyGivenNames v4
    clear_value v4
    extract_lets +onlyGivenNames v5
    have h6 : Keeps a v5 := by
      unfold v5
      exact State.setCtx_keeps _ _ (by assumption)
    clear_value v5
    exact State.setUte_keeps _ (by assumption)
theorem State.splitLoop_keeps {a s : State} (x2 : _) (x3 : _) (x4 : _) (h : Keeps a s) : Keeps a (State.splitLoop s x2 x3 x4) := by
  unfold State.splitLoop
  split
  · assumption
  · split
    · assumption
    · extract_lets +onlyGivenNames v1
      clear_value v1
      refine keeps_ite ?_ ?_
      · assumption
      · exact State.splitLoop_keeps _ _ _ (State.addMsg_keeps _ _ _ (by assumption))
theorem State.landTx_keeps {a s : State} (x2 : _) (h : Keeps a s) : Keeps a (State.landTx s x2) := by
  unfold State.landTx
  refine keeps_ite ?_ ?_
  · exact State.setPath_keeps _ _ _ (by assumption)
  · assumption
theorem State.endMsg_keeps {a s : State} (x2 : _) (x3 : _) (x4 : _) (h : Keeps a s) : Keeps a (State.endMsg s x2 x3 x4) := by
  unfold State.endMsg
  extract_lets +onlyGivenNames v1
  clear_value v1
  extract_lets +onlyGivenNames v2
  have h3 : Keeps a v2 := by
    unfold v2
    refine keeps_foldl ?_ ?_
    · assumption
    · intro u4 u5 u6
      beta_reduce
      exact State.landTx_keeps _ (by assumption)
  clear_value v2
  extract_lets +onlyGivenNames v7
  clear_value v7
  extract_lets +onlyGivenNames v8
  have h9 : Keeps a v8 := by
    unfold v8
    exact State.setUte_keeps _ (by assumption)
  clear_value v8
  split
  · assumption
  · extract_lets +onlyGivenNames v10
    clear_value v10
    extract_lets +onlyGivenNames v11
    clear_value v11
    extract_lets +onlyGivenNames v12
    have h13 : Keeps a v12 := by
      unfold v12
      exact State.setUte_keeps _ (by assumption)
    clear_value v12
    refine keeps_ite ?_ ?_
    · extract_lets +onlyGivenNames v14
      clear_value v14
      extract_lets +onlyGivenNames v15
      clear_value v15
      extract_lets +onlyGivenNames v16
      have h17 : Keeps a v16 := by
        unfold v16
        refine keeps_foldl ?_ ?_
        · assumption
        · intro u18 u19 u20
          beta_reduce
          exact State.landTx_keeps _ (by assumption)
      clear_value v16
      extract_lets +onlyGivenNames v21
      clear_value v21
      extract_lets +onlyGivenNames v22
      have h23 : Keeps a v22 := by
        unfold v22
        exact State.setUte_keeps _ (by assumption)
      clear_value v22
      exact State.completeDesc_keeps _ _ _ _ _ _ _ (by assumption)
    · extract_lets +onlyGivenNames v24
      have h25 : Keeps a v24 := by
        unfold v24
        exact State.splitLoop_keeps _ _ _ (by assumption)
      clear_value v24
      extract_lets +onlyGivenNames v26
      clear_value v26
      split
      · assumption
      · refine keeps_ite ?_ ?_
        · assumption
        · extract_lets +onlyGivenNames v27
          clear_value v27
          extract_lets +onlyGivenNames v28
          have h29 : Keeps a v28 := by
            unfold v28
            exact State.setUte_keeps _ (by assumption)
          clear_value v28
          exact State.completeDesc_keeps _ _ _ _ _ _ _ (by assumption)
theorem State.abandon_keeps {a s : State} (x2 : _) (h : Keeps a s) : Keeps a (State.abandon s x2) := by
  unfold State.abandon
  exact State.endMsg_keeps _ _ _ (State.raise_keeps _ (State.bumpUte_keeps _ (by assumption)))
theorem State.setTx_keeps {a s : State} (x2 : _) (h : Keeps a s) : Keeps a (State.setTx s x2) := by
  unfold State.setTx
  exact State.setUte_keeps _ (by assumption)
theorem State.setMsg_keeps {a s : State} (x2 : _) (h : Keeps a s) : Keeps a (State.setMsg s x2) := by
  unfold State.setMsg
  exact State.setUte_keeps _ (by assumption)
theorem State.doneTx_keeps {a s : State} (x2 : _) (h : Keeps a s) : Keeps a (State.doneTx s x2) := by
  unfold State.doneTx
  extract_lets +onlyGivenNames v1
  have h2 : Keeps a v1 := by
    unfold v1
    exact State.landTx_keeps _ (by assumption)
  clear_value v1
  exact State.setUte_keeps _ (by assumption)
theorem State.readLines_keeps {a s : State} (x2 : _) (h : Keeps a s) : Keeps a (State.readLines s x2).2 := by
  unfold State.readLines
  split
  · assumption
  · extract_lets +onlyGivenNames v1
    have h2 : Keeps a v1.2 := by
      unfold v1
      exact State.free_keeps _ (by assumption)
    clear_value v1
    extract_lets +onlyGivenNames v3
    have h4 : Keeps a v3.2 := by
      unfold v3
      refine keeps_ite2 ?_ ?_
      · assumption
      · assumption
    clear_value v3
    extract_lets +onlyGivenNames v5
    have h6 : Keeps a v5.2 := by
      unfold v5
      exact State.readLines_keeps _ (by assumption)
    clear_value v5
    assumption
theorem State.emitTx_keeps {a s : State} (x2 : _) (x3 : _) (x4 : _) (h : Keeps a s) : Keeps a (State.emitTx s x2 x3 x4) := by
  unfold State.emitTx
  split
  · assumption
  · extract_lets +onlyGivenNames v1
    clear_value v1
    extract_lets +onlyGivenNames v2
    have h3 : Keeps a v2.2 := by
      unfold v2
      exact State.readLines_keeps _ (by assumption)
    clear_value v2
    extract_lets +onlyGivenNames v4
    have h5 : Keeps a v4 := by
      unfold v4
      assumption
    extract_lets +onlyGivenNames v6
    clear_value v6
    extract_lets +onlyGivenNames v7
    clear_value v7
    extract_lets +onlyGivenNames v8
    have h9 : Keeps a v8 := by
      unfold v8
      exact State.setMsg_keeps _ (by assumption)
    clear_value v8
    extract_lets +onlyGivenNames v10
    have h11 : Keeps a v10 := by
      unfold v10
      exact State.setTx_keeps _ (by assumption)
    clear_value v10
    extract_lets +onlyGivenNames v12
    have h13 : Keeps a v12 := by
      unfold v12
      exact State.setPath_keeps _ _ _ (by assumption)
    clear_value v12
    extract_lets +onlyGivenNames v14
    have h15 : Keeps a v14.2 := by
      unfold v14
      exact State.cacheDest_keeps _ (by assumption)
    clear_value v14
    extract_lets +onlyGivenNames v16
    clear_value v16
    extract_lets +onlyGivenNames v17
    have h18 : Keeps a v17 := by
      unfold v17
      exact State.setDestState_keeps _ (by assumption)
    clear_value v17
    extract_lets +onlyGivenNames v19
    have h20 : Keeps a v19 := by
      unfold v19
      refine keeps_ite ?_ ?_
      · assumption
      · exact State.bumpUte_keeps _ (by assumption)
    clear_value v19
    exact State.utSend_keeps _ _ _ _ _ (by assumption)
theorem State.packetSend_keeps {a s : State} (x2 : _) (x3 : _) (x4 : _) (h : Keeps a s) : Keeps a (State.packetSend s x2 x3 x4) := by
  unfold State.packetSend
  split
  · refine keeps_ite ?_ ?_
    · assumption
    · extract_lets +onlyGivenNames v1
      clear_value v1
      extract_lets +onlyGivenNames v2
      have h3 : Keeps a v2.2 := by
        unfold v2
        exact State.choosePath_keeps _ _ _ (by assumption)
      clear_value v2
      split
      · exact State.emitTx_keeps _ _ _ (by assumption)
      · assumption
  · assumption
theorem State.retxTimeout_keeps {a s : State} (x2 : _) (x3 : _) (x4 : _) (h : Keeps a s) : Keeps a (State.retxTimeout s x2 x3 x4) := by
  unfold State.retxTimeout
  refine keeps_ite ?_ ?_
  · refine keeps_ite ?_ ?_
    · exact State.mirrorResend_keeps _ (by assumption)
    · assumption
  · split
    · refine keeps_ite ?_ ?_
      · assumption
      · extract_lets +onlyGivenNames v1
        have h2 : Keeps a v1 := by
          unfold v1
          exact State.ccTimeout_keeps _ _ (State.landTx_keeps _ (by assumption))
        clear_value v1
        refine keeps_ite ?_ ?_
        · exact State.abandon_keeps _ (by assumption)
        · exact State.packetSend_keeps _ _ _ (State.setTx_keeps _ (by assumption))
    · assumption
theorem State.lifeExpiry_keeps {a s : State} (x2 : _) (x3 : _) (h : Keeps a s) : Keeps a (State.lifeExpiry s x2 x3) := by
  unfold State.lifeExpiry
  split
  · assumption
  · split
    · assumption
    · refine keeps_ite ?_ ?_
      · assumption
      · exact State.abandon_keeps _ (by assumption)
theorem State.retryResend_keeps {a s : State} (x2 : _) (x3 : _) (x4 : _) (h : Keeps a s) : Keeps a (State.retryResend s x2 x3 x4) := by
  unfold State.retryResend
  split
  · split
    · assumption
    · refine keeps_ite ?_ ?_
      · assumption
      · exact State.emitTx_keeps _ _ _ (by assumption)
  · assumption
theorem State.probeTick_keeps {a s : State} (h : Keeps a s) : Keeps a (State.probeTick s) := by
  unfold State.probeTick
  refine keeps_ite ?_ ?_
  · assumption
  · refine keeps_foldl ?_ ?_
    · assumption
    · intro u1 u2 u3
      beta_reduce
      split
      · assumption
      · refine keeps_foldl ?_ ?_
        · assumption
        · intro u4 u5 u6
          beta_reduce
          exact State.utSend_keeps _ _ _ _ _ (by assumption)
theorem State.answered_keeps {a s : State} (x2 : _) (x3 : _) (h : Keeps a s) (h3 : ∀ y0 y1 y2, Keeps a y0 → Keeps a (x3 y0 y1 y2)) : Keeps a (State.answered s x2 x3) := by
  unfold State.answered
  split
  · refine keeps_ite ?_ ?_
    · assumption
    · apply h3
      exact State.ccAnswer_keeps _ _ _ (by assumption)
  · assumption
theorem State.probeAck_keeps {a s : State} (x2 : _) (h : Keeps a s) : Keeps a (State.probeAck s x2) := by
  unfold State.probeAck
  split
  · assumption
  · refine keeps_ite ?_ ?_
    · exact State.setPath_keeps _ _ _ (by assumption)
    · assumption
theorem State.utAck_keeps {a s : State} (x2 : _) (h : Keeps a s) : Keeps a (State.utAck s x2) := by
  unfold State.utAck
  refine State.utRx_keeps _ _ _ ?_ ?_
  · assumption
  · intro u1 u2
    beta_reduce
    extract_lets +onlyGivenNames v3
    clear_value v3
    refine keeps_ite ?_ ?_
    · exact State.ctlAck_keeps _ (State.twinSample_keeps _ (by assumption))
    · refine keeps_ite ?_ ?_
      · exact State.probeAck_keeps _ (by assumption)
      · refine State.answered_keeps _ _ ?_ ?_
        · assumption
        · intro u4 u5 u6 u7
          beta_reduce
          extract_lets +onlyGivenNames v8
          have h9 : Keeps a v8 := by
            unfold v8
            exact State.doneTx_keeps _ (by assumption)
          clear_value v8
          extract_lets +onlyGivenNames v10
          clear_value v10
          extract_lets +onlyGivenNames v11
          have h12 : Keeps a v11 := by
            unfold v11
            exact State.setMsg_keeps _ (by assumption)
          clear_value v11
          refine keeps_ite ?_ ?_
          · exact State.endMsg_keeps _ _ _ (by assumption)
          · assumption
theorem State.utNack_keeps {a s : State} (x2 : _) (h : Keeps a s) : Keeps a (State.utNack s x2) := by
  unfold State.utNack
  refine State.utRx_keeps _ _ _ ?_ ?_
  · assumption
  · intro u1 u2
    beta_reduce
    extract_lets +onlyGivenNames v3
    clear_value v3
    refine State.answered_keeps _ _ ?_ ?_
    · assumption
    · intro u4 u5 u6 u7
      beta_reduce
      split
      · exact State.setTx_keeps _ (State.landTx_keeps _ (by assumption))
      · exact State.endMsg_keeps _ _ _ (by assumption)
      · exact State.endMsg_keeps _ _ _ (by assumption)
      · exact State.endMsg_keeps _ _ _ (by assumption)
      · exact State.endMsg_keeps _ _ _ (by assumption)
      · exact State.endMsg_keeps _ _ _ (by assumption)
      · exact State.endMsg_keeps _ _ _ (by assumption)
      · assumption
theorem State.placeLocal_keeps {a s : State} (x2 : _) (x3 : _) (x4 : _) (h : Keeps a s) : Keeps a (State.placeLocal s x2 x3 x4) := by
  unfold State.placeLocal
  extract_lets +onlyGivenNames v1
  have h2 : Keeps a v1.2 := by
    unfold v1
    exact State.placeBytes_keeps _ _ _ _ (by assumption)
  clear_value v1
  refine keeps_foldl ?_ ?_
  · assumption
  · intro u3 u4 u5
    beta_reduce
    exact State.placeLine_keeps _ (by assumption)
theorem State.utReadResp_keeps {a s : State} (x2 : _) (h : Keeps a s) : Keeps a (State.utReadResp s x2) := by
  unfold State.utReadResp
  refine State.utRx_keeps _ _ _ ?_ ?_
  · assumption
  · intro u1 u2
    beta_reduce
    extract_lets +onlyGivenNames v3
    clear_value v3
    refine State.answered_keeps _ _ ?_ ?_
    · assumption
    · intro u4 u5 u6 u7
      beta_reduce
      extract_lets +onlyGivenNames v8
      clear_value v8
      refine keeps_ite ?_ ?_
      · assumption
      · extract_lets +onlyGivenNames v9
        have h10 : Keeps a v9 := by
          unfold v9
          exact State.placeLocal_keeps _ _ _ (by assumption)
        clear_value v9
        extract_lets +onlyGivenNames v11
        clear_value v11
        extract_lets +onlyGivenNames v12
        have h13 : Keeps a v12 := by
          unfold v12
          exact State.setMsg_keeps _ (by assumption)
        clear_value v12
        extract_lets +onlyGivenNames v14
        clear_value v14
        extract_lets +onlyGivenNames v15
        clear_value v15
        extract_lets +onlyGivenNames v16
        clear_value v16
        refine keeps_ite ?_ ?_
        · assumption
        · extract_lets +onlyGivenNames v17
          have h18 : Keeps a v17 := by
            unfold v17
            exact State.doneTx_keeps _ (by assumption)
          clear_value v17
          refine keeps_ite ?_ ?_
          · exact State.endMsg_keeps _ _ _ (by assumption)
          · assumption
theorem State.utAtomicResp_keeps {a s : State} (x2 : _) (h : Keeps a s) : Keeps a (State.utAtomicResp s x2) := by
  unfold State.utAtomicResp
  refine State.utRx_keeps _ _ _ ?_ ?_
  · assumption
  · intro u1 u2
    beta_reduce
    refine State.answered_keeps _ _ ?_ ?_
    · assumption
    · intro u3 u4 u5 u6
      beta_reduce
      refine keeps_ite ?_ ?_
      · assumption
      · refine keeps_ite ?_ ?_
        · exact State.endMsg_keeps _ _ _ (State.doneTx_keeps _ (by assumption))
        · exact State.endMsg_keeps _ _ _ (State.doneTx_keeps _ (State.placeLocal_keeps _ _ _ (by assumption)))
theorem State.descStart_keeps {a s : State} (x2 : _) (x3 : _) (h : Keeps a s) : Keeps a (State.descStart s x2 x3) := by
  unfold State.descStart
  split
  · assumption
  · refine keeps_ite ?_ ?_
    · assumption
    · extract_lets +onlyGivenNames v1
      clear_value v1
      extract_lets +onlyGivenNames v2
      clear_value v2
      extract_lets +onlyGivenNames v3
      clear_value v3
      extract_lets +onlyGivenNames v4
      clear_value v4
      refine keeps_ite ?_ ?_
      · assumption
      · refine keeps_ite ?_ ?_
        · assumption
        · extract_lets +onlyGivenNames v5
          clear_value v5
          extract_lets +onlyGivenNames v6
          have h7 : Keeps a v6 := by
            unfold v6
            exact State.setCtx_keeps _ _ (by assumption)
          clear_value v6
          extract_lets +onlyGivenNames v8
          clear_value v8
          refine keeps_ite ?_ ?_
          · exact State.completeDesc_keeps _ _ _ _ _ _ _ (by assumption)
          · refine keeps_ite ?_ ?_
            · extract_lets +onlyGivenNames v9
              clear_value v9
              refine keeps_ite ?_ ?_
              · exact State.runWaits_keeps (State.setUte_keeps _ (by assumption))
              · exact State.setUte_keeps _ (by assumption)
            · refine keeps_ite ?_ ?_
              · assumption
              · extract_lets +onlyGivenNames v10
                clear_value v10
                extract_lets +onlyGivenNames v11
                clear_value v11
                refine keeps_ite ?_ ?_
                · assumption
                · extract_lets +onlyGivenNames v12
                  clear_value v12
                  extract_lets +onlyGivenNames v13
                  clear_value v13
                  extract_lets +onlyGivenNames v14
                  have h15 : Keeps a v14 := by
                    unfold v14
                    exact State.setUte_keeps _ (by assumption)
                  clear_value v14
                  refine keeps_ite ?_ ?_
                  · exact State.splitLoop_keeps _ _ _ (by assumption)
                  · exact State.addMsg_keeps _ _ _ (by assumption)
theorem State.waitSlot_keeps {a s : State} (h : Keeps a s) : Keeps a (State.waitSlot s) := by
  unfold State.waitSlot
  split
  · assumption
  · refine keeps_ite ?_ ?_
    · assumption
    · exact State.runWaits_keeps (State.setUte_keeps _ (by assumption))
theorem State.dbReject_keeps {a s : State} (h : Keeps a s) : Keeps a (State.dbReject s) := by
  unfold State.dbReject
  exact State.bumpUte_keeps _ (by assumption)
theorem State.doorbell_keeps {a s : State} (x2 : _) (x3 : _) (x4 : _) (h : Keeps a s) : Keeps a (State.doorbell s x2 x3 x4) := by
  unfold State.doorbell
  split
  · exact State.dbReject_keeps (by assumption)
  · split
    · refine keeps_ite ?_ ?_
      · exact State.dbReject_keeps (by assumption)
      · exact State.setCtx_keeps _ _ (by assumption)
    · refine keeps_ite ?_ ?_
      · exact State.dbReject_keeps (by assumption)
      · exact State.setCtx_keeps _ _ (by assumption)
    · refine keeps_foldl ?_ ?_
      · assumption
      · intro u1 u2 u3
        beta_reduce
        exact State.renewBerth_keeps _ _ (by assumption)
    · assumption
theorem State.doorbellWrite_keeps {a s : State} (x2 : _) (x3 : _) (x4 : _) (x5 : _) (h : Keeps a s) : Keeps a (State.doorbellWrite s x2 x3 x4 x5) := by
  unfold State.doorbellWrite
  refine keeps_ite ?_ ?_
  · assumption
  · split
    · exact State.dbReject_keeps (by assumption)
    · refine keeps_ite ?_ ?_
      · exact State.doorbell_keeps _ _ _ (by assumption)
      · exact State.dbReject_keeps (by assumption)
theorem State.apertureStore_keeps {a s : State} (x2 : _) (x3 : _) (h : Keeps a s) : Keeps a (State.apertureStore s x2 x3) := by
  unfold State.apertureStore
  split
  · assumption
  · extract_lets +onlyGivenNames v1
    have h2 : Keeps a v1 := by
      unfold v1
      refine keeps_ite ?_ ?_
      · exact State.dbReject_keeps (by assumption)
      · refine keeps_foldl ?_ ?_
        · assumption
        · intro u3 u4 u5
          beta_reduce
          refine keeps_ite ?_ ?_
          · exact State.doorbell_keeps _ _ _ (by assumption)
          · assumption
    clear_value v1
    extract_lets +onlyGivenNames v6
    clear_value v6
    refine keeps_ite ?_ ?_
    · assumption
    · exact State.bothPhases_keeps (State.leaveAt_keeps _ (by assumption))
theorem State.apertureRead_keeps {a s : State} (x2 : _) (x3 : _) (h : Keeps a s) : Keeps a (State.apertureRead s x2 x3) := by
  unfold State.apertureRead
  split
  · assumption
  · extract_lets +onlyGivenNames v1
    clear_value v1
    extract_lets +onlyGivenNames v2
    have h3 : Keeps a v2.2 := by
      unfold v2
      exact State.free_keeps _ (by assumption)
    clear_value v2
    exact State.sendDrs_keeps _ _ _ _ _ (by assumption)
theorem State.runDoorbell_keeps {a s : State} (x2 : _) (h : Keeps a s) : Keeps a (State.runDoorbell s x2) := by
  unfold State.runDoorbell
  extract_lets +onlyGivenNames v1
  clear_value v1
  extract_lets +onlyGivenNames v2
  have h3 : Keeps a v2 := by
    unfold v2
    exact keeps_upd (by assumption)
  clear_value v2
  split
  · exact State.apertureRead_keeps _ _ (by assumption)
  · exact State.apertureStore_keeps _ _ (by assumption)
  · exact State.apertureStore_keeps _ _ (by assumption)
  · assumption
theorem State.closeBerths_keeps {a s : State} (x2 : _) (h : Keeps a s) : Keeps a (State.closeBerths s x2) := by
  unfold State.closeBerths
  refine keeps_foldl ?_ ?_
  · assumption
  · intro u1 u2 u3
    beta_reduce
    refine keeps_ite ?_ ?_
    · exact State.closeBerth_keeps _ _ (by assumption)
    · assumption
theorem State.closeCtx_keeps {a s : State} (x2 : _) (h : Keeps a s) : Keeps a (State.closeCtx s x2) := by
  unfold State.closeCtx
  extract_lets +onlyGivenNames v1
  have h2 : Keeps a v1 := by
    unfold v1
    exact State.closeBerths_keeps _ (by assumption)
  clear_value v1
  extract_lets +onlyGivenNames v3
  clear_value v3
  extract_lets +onlyGivenNames v4
  have h5 : Keeps a v4 := by
    unfold v4
    exact State.setUte_keeps _ (by assumption)
  clear_value v4
  extract_lets +onlyGivenNames v6
  have h7 : Keeps a v6 := by
    unfold v6
    exact State.fset_keeps _ _ (by assumption)
  clear_value v6
  refine keeps_foldl ?_ ?_
  · assumption
  · intro u8 u9 u10
    beta_reduce
    exact State.makeDormant_keeps _ (by assumption)
theorem State.closeOwned_keeps {a s : State} (x2 : _) (h : Keeps a s) : Keeps a (State.closeOwned s x2) := by
  unfold State.closeOwned
  refine keeps_foldl ?_ ?_
  · assumption
  · intro u1 u2 u3
    beta_reduce
    exact State.closeCtx_keeps _ (by assumption)
theorem State.resetCtx_keeps {a s : State} (x2 : _) (h : Keeps a s) : Keeps a (State.resetCtx s x2) := by
  unfold State.resetCtx
  split
  · assumption
  · extract_lets +onlyGivenNames v1
    clear_value v1
    extract_lets +onlyGivenNames v2
    clear_value v2
    extract_lets +onlyGivenNames v3
    have h4 : Keeps a v3 := by
      unfold v3
      refine keeps_foldl ?_ ?_
      · assumption
      · intro u5 u6 u7
        beta_reduce
        exact State.landTx_keeps _ (by assumption)
    clear_value v3
    extract_lets +onlyGivenNames v8
    clear_value v8
    extract_lets +onlyGivenNames v9
    have h10 : Keeps a v9 := by
      unfold v9
      exact State.setUte_keeps _ (by assumption)
    clear_value v9
    extract_lets +onlyGivenNames v11
    have h12 : Keeps a v11 := by
      unfold v11
      exact State.fset_keeps _ _ (by assumption)
    clear_value v11
    extract_lets +onlyGivenNames v13
    have h14 : Keeps a v13 := by
      unfold v13
      refine keeps_foldl ?_ ?_
      · assumption
      · intro u15 u16 u17
        beta_reduce
        extract_lets +onlyGivenNames v18
        clear_value v18
        exact State.renewBerth_keeps _ _ (State.setBerth_keeps _ _ _ (by assumption))
    clear_value v13
    extract_lets +onlyGivenNames v19
    have h20 : Keeps a v19 := by
      unfold v19
      refine keeps_foldl ?_ ?_
      · assumption
      · intro u21 u22 u23
        beta_reduce
        exact State.completeDesc_keeps _ _ _ _ _ _ _ (by assumption)
    clear_value v19
    extract_lets +onlyGivenNames v24
    have h25 : Keeps a v24 := by
      unfold v24
      refine keeps_foldl ?_ ?_
      · assumption
      · intro u26 u27 u28
        beta_reduce
        exact State.completeDesc_keeps _ _ _ _ _ _ _ (by assumption)
    clear_value v24
    split
    · assumption
    · extract_lets +onlyGivenNames v29
      clear_value v29
      exact State.raise_keeps _ (State.setCtx_keeps _ _ (by assumption))
theorem State.resetUncached_keeps {a s : State} (h : Keeps a s) : Keeps a (State.resetUncached s) := by
  unfold State.resetUncached
  refine keeps_foldl ?_ ?_
  · assumption
  · intro u1 u2 u3
    beta_reduce
    exact State.resetCtx_keeps _ (by assumption)
theorem State.ethDown_keeps {a s : State} (x2 : _) (h : Keeps a s) : Keeps a (State.ethDown s x2) := by
  unfold State.ethDown
  refine keeps_ite ?_ ?_
  · assumption
  · extract_lets +onlyGivenNames v1
    have h2 : Keeps a v1 := by
      unfold v1
      exact State.raise_keeps _ (State.fset_keeps _ _ (by assumption))
    clear_value v1
    extract_lets +onlyGivenNames v3
    clear_value v3
    extract_lets +onlyGivenNames v4
    have h5 : Keeps a v4 := by
      unfold v4
      refine keeps_foldl ?_ ?_
      · assumption
      · intro u6 u7 u8
        beta_reduce
        exact State.setTx_keeps _ (State.landTx_keeps _ (by assumption))
    clear_value v4
    refine keeps_foldl ?_ ?_
    · assumption
    · intro u9 u10 u11
      beta_reduce
      exact State.packetSend_keeps _ _ _ (by assumption)
theorem State.ethUp_keeps {a s : State} (x2 : _) (h : Keeps a s) : Keeps a (State.ethUp s x2) := by
  unfold State.ethUp
  extract_lets +onlyGivenNames v1
  clear_value v1
  refine keeps_ite ?_ ?_
  · assumption
  · exact State.raise_keeps _ (State.fset_keeps _ _ (by assumption))
theorem State.slowPath_keeps {a s : State} (x2 : _) (h : Keeps a s) : Keeps a (State.slowPath s x2) := by
  unfold State.slowPath
  refine keeps_ite ?_ ?_
  · assumption
  · exact State.emit_keeps _ (by assumption)
theorem cmdCtxOpen_keeps {a s : State} (x1 : _) (h : Keeps a s) : Keeps a (cmdCtxOpen x1 s).s := by
  unfold cmdCtxOpen
  extract_lets +onlyGivenNames v1
  clear_value v1
  extract_lets +onlyGivenNames v2
  clear_value v2
  extract_lets +onlyGivenNames v3
  clear_value v3
  refine guarded_keeps ?_ ?_
  · assumption
  · split
    · exact refuse_keeps _ _ (by assumption)
    · extract_lets +onlyGivenNames v4
      clear_value v4
      exact done_keeps _ (State.touchCtx_keeps _ (State.setCtx_keeps _ _ (by assumption)))
theorem cmdCtxClose_keeps {a s : State} (x1 : _) (h : Keeps a s) : Keeps a (cmdCtxClose x1 s).s := by
  unfold cmdCtxClose
  extract_lets +onlyGivenNames v1
  clear_value v1
  split
  · refine guarded_keeps ?_ ?_
    · assumption
    · exact refuse_keeps _ _ (by assumption)
  · refine guarded_keeps ?_ ?_
    · assumption
    · exact later_keeps _ _ (State.closeBerths_keeps _ (State.setCtx_keeps _ _ (by assumption)))
theorem cmdBerthOpen_keeps {a s : State} (x1 : _) (h : Keeps a s) : Keeps a (cmdBerthOpen x1 s).s := by
  unfold cmdBerthOpen
  extract_lets +onlyGivenNames v1
  clear_value v1
  extract_lets +onlyGivenNames v2
  clear_value v2
  split
  · exact refuse_keeps _ _ (by assumption)
  · refine guarded_keeps ?_ ?_
    · assumption
    · extract_lets +onlyGivenNames v3
      clear_value v3
      extract_lets +onlyGivenNames v4
      clear_value v4
      extract_lets +onlyGivenNames v5
      clear_value v5
      exact done_keeps _ (State.renewBerth_keeps _ _ (State.setBerth_keeps _ _ _ (by assumption)))
theorem cmdBerthClose_keeps {a s : State} (x1 : _) (h : Keeps a s) : Keeps a (cmdBerthClose x1 s).s := by
  unfold cmdBerthClose
  extract_lets +onlyGivenNames v1
  clear_value v1
  extract_lets +onlyGivenNames v2
  clear_value v2
  refine guarded_keeps ?_ ?_
  · assumption
  · extract_lets +onlyGivenNames v3
    have h4 : Keeps a v3 := by
      unfold v3
      exact State.closeBerth_keeps _ _ (by assumption)
    clear_value v3
    exact done_keeps _ (by assumption)
theorem cmdBerthRenew_keeps {a s : State} (x1 : _) (h : Keeps a s) : Keeps a (cmdBerthRenew x1 s).s := by
  unfold cmdBerthRenew
  extract_lets +onlyGivenNames v1
  clear_value v1
  refine guarded_keeps ?_ ?_
  · assumption
  · refine done_keeps _ ?_
    refine keeps_foldl ?_ ?_
    · assumption
    · intro u2 u3 u4
      beta_reduce
      refine keeps_ite ?_ ?_
      · exact State.renewBerth_keeps _ _ (by assumption)
      · assumption
theorem cmdDestSet_keeps {a s : State} (x1 : _) (h : Keeps a s) : Keeps a (cmdDestSet x1 s).s := by
  unfold cmdDestSet
  extract_lets +onlyGivenNames v1
  clear_value v1
  extract_lets +onlyGivenNames v2
  clear_value v2
  extract_lets +onlyGivenNames v3
  clear_value v3
  refine guarded_keeps ?_ ?_
  · assumption
  · extract_lets +onlyGivenNames v4
    clear_value v4
    extract_lets +onlyGivenNames v5
    clear_value v5
    extract_lets +onlyGivenNames v6
    have h7 : Keeps a v6 := by
      unfold v6
      exact State.setUte_keeps _ (by assumption)
    clear_value v6
    exact done_keeps _ (by assumption)

end Sys2Proof.Machine
end

