-- ==== Sys2Proof/Laws/KeepsControl.lean ====
section
/-! SUPPORT. Every operation of CcxFx, ScrubFx, TestFx, ResetFx, StartFx, PowerFx, CmdMisc keeps what `Keeps` says. -/
namespace Sys2Proof.Machine
set_option Elab.async false

/-! ### CcxFx.lean -/

theorem State.setCcx_keeps {a s : State} (x2 : _) (h : Keeps a s) : Keeps a (State.setCcx s x2) := by
  unfold State.setCcx
  exact keeps_upd (by assumption)
theorem State.putCore_keeps {a s : State} (x2 : _) (x3 : _) (h : Keeps a s) : Keeps a (State.putCore s x2 x3) := by
  unfold State.putCore
  extract_lets +onlyGivenNames v1
  clear_value v1
  extract_lets +onlyGivenNames v2
  have h3 : Keeps a v2 := by
    unfold v2
    exact State.setCcx_keeps _ (by assumption)
  clear_value v2
  exact State.fset_keeps _ _ (State.fset_keeps _ _ (by assumption))
theorem State.quayPut_keeps {a s : State} (x2 : _) (x3 : _) (x4 : _) (h : Keeps a s) : Keeps a (State.quayPut s x2 x3 x4) := by
  unfold State.quayPut
  split
  · exact State.sfPutLine_keeps _ _ (by assumption)
  · extract_lets +onlyGivenNames v1
    clear_value v1
    split
    · refine keeps_updN ?_ (hh := ?_)
      · assumption
      · exact wf_memPutLine
    · split
      · refine keeps_updN ?_ (hs := ?_)
        · assumption
        · exact wf_memPutLine
      · exact State.setCcx_keeps _ (by assumption)
theorem State.dramPut_keeps {a s : State} (x2 : _) (x3 : _) (x4 : _) (h : Keeps a s) : Keeps a (State.dramPut s x2 x3 x4) := by
  unfold State.dramPut
  split
  · refine keeps_updN ?_ (hd := ?_)
    · assumption
    · exact wf_memPutLine
  · exact State.setCcx_keeps _ (by assumption)
theorem State.dlaPut_keeps {a s : State} (x2 : _) (x3 : _) (x4 : _) (x5 : _) (x6 : _) (h : Keeps a s) : Keeps a (State.dlaPut s x2 x3 x4 x5 x6) := by
  unfold State.dlaPut
  split
  · exact State.countUnmapped_keeps (by assumption)
  · extract_lets +onlyGivenNames v1
    clear_value v1
    refine keeps_ite ?_ ?_
    · exact State.countUnmapped_keeps (by assumption)
    · extract_lets +onlyGivenNames v2
      have h3 : Keeps a v2.2 := by
        unfold v2
        exact State.newId_keeps (by assumption)
      clear_value v2
      exact State.placeLine_keeps _ (by assumption)
theorem State.coreMemPut_keeps {a s : State} (x2 : _) (x3 : _) (x4 : _) (x5 : _) (x6 : _) (x7 : _) (h : Keeps a s) : Keeps a (State.coreMemPut s x2 x3 x4 x5 x6 x7) := by
  unfold State.coreMemPut
  extract_lets +onlyGivenNames v1
  clear_value v1
  extract_lets +onlyGivenNames v2
  have hf3 : ∀ y0, Keeps a y0 → Keeps a (v2 y0) := by
    intro u4 u5
    unfold v2
    exact State.setCcx_keeps _ (by assumption)
  clear_value v2
  split
  · apply hf3
    exact State.setCcx_keeps _ (State.mergeLine_keeps _ _ _ _ (by assumption))
  · apply hf3
    exact State.quayPut_keeps _ _ _ (by assumption)
  · apply hf3
    exact State.dramPut_keeps _ _ _ (by assumption)
  · exact State.dlaPut_keeps _ _ _ _ _ (by assumption)
  · assumption
theorem State.coreBusy_keeps {a s : State} (x2 : _) (x3 : _) (h : Keeps a s) : Keeps a (State.coreBusy s x2 x3) := by
  unfold State.coreBusy
  exact State.emit_keeps _ (by assumption)
theorem State.coreAsk_keeps {a s : State} (x2 : _) (x3 : _) (x4 : _) (h : Keeps a s) : Keeps a (State.coreAsk s x2 x3 x4) := by
  unfold State.coreAsk
  extract_lets +onlyGivenNames v1
  clear_value v1
  extract_lets +onlyGivenNames v2
  clear_value v2
  split
  · exact State.coreGotAt_keeps _ _ _ _ (by assumption)
  · extract_lets +onlyGivenNames v3
    clear_value v3
    exact State.coreGotAt_keeps _ _ _ _ (by assumption)
  · exact State.coreGotAt_keeps _ _ _ _ (State.quayAccess_keeps _ (by assumption))
  · refine keeps_ite ?_ ?_
    · assumption
    · exact State.coreGotAt_keeps _ _ _ _ (State.dramAccess_keeps _ (by assumption))
  · exact State.coreLine_keeps _ _ _ _ (by assumption)
  · exact State.coreGotAt_keeps _ _ _ _ (by assumption)
theorem State.issueStore_keeps {a s : State} (x2 : _) (h : Keeps a s) : Keeps a (State.issueStore s x2) := by
  unfold State.issueStore
  extract_lets +onlyGivenNames v1
  clear_value v1
  split
  · assumption
  · extract_lets +onlyGivenNames v2
    clear_value v2
    exact State.coreMemPut_keeps _ _ _ _ _ _ (State.putCore_keeps _ _ (by assumption))
theorem State.issueStores_keeps {a s : State} (x2 : _) (x3 : _) (h : Keeps a s) : Keeps a (State.issueStores s x2 x3) := by
  unfold State.issueStores
  split
  · assumption
  · exact State.issueStores_keeps _ _ (State.issueStore_keeps _ (by assumption))
theorem State.writeOut_keeps {a s : State} (x2 : _) (x3 : _) (h : Keeps a s) : Keeps a (State.writeOut s x2 x3) := by
  unfold State.writeOut
  extract_lets +onlyGivenNames v1
  clear_value v1
  split
  · refine keeps_ite ?_ ?_
    · exact State.coreMemPut_keeps _ _ _ _ _ _ (State.putCore_keeps _ _ (by assumption))
    · assumption
  · assumption
theorem State.allocate_keeps {a s : State} (x2 : _) (x3 : _) (x4 : _) (x5 : _) (x6 : _) (h : Keeps a s) : Keeps a (State.allocate s x2 x3 x4 x5 x6) := by
  unfold State.allocate
  extract_lets +onlyGivenNames v1
  clear_value v1
  extract_lets +onlyGivenNames v2
  have h3 : Keeps a v2 := by
    unfold v2
    exact State.writeOut_keeps _ _ (by assumption)
  clear_value v2
  extract_lets +onlyGivenNames v4
  clear_value v4
  extract_lets +onlyGivenNames v5
  clear_value v5
  exact State.putCore_keeps _ _ (by assumption)
theorem State.prefetch_keeps {a s : State} (x2 : _) (x3 : _) (h : Keeps a s) : Keeps a (State.prefetch s x2 x3) := by
  unfold State.prefetch
  extract_lets +onlyGivenNames v1
  clear_value v1
  refine keeps_ite ?_ ?_
  · assumption
  · extract_lets +onlyGivenNames v2
    clear_value v2
    exact State.putCore_keeps _ _ (by assumption)
theorem State.finishWait_keeps {a s : State} (x2 : _) (h : Keeps a s) : Keeps a (State.finishWait s x2) := by
  unfold State.finishWait
  split
  · assumption
  · split
    · assumption
    · extract_lets +onlyGivenNames v1
      have h2 : Keeps a v1.2 := by
        unfold v1
        exact State.free_keeps _ (by assumption)
      clear_value v1
      extract_lets +onlyGivenNames v3
      have h4 : Keeps a v3.2 := by
        unfold v3
        split
        · assumption
        · assumption
      clear_value v3
      extract_lets +onlyGivenNames v5
      clear_value v5
      extract_lets +onlyGivenNames v6
      clear_value v6
      extract_lets +onlyGivenNames v7
      have h8 : Keeps a v7 := by
        unfold v7
        exact State.putCore_keeps _ _ (by assumption)
      clear_value v7
      extract_lets +onlyGivenNames v9
      have h10 : Keeps a v9 := by
        unfold v9
        split
        · assumption
        · exact State.allocate_keeps _ _ _ _ _ (by assumption)
        · exact State.allocate_keeps _ _ _ _ _ (by assumption)
      clear_value v9
      refine keeps_ite ?_ ?_
      · assumption
      · exact State.emit_keeps _ (by assumption)
theorem State.blockOn_keeps {a s : State} (x2 : _) (x3 : _) (x4 : _) (x5 : _) (x6 : _) (h : Keeps a s) : Keeps a (State.blockOn s x2 x3 x4 x5 x6) := by
  unfold State.blockOn
  extract_lets +onlyGivenNames v1
  clear_value v1
  extract_lets +onlyGivenNames v2
  have h3 : Keeps a v2 := by
    unfold v2
    exact State.putCore_keeps _ _ (by assumption)
  clear_value v2
  refine keeps_ite ?_ ?_
  · exact State.finishWait_keeps _ (State.coreAsk_keeps _ _ _ (by assumption))
  · assumption
theorem State.missOn_keeps {a s : State} (x2 : _) (x3 : _) (x4 : _) (x5 : _) (h : Keeps a s) : Keeps a (State.missOn s x2 x3 x4 x5) := by
  unfold State.missOn
  extract_lets +onlyGivenNames v1
  clear_value v1
  extract_lets +onlyGivenNames v2
  have h3 : Keeps a v2 := by
    unfold v2
    exact State.issueStores_keeps _ _ (by assumption)
  clear_value v2
  extract_lets +onlyGivenNames v4
  clear_value v4
  extract_lets +onlyGivenNames v5
  clear_value v5
  extract_lets +onlyGivenNames v6
  have h7 : Keeps a v6 := by
    unfold v6
    exact State.putCore_keeps _ _ (State.writeOut_keeps _ _ (by assumption))
  clear_value v6
  extract_lets +onlyGivenNames v8
  have h9 : Keeps a v8 := by
    unfold v8
    exact State.finishWait_keeps _ (State.coreAsk_keeps _ _ _ (by assumption))
  clear_value v8
  refine keeps_ite ?_ ?_
  · exact State.prefetch_keeps _ _ (by assumption)
  · assumption
theorem State.coreGo_keeps {a s : State} (x2 : _) (h : Keeps a s) : Keeps a (State.coreGo s x2) := by
  unfold State.coreGo
  split
  · exact State.coreAsk_keeps _ _ _ (by assumption)
  · assumption
theorem State.cachedLoad_keeps {a s : State} (x2 : _) (x3 : _) (x4 : _) (h : Keeps a s) : Keeps a (State.cachedLoad s x2 x3 x4) := by
  unfold State.cachedLoad
  extract_lets +onlyGivenNames v1
  clear_value v1
  refine keeps_ite ?_ ?_
  · exact State.blockOn_keeps _ _ _ _ _ (State.issueStores_keeps _ _ (by assumption))
  · extract_lets +onlyGivenNames v2
    clear_value v2
    split
    · exact State.emit_keeps _ (State.putCore_keeps _ _ (by assumption))
    · split
      · exact State.emit_keeps _ (State.allocate_keeps _ _ _ _ _ (by assumption))
      · exact State.blockOn_keeps _ _ _ _ _ (by assumption)
      · exact State.missOn_keeps _ _ _ _ (by assumption)
theorem State.cachedStore_keeps {a s : State} (x2 : _) (x3 : _) (x4 : _) (h : Keeps a s) : Keeps a (State.cachedStore s x2 x3 x4) := by
  unfold State.cachedStore
  extract_lets +onlyGivenNames v1
  clear_value v1
  refine keeps_ite ?_ ?_
  · extract_lets +onlyGivenNames v2
    clear_value v2
    extract_lets +onlyGivenNames v3
    have h4 : Keeps a v3 := by
      unfold v3
      exact State.coreMemPut_keeps _ _ _ _ _ _ (State.issueStores_keeps _ _ (by assumption))
    clear_value v3
    split
    · exact State.coreBusy_keeps _ _ (by assumption)
    · assumption
  · extract_lets +onlyGivenNames v5
    have hf6 : ∀ y0, Keeps a y0 → Keeps a (v5 y0) := by
      intro u7 u8
      unfold v5
      extract_lets +onlyGivenNames v9
      have h10 : Keeps a v9 := by
        unfold v9
        refine keeps_ite ?_ ?_
        · exact State.coreBusy_keeps _ _ (by assumption)
        · exact State.issueStore_keeps _ (by assumption)
      clear_value v9
      extract_lets +onlyGivenNames v11
      clear_value v11
      exact State.putCore_keeps _ _ (by assumption)
    clear_value v5
    extract_lets +onlyGivenNames v12
    clear_value v12
    split
    · extract_lets +onlyGivenNames v13
      clear_value v13
      extract_lets +onlyGivenNames v14
      clear_value v14
      extract_lets +onlyGivenNames v15
      clear_value v15
      extract_lets +onlyGivenNames v16
      have h17 : Keeps a v16 := by
        unfold v16
        exact State.putCore_keeps _ _ (by assumption)
      clear_value v16
      refine keeps_ite ?_ ?_
      · exact State.coreBusy_keeps _ _ (by assumption)
      · apply hf6
        assumption
    · extract_lets +onlyGivenNames v18
      clear_value v18
      apply hf6
      exact State.putCore_keeps _ _ (by assumption)
theorem State.prefetchFill_keeps {a s : State} (x2 : _) (h : Keeps a s) : Keeps a (State.prefetchFill s x2) := by
  unfold State.prefetchFill
  split
  · assumption
  · exact State.finishWait_keeps _ (State.coreAsk_keeps _ _ _ (by assumption))
theorem State.opPrefetch_keeps {a s : State} (x2 : _) (h : Keeps a s) : Keeps a (State.opPrefetch s x2) := by
  unfold State.opPrefetch
  refine keeps_ite ?_ ?_
  · exact State.prefetch_keeps _ _ (by assumption)
  · assumption
theorem State.opZero_keeps {a s : State} (x2 : _) (h : Keeps a s) : Keeps a (State.opZero s x2) := by
  unfold State.opZero
  refine keeps_ite ?_ ?_
  · assumption
  · extract_lets +onlyGivenNames v1
    clear_value v1
    extract_lets +onlyGivenNames v2
    clear_value v2
    split
    · extract_lets +onlyGivenNames v3
      clear_value v3
      exact State.coreBusy_keeps _ _ (State.putCore_keeps _ _ (by assumption))
    · exact State.coreBusy_keeps _ _ (State.allocate_keeps _ _ _ _ _ (by assumption))
theorem State.opLock_keeps {a s : State} (x2 : _) (h : Keeps a s) : Keeps a (State.opLock s x2) := by
  unfold State.opLock
  refine keeps_ite ?_ ?_
  · assumption
  · extract_lets +onlyGivenNames v1
    clear_value v1
    extract_lets +onlyGivenNames v2
    clear_value v2
    extract_lets +onlyGivenNames v3
    split
    · refine keeps_ite ?_ ?_
      · assumption
      · refine keeps_ite ?_ ?_
        · exact State.setBit_keeps _ _ (by assumption)
        · exact State.putCore_keeps _ _ (by assumption)
    · refine keeps_ite ?_ ?_
      · exact State.setBit_keeps _ _ (by assumption)
      · split
        · exact State.allocate_keeps _ _ _ _ _ (by assumption)
        · exact State.blockOn_keeps _ _ _ _ _ (by assumption)
        · exact State.missOn_keeps _ _ _ _ (by assumption)
theorem State.opUnlock_keeps {a s : State} (x2 : _) (h : Keeps a s) : Keeps a (State.opUnlock s x2) := by
  unfold State.opUnlock
  refine keeps_ite ?_ ?_
  · assumption
  · extract_lets +onlyGivenNames v1
    clear_value v1
    split
    · exact State.putCore_keeps _ _ (by assumption)
    · assumption
theorem State.opWriteOut_keeps {a s : State} (x2 : _) (h : Keeps a s) : Keeps a (State.opWriteOut s x2) := by
  unfold State.opWriteOut
  refine keeps_ite ?_ ?_
  · assumption
  · refine State.coreBusy_keeps _ _ ?_
    refine keeps_foldl ?_ ?_
    · assumption
    · intro u1 u2 u3
      beta_reduce
      exact State.writeOut_keeps _ _ (by assumption)
theorem State.opInval_keeps {a s : State} (x2 : _) (h : Keeps a s) : Keeps a (State.opInval s x2) := by
  unfold State.opInval
  refine keeps_ite ?_ ?_
  · assumption
  · extract_lets +onlyGivenNames v1
    clear_value v1
    extract_lets +onlyGivenNames v2
    have h3 : Keeps a v2 := by
      unfold v2
      refine State.coreBusy_keeps _ _ ?_
      refine keeps_foldl ?_ ?_
      · assumption
      · intro u4 u5 u6
        beta_reduce
        exact State.writeOut_keeps _ _ (by assumption)
    clear_value v2
    extract_lets +onlyGivenNames v7
    have h8 : Keeps a v7 := by
      unfold v7
      refine keeps_foldl ?_ ?_
      · assumption
      · intro u9 u10 u11
        beta_reduce
        exact State.putCore_keeps _ _ (by assumption)
    clear_value v7
    extract_lets +onlyGivenNames v12
    clear_value v12
    extract_lets +onlyGivenNames v13
    have h14 : Keeps a v13 := by
      unfold v13
      exact State.putCore_keeps _ _ (by assumption)
    clear_value v13
    split
    · assumption
    · extract_lets +onlyGivenNames v15
      clear_value v15
      extract_lets +onlyGivenNames v16
      have h17 : Keeps a v16 := by
        unfold v16
        refine keeps_ite ?_ ?_
        · exact State.setBit_keeps _ _ (by assumption)
        · assumption
      clear_value v16
      exact State.raise_keeps _ (State.fset_keeps _ _ (State.setBit_keeps _ _ (by assumption)))
theorem State.cacheDisable_keeps {a s : State} (x2 : _) (h : Keeps a s) : Keeps a (State.cacheDisable s x2) := by
  unfold State.cacheDisable
  refine keeps_ite ?_ ?_
  · exact State.setBit_keeps _ _ (by assumption)
  · extract_lets +onlyGivenNames v1
    clear_value v1
    extract_lets +onlyGivenNames v2
    have h3 : Keeps a v2 := by
      unfold v2
      refine State.coreBusy_keeps _ _ ?_
      refine keeps_foldl ?_ ?_
      · assumption
      · intro u4 u5 u6
        beta_reduce
        exact State.writeOut_keeps _ _ (by assumption)
    clear_value v2
    exact State.setBit_keeps _ _ (State.putCore_keeps _ _ (by assumption))
theorem State.hmRestart_keeps {a s : State} (h : Keeps a s) : Keeps a (State.hmRestart s) := by
  unfold State.hmRestart
  refine keeps_ite ?_ ?_
  · assumption
  · extract_lets +onlyGivenNames v1
    have h2 : Keeps a v1 := by
      unfold v1
      exact State.putCore_keeps _ _ (by assumption)
    clear_value v1
    extract_lets +onlyGivenNames v3
    clear_value v3
    extract_lets +onlyGivenNames v4
    have h5 : Keeps a v4 := by
      unfold v4
      exact State.setCcx_keeps _ (by assumption)
    clear_value v4
    exact State.setCore_keeps _ _ (State.fset_keeps _ _ (by assumption))
theorem State.noMajority_keeps {a s : State} (h : Keeps a s) : Keeps a (State.noMajority s) := by
  unfold State.noMajority
  refine keeps_ite ?_ ?_
  · assumption
  · exact State.hmRestart_keeps (State.setBit_keeps _ _ (by assumption))
theorem State.laneDisagree_keeps {a s : State} (x2 : _) (h : Keeps a s) : Keeps a (State.laneDisagree s x2) := by
  unfold State.laneDisagree
  refine keeps_ite ?_ ?_
  · assumption
  · refine keeps_ite ?_ ?_
    · exact State.noMajority_keeps (by assumption)
    · extract_lets +onlyGivenNames v1
      have h2 : Keeps a v1 := by
        unfold v1
        exact State.fset_keeps _ _ (State.setFbit_keeps _ _ _ (by assumption))
      clear_value v1
      extract_lets +onlyGivenNames v3
      have h4 : Keeps a v3 := by
        unfold v3
        exact State.raise_keeps _ (State.fset_keeps _ _ (by assumption))
      clear_value v3
      extract_lets +onlyGivenNames v5
      clear_value v5
      extract_lets +onlyGivenNames v6
      clear_value v6
      extract_lets +onlyGivenNames v7
      have h8 : Keeps a v7 := by
        unfold v7
        exact State.setCcx_keeps _ (by assumption)
      clear_value v7
      refine keeps_ite ?_ ?_
      · exact State.raise_keeps _ (State.setFbit_keeps _ _ _ (by assumption))
      · extract_lets +onlyGivenNames v9
        clear_value v9
        exact State.fset_keeps _ _ (State.setCcx_keeps _ (by assumption))
theorem State.resyncJoin_keeps {a s : State} (h : Keeps a s) : Keeps a (State.resyncJoin s) := by
  unfold State.resyncJoin
  split
  · assumption
  · refine keeps_ite ?_ ?_
    · assumption
    · exact State.fset_keeps _ _ (State.setCcx_keeps _ (by assumption))
theorem State.resyncEnd_keeps {a s : State} (h : Keeps a s) : Keeps a (State.resyncEnd s) := by
  unfold State.resyncEnd
  split
  · assumption
  · extract_lets +onlyGivenNames v1
    clear_value v1
    extract_lets +onlyGivenNames v2
    have h3 : Keeps a v2 := by
      unfold v2
      exact State.setCcx_keeps _ (by assumption)
    clear_value v2
    extract_lets +onlyGivenNames v4
    have h5 : Keeps a v4 := by
      unfold v4
      exact State.fset_keeps _ _ (State.fset_keeps _ _ (State.fset_keeps _ _ (by assumption)))
    clear_value v4
    exact State.raise_keeps _ (State.bump_keeps _ _ _ (by assumption))
theorem State.laneInject_keeps {a s : State} (x2 : _) (h : Keeps a s) : Keeps a (State.laneInject s x2) := by
  unfold State.laneInject
  refine keeps_ite ?_ ?_
  · assumption
  · exact State.setCcx_keeps _ (by assumption)
theorem State.voted_keeps {a s : State} (h : Keeps a s) : Keeps a (State.voted s).2 := by
  unfold State.voted
  extract_lets +onlyGivenNames v1
  clear_value v1
  split
  · assumption
  · extract_lets +onlyGivenNames v2
    clear_value v2
    extract_lets +onlyGivenNames v3
    have h4 : Keeps a v3 := by
      unfold v3
      exact State.setCcx_keeps _ (by assumption)
    clear_value v3
    refine keeps_ite2 ?_ ?_
    · dsimp only
      exact State.laneDisagree_keeps _ (by assumption)
    · dsimp only
      exact State.noMajority_keeps (by assumption)
theorem State.restartDone_keeps {a s : State} (h : Keeps a s) : Keeps a (State.restartDone s) := by
  unfold State.restartDone
  split
  · assumption
  · extract_lets +onlyGivenNames v1
    clear_value v1
    extract_lets +onlyGivenNames v2
    clear_value v2
    extract_lets +onlyGivenNames v3
    have h4 : Keeps a v3 := by
      unfold v3
      exact State.putCore_keeps _ _ (by assumption)
    clear_value v3
    extract_lets +onlyGivenNames v5
    clear_value v5
    extract_lets +onlyGivenNames v6
    have h7 : Keeps a v6 := by
      unfold v6
      exact State.setCore_keeps _ _ (State.setCcx_keeps _ (by assumption))
    clear_value v6
    extract_lets +onlyGivenNames v8
    have h9 : Keeps a v8 := by
      unfold v8
      exact State.fset_keeps _ _ (State.fset_keeps _ _ (State.fset_keeps _ _ (by assumption)))
    clear_value v8
    exact State.raise_keeps _ (State.bump_keeps _ _ _ (by assumption))
theorem State.logCore_keeps {a s : State} (x2 : _) (x3 : _) (x4 : _) (h : Keeps a s) : Keeps a (State.logCore s x2 x3 x4) := by
  unfold State.logCore
  extract_lets +onlyGivenNames v1
  have h2 : Keeps a v1.2 := by
    unfold v1
    exact State.free_keeps _ (by assumption)
  clear_value v1
  exact State.logErr_keeps _ _ _ _ _ _ _ (State.countUe_keeps _ (by assumption))
theorem State.coreReset_keeps {a s : State} (x2 : _) (h : Keeps a s) : Keeps a (State.coreReset s x2) := by
  unfold State.coreReset
  extract_lets +onlyGivenNames v1
  clear_value v1
  extract_lets +onlyGivenNames v2
  have h3 : Keeps a v2 := by
    unfold v2
    exact State.putCore_keeps _ _ (by assumption)
  clear_value v2
  exact State.raise_keeps _ (State.setCore_keeps _ _ (by assumption))
theorem State.laneUe_keeps {a s : State} (x2 : _) (x3 : _) (h : Keeps a s) : Keeps a (State.laneUe s x2 x3) := by
  unfold State.laneUe
  refine keeps_ite ?_ ?_
  · assumption
  · refine State.laneDisagree_keeps _ ?_
    split
    · exact State.logCore_keeps _ _ _ (by assumption)
    · exact State.logCore_keeps _ _ _ (by assumption)
    · exact State.logCore_keeps _ _ _ (by assumption)
theorem State.stevedoreUe_keeps {a s : State} (x2 : _) (x3 : _) (h : Keeps a s) : Keeps a (State.stevedoreUe s x2 x3) := by
  unfold State.stevedoreUe
  refine keeps_ite ?_ ?_
  · exact State.laneUe_keeps _ _ (by assumption)
  · refine keeps_ite ?_ ?_
    · assumption
    · extract_lets +onlyGivenNames v1
      clear_value v1
      split
      · exact State.coreReset_keeps _ (State.logCore_keeps _ _ _ (by assumption))
      · refine keeps_ite ?_ ?_
        · extract_lets +onlyGivenNames v2
          clear_value v2
          exact State.logCore_keeps _ _ _ (State.putCore_keeps _ _ (by assumption))
        · assumption
      · split
        · assumption
        · extract_lets +onlyGivenNames v3
          have h4 : Keeps a v3 := by
            unfold v3
            exact State.putCore_keeps _ _ (by assumption)
          clear_value v3
          refine keeps_ite ?_ ?_
          · extract_lets +onlyGivenNames v5
            have h6 : Keeps a v5 := by
              unfold v5
              exact State.logCore_keeps _ _ _ (State.coreMemPut_keeps _ _ _ _ _ _ (by assumption))
            clear_value v5
            exact State.emit_keeps _ (State.setBit_keeps _ _ (by assumption))
          · extract_lets +onlyGivenNames v7
            have h8 : Keeps a v7 := by
              unfold v7
              exact State.logCore_keeps _ _ _ (by assumption)
            clear_value v7
            refine keeps_ite ?_ ?_
            · assumption
            · exact State.blockOn_keeps _ _ _ _ _ (by assumption)
theorem State.reloadDone_keeps {a s : State} (x2 : _) (h : Keeps a s) : Keeps a (State.reloadDone s x2) := by
  unfold State.reloadDone
  split
  · assumption
  · exact State.setCore_keeps _ _ (State.putCore_keeps _ _ (by assumption))
theorem State.timerFire_keeps {a s : State} (x2 : _) (x3 : _) (h : Keeps a s) : Keeps a (State.timerFire s x2 x3) := by
  unfold State.timerFire
  refine keeps_ite ?_ ?_
  · assumption
  · extract_lets +onlyGivenNames v1
    clear_value v1
    refine keeps_ite ?_ ?_
    · refine keeps_ite ?_ ?_
      · exact State.raise_keeps _ (State.putCore_keeps _ _ (by assumption))
      · assumption
    · refine keeps_ite ?_ ?_
      · exact State.raise_keeps _ (State.putCore_keeps _ _ (by assumption))
      · assumption
theorem State.wdogKick_keeps {a s : State} (x2 : _) (x3 : _) (h : Keeps a s) : Keeps a (State.wdogKick s x2 x3) := by
  unfold State.wdogKick
  refine keeps_ite ?_ ?_
  · assumption
  · extract_lets +onlyGivenNames v1
    have h2 : Keeps a v1 := by
      unfold v1
      exact State.fset_keeps _ _ (State.setBit_keeps _ _ (by assumption))
    clear_value v1
    exact State.putCore_keeps _ _ (by assumption)
theorem State.wdogFire_keeps {a s : State} (x2 : _) (h : Keeps a s) : Keeps a (State.wdogFire s x2) := by
  unfold State.wdogFire
  refine keeps_ite ?_ ?_
  · assumption
  · extract_lets +onlyGivenNames v1
    have h2 : Keeps a v1 := by
      unfold v1
      exact State.setBit_keeps _ _ (by assumption)
    clear_value v1
    refine keeps_ite ?_ ?_
    · exact State.hmRestart_keeps (State.putCore_keeps _ _ (by assumption))
    · exact State.raise_keeps _ (State.coreReset_keeps _ (by assumption))
theorem State.interruptEntry_keeps {a s : State} (x2 : _) (h : Keeps a s) : Keeps a (State.interruptEntry s x2) := by
  unfold State.interruptEntry
  extract_lets +onlyGivenNames v1
  clear_value v1
  refine keeps_ite ?_ ?_
  · exact State.putCore_keeps _ _ (by assumption)
  · assumption
theorem State.interruptReturn_keeps {a s : State} (x2 : _) (h : Keeps a s) : Keeps a (State.interruptReturn s x2) := by
  unfold State.interruptReturn
  refine keeps_ite ?_ ?_
  · exact State.putCore_keeps _ _ (by assumption)
  · assumption
/-! ### TestFx.lean -/

theorem State.setLb_keeps {a s : State} (x2 : _) (x3 : _) (h : Keeps a s) : Keeps a (State.setLb s x2 x3) := by
  unfold State.setLb
  extract_lets +onlyGivenNames v1
  clear_value v1
  exact State.fset_keeps _ _ (keeps_upd (by assumption))
theorem State.lbWant_keeps {a s : State} (x2 : _) (x3 : _) (x4 : _) (h : Keeps a s) : Keeps a (State.lbWant s x2 x3 x4) := by
  unfold State.lbWant
  split
  · exact State.setLb_keeps _ _ (by assumption)
  · assumption
theorem State.lbGo_keeps {a s : State} (x2 : _) (h : Keeps a s) : Keeps a (State.lbGo s x2) := by
  unfold State.lbGo
  extract_lets +onlyGivenNames v1
  clear_value v1
  extract_lets +onlyGivenNames v2
  clear_value v2
  extract_lets +onlyGivenNames v3
  clear_value v3
  split
  · exact State.fset_keeps _ _ (by assumption)
  · exact State.lbWant_keeps _ _ _ (State.fset_keeps _ _ (by assumption))
theorem State.lbOut_keeps {a s : State} (x2 : _) (x3 : _) (h : Keeps a s) : Keeps a (State.lbOut s x2 x3) := by
  unfold State.lbOut
  split
  · refine State.fset_keeps _ _ ?_
    refine keeps_ite ?_ ?_
    · assumption
    · exact State.linkDown_keeps _ (by assumption)
  · exact State.fset_keeps _ _ (State.ethDown_keeps _ (by assumption))
  · exact State.fset_keeps _ _ (by assumption)
  · exact State.fset_keeps _ _ (by assumption)
  · exact State.setChannels_keeps (State.fset_keeps _ _ (State.channelLoss_keeps _ (by assumption)))
  · assumption
theorem State.lbBack_keeps {a s : State} (x2 : _) (x3 : _) (h : Keeps a s) : Keeps a (State.lbBack s x2 x3) := by
  unfold State.lbBack
  split
  · exact State.fset_keeps _ _ (by assumption)
  · exact State.fset_keeps _ _ (by assumption)
  · exact State.fset_keeps _ _ (by assumption)
  · exact State.fset_keeps _ _ (by assumption)
  · exact State.setChannels_keeps (State.fset_keeps _ _ (by assumption))
  · assumption
theorem State.lbRun_keeps {a s : State} (x2 : _) (h : Keeps a s) : Keeps a (State.lbRun s x2) := by
  unfold State.lbRun
  extract_lets +onlyGivenNames v1
  clear_value v1
  refine keeps_ite ?_ ?_
  · assumption
  · extract_lets +onlyGivenNames v2
    have h3 : Keeps a v2.2 := by
      unfold v2
      exact State.free_keeps _ (by assumption)
    clear_value v2
    extract_lets +onlyGivenNames v4
    have h5 : Keeps a v4.2 := by
      unfold v4
      exact State.free_keeps _ (by assumption)
    clear_value v4
    extract_lets +onlyGivenNames v6
    have h7 : Keeps a v6 := by
      unfold v6
      assumption
    extract_lets +onlyGivenNames v8
    clear_value v8
    extract_lets +onlyGivenNames v9
    clear_value v9
    extract_lets +onlyGivenNames v10
    clear_value v10
    extract_lets +onlyGivenNames v11
    have h12 : Keeps a v11 := by
      unfold v11
      exact State.setLb_keeps _ _ (by assumption)
    clear_value v11
    extract_lets +onlyGivenNames v13
    have h14 : Keeps a v13 := by
      unfold v13
      refine keeps_ite ?_ ?_
      · exact State.raise_keeps _ (by assumption)
      · assumption
    clear_value v13
    refine keeps_ite ?_ ?_
    · exact State.raise_keeps _ (by assumption)
    · assumption
theorem State.lbStart_keeps {a s : State} (x2 : _) (h : Keeps a s) : Keeps a (State.lbStart s x2) := by
  unfold State.lbStart
  split
  · assumption
  · extract_lets +onlyGivenNames v1
    clear_value v1
    extract_lets +onlyGivenNames v2
    clear_value v2
    extract_lets +onlyGivenNames v3
    clear_value v3
    extract_lets +onlyGivenNames v4
    have h5 : Keeps a v4 := by
      unfold v4
      exact State.setLb_keeps _ _ (by assumption)
    clear_value v4
    refine keeps_ite ?_ ?_
    · refine keeps_ite ?_ ?_
      · assumption
      · exact State.lbBack_keeps _ _ (State.setLb_keeps _ _ (by assumption))
    · extract_lets +onlyGivenNames v6
      have h7 : Keeps a v6.2 := by
        unfold v6
        exact State.free_keeps _ (by assumption)
      clear_value v6
      exact State.lbRun_keeps _ (State.setLb_keeps _ _ (State.lbOut_keeps _ _ (by assumption)))
theorem State.lbEnd_keeps {a s : State} (x2 : _) (h : Keeps a s) : Keeps a (State.lbEnd s x2) := by
  unfold State.lbEnd
  refine keeps_ite ?_ ?_
  · exact State.setLb_keeps _ _ (by assumption)
  · exact State.lbBack_keeps _ _ (State.setLb_keeps _ _ (by assumption))
theorem State.lbEndPorts_keeps {a s : State} (h : Keeps a s) : Keeps a (State.lbEndPorts s) := by
  unfold State.lbEndPorts
  refine keeps_foldl ?_ ?_
  · assumption
  · intro u1 u2 u3
    beta_reduce
    exact State.lbEnd_keeps _ (by assumption)
theorem State.lbEndPack_keeps {a s : State} (h : Keeps a s) : Keeps a (State.lbEndPack s) := by
  unfold State.lbEndPack
  exact State.lbEnd_keeps _ (by assumption)
theorem State.onfiTrained_keeps {a s : State} (x2 : _) (h : Keeps a s) : Keeps a (State.onfiTrained s x2) := by
  unfold State.onfiTrained
  refine keeps_ite ?_ ?_
  · assumption
  · exact State.setChannels_keeps (State.fset_keeps _ _ (by assumption))
theorem State.setTest_keeps {a s : State} (x2 : _) (h : Keeps a s) : Keeps a (State.setTest s x2) := by
  unfold State.setTest
  exact keeps_upd (by assumption)
theorem State.tapReset_keeps {a s : State} (h : Keeps a s) : Keeps a (State.tapReset s) := by
  unfold State.tapReset
  exact State.setBit_keeps _ _ (State.setBit_keeps _ _ (State.setTest_keeps _ (by assumption)))
theorem State.tapLoad_keeps {a s : State} (x2 : _) (h : Keeps a s) : Keeps a (State.tapLoad s x2) := by
  unfold State.tapLoad
  exact State.setBit_keeps _ _ (State.setBit_keeps _ _ (State.setTest_keeps _ (by assumption)))
theorem State.tapTest_keeps {a s : State} (x2 : _) (h : Keeps a s) : Keeps a (State.tapTest s x2) := by
  unfold State.tapTest
  refine keeps_ite ?_ ?_
  · exact State.tapLoad_keeps _ (by assumption)
  · exact State.setBit_keeps _ _ (State.tapLoad_keeps _ (by assumption))
theorem State.tapIdcode_keeps {a s : State} (h : Keeps a s) : Keeps a (State.tapIdcode s) := by
  unfold State.tapIdcode
  exact State.emit_keeps _ (State.tapLoad_keeps _ (by assumption))
theorem State.tapBypass_keeps {a s : State} (h : Keeps a s) : Keeps a (State.tapBypass s) := by
  unfold State.tapBypass
  exact State.emit_keeps _ (State.tapLoad_keeps _ (by assumption))
theorem State.tapSample_keeps {a s : State} (x2 : _) (h : Keeps a s) : Keeps a (State.tapSample s x2) := by
  unfold State.tapSample
  extract_lets +onlyGivenNames v1
  have h2 : Keeps a v1.2 := by
    unfold v1
    exact State.free_keeps _ (by assumption)
  clear_value v1
  exact State.emit_keeps _ (State.setTest_keeps _ (State.tapLoad_keeps _ (by assumption)))
/-! ### ResetFx.lean -/

theorem State.setClk_keeps {a s : State} (x2 : _) (h : Keeps a s) : Keeps a (State.setClk s x2) := by
  unfold State.setClk
  exact keeps_upd (by assumption)
theorem State.loftPage_keeps {a s : State} (x2 : _) (h : Keeps a s) : Keeps a (State.loftPage s x2) := by
  unfold State.loftPage
  split
  · assumption
  · extract_lets +onlyGivenNames v1
    clear_value v1
    extract_lets +onlyGivenNames v2
    have h3 : Keeps a v2.2 := by
      unfold v2
      exact State.place_keeps _ _ (by assumption)
    clear_value v2
    extract_lets +onlyGivenNames v4
    have h5 : Keeps a v4 := by
      unfold v4
      exact State.useBlock_keeps _ _ _ (by assumption)
    clear_value v4
    extract_lets +onlyGivenNames v6
    clear_value v6
    extract_lets +onlyGivenNames v7
    clear_value v7
    refine keeps_updN ?_ (hl := ?_)
    · assumption
    · exact wf_memSetPage
theorem State.beginLoft_keeps {a s : State} (h : Keeps a s) : Keeps a (State.beginLoft s) := by
  unfold State.beginLoft
  extract_lets +onlyGivenNames v1
  clear_value v1
  exact keeps_upd (by assumption)
theorem State.savePages_keeps {a s : State} (x2 : _) (h : Keeps a s) : Keeps a (State.savePages s x2) := by
  unfold State.savePages
  extract_lets +onlyGivenNames v1
  clear_value v1
  extract_lets +onlyGivenNames v2
  have h3 : Keeps a v2 := by
    unfold v2
    refine keeps_foldl ?_ ?_
    · exact State.beginLoft_keeps (by assumption)
    · intro u4 u5 u6
      beta_reduce
      exact State.loftPage_keeps _ (by assumption)
  clear_value v2
  exact keeps_upd (by assumption)
theorem State.losePages_keeps {a s : State} (x2 : _) (h : Keeps a s) : Keeps a (State.losePages s x2) := by
  unfold State.losePages
  extract_lets +onlyGivenNames v1
  clear_value v1
  extract_lets +onlyGivenNames v2
  clear_value v2
  extract_lets +onlyGivenNames v3
  clear_value v3
  exact keeps_upd (by assumption)
theorem State.powerCut_keeps {a s : State} (h : Keeps a s) : Keeps a (State.powerCut s) := by
  unfold State.powerCut
  refine keeps_ite ?_ ?_
  · assumption
  · refine keeps_ite ?_ ?_
    · exact State.losePages_keeps _ (by assumption)
    · extract_lets +onlyGivenNames v1
      clear_value v1
      extract_lets +onlyGivenNames v2
      have h3 : Keeps a v2.2 := by
        unfold v2
        exact State.free_keeps _ (by assumption)
      clear_value v2
      extract_lets +onlyGivenNames v4
      clear_value v4
      extract_lets +onlyGivenNames v5
      have h6 : Keeps a v5 := by
        unfold v5
        assumption
      refine keeps_ite ?_ ?_
      · exact State.losePages_keeps _ (State.beginLoft_keeps (by assumption))
      · exact State.losePages_keeps _ (State.savePages_keeps _ (by assumption))
theorem mainResets_wf : swf 0 mainResets = true := by decide
theorem swf_resetRegs (m : SMap Nat) : swf 0 (resetRegs m) = true := swf_sputAll _ _ mainResets_wf
theorem State.mainReset_keeps {a s : State} (c : _) (h : Keeps a s) : Keeps a (State.mainReset s c) := by
  unfold State.mainReset
  extract_lets +onlyGivenNames t tap rgn u v
  have ht : Keeps a t := State.closeEpoch_keeps _ (State.setIcu_keeps _ h Icu.main_wf)
  exact State.fset_keeps _ _ (State.setBit_keeps _ _ (State.endReh_keeps (keeps_upd ht (hr := fun _ => swf_resetRegs _) (hd := fun _ => rfl)
    (hh := fun _ => rfl) (hs := fun _ => rfl))))

theorem State.beginStart_keeps {a s : State} (h : Keeps a s) : Keeps a (State.beginStart s) := by
  unfold State.beginStart
  refine keeps_ite ?_ ?_
  · assumption
  · extract_lets +onlyGivenNames v1
    clear_value v1
    extract_lets +onlyGivenNames v2
    have h3 : Keeps a v2 := by
      unfold v2
      exact State.setClk_keeps _ (by assumption)
    clear_value v2
    exact State.fset_keeps _ _ (by assumption)
theorem State.wakeUp_keeps {a s : State} (h : Keeps a s) : Keeps a (State.wakeUp s) := by
  unfold State.wakeUp
  refine keeps_ite ?_ ?_
  · assumption
  · refine keeps_ite ?_ ?_
    · exact State.beginStart_keeps (State.mainReset_keeps _ (by assumption))
    · exact State.beginStart_keeps (by assumption)
theorem State.watchFire_keeps {a s : State} (x2 : _) (h : Keeps a s) : Keeps a (State.watchFire s x2) := by
  unfold State.watchFire
  exact State.wakeUp_keeps (State.watchEdge_keeps _ (by assumption))
theorem State.unmirrorLanded_keeps {a s : State} (h : Keeps a s) : Keeps a (State.unmirrorLanded s) := by
  unfold State.unmirrorLanded
  refine keeps_foldl ?_ ?_
  · assumption
  · intro u1 u2 u3
    beta_reduce
    exact State.setPage_keeps _ _ (by assumption)
theorem State.abandonAll_keeps {a s : State} (h : Keeps a s) : Keeps a (State.abandonAll s) := by
  unfold State.abandonAll
  extract_lets +onlyGivenNames v1
  have h2 : Keeps a v1 := by
    unfold v1
    refine keeps_foldl ?_ ?_
    · assumption
    · intro u3 u4 u5
      beta_reduce
      exact State.setPage_keeps _ _ (by assumption)
  clear_value v1
  exact State.chkStopAll_keeps (keeps_upd (by assumption))
theorem State.haltStevedores_keeps {a s : State} (h : Keeps a s) : Keeps a (State.haltStevedores s) := by
  unfold State.haltStevedores
  refine keeps_foldl ?_ ?_
  · assumption
  · intro u1 u2 u3
    beta_reduce
    extract_lets +onlyGivenNames v4
    clear_value v4
    extract_lets +onlyGivenNames v5
    clear_value v5
    exact State.setCore_keeps _ _ (State.putCore_keeps _ _ (by assumption))
theorem State.dropInFlight_keeps {a s : State} (h : Keeps a s) : Keeps a (State.dropInFlight s) := by
  unfold State.dropInFlight
  extract_lets +onlyGivenNames v1
  have h2 : Keeps a v1 := by
    unfold v1
    exact State.unmirrorLanded_keeps (by assumption)
  clear_value v1
  extract_lets +onlyGivenNames v3
  clear_value v3
  extract_lets +onlyGivenNames v4
  clear_value v4
  extract_lets +onlyGivenNames v5
  clear_value v5
  extract_lets +onlyGivenNames v6
  clear_value v6
  extract_lets +onlyGivenNames v7
  extract_lets +onlyGivenNames v8
  extract_lets +onlyGivenNames v9
  extract_lets +onlyGivenNames v10
  extract_lets +onlyGivenNames v11
  clear_value v11
  extract_lets +onlyGivenNames v12
  have h13 : Keeps a v12 := by
    unfold v12
    exact keeps_upd (by assumption)
  clear_value v12
  extract_lets +onlyGivenNames v14
  have h15 : Keeps a v14 := by
    unfold v14
    exact State.setSlots_keeps _ (by assumption)
  clear_value v14
  exact keeps_upd (by assumption)
theorem State.enterSave_keeps {a s : State} (x2 : _) (h : Keeps a s) : Keeps a (State.enterSave s x2) := by
  unfold State.enterSave
  extract_lets +onlyGivenNames v1
  have h2 : Keeps a v1 := by
    unfold v1
    exact State.actuatorsOff_keeps (State.endReh_keeps (State.finalHeartbeat_keeps (by assumption)))
  clear_value v1
  extract_lets +onlyGivenNames v3
  have h4 : Keeps a v3 := by
    unfold v3
    exact State.raise_keeps _ (State.fset_keeps _ _ (by assumption))
  clear_value v3
  extract_lets +onlyGivenNames v5
  have h6 : Keeps a v5 := by
    unfold v5
    exact State.fset_keeps _ _ (by assumption)
  clear_value v5
  extract_lets +onlyGivenNames v7
  have h8 : Keeps a v7 := by
    unfold v7
    exact State.drainAllMerge_keeps (State.abandonAll_keeps (State.dropInFlight_keeps (by assumption)))
  clear_value v7
  extract_lets +onlyGivenNames v9
  have h10 : Keeps a v9 := by
    unfold v9
    exact State.haltStevedores_keeps (State.lbEndPorts_keeps (by assumption))
  clear_value v9
  extract_lets +onlyGivenNames v11
  clear_value v11
  extract_lets +onlyGivenNames v12
  have h13 : Keeps a v12 := by
    unfold v12
    exact State.setClk_keeps _ (by assumption)
  clear_value v12
  exact State.recSave_keeps (State.bump_keeps _ _ _ (by assumption))
theorem State.saveCommit_keeps {a s : State} (h : Keeps a s) : Keeps a (State.saveCommit s) := by
  unfold State.saveCommit
  refine keeps_ite ?_ ?_
  · assumption
  · extract_lets +onlyGivenNames v1
    have h2 : Keeps a v1 := by
      unfold v1
      exact State.savePages_keeps _ (by assumption)
    clear_value v1
    extract_lets +onlyGivenNames v3
    extract_lets +onlyGivenNames v4
    clear_value v4
    extract_lets +onlyGivenNames v5
    have h6 : Keeps a v5 := by
      unfold v5
      exact keeps_upd (by assumption)
    clear_value v5
    extract_lets +onlyGivenNames v7
    have h8 : Keeps a v7 := by
      unfold v7
      exact State.recCommit_keeps (State.fset_keeps _ _ (State.setHold_keeps _ (by assumption)))
    clear_value v7
    extract_lets +onlyGivenNames v9
    have h10 : Keeps a v9 := by
      unfold v9
      exact State.raise_keeps _ (State.watchOn_keeps (by assumption))
    clear_value v9
    extract_lets +onlyGivenNames v11
    have h12 : Keeps a v11 := by
      unfold v11
      exact State.closeEpoch_keeps _ (by assumption)
    clear_value v11
    extract_lets +onlyGivenNames v13
    clear_value v13
    extract_lets +onlyGivenNames v14
    have h15 : Keeps a v14 := by
      unfold v14
      exact State.mainReset_keeps _ (by assumption)
    clear_value v14
    extract_lets +onlyGivenNames v16
    clear_value v16
    extract_lets +onlyGivenNames v17
    have h18 : Keeps a v17 := by
      unfold v17
      exact State.setClk_keeps _ (by assumption)
    clear_value v17
    exact State.beginStart_keeps (by assumption)
theorem State.pfailHold_keeps {a s : State} (h : Keeps a s) : Keeps a (State.pfailHold s) := by
  unfold State.pfailHold
  refine keeps_ite ?_ ?_
  · exact State.setHold_keeps _ (by assumption)
  · assumption
theorem State.failHold_keeps {a s : State} (h : Keeps a s) : Keeps a (State.failHold s) := by
  unfold State.failHold
  exact State.raise_keeps _ (State.actuatorsOff_keeps (State.pfailHold_keeps (by assumption)))
theorem State.pfail_keeps {a s : State} (h : Keeps a s) : Keeps a (State.pfail s) := by
  unfold State.pfail
  refine keeps_ite ?_ ?_
  · assumption
  · extract_lets +onlyGivenNames v1
    clear_value v1
    extract_lets +onlyGivenNames v2
    have h3 : Keeps a v2 := by
      unfold v2
      exact State.setClk_keeps _ (by assumption)
    clear_value v2
    extract_lets +onlyGivenNames v4
    have h5 : Keeps a v4 := by
      unfold v4
      exact State.lbEndPack_keeps (by assumption)
    clear_value v4
    extract_lets +onlyGivenNames v6
    clear_value v6
    refine keeps_ite ?_ ?_
    · exact State.setClk_keeps _ (by assumption)
    · refine keeps_ite ?_ ?_
      · exact State.pfailHold_keeps (by assumption)
      · refine keeps_ite ?_ ?_
        · refine keeps_ite ?_ ?_
          · assumption
          · exact State.mainReset_keeps _ (by assumption)
        · refine keeps_ite ?_ ?_
          · assumption
          · extract_lets +onlyGivenNames v7
            have h8 : Keeps a v7 := by
              unfold v7
              exact State.failHold_keeps (State.failReh_keeps _ _ (by assumption))
            clear_value v7
            refine keeps_ite ?_ ?_
            · exact State.fset_keeps _ _ (State.setEpc_keeps _ (by assumption))
            · exact State.enterSave_keeps _ (by assumption)
theorem State.rideExpiry_keeps {a s : State} (h : Keeps a s) : Keeps a (State.rideExpiry s) := by
  unfold State.rideExpiry
  refine keeps_ite ?_ ?_
  · assumption
  · refine keeps_ite ?_ ?_
    · exact State.enterSave_keeps _ (by assumption)
    · assumption
theorem State.rideReturn_keeps {a s : State} (h : Keeps a s) : Keeps a (State.rideReturn s) := by
  unfold State.rideReturn
  refine keeps_ite ?_ ?_
  · assumption
  · extract_lets +onlyGivenNames v1
    clear_value v1
    extract_lets +onlyGivenNames v2
    have h3 : Keeps a v2 := by
      unfold v2
      exact State.setClk_keeps _ (by assumption)
    clear_value v2
    extract_lets +onlyGivenNames v4
    have h5 : Keeps a v4 := by
      unfold v4
      exact State.fset_keeps _ _ (State.setHold_keeps _ (by assumption))
    clear_value v4
    exact State.setEpc_keeps _ (by assumption)
theorem State.pfailRise_keeps {a s : State} (h : Keeps a s) : Keeps a (State.pfailRise s) := by
  unfold State.pfailRise
  extract_lets +onlyGivenNames v1
  clear_value v1
  extract_lets +onlyGivenNames v2
  have h3 : Keeps a v2 := by
    unfold v2
    exact State.setClk_keeps _ (by assumption)
  clear_value v2
  refine keeps_ite ?_ ?_
  · exact State.beginStart_keeps (by assumption)
  · assumption
theorem State.pwrGoodRise_keeps {a s : State} (h : Keeps a s) : Keeps a (State.pwrGoodRise s) := by
  unfold State.pwrGoodRise
  refine keeps_ite ?_ ?_
  · assumption
  · extract_lets +onlyGivenNames v1
    clear_value v1
    extract_lets +onlyGivenNames v2
    have h3 : Keeps a v2 := by
      unfold v2
      exact State.setClk_keeps _ (by assumption)
    clear_value v2
    exact State.beginStart_keeps (State.mainReset_keeps _ (by assumption))
theorem State.pwrLost_keeps {a s : State} (h : Keeps a s) : Keeps a (State.pwrLost s) := by
  unfold State.pwrLost
  extract_lets +onlyGivenNames v1
  have h2 : Keeps a v1 := by
    unfold v1
    exact State.recCut_keeps (State.powerCut_keeps (by assumption))
  clear_value v1
  extract_lets +onlyGivenNames v3
  have h4 : Keeps a v3 := by
    unfold v3
    exact State.mainReset_keeps _ (by assumption)
  clear_value v3
  exact State.fset_keeps _ _ (State.setHold_keeps _ (by assumption))
theorem State.pwrGoodFall_keeps {a s : State} (h : Keeps a s) : Keeps a (State.pwrGoodFall s) := by
  unfold State.pwrGoodFall
  refine keeps_ite ?_ ?_
  · assumption
  · exact State.pwrLost_keeps (State.setClk_keeps _ (by assumption))
theorem State.railLow_keeps {a s : State} (h : Keeps a s) : Keeps a (State.railLow s) := by
  unfold State.railLow
  exact State.pwrGoodFall_keeps (by assumption)
theorem State.sysRst_keeps {a s : State} (h : Keeps a s) : Keeps a (State.sysRst s) := by
  unfold State.sysRst
  refine keeps_ite ?_ ?_
  · assumption
  · extract_lets +onlyGivenNames v1
    clear_value v1
    extract_lets +onlyGivenNames v2
    have h3 : Keeps a v2 := by
      unfold v2
      exact State.setClk_keeps _ (by assumption)
    clear_value v2
    extract_lets +onlyGivenNames v4
    have h5 : Keeps a v4 := by
      unfold v4
      exact State.bump_keeps _ _ _ (by assumption)
    clear_value v4
    refine keeps_ite ?_ ?_
    · exact State.setClk_keeps _ (by assumption)
    · refine keeps_ite ?_ ?_
      · assumption
      · refine keeps_ite ?_ ?_
        · exact State.mainReset_keeps _ (by assumption)
        · exact State.enterSave_keeps _ (by assumption)
theorem State.sysRstRelease_keeps {a s : State} (h : Keeps a s) : Keeps a (State.sysRstRelease s) := by
  unfold State.sysRstRelease
  refine keeps_ite ?_ ?_
  · assumption
  · extract_lets +onlyGivenNames v1
    clear_value v1
    extract_lets +onlyGivenNames v2
    have h3 : Keeps a v2 := by
      unfold v2
      exact State.setClk_keeps _ (by assumption)
    clear_value v2
    refine keeps_ite ?_ ?_
    · exact State.beginStart_keeps (State.mainReset_keeps _ (by assumption))
    · refine keeps_ite ?_ ?_
      · exact State.beginStart_keeps (by assumption)
      · assumption
theorem State.aonRegs_wf (s : State) (h : swf 0 s.regs = true) : swf 0 s.aonRegs = true :=
  swf_sput _ _ _ (swf_sput _ _ _ (swf_sputAll _ _ (swf_filter _ _ h)))
theorem State.aonReset_keeps {a s : State} (h : Keeps a s) : Keeps a (State.aonReset s) := by
  unfold State.aonReset
  extract_lets +onlyGivenNames t u st v ic icu ep w x
  have hu : Keeps a u := State.recCut_keeps (State.powerCut_keeps (State.settingsCut_keeps (State.closeEpoch_keeps _ h)))
  clear_value u
  have hv : Keeps a v := keeps_upd hu
  clear_value v
  have hw : Keeps a w := keeps_upd hv (hr := fun k => swf_sput _ _ _ (State.aonRegs_wf _ k)) (hi := fun _ => Icu.wf_nil rfl rfl)
  clear_value w
  exact State.mainReset_keeps _ (keeps_upd (State.setTest_keeps _ hw))

theorem State.aonRst_keeps {a s : State} (h : Keeps a s) : Keeps a (State.aonRst s) := by
  unfold State.aonRst
  refine keeps_ite ?_ ?_
  · assumption
  · exact State.aonReset_keeps (State.setClk_keeps _ (by assumption))
theorem State.aonRstRelease_keeps {a s : State} (h : Keeps a s) : Keeps a (State.aonRstRelease s) := by
  unfold State.aonRstRelease
  refine keeps_ite ?_ ?_
  · assumption
  · extract_lets +onlyGivenNames v1
    clear_value v1
    extract_lets +onlyGivenNames v2
    have h3 : Keeps a v2 := by
      unfold v2
      exact State.setClk_keeps _ (by assumption)
    clear_value v2
    refine keeps_ite ?_ ?_
    · assumption
    · exact State.beginStart_keeps (State.mainReset_keeps _ (by assumption))
theorem State.vaonRise_keeps {a s : State} (h : Keeps a s) : Keeps a (State.vaonRise s) := by
  unfold State.vaonRise
  extract_lets +onlyGivenNames v1
  clear_value v1
  extract_lets +onlyGivenNames v2
  have h3 : Keeps a v2 := by
    unfold v2
    exact State.setClk_keeps _ (by assumption)
  clear_value v2
  exact State.beginStart_keeps (State.aonReset_keeps (by assumption))
theorem State.refLoss_keeps {a s : State} (h : Keeps a s) : Keeps a (State.refLoss s) := by
  unfold State.refLoss
  refine keeps_ite ?_ ?_
  · assumption
  · extract_lets +onlyGivenNames v1
    clear_value v1
    extract_lets +onlyGivenNames v2
    have h3 : Keeps a v2 := by
      unfold v2
      exact State.setClk_keeps _ (by assumption)
    clear_value v2
    exact State.raise_keeps _ (State.bump_keeps _ _ _ (State.setBit_keeps _ _ (by assumption)))
theorem State.refBack_keeps {a s : State} (h : Keeps a s) : Keeps a (State.refBack s) := by
  unfold State.refBack
  exact State.setBit_keeps _ _ (by assumption)
theorem State.refReset_keeps {a s : State} (h : Keeps a s) : Keeps a (State.refReset s) := by
  unfold State.refReset
  refine keeps_ite ?_ ?_
  · assumption
  · exact State.enterSave_keeps _ (by assumption)
theorem State.xtalStop_keeps {a s : State} (h : Keeps a s) : Keeps a (State.xtalStop s) := by
  unfold State.xtalStop
  refine keeps_ite ?_ ?_
  · assumption
  · extract_lets +onlyGivenNames v1
    clear_value v1
    extract_lets +onlyGivenNames v2
    have h3 : Keeps a v2 := by
      unfold v2
      exact State.setClk_keeps _ (by assumption)
    clear_value v2
    exact State.raise_keeps _ (State.setBit_keeps _ _ (by assumption))
theorem State.xtalBack_keeps {a s : State} (h : Keeps a s) : Keeps a (State.xtalBack s) := by
  unfold State.xtalBack
  exact State.setBit_keeps _ _ (State.setClk_keeps _ (by assumption))
/-! ### StartFx.lean -/

theorem State.latchAll_keeps {a s : State} (h : Keeps a s) : Keeps a (State.latchAll s) := by
  unfold State.latchAll
  exact State.setClk_keeps _ (by assumption)
theorem State.startFail_keeps {a s : State} (x2 : _) (h : Keeps a s) : Keeps a (State.startFail s x2) := by
  unfold State.startFail
  extract_lets +onlyGivenNames v1
  clear_value v1
  extract_lets +onlyGivenNames v2
  have h3 : Keeps a v2 := by
    unfold v2
    exact State.setClk_keeps _ (by assumption)
  clear_value v2
  exact State.raise_keeps _ (State.setBit_keeps _ _ (State.fset_keeps _ _ (by assumption)))
theorem State.stepEnd_keeps {a s : State} (x2 : _) (x3 : _) (h : Keeps a s) : Keeps a (State.stepEnd s x2 x3) := by
  unfold State.stepEnd
  refine State.fset_keeps _ _ ?_
  refine State.fset_keeps _ _ ?_
  refine keeps_updN ?_ (hn := ?_)
  · assumption
  · exact Nat.le_max_left _ _
theorem State.step0_keeps {a s : State} (h : Keeps a s) : Keeps a (State.step0 s) := by
  unfold State.step0
  extract_lets +onlyGivenNames v1
  clear_value v1
  extract_lets +onlyGivenNames v2
  have h3 : Keeps a v2 := by
    unfold v2
    exact State.setClk_keeps _ (by assumption)
  clear_value v2
  exact State.fset_keeps _ _ (State.setCcx_keeps _ (by assumption))
theorem State.linksBegin_keeps {a s : State} (h : Keeps a s) : Keeps a (State.linksBegin s) := by
  unfold State.linksBegin
  extract_lets +onlyGivenNames v1
  have h2 : Keeps a v1 := by
    unfold v1
    refine keeps_foldl ?_ ?_
    · assumption
    · intro u3 u4 u5
      beta_reduce
      refine keeps_ite ?_ ?_
      · exact State.fset_keeps _ _ (by assumption)
      · assumption
  clear_value v1
  refine keeps_foldl ?_ ?_
  · assumption
  · intro u6 u7 u8
    beta_reduce
    refine keeps_ite ?_ ?_
    · exact State.fset_keeps _ _ (by assumption)
    · assumption
theorem State.step1_keeps {a s : State} (h : Keeps a s) : Keeps a (State.step1 s) := by
  unfold State.step1
  extract_lets +onlyGivenNames v1
  have h2 : Keeps a v1 := by
    unfold v1
    exact State.watchOff_keeps (State.latchAll_keeps (State.reloadWords_keeps (State.groupRecover_keeps (by assumption))))
  clear_value v1
  extract_lets +onlyGivenNames v3
  have h4 : Keeps a v3 := by
    unfold v3
    refine keeps_ite ?_ ?_
    · exact State.bumpQuiet_keeps _ (by assumption)
    · assumption
  clear_value v3
  extract_lets +onlyGivenNames v5
  have h6 : Keeps a v5 := by
    unfold v5
    exact State.openEpoch_keeps (by assumption)
  clear_value v5
  extract_lets +onlyGivenNames v7
  have h8 : Keeps a v7 := by
    unfold v7
    exact State.linksBegin_keeps (State.fset_keeps _ _ (State.setCore_keeps _ _ (by assumption)))
  clear_value v7
  refine State.setBit_keeps _ _ ?_
  refine keeps_ite ?_ ?_
  · assumption
  · exact State.setAct_keeps _ (by assumption)
theorem State.step2_keeps {a s : State} (h : Keeps a s) : Keeps a (State.step2 s) := by
  unfold State.step2
  extract_lets +onlyGivenNames v1
  have h2 : Keeps a v1.2 := by
    unfold v1
    exact State.ocvInverse_keeps _ (by assumption)
  clear_value v1
  extract_lets +onlyGivenNames v3
  clear_value v3
  extract_lets +onlyGivenNames v4
  have h5 : Keeps a v4 := by
    unfold v4
    refine keeps_ite ?_ ?_
    · assumption
    · exact State.setCharge_keeps _ (State.setEpc_keeps _ (by assumption))
  clear_value v4
  exact State.modelUpdate_keeps (by assumption)
theorem State.loftNow_keeps {a s : State} (h : Keeps a s) : Keeps a (State.loftNow s) := by
  unfold State.loftNow
  extract_lets +onlyGivenNames v1
  clear_value v1
  extract_lets +onlyGivenNames v2
  clear_value v2
  extract_lets +onlyGivenNames v3
  clear_value v3
  extract_lets +onlyGivenNames v4
  extract_lets +onlyGivenNames v5
  have h6 : Keeps a v5 := by
    unfold v5
    refine keeps_ite ?_ ?_
    · exact keeps_upd (by assumption)
    · assumption
  clear_value v5
  exact State.setBit_keeps _ _ (by assumption)
theorem State.flashChannel_keeps {a s : State} (x2 : _) (x3 : _) (x4 : _) (h : Keeps a s) : Keeps a (State.flashChannel s x2 x3 x4) := by
  unfold State.flashChannel
  refine keeps_ite ?_ ?_
  · exact State.fset_keeps _ _ (State.fset_keeps _ _ (by assumption))
  · extract_lets +onlyGivenNames v1
    clear_value v1
    extract_lets +onlyGivenNames v2
    have h3 : Keeps a v2.2 := by
      unfold v2
      exact State.free_keeps _ (by assumption)
    clear_value v2
    extract_lets +onlyGivenNames v4
    have h5 : Keeps a v4 := by
      unfold v4
      exact State.fset_keeps _ _ (by assumption)
    clear_value v4
    extract_lets +onlyGivenNames v6
    have h7 : Keeps a v6 := by
      unfold v6
      exact State.fset_keeps _ _ (by assumption)
    clear_value v6
    exact State.fset_keeps _ _ (State.fset_keeps _ _ (by assumption))
theorem State.firstFree_keeps {a s : State} (x2 : _) (h : Keeps a s) : Keeps a (State.firstFree s x2) := by
  unfold State.firstFree
  extract_lets +onlyGivenNames v1
  have h2 : Keeps a v1.2 := by
    unfold v1
    exact State.free_keeps _ (by assumption)
  clear_value v1
  extract_lets +onlyGivenNames v3
  have h4 : Keeps a v3 := by
    unfold v3
    assumption
  exact keeps_upd (by assumption)
theorem State.flashUp_keeps {a s : State} (x2 : _) (x3 : _) (x4 : _) (h : Keeps a s) : Keeps a (State.flashUp s x2 x3 x4) := by
  unfold State.flashUp
  extract_lets +onlyGivenNames v1
  extract_lets +onlyGivenNames v2
  have h3 : Keeps a v2 := by
    unfold v2
    exact keeps_upd (by assumption)
  clear_value v2
  refine keeps_ite ?_ ?_
  · exact State.setBit_keeps _ _ (by assumption)
  · extract_lets +onlyGivenNames v4
    clear_value v4
    extract_lets +onlyGivenNames v5
    have h6 : Keeps a v5 := by
      unfold v5
      exact State.loftNow_keeps (by assumption)
    clear_value v5
    extract_lets +onlyGivenNames v7
    have h8 : Keeps a v7 := by
      unfold v7
      refine State.setChannels_keeps ?_
      refine keeps_foldl ?_ ?_
      · assumption
      · intro u9 u10 u11
        beta_reduce
        exact State.flashChannel_keeps _ _ _ (by assumption)
    clear_value v7
    extract_lets +onlyGivenNames v12
    clear_value v12
    extract_lets +onlyGivenNames v13
    clear_value v13
    extract_lets +onlyGivenNames v14
    have h15 : Keeps a v14 := by
      unfold v14
      exact State.fset_keeps _ _ (State.fset_keeps _ _ (by assumption))
    clear_value v14
    extract_lets +onlyGivenNames v16
    have h17 : Keeps a v16 := by
      unfold v16
      exact State.fset_keeps _ _ (by assumption)
    clear_value v16
    extract_lets +onlyGivenNames v18
    have h19 : Keeps a v18 := by
      unfold v18
      refine keeps_ite ?_ ?_
      · exact State.firstFree_keeps _ (by assumption)
      · assumption
    clear_value v18
    extract_lets +onlyGivenNames v20
    have h21 : Keeps a v20 := by
      unfold v20
      exact State.fset_keeps _ _ (State.setFree_keeps _ (by assumption))
    clear_value v20
    exact State.setBit_keeps _ _ (State.setWear_keeps (by assumption))
theorem State.timings_keeps {a s : State} (x2 : _) (x3 : _) (x4 : _) (h : Keeps a s) : Keeps a (State.timings s x2 x3 x4) := by
  unfold State.timings
  extract_lets +onlyGivenNames v1
  clear_value v1
  extract_lets +onlyGivenNames v2
  have h3 : Keeps a v2 := by
    unfold v2
    exact State.fset_keeps _ _ (State.fset_keeps _ _ (by assumption))
  clear_value v2
  extract_lets +onlyGivenNames v4
  clear_value v4
  exact State.fset_keeps _ _ (State.fset_keeps _ _ (by assumption))
theorem State.dmcChannel_keeps {a s : State} (x2 : _) (x3 : _) (x4 : _) (h : Keeps a s) : Keeps a (State.dmcChannel s x2 x3 x4) := by
  unfold State.dmcChannel
  extract_lets +onlyGivenNames v1
  clear_value v1
  extract_lets +onlyGivenNames v2
  have h3 : Keeps a v2 := by
    unfold v2
    exact State.fset_keeps _ _ (State.fset_keeps _ _ (by assumption))
  clear_value v2
  extract_lets +onlyGivenNames v4
  have h5 : Keeps a v4 := by
    unfold v4
    exact State.fset_keeps _ _ (State.fset_keeps _ _ (by assumption))
  clear_value v4
  extract_lets +onlyGivenNames v6
  have h7 : Keeps a v6 := by
    unfold v6
    exact State.fset_keeps _ _ (State.fset_keeps _ _ (by assumption))
  clear_value v6
  extract_lets +onlyGivenNames v8
  have h9 : Keeps a v8 := by
    unfold v8
    refine keeps_foldl ?_ ?_
    · assumption
    · intro u10 u11 u12
      beta_reduce
      exact State.timings_keeps _ _ _ (by assumption)
  clear_value v8
  exact State.fset_keeps _ _ (State.fset_keeps _ _ (by assumption))
theorem State.dramUp_keeps {a s : State} (x2 : _) (x3 : _) (x4 : _) (h : Keeps a s) : Keeps a (State.dramUp s x2 x3 x4).2 := by
  unfold State.dramUp
  extract_lets +onlyGivenNames v1
  clear_value v1
  extract_lets +onlyGivenNames v2
  clear_value v2
  extract_lets +onlyGivenNames v3
  clear_value v3
  extract_lets +onlyGivenNames v4
  clear_value v4
  refine keeps_ite2 ?_ ?_
  · dsimp only
    refine keeps_foldl ?_ ?_
    · assumption
    · intro u5 u6 u7
      beta_reduce
      exact State.fset_keeps _ _ (by assumption)
  · extract_lets +onlyGivenNames v8
    extract_lets +onlyGivenNames v9
    have h10 : Keeps a v9 := by
      unfold v9
      exact keeps_upd (by assumption)
    clear_value v9
    extract_lets +onlyGivenNames v11
    have h12 : Keeps a v11 := by
      unfold v11
      exact State.setBit_keeps _ _ (by assumption)
    clear_value v11
    extract_lets +onlyGivenNames v13
    have h14 : Keeps a v13 := by
      unfold v13
      refine keeps_foldl ?_ ?_
      · assumption
      · intro u15 u16 u17
        beta_reduce
        exact State.dmcChannel_keeps _ _ _ (by assumption)
    clear_value v13
    extract_lets +onlyGivenNames v18
    have h19 : Keeps a v18 := by
      unfold v18
      refine keeps_foldl ?_ ?_
      · assumption
      · intro u20 u21 u22
        beta_reduce
        exact State.raise_keeps _ (State.logErr_keeps _ _ _ _ _ _ _ (by assumption))
    clear_value v18
    assumption
theorem State.quayUp_keeps {a s : State} (x2 : _) (h : Keeps a s) : Keeps a (State.quayUp s x2) := by
  unfold State.quayUp
  extract_lets +onlyGivenNames v1
  have h2 : Keeps a v1 := by
    unfold v1
    refine keeps_foldl ?_ ?_
    · assumption
    · intro u3 u4 u5
      beta_reduce
      extract_lets +onlyGivenNames v6
      have h7 : Keeps a v6.2 := by
        unfold v6
        exact State.free_keeps _ (by assumption)
      clear_value v6
      exact State.fset_keeps _ _ (State.fset_keeps _ _ (by assumption))
  clear_value v1
  extract_lets +onlyGivenNames v8
  clear_value v8
  extract_lets +onlyGivenNames v9
  have h10 : Keeps a v9 := by
    unfold v9
    exact State.setBit_keeps _ _ (State.fset_keeps _ _ (by assumption))
  clear_value v9
  extract_lets +onlyGivenNames v11
  extract_lets +onlyGivenNames v12
  have h13 : Keeps a v12 := by
    unfold v12
    exact keeps_upd (by assumption)
  clear_value v12
  extract_lets +onlyGivenNames v14
  clear_value v14
  extract_lets +onlyGivenNames v15
  have h16 : Keeps a v15 := by
    unfold v15
    exact State.fset_keeps _ _ (by assumption)
  clear_value v15
  exact State.fset_keeps _ _ (State.fset_keeps _ _ (by assumption))
theorem State.capDram_keeps {a s : State} (h : Keeps a s) : Keeps a (State.capDram s) := by
  unfold State.capDram
  exact State.fset_keeps _ _ (by assumption)
theorem State.fwLoad_keeps {a s : State} (x2 : _) (h : Keeps a s) : Keeps a (State.fwLoad s x2) := by
  unfold State.fwLoad
  extract_lets +onlyGivenNames v1
  have h2 : Keeps a v1 := by
    unfold v1
    exact State.setBit_keeps _ _ (State.setBit_keeps _ _ (by assumption))
  clear_value v1
  extract_lets +onlyGivenNames v3
  have h4 : Keeps a v3 := by
    unfold v3
    exact State.fset_keeps _ _ (by assumption)
  clear_value v3
  refine keeps_foldl ?_ ?_
  · assumption
  · intro u5 u6 u7
    beta_reduce
    exact State.setCore_keeps _ _ (by assumption)
theorem State.regionsBack_keeps {a s : State} (h : Keeps a s) : Keeps a (State.regionsBack s) := by
  unfold State.regionsBack
  extract_lets +onlyGivenNames v1
  clear_value v1
  extract_lets +onlyGivenNames v2
  have h3 : Keeps a v2 := by
    unfold v2
    refine keeps_foldl ?_ ?_
    · assumption
    · intro u4 u5 u6
      beta_reduce
      exact State.setRState_keeps _ _ (by assumption)
  clear_value v2
  exact State.fset_keeps _ _ (by assumption)
theorem State.trimV_keeps {a s : State} (h : Keeps a s) : Keeps a (State.trimV s) := by
  unfold State.trimV
  extract_lets +onlyGivenNames v1
  clear_value v1
  refine keeps_foldl ?_ ?_
  · assumption
  · intro u2 u3 u4
    beta_reduce
    exact State.setPage_keeps _ _ (State.trim_keeps _ (by assumption))
theorem State.applyLoft_keeps {a s : State} (x2 : _) (h : Keeps a s) : Keeps a (State.applyLoft s x2) := by
  unfold State.applyLoft
  refine keeps_ite ?_ ?_
  · assumption
  · extract_lets +onlyGivenNames v1
    extract_lets +onlyGivenNames v2
    have h3 : Keeps a v2 := by
      unfold v2
      refine keeps_updN ?_ (hf := ?_)
      · assumption
      · exact wf_memSetPage
    clear_value v2
    extract_lets +onlyGivenNames v4
    have h5 : Keeps a v4 := by
      unfold v4
      exact State.setMap_keeps _ _ (by assumption)
    clear_value v4
    exact State.setPage_keeps _ _ (by assumption)
theorem State.loftBack_keeps {a s : State} (h : Keeps a s) : Keeps a (State.loftBack s) := by
  unfold State.loftBack
  extract_lets +onlyGivenNames v1
  have h2 : Keeps a v1 := by
    unfold v1
    refine keeps_foldl ?_ ?_
    · assumption
    · intro u3 u4 u5
      beta_reduce
      exact State.applyLoft_keeps _ (by assumption)
  clear_value v1
  extract_lets +onlyGivenNames v6
  clear_value v6
  extract_lets +onlyGivenNames v7
  clear_value v7
  extract_lets +onlyGivenNames v8
  clear_value v8
  extract_lets +onlyGivenNames v9
  clear_value v9
  extract_lets +onlyGivenNames v10
  clear_value v10
  extract_lets +onlyGivenNames v11
  extract_lets +onlyGivenNames v12
  have h13 : Keeps a v12 := by
    unfold v12
    refine keeps_updN ?_ (hl := ?_)
    · assumption
    · exact fun _ => rfl
  clear_value v12
  exact State.setFree_keeps _ (State.setBit_keeps _ _ (by assumption))
theorem State.mergeImage_keeps {a s : State} (x2 : _) (h : Keeps a s) : Keeps a (State.mergeImage s x2) := by
  unfold State.mergeImage
  extract_lets +onlyGivenNames v1
  clear_value v1
  split
  · assumption
  · refine keeps_ite ?_ ?_
    · assumption
    · extract_lets +onlyGivenNames v2
      have h3 : Keeps a v2.2 := by
        unfold v2
        exact State.extentForm_keeps _ _ (by assumption)
      clear_value v2
      extract_lets +onlyGivenNames v4
      have h5 : Keeps a v4.2 := by
        unfold v4
        exact State.place_keeps _ _ (by assumption)
      clear_value v4
      extract_lets +onlyGivenNames v6
      have h7 : Keeps a v6 := by
        unfold v6
        assumption
      extract_lets +onlyGivenNames v8
      extract_lets +onlyGivenNames v9
      have h10 : Keeps a v9 := by
        unfold v9
        refine keeps_updN ?_ (hf := ?_)
        · assumption
        · exact wf_memPutLine
      clear_value v9
      extract_lets +onlyGivenNames v11
      have h12 : Keeps a v11 := by
        unfold v11
        exact State.useBlock_keeps _ _ _ (State.setMap_keeps _ _ (by assumption))
      clear_value v11
      exact State.setPage_keeps _ _ (by assumption)
theorem State.imageBack_keeps {a s : State} (h : Keeps a s) : Keeps a (State.imageBack s) := by
  unfold State.imageBack
  extract_lets +onlyGivenNames v1
  have h2 : Keeps a v1 := by
    unfold v1
    refine keeps_foldl ?_ ?_
    · assumption
    · intro u3 u4 u5
      beta_reduce
      exact State.mergeImage_keeps _ (by assumption)
  clear_value v1
  exact keeps_upd (by assumption)
theorem State.lostBack_keeps {a s : State} (h : Keeps a s) : Keeps a (State.lostBack s) := by
  unfold State.lostBack
  extract_lets +onlyGivenNames v1
  have h2 : Keeps a v1 := by
    unfold v1
    refine keeps_foldl ?_ ?_
    · assumption
    · intro u3 u4 u5
      beta_reduce
      exact State.losePage_keeps _ (by assumption)
  clear_value v1
  extract_lets +onlyGivenNames v6
  clear_value v6
  exact keeps_upd (by assumption)
theorem State.kindsBack_keeps {a s : State} (h : Keeps a s) : Keeps a (State.kindsBack s) := by
  unfold State.kindsBack
  extract_lets +onlyGivenNames v1
  clear_value v1
  extract_lets +onlyGivenNames v2
  clear_value v2
  extract_lets +onlyGivenNames v3
  clear_value v3
  extract_lets +onlyGivenNames v4
  clear_value v4
  extract_lets +onlyGivenNames v5
  clear_value v5
  extract_lets +onlyGivenNames v6
  clear_value v6
  extract_lets +onlyGivenNames v7
  have h8 : Keeps a v7 := by
    unfold v7
    exact keeps_upd (by assumption)
  clear_value v7
  refine keeps_ite ?_ ?_
  · exact State.raise_keeps _ (State.setBit_keeps _ _ (by assumption))
  · assumption
theorem State.step4_keeps {a s : State} (h : Keeps a s) : Keeps a (State.step4 s) := by
  unfold State.step4
  extract_lets +onlyGivenNames v1
  have h2 : Keeps a v1 := by
    unfold v1
    exact State.kindsBack_keeps (State.lostBack_keeps (State.imageBack_keeps (State.loftBack_keeps (State.trimV_keeps (State.regionsBack_keeps (by assumption))))))
  clear_value v1
  exact State.testOvercommit_keeps (by assumption)
theorem State.goActive_keeps {a s : State} (h : Keeps a s) : Keeps a (State.goActive s) := by
  unfold State.goActive
  extract_lets +onlyGivenNames v1
  have h2 : Keeps a v1 := by
    unfold v1
    exact State.fset_keeps _ _ (State.setBit_keeps _ _ (State.fset_keeps _ _ (by assumption)))
  clear_value v1
  extract_lets +onlyGivenNames v3
  have h4 : Keeps a v3 := by
    unfold v3
    refine keeps_foldl ?_ ?_
    · assumption
    · intro u5 u6 u7
      beta_reduce
      refine keeps_ite ?_ ?_
      · exact State.raise_keeps _ (State.fset_keeps _ _ (by assumption))
      · assumption
  clear_value v3
  extract_lets +onlyGivenNames v8
  extract_lets +onlyGivenNames v9
  clear_value v9
  extract_lets +onlyGivenNames v10
  have h11 : Keeps a v10 := by
    unfold v10
    exact keeps_upd (by assumption)
  clear_value v10
  extract_lets +onlyGivenNames v12
  have h13 : Keeps a v12 := by
    unfold v12
    refine keeps_ite ?_ ?_
    · exact State.scrubAll_keeps _ (by assumption)
    · assumption
  clear_value v12
  extract_lets +onlyGivenNames v14
  have h15 : Keeps a v14 := by
    unfold v14
    exact State.raise_keeps _ (State.raise_keeps _ (by assumption))
  clear_value v14
  refine keeps_ite ?_ ?_
  · assumption
  · exact State.requestReh_keeps (by assumption)
theorem State.step5_keeps {a s : State} (h : Keeps a s) : Keeps a (State.step5 s) := by
  unfold State.step5
  refine keeps_ite ?_ ?_
  · exact State.goActive_keeps (State.joinSolo_keeps (by assumption))
  · extract_lets +onlyGivenNames v1
    clear_value v1
    extract_lets +onlyGivenNames v2
    have h3 : Keeps a v2 := by
      unfold v2
      exact State.setTwin_keeps _ (by assumption)
    clear_value v2
    exact State.setClk_keeps _ (by assumption)
theorem State.joinEnded_keeps {a s : State} (h : Keeps a s) : Keeps a (State.joinEnded s) := by
  unfold State.joinEnded
  refine keeps_ite ?_ ?_
  · assumption
  · exact State.goActive_keeps (by assumption)
theorem State.stepLate_keeps {a s : State} (x2 : _) (h : Keeps a s) : Keeps a (State.stepLate s x2) := by
  unfold State.stepLate
  refine State.startFail_keeps _ ?_
  refine keeps_updN ?_ (hn := ?_)
  · assumption
  · exact Nat.le_max_left _ _
theorem State.startRest_keeps {a s : State} (x2 : _) (h : Keeps a s) : Keeps a (State.startRest s x2) := by
  unfold State.startRest
  extract_lets +onlyGivenNames v1
  clear_value v1
  extract_lets +onlyGivenNames v2
  have h3 : Keeps a v2 := by
    unfold v2
    exact State.flashUp_keeps _ _ _ (by assumption)
  clear_value v2
  extract_lets +onlyGivenNames v4
  have h5 : Keeps a v4.2 := by
    unfold v4
    exact State.dramUp_keeps _ _ _ (by assumption)
  clear_value v4
  extract_lets +onlyGivenNames v6
  have h7 : Keeps a v6 := by
    unfold v6
    assumption
  refine keeps_ite ?_ ?_
  · exact State.stepLate_keeps _ (by assumption)
  · refine keeps_ite ?_ ?_
    · refine State.startFail_keeps _ ?_
      refine keeps_updN ?_ (hn := ?_)
      · assumption
      · exact Nat.le_max_left _ _
    · extract_lets +onlyGivenNames v8
      have h9 : Keeps a v8 := by
        unfold v8
        exact State.capDram_keeps (State.quayUp_keeps _ (by assumption))
      clear_value v8
      split
      · refine State.startFail_keeps _ ?_
        refine keeps_updN ?_ (hn := ?_)
        · assumption
        · exact Nat.le_max_left _ _
      · extract_lets +onlyGivenNames v10
        have h11 : Keeps a v10 := by
          unfold v10
          exact State.stepEnd_keeps _ _ (State.fwLoad_keeps _ (by assumption))
        clear_value v10
        refine keeps_ite ?_ ?_
        · exact State.stepLate_keeps _ (by assumption)
        · exact State.step5_keeps (State.stepEnd_keeps _ _ (State.step4_keeps (by assumption)))
theorem State.startUp_keeps {a s : State} (x2 : _) (h : Keeps a s) : Keeps a (State.startUp s x2) := by
  unfold State.startUp
  refine keeps_ite ?_ ?_
  · assumption
  · refine keeps_ite ?_ ?_
    · exact State.stepLate_keeps _ (State.step0_keeps (by assumption))
    · extract_lets +onlyGivenNames v1
      have h2 : Keeps a v1 := by
        unfold v1
        refine keeps_ite ?_ ?_
        · exact State.stepEnd_keeps _ _ (State.step0_keeps (by assumption))
        · assumption
      clear_value v1
      refine keeps_ite ?_ ?_
      · exact State.stepLate_keeps _ (State.step1_keeps (by assumption))
      · extract_lets +onlyGivenNames v3
        have h4 : Keeps a v3 := by
          unfold v3
          exact State.step1_keeps (by assumption)
        clear_value v3
        refine keeps_ite ?_ ?_
        · extract_lets +onlyGivenNames v5
          have h6 : Keeps a v5 := by
            unfold v5
            refine keeps_updN ?_ (hn := ?_)
            · assumption
            · exact Nat.le_max_left _ _
          clear_value v5
          exact State.fset_keeps _ _ (State.setBit_keeps _ _ (State.setClk_keeps _ (by assumption)))
        · extract_lets +onlyGivenNames v7
          have h8 : Keeps a v7 := by
            unfold v7
            exact State.stepEnd_keeps _ _ (by assumption)
          clear_value v7
          extract_lets +onlyGivenNames v9
          have h10 : Keeps a v9 := by
            unfold v9
            exact State.step2_keeps (by assumption)
          clear_value v9
          refine keeps_ite ?_ ?_
          · exact State.stepLate_keeps _ (by assumption)
          · exact State.startRest_keeps _ (State.stepEnd_keeps _ _ (by assumption))
theorem State.stepTimeout_keeps {a s : State} (h : Keeps a s) : Keeps a (State.stepTimeout s) := by
  unfold State.stepTimeout
  extract_lets +onlyGivenNames v1
  clear_value v1
  refine keeps_ite ?_ ?_
  · refine keeps_ite ?_ ?_
    · exact State.startFail_keeps _ (by assumption)
    · assumption
  · refine keeps_ite ?_ ?_
    · refine keeps_ite ?_ ?_
      · exact State.startFail_keeps _ (by assumption)
      · assumption
    · refine keeps_ite ?_ ?_
      · refine keeps_ite ?_ ?_
        · exact State.startFail_keeps _ (State.step0_keeps (by assumption))
        · assumption
      · assumption
theorem State.restartEarly_keeps {a s : State} (h : Keeps a s) : Keeps a (State.restartEarly s) := by
  unfold State.restartEarly
  refine keeps_ite ?_ ?_
  · assumption
  · extract_lets +onlyGivenNames v1
    clear_value v1
    extract_lets +onlyGivenNames v2
    have h3 : Keeps a v2 := by
      unfold v2
      exact State.setClk_keeps _ (by assumption)
    clear_value v2
    exact State.fset_keeps _ _ (State.setBit_keeps _ _ (State.fset_keeps _ _ (by assumption)))
/-! ### PowerFx.lean -/

theorem State.beginPower_keeps {a s : State} (x2 : _) (h : Keeps a s) : Keeps a (State.beginPower s x2) := by
  unfold State.beginPower
  extract_lets +onlyGivenNames v1
  clear_value v1
  extract_lets +onlyGivenNames v2
  have hf3 : ∀ y0, Keeps a (v2 y0) := by
    intro u4
    unfold v2
    exact keeps_upd (by assumption)
  clear_value v2
  split
  · apply hf3
  · apply hf3
  · exact keeps_upd (by assumption)
  · exact keeps_upd (by assumption)
  · apply hf3
  · extract_lets +onlyGivenNames v5
    have h6 : Keeps a v5 := by
      unfold v5
      apply hf3
    clear_value v5
    exact keeps_upd (by assumption)
  · exact keeps_upd (by assumption)
  · assumption
theorem cmdPowerState_keeps {a s : State} (x1 : _) (h : Keeps a s) : Keeps a (cmdPowerState x1 s).s := by
  unfold cmdPowerState
  refine guarded_keeps ?_ ?_
  · assumption
  · exact done_keeps _ (State.beginPower_keeps _ (by assumption))
theorem State.standbyDone_keeps {a s : State} (h : Keeps a s) : Keeps a (State.standbyDone s) := by
  unfold State.standbyDone
  refine keeps_ite ?_ ?_
  · assumption
  · extract_lets +onlyGivenNames v1
    have h2 : Keeps a v1 := by
      unfold v1
      exact State.tideStandby_keeps (State.abandonAll_keeps (by assumption))
    clear_value v1
    extract_lets +onlyGivenNames v3
    have h4 : Keeps a v3 := by
      unfold v3
      refine keeps_foldl ?_ ?_
      · assumption
      · intro u5 u6 u7
        beta_reduce
        refine keeps_ite ?_ ?_
        · exact State.setCore_keeps _ _ (by assumption)
        · assumption
    clear_value v3
    extract_lets +onlyGivenNames v8
    have h9 : Keeps a v8 := by
      unfold v8
      refine keeps_foldl ?_ ?_
      · assumption
      · intro u10 u11 u12
        beta_reduce
        refine keeps_ite ?_ ?_
        · exact State.fset_keeps _ _ (by assumption)
        · assumption
    clear_value v8
    extract_lets +onlyGivenNames v13
    have h14 : Keeps a v13 := by
      unfold v13
      refine keeps_foldl ?_ ?_
      · assumption
      · intro u15 u16 u17
        beta_reduce
        exact State.setFbit_keeps _ _ _ (by assumption)
    clear_value v13
    extract_lets +onlyGivenNames v18
    have h19 : Keeps a v18 := by
      unfold v18
      refine keeps_foldl ?_ ?_
      · assumption
      · intro u20 u21 u22
        beta_reduce
        refine keeps_ite ?_ ?_
        · exact State.fset_keeps _ _ (by assumption)
        · assumption
    clear_value v18
    extract_lets +onlyGivenNames v23
    extract_lets +onlyGivenNames v24
    extract_lets +onlyGivenNames v25
    have h26 : Keeps a v25 := by
      unfold v25
      exact keeps_upd (by assumption)
    clear_value v25
    extract_lets +onlyGivenNames v27
    have h28 : Keeps a v27 := by
      unfold v27
      exact State.raise_keeps _ (State.fset_keeps _ _ (by assumption))
    clear_value v27
    extract_lets +onlyGivenNames v29
    clear_value v29
    exact keeps_upd (by assumption)
theorem State.fullAgain_keeps {a s : State} (h : Keeps a s) : Keeps a (State.fullAgain s) := by
  unfold State.fullAgain
  refine keeps_ite ?_ ?_
  · assumption
  · extract_lets +onlyGivenNames v1
    have h2 : Keeps a v1 := by
      unfold v1
      exact State.raise_keeps _ (State.fset_keeps _ _ (by assumption))
    clear_value v1
    extract_lets +onlyGivenNames v3
    have h4 : Keeps a v3 := by
      unfold v3
      refine keeps_foldl ?_ ?_
      · assumption
      · intro u5 u6 u7
        beta_reduce
        refine keeps_ite ?_ ?_
        · exact State.fset_keeps _ _ (by assumption)
        · assumption
    clear_value v3
    extract_lets +onlyGivenNames v8
    have h9 : Keeps a v8 := by
      unfold v8
      refine keeps_foldl ?_ ?_
      · assumption
      · intro u10 u11 u12
        beta_reduce
        refine keeps_ite ?_ ?_
        · exact State.fset_keeps _ _ (by assumption)
        · assumption
    clear_value v8
    extract_lets +onlyGivenNames v13
    have h14 : Keeps a v13 := by
      unfold v13
      refine keeps_foldl ?_ ?_
      · assumption
      · intro u15 u16 u17
        beta_reduce
        refine keeps_ite ?_ ?_
        · exact State.setCore_keeps _ _ (by assumption)
        · assumption
    clear_value v13
    extract_lets +onlyGivenNames v18
    clear_value v18
    extract_lets +onlyGivenNames v19
    extract_lets +onlyGivenNames v20
    have h21 : Keeps a v20 := by
      unfold v20
      exact keeps_upd (by assumption)
    clear_value v20
    extract_lets +onlyGivenNames v22
    clear_value v22
    extract_lets +onlyGivenNames v23
    clear_value v23
    extract_lets +onlyGivenNames v24
    have h25 : Keeps a v24 := by
      unfold v24
      exact keeps_upd (by assumption)
    clear_value v24
    extract_lets +onlyGivenNames v26
    clear_value v26
    exact State.runAll_keeps _ _ (keeps_upd (by assumption))
theorem State.l1Exit_keeps {a s : State} (x2 : _) (h : Keeps a s) : Keeps a (State.l1Exit s x2) := by
  unfold State.l1Exit
  refine keeps_ite ?_ ?_
  · assumption
  · exact State.exitTrigger_keeps (by assumption)
theorem State.drainHandover_keeps {a s : State} (h : Keeps a s) : Keeps a (State.drainHandover s) := by
  unfold State.drainHandover
  refine keeps_ite ?_ ?_
  · assumption
  · extract_lets +onlyGivenNames v1
    clear_value v1
    refine keeps_ite ?_ ?_
    · assumption
    · exact State.setTwin_keeps _ (by assumption)
theorem State.aonDrained_keeps {a s : State} (h : Keeps a s) : Keeps a (State.aonDrained s) := by
  unfold State.aonDrained
  refine keeps_ite ?_ ?_
  · assumption
  · extract_lets +onlyGivenNames v1
    have h2 : Keeps a v1 := by
      unfold v1
      exact State.finalHeartbeat_keeps (State.setBit_keeps _ _ (by assumption))
    clear_value v1
    extract_lets +onlyGivenNames v3
    have h4 : Keeps a v3 := by
      unfold v3
      exact State.actuatorsOff_keeps (State.endReh_keeps (State.abandonAll_keeps (State.dropInFlight_keeps (by assumption))))
    clear_value v3
    extract_lets +onlyGivenNames v5
    have h6 : Keeps a v5 := by
      unfold v5
      exact State.watchOn_keeps (State.raise_keeps _ (State.fset_keeps _ _ (by assumption)))
    clear_value v5
    extract_lets +onlyGivenNames v7
    have h8 : Keeps a v7 := by
      unfold v7
      exact State.closeEpoch_keeps _ (by assumption)
    clear_value v7
    exact keeps_upd (by assumption)
/-! ### CmdMisc.lean -/

theorem cmdCheckStart_keeps {a s : State} (x1 : _) (h : Keeps a s) : Keeps a (cmdCheckStart x1 s).s := by
  unfold cmdCheckStart
  extract_lets +onlyGivenNames v1
  clear_value v1
  refine guarded_keeps ?_ ?_
  · assumption
  · split
    · exact refuse_keeps _ _ (by assumption)
    · extract_lets +onlyGivenNames v2
      clear_value v2
      extract_lets +onlyGivenNames v3
      clear_value v3
      extract_lets +onlyGivenNames v4
      extract_lets +onlyGivenNames v5
      have h6 : Keeps a v5 := by
        unfold v5
        exact keeps_upd (by assumption)
      clear_value v5
      extract_lets +onlyGivenNames v7
      have h8 : Keeps a v7 := by
        unfold v7
        exact State.setBit_keeps _ _ (State.fset_keeps _ _ (by assumption))
      clear_value v7
      extract_lets +onlyGivenNames v9
      have h10 : Keeps a v9 := by
        unfold v9
        exact State.fset_keeps _ _ (State.fset_keeps _ _ (by assumption))
      clear_value v9
      extract_lets +onlyGivenNames v11
      have h12 : Keeps a v11 := by
        unfold v11
        exact State.fset_keeps _ _ (by assumption)
      clear_value v11
      extract_lets +onlyGivenNames v13
      have h14 : Keeps a v13 := by
        unfold v13
        exact State.setChkValue_keeps _ _ (by assumption)
      clear_value v13
      exact done_keeps _ (State.chkBegin_keeps _ (by assumption))
theorem cmdCheckStatus_keeps {a s : State} (x1 : _) (h : Keeps a s) : Keeps a (cmdCheckStatus x1 s).s := by
  unfold cmdCheckStatus
  refine guarded_keeps ?_ ?_
  · assumption
  · exact done_keeps _ (by assumption)
theorem cmdCheckStop_keeps {a s : State} (x1 : _) (h : Keeps a s) : Keeps a (cmdCheckStop x1 s).s := by
  unfold cmdCheckStop
  refine guarded_keeps ?_ ?_
  · assumption
  · extract_lets +onlyGivenNames v1
    clear_value v1
    refine keeps_iteS ?_ ?_
    · exact later_keeps _ _ (State.chkStop_keeps _ (by assumption))
    · exact done_keeps _ (by assumption)
theorem cmdProfileSet_keeps {a s : State} (x1 : _) (h : Keeps a s) : Keeps a (cmdProfileSet x1 s).s := by
  unfold cmdProfileSet
  extract_lets +onlyGivenNames v1
  clear_value v1
  extract_lets +onlyGivenNames v2
  clear_value v2
  refine guarded_keeps ?_ ?_
  · assumption
  · extract_lets +onlyGivenNames v3
    have h4 : Keeps a v3 := by
      unfold v3
      exact State.groupWrite_keeps _ _ _ (by assumption)
    clear_value v3
    extract_lets +onlyGivenNames v5
    have h6 : Keeps a v5 := by
      unfold v5
      exact State.groupWrite_keeps _ _ _ (by assumption)
    clear_value v5
    extract_lets +onlyGivenNames v7
    have h8 : Keeps a v7 := by
      unfold v7
      exact State.setHealth_keeps _ (by assumption)
    clear_value v7
    extract_lets +onlyGivenNames v9
    have h10 : Keeps a v9.2 := by
      unfold v9
      exact State.ocvInverse_keeps _ (by assumption)
    clear_value v9
    extract_lets +onlyGivenNames v11
    have h12 : Keeps a v11 := by
      unfold v11
      refine keeps_ite ?_ ?_
      · exact State.setCharge_keeps _ (by assumption)
      · assumption
    clear_value v11
    extract_lets +onlyGivenNames v13
    clear_value v13
    extract_lets +onlyGivenNames v14
    have h15 : Keeps a v14 := by
      unfold v14
      exact State.setReh_keeps _ (by assumption)
    clear_value v14
    exact later_keeps _ _ (by assumption)
theorem cmdRehearse_keeps {a s : State} (x1 : _) (h : Keeps a s) : Keeps a (cmdRehearse x1 s).s := by
  unfold cmdRehearse
  exact done_keeps _ (State.requestReh_keeps (by assumption))
theorem cmdErrLog_keeps {a s : State} (x1 : _) (h : Keeps a s) : Keeps a (cmdErrLog x1 s).s := by
  unfold cmdErrLog
  extract_lets +onlyGivenNames v1
  clear_value v1
  refine guarded_keeps ?_ ?_
  · assumption
  · exact done_keeps _ (by assumption)
theorem State.retireQuay_keeps {a s : State} (x2 : _) (h : Keeps a s) : Keeps a (State.retireQuay s x2) := by
  unfold State.retireQuay
  refine keeps_ite ?_ ?_
  · assumption
  · extract_lets +onlyGivenNames v1
    extract_lets +onlyGivenNames v2
    have h3 : Keeps a v2 := by
      unfold v2
      refine keeps_updN ?_ (h3 := ?_)
      · assumption
      · exact grows_insNat
    clear_value v2
    extract_lets +onlyGivenNames v4
    have h5 : Keeps a v4.2 := by
      unfold v4
      exact State.quayFrame_keeps _ _ _ (by assumption)
    clear_value v4
    extract_lets +onlyGivenNames v6
    have h7 : Keeps a v6 := by
      unfold v6
      assumption
    extract_lets +onlyGivenNames v8
    extract_lets +onlyGivenNames v9
    have h10 : Keeps a v9 := by
      unfold v9
      split
      · split
        · exact keeps_upd (by assumption)
        · exact State.demote_keeps _ (by assumption)
      · assumption
    clear_value v9
    exact State.logErr_keeps _ _ _ _ _ _ _ (State.bump_keeps _ _ _ (by assumption))
theorem State.retireDram_keeps {a s : State} (x2 : _) (h : Keeps a s) : Keeps a (State.retireDram s x2) := by
  unfold State.retireDram
  refine keeps_ite ?_ ?_
  · assumption
  · extract_lets +onlyGivenNames v1
    extract_lets +onlyGivenNames v2
    have h3 : Keeps a v2 := by
      unfold v2
      refine keeps_updN ?_ (h1 := ?_)
      · assumption
      · exact grows_insNat
    clear_value v2
    extract_lets +onlyGivenNames v4
    have h5 : Keeps a v4 := by
      unfold v4
      split
      · exact State.reframe_keeps _ (by assumption)
      · assumption
    clear_value v4
    exact State.logErr_keeps _ _ _ _ _ _ _ (State.bump_keeps _ _ _ (by assumption))
theorem cmdPageRetire_keeps {a s : State} (x1 : _) (h : Keeps a s) : Keeps a (cmdPageRetire x1 s).s := by
  unfold cmdPageRetire
  extract_lets +onlyGivenNames v1
  clear_value v1
  extract_lets +onlyGivenNames v2
  clear_value v2
  extract_lets +onlyGivenNames v3
  clear_value v3
  extract_lets +onlyGivenNames v4
  refine guarded_keeps ?_ ?_
  · assumption
  · refine done_keeps _ ?_
    refine keeps_ite ?_ ?_
    · exact State.retireQuay_keeps _ (by assumption)
    · exact State.retireDram_keeps _ (by assumption)
theorem cmdRankSpare_keeps {a s : State} (x1 : _) (h : Keeps a s) : Keeps a (cmdRankSpare x1 s).s := by
  unfold cmdRankSpare
  extract_lets +onlyGivenNames v1
  clear_value v1
  extract_lets +onlyGivenNames v2
  clear_value v2
  refine guarded_keeps ?_ ?_
  · assumption
  · extract_lets +onlyGivenNames v3
    extract_lets +onlyGivenNames v4
    have h5 : Keeps a v4 := by
      unfold v4
      exact keeps_upd (by assumption)
    clear_value v4
    exact done_keeps _ (State.fset_keeps _ _ (State.fset_keeps _ _ (State.setBit_keeps _ _ (by assumption))))
theorem cmdScrubNow_keeps {a s : State} (x1 : _) (h : Keeps a s) : Keeps a (cmdScrubNow x1 s).s := by
  unfold cmdScrubNow
  exact done_keeps _ (State.scrubAll_keeps _ (by assumption))
theorem cmdMemChannel_keeps {a s : State} (x1 : _) (h : Keeps a s) : Keeps a (cmdMemChannel x1 s).s := by
  unfold cmdMemChannel
  extract_lets +onlyGivenNames v1
  clear_value v1
  extract_lets +onlyGivenNames v2
  clear_value v2
  extract_lets +onlyGivenNames v3
  clear_value v3
  extract_lets +onlyGivenNames v4
  extract_lets +onlyGivenNames v5
  clear_value v5
  extract_lets +onlyGivenNames v6
  clear_value v6
  refine guarded_keeps ?_ ?_
  · assumption
  · refine done_keeps _ ?_
    refine keeps_ite ?_ ?_
    · refine keeps_foldl ?_ ?_
      · assumption
      · intro u7 u8 u9
        beta_reduce
        exact State.dimmLoss_keeps _ _ (by assumption)
    · exact State.resetUncached_keeps (State.quayLoss_keeps _ (by assumption))
theorem cmdSettingsRead_keeps {a s : State} (x1 : _) (h : Keeps a s) : Keeps a (cmdSettingsRead x1 s).s := by
  unfold cmdSettingsRead
  extract_lets +onlyGivenNames v1
  clear_value v1
  extract_lets +onlyGivenNames v2
  clear_value v2
  extract_lets +onlyGivenNames v3
  clear_value v3
  refine guarded_keeps ?_ ?_
  · assumption
  · exact done_keeps _ (by assumption)
theorem State.writeWords_keeps {a s : State} (x2 : _) (x3 : _) (x4 : _) (h : Keeps a s) : Keeps a (State.writeWords s x2 x3 x4) := by
  unfold State.writeWords
  split
  · assumption
  · assumption
  · split
    · refine keeps_ite ?_ ?_
      · exact State.writeWords_keeps _ _ _ (State.groupWrite_keeps _ _ _ (by assumption))
      · exact State.writeWords_keeps _ _ _ (State.softWord_keeps _ _ (by assumption))
    · exact State.writeWords_keeps _ _ _ (State.softWord_keeps _ _ (by assumption))
theorem cmdSettingsWrite_keeps {a s : State} (x1 : _) (h : Keeps a s) : Keeps a (cmdSettingsWrite x1 s).s := by
  unfold cmdSettingsWrite
  extract_lets +onlyGivenNames v1
  clear_value v1
  extract_lets +onlyGivenNames v2
  clear_value v2
  extract_lets +onlyGivenNames v3
  clear_value v3
  extract_lets +onlyGivenNames v4
  clear_value v4
  extract_lets +onlyGivenNames v5
  clear_value v5
  extract_lets +onlyGivenNames v6
  clear_value v6
  refine guarded_keeps ?_ ?_
  · assumption
  · exact later_keeps _ _ (State.writeWords_keeps _ _ _ (by assumption))
theorem cmdKeySet_keeps {a s : State} (x1 : _) (h : Keeps a s) : Keeps a (cmdKeySet x1 s).s := by
  unfold cmdKeySet
  extract_lets +onlyGivenNames v1
  clear_value v1
  refine guarded_keeps ?_ ?_
  · assumption
  · exact later_keeps _ _ (State.groupWrite_keeps _ _ _ (by assumption))
theorem cmdRecInfo_keeps {a s : State} (x1 : _) (h : Keeps a s) : Keeps a (cmdRecInfo x1 s).s := by
  unfold cmdRecInfo
  exact done_keeps _ (by assumption)
theorem cmdRecRead_keeps {a s : State} (x1 : _) (h : Keeps a s) : Keeps a (cmdRecRead x1 s).s := by
  unfold cmdRecRead
  extract_lets +onlyGivenNames v1
  clear_value v1
  refine guarded_keeps ?_ ?_
  · assumption
  · exact done_keeps _ (by assumption)
theorem cmdLoopSet_keeps {a s : State} (x1 : _) (h : Keeps a s) : Keeps a (cmdLoopSet x1 s).s := by
  unfold cmdLoopSet
  split
  · exact refuse_keeps _ _ (State.fset_keeps _ _ (by assumption))
  · refine guarded_keeps ?_ ?_
    · exact State.fset_keeps _ _ (by assumption)
    · exact done_keeps _ (State.lbWant_keeps _ _ _ (State.fset_keeps _ _ (by assumption)))
theorem cmdLoopStatus_keeps {a s : State} (x1 : _) (h : Keeps a s) : Keeps a (cmdLoopStatus x1 s).s := by
  unfold cmdLoopStatus
  split
  · exact refuse_keeps _ _ (by assumption)
  · refine guarded_keeps ?_ ?_
    · assumption
    · exact done_keeps _ (State.lbRun_keeps _ (by assumption))
theorem State.setCmd_keeps {a s : State} (x2 : _) (h : Keeps a s) : Keeps a (State.setCmd s x2) := by
  unfold State.setCmd
  exact keeps_upd (by assumption)
theorem State.setFwSlot_keeps {a s : State} (x2 : _) (x3 : _) (h : Keeps a s) : Keeps a (State.setFwSlot s x2 x3) := by
  unfold State.setFwSlot
  exact State.setCmd_keeps _ (by assumption)
theorem cmdFwInfo_keeps {a s : State} (x1 : _) (h : Keeps a s) : Keeps a (cmdFwInfo x1 s).s := by
  unfold cmdFwInfo
  exact done_keeps _ (by assumption)
theorem State.fwWrite_keeps {a s : State} (x2 : _) (x3 : _) (h : Keeps a s) : Keeps a (State.fwWrite s x2 x3) := by
  unfold State.fwWrite
  extract_lets +onlyGivenNames v1
  clear_value v1
  extract_lets +onlyGivenNames v2
  clear_value v2
  extract_lets +onlyGivenNames v3
  have h4 : Keeps a v3 := by
    unfold v3
    exact State.setFwSlot_keeps _ _ (by assumption)
  clear_value v3
  extract_lets +onlyGivenNames v5
  clear_value v5
  exact State.setBit_keeps _ _ (State.setCmd_keeps _ (by assumption))
theorem cmdFwWrite_keeps {a s : State} (x1 : _) (h : Keeps a s) : Keeps a (cmdFwWrite x1 s).s := by
  unfold cmdFwWrite
  extract_lets +onlyGivenNames v1
  clear_value v1
  refine guarded_keeps ?_ ?_
  · assumption
  · exact later_keeps _ _ (State.fwWrite_keeps _ _ (by assumption))
theorem State.fwVerify_keeps {a s : State} (x2 : _) (h : Keeps a s) : Keeps a (State.fwVerify s x2).2 := by
  unfold State.fwVerify
  extract_lets +onlyGivenNames v1
  clear_value v1
  extract_lets +onlyGivenNames v2
  clear_value v2
  extract_lets +onlyGivenNames v3
  clear_value v3
  refine keeps_ite2 ?_ ?_
  · extract_lets +onlyGivenNames v4
    have h5 : Keeps a v4 := by
      unfold v4
      exact State.setFwSlot_keeps _ _ (by assumption)
    clear_value v4
    dsimp only
    exact State.setBit_keeps _ _ (State.setCmd_keeps _ (by assumption))
  · dsimp only
    exact State.setBit_keeps _ _ (State.setCmd_keeps _ (by assumption))
theorem cmdFwVerify_keeps {a s : State} (x1 : _) (h : Keeps a s) : Keeps a (cmdFwVerify x1 s).s := by
  unfold cmdFwVerify
  extract_lets +onlyGivenNames v1
  have h2 : Keeps a v1.2 := by
    unfold v1
    exact State.fwVerify_keeps _ (by assumption)
  clear_value v1
  refine keeps_iteS ?_ ?_
  · exact done_keeps _ (by assumption)
  · exact refuse_keeps _ _ (by assumption)
theorem State.fwActivate_keeps {a s : State} (x2 : _) (h : Keeps a s) : Keeps a (State.fwActivate s x2) := by
  unfold State.fwActivate
  exact State.setBit_keeps _ _ (State.setCmd_keeps _ (by assumption))
theorem cmdFwActivate_keeps {a s : State} (x1 : _) (h : Keeps a s) : Keeps a (cmdFwActivate x1 s).s := by
  unfold cmdFwActivate
  refine guarded_keeps ?_ ?_
  · assumption
  · exact done_keeps _ (State.fwActivate_keeps _ (by assumption))
theorem cmdFreqSet_keeps {a s : State} (x1 : _) (h : Keeps a s) : Keeps a (cmdFreqSet x1 s).s := by
  unfold cmdFreqSet
  refine guarded_keeps ?_ ?_
  · assumption
  · extract_lets +onlyGivenNames v1
    clear_value v1
    extract_lets +onlyGivenNames v2
    extract_lets +onlyGivenNames v3
    have h4 : Keeps a v3 := by
      unfold v3
      refine keeps_ite ?_ ?_
      · exact keeps_upd (by assumption)
      · exact State.freqBegin_keeps _ _ (by assumption)
    clear_value v3
    exact later_keeps _ _ (by assumption)
theorem State.onMbox_keeps {a s k : State} (ld : _) (h : Keeps a s) (hk : Keeps a k) : Keeps a (State.onMbox s ld k) := by
  unfold State.onMbox
  exact keeps_ite h (keeps_ite (State.mbox_keeps _ _ h) hk)

theorem State.onMgmtMbox_keeps {a s k : State} (ld : _) (h : Keeps a s) (hk : Keeps a k) : Keeps a (State.onMgmtMbox s ld k) := by
  unfold State.onMgmtMbox
  exact State.onMbox_keeps _ h (keeps_ite hk (State.mbox_keeps _ _ h))

theorem State.getParmosReply_keeps {a s : State} (x2 : _) (h : Keeps a s) : Keeps a (State.getParmosReply s x2) := by
  unfold State.getParmosReply
  refine State.onMbox_keeps _ ?_ ?_
  · assumption
  · split
    · exact State.emit_keeps _ (by assumption)
    · exact State.mbox_keeps _ _ (by assumption)
theorem State.getFwInfo_keeps {a s : State} (x2 : _) (h : Keeps a s) : Keeps a (State.getFwInfo s x2) := by
  unfold State.getFwInfo
  refine State.onMgmtMbox_keeps _ ?_ ?_
  · assumption
  · exact State.emit_keeps _ (by assumption)
theorem State.transferFw_keeps {a s : State} (x2 : _) (x3 : _) (x4 : _) (x5 : _) (h : Keeps a s) : Keeps a (State.transferFw s x2 x3 x4 x5) := by
  unfold State.transferFw
  refine State.onMgmtMbox_keeps _ ?_ ?_
  · assumption
  · refine keeps_ite ?_ ?_
    · exact State.mbox_keeps _ _ (by assumption)
    · extract_lets +onlyGivenNames v1
      have h2 : Keeps a v1 := by
        unfold v1
        exact State.fwWrite_keeps _ _ (State.mbox_keeps _ _ (by assumption))
      clear_value v1
      refine keeps_ite ?_ ?_
      · extract_lets +onlyGivenNames v3
        have h4 : Keeps a v3.2 := by
          unfold v3
          exact State.fwVerify_keeps _ (by assumption)
        clear_value v3
        exact State.mboxIrq_keeps _ (State.mbox_keeps _ _ (by assumption))
      · exact State.mboxIrq_keeps _ (State.mbox_keeps _ _ (by assumption))
theorem State.activateFw_keeps {a s : State} (x2 : _) (x3 : _) (x4 : _) (h : Keeps a s) : Keeps a (State.activateFw s x2 x3 x4) := by
  unfold State.activateFw
  refine State.onMgmtMbox_keeps _ ?_ ?_
  · assumption
  · refine keeps_ite ?_ ?_
    · exact State.mbox_keeps _ _ (by assumption)
    · refine keeps_ite ?_ ?_
      · exact State.mbox_keeps _ _ (by assumption)
      · exact State.mboxIrq_keeps _ (State.mbox_keeps _ _ (State.fwActivate_keeps _ (State.mbox_keeps _ _ (by assumption))))
theorem State.healthInfo_keeps {a s : State} (x2 : _) (h : Keeps a s) : Keeps a (State.healthInfo s x2) := by
  unfold State.healthInfo
  refine State.onMbox_keeps _ ?_ ?_
  · assumption
  · extract_lets +onlyGivenNames v1
    have h2 : Keeps a v1.2 := by
      unfold v1
      exact State.free_keeps _ (by assumption)
    clear_value v1
    extract_lets +onlyGivenNames v3
    have h4 : Keeps a v3.2 := by
      unfold v3
      exact State.free_keeps _ (by assumption)
    clear_value v3
    exact State.emit_keeps _ (by assumption)
theorem State.mctpSet_keeps {a s : State} (x2 : _) (h : Keeps a s) : Keeps a (State.mctpSet s x2) := by
  unfold State.mctpSet
  refine keeps_ite ?_ ?_
  · assumption
  · refine keeps_ite ?_ ?_
    · exact State.emit_keeps _ (State.setCmd_keeps _ (by assumption))
    · exact State.emit_keeps _ (by assumption)
theorem State.mctpGet_keeps {a s : State} (h : Keeps a s) : Keeps a (State.mctpGet s) := by
  unfold State.mctpGet
  refine keeps_ite ?_ ?_
  · assumption
  · exact State.emit_keeps _ (by assumption)
theorem State.mctpVersions_keeps {a s : State} (h : Keeps a s) : Keeps a (State.mctpVersions s) := by
  unfold State.mctpVersions
  refine keeps_ite ?_ ?_
  · assumption
  · extract_lets +onlyGivenNames v1
    have h2 : Keeps a v1.2 := by
      unfold v1
      exact State.free_keeps _ (by assumption)
    clear_value v1
    exact State.emit_keeps _ (by assumption)
theorem State.mctpTypes_keeps {a s : State} (h : Keeps a s) : Keeps a (State.mctpTypes s) := by
  unfold State.mctpTypes
  refine keeps_ite ?_ ?_
  · assumption
  · exact State.emit_keeps _ (by assumption)
/-! ### ScrubFx.lean -/

theorem State.landingUe_keeps {a s : State} (x2 : _) (h : Keeps a s) : Keeps a (State.landingUe s x2) := by
  unfold State.landingUe
  split
  · assumption
  · refine keeps_ite ?_ ?_
    · assumption
    · extract_lets +onlyGivenNames v1
      clear_value v1
      extract_lets +onlyGivenNames v2
      clear_value v2
      refine keeps_ite ?_ ?_
      · exact State.askTwin_keeps _ (State.addRecovery_keeps _ (by assumption))
      · refine keeps_ite ?_ ?_
        · assumption
        · exact State.poisonLine_keeps _ (by assumption)
theorem State.psWordUe_keeps {a s : State} (x2 : _) (h : Keeps a s) : Keeps a (State.psWordUe s x2) := by
  unfold State.psWordUe
  exact keeps_upd (by assumption)
theorem State.shedUe_keeps {a s : State} (x2 : _) (h : Keeps a s) : Keeps a (State.shedUe s x2) := by
  unfold State.shedUe
  split
  · assumption
  · exact State.sendNackAfter_keeps _ _ _ _ (State.setShed_keeps _ (by assumption))
theorem State.readUe_keeps {a s : State} (x2 : _) (h : Keeps a s) : Keeps a (State.readUe s x2) := by
  unfold State.readUe
  extract_lets +onlyGivenNames v1
  have hf2 : ∀ y0 y1, Keeps a y0 → Keeps a (v1 y0 y1) := by
    intro u3 u4 u5
    unfold v1
    exact State.give_keeps _ _ _ _ _ (by assumption)
  clear_value v1
  split
  · apply hf2
    exact keeps_upd (by assumption)
  · split
    · apply hf2
      exact keeps_upd (by assumption)
    · assumption
theorem State.storeUe_keeps {a s : State} (x2 : _) (x3 : _) (h : Keeps a s) : Keeps a (State.storeUe s x2 x3) := by
  unfold State.storeUe
  split
  · extract_lets +onlyGivenNames v1
    clear_value v1
    exact keeps_upd (by assumption)
  · extract_lets +onlyGivenNames v2
    clear_value v2
    exact keeps_upd (by assumption)
theorem State.sramUe_keeps {a s : State} (x2 : _) (x3 : _) (h : Keeps a s) : Keeps a (State.sramUe s x2 x3) := by
  unfold State.sramUe
  extract_lets +onlyGivenNames v1
  clear_value v1
  extract_lets +onlyGivenNames v2
  have h3 : Keeps a v2 := by
    unfold v2
    exact State.logErr_keeps _ _ _ _ _ _ _ (State.countUe_keeps _ (by assumption))
  clear_value v2
  split
  · exact State.landingUe_keeps _ (by assumption)
  · exact State.psWordUe_keeps _ (by assumption)
  · refine keeps_ite ?_ ?_
    · exact State.resetCtx_keeps _ (by assumption)
    · assumption
  · exact State.shedUe_keeps _ (by assumption)
  · exact State.readUe_keeps _ (by assumption)
  · exact State.storeUe_keeps _ _ (by assumption)
  · assumption
theorem State.scrubCorrected_keeps {a s : State} (x2 : _) (x3 : _) (x4 : _) (h : Keeps a s) : Keeps a (State.scrubCorrected s x2 x3 x4) := by
  unfold State.scrubCorrected
  extract_lets +onlyGivenNames v1
  have h2 : Keeps a v1 := by
    unfold v1
    exact State.logErr_keeps _ _ _ _ _ _ _ (State.countCe_keeps _ (by assumption))
  clear_value v1
  refine keeps_ite ?_ ?_
  · exact State.storeCell_keeps _ _ (by assumption)
  · assumption
theorem State.settingsUe_keeps {a s : State} (x2 : _) (h : Keeps a s) : Keeps a (State.settingsUe s x2) := by
  unfold State.settingsUe
  extract_lets +onlyGivenNames v1
  have h2 : Keeps a v1 := by
    unfold v1
    exact State.logErr_keeps _ _ _ _ _ _ _ (State.countUe_keeps _ (by assumption))
  clear_value v1
  exact State.setLive_keeps _ _ (keeps_upd (by assumption))
theorem State.patrolScrub_keeps {a s : State} (x2 : _) (x3 : _) (h : Keeps a s) : Keeps a (State.patrolScrub s x2 x3) := by
  unfold State.patrolScrub
  refine keeps_ite ?_ ?_
  · assumption
  · split
    · assumption
    · extract_lets +onlyGivenNames v1
      extract_lets +onlyGivenNames v2
      have h3 : Keeps a v2 := by
        unfold v2
        exact keeps_upd (by assumption)
      clear_value v2
      split
      · assumption
      · exact State.scrubCorrected_keeps _ _ _ (by assumption)
      · refine keeps_ite ?_ ?_
        · exact State.sramUe_keeps _ _ (by assumption)
        · assumption
      · split
        · exact State.sramUe_keeps _ _ (by assumption)
        · exact State.settingsUe_keeps _ (by assumption)
        · split
          · exact State.scrubUe_keeps _ _ _ (by assumption)
          · exact State.logErr_keeps _ _ _ _ _ _ _ (State.countUe_keeps _ (by assumption))

end Sys2Proof.Machine
end

