-- ==== Sys2Proof/Laws/KeepsSettle.lean ====
section
/-! SUPPORT. Every operation of Settle, RegFx, CoreFx, Reports keeps what `Keeps` says. -/
namespace Sys2Proof.Machine
set_option Elab.async false

/-! ### Settle.lean -/

set_option maxRecDepth 8000 in
theorem cmdTable_keeps {a s : State} {op : Nat} {D : CmdDef} (c : Cmd) (e : cmdTable op = some D) (h : Keeps a s) :
    Keeps a (D.run c s).s := by
  unfold cmdTable at e
  split at e <;> first | cases e | skip
  · exact cmdRegionCreate_keeps c h
  · exact cmdRegionSetFlags_keeps c h
  · exact cmdRegionDelete_keeps c h
  · exact cmdRegionDcRelease_keeps c h
  · exact cmdRegionQuery_keeps c h
  · exact cmdTableCreate_keeps c h
  · exact cmdEntryAdd_keeps c h
  · exact cmdTableOpen_keeps c h
  · exact cmdTableClose_keeps c h
  · exact cmdSharerJoin_keeps c h
  · exact cmdSharerLeave_keeps c h
  · exact cmdStepSet_keeps c h
  · exact cmdCtxOpen_keeps c h
  · exact cmdCtxClose_keeps c h
  · exact cmdBerthOpen_keeps c h
  · exact cmdBerthClose_keeps c h
  · exact cmdBerthRenew_keeps c h
  · exact cmdDestSet_keeps c h
  · exact cmdCheckStart_keeps c h
  · exact cmdCheckStatus_keeps c h
  · exact cmdCheckStop_keeps c h
  · exact cmdProfileSet_keeps c h
  · exact cmdRehearse_keeps c h
  · exact cmdTwinGrant_keeps c h
  · exact cmdTwinHandover_keeps c h
  · exact cmdErrLog_keeps c h
  · exact cmdPageRetire_keeps c h
  · exact cmdRankSpare_keeps c h
  · exact cmdScrubNow_keeps c h
  · exact cmdMemChannel_keeps c h
  · exact cmdSettingsRead_keeps c h
  · exact cmdSettingsWrite_keeps c h
  · exact cmdKeySet_keeps c h
  · exact cmdRecInfo_keeps c h
  · exact cmdRecRead_keeps c h
  · exact cmdLoopSet_keeps c h
  · exact cmdLoopStatus_keeps c h
  · exact cmdFwInfo_keeps c h
  · exact cmdFwWrite_keeps c h
  · exact cmdFwVerify_keeps c h
  · exact cmdFwActivate_keeps c h
  · exact cmdFreqSet_keeps c h
  · exact cmdPowerState_keeps c h
theorem State.slotHandle_keeps {a s : State} (x : _) (h : Keeps a s) : Keeps a (State.slotHandle s x) := by
  unfold State.slotHandle
  extract_lets +onlyGivenNames id t
  have ht : Keeps a t := State.handle_keeps _ _ _ h fun D e => cmdTable_keeps _ e h
  clear_value t
  split
  · exact State.setSlots_keeps _ ht
  · exact ht

theorem State.slotRun_keeps {a s : State} (x2 : _) (h : Keeps a s) : Keeps a (State.slotRun s x2) := by
  unfold State.slotRun
  extract_lets +onlyGivenNames v1
  clear_value v1
  extract_lets +onlyGivenNames v2
  have h3 : Keeps a v2 := by
    unfold v2
    exact State.setSlots_keeps _ (by assumption)
  clear_value v2
  split
  · exact State.slotHandle_keeps _ (by assumption)
  · exact State.slotHandle_keeps _ (by assumption)
  · exact State.answer_keeps _ _ _ _ _ _ (by assumption)
  · exact State.answer_keeps _ _ _ _ _ _ (State.closeCtx_keeps _ (by assumption))
  · exact State.answer_keeps _ _ _ _ _ _ (by assumption)
theorem State.settleStep_keeps {a s t : State} (h : Keeps a s) (e : s.settleStep = some t) : Keeps a t := by
  unfold State.settleStep at e
  split at e
  · obtain rfl := Option.some.inj e; exact State.endPlacing_keeps _ h
  split at e
  · obtain rfl := Option.some.inj e; exact State.readDone_keeps _ h
  split at e
  · obtain rfl := Option.some.inj e; exact State.runDoorbell_keeps _ h
  split at e
  · obtain rfl := Option.some.inj e; exact State.finishBi_keeps _ h
  split at e
  · obtain rfl := Option.some.inj e; exact State.grant_keeps _ h
  split at e
  · obtain rfl := Option.some.inj e; exact State.fwdAcked_keeps _ h
  split at e
  · obtain rfl := Option.some.inj e; exact State.writeDue_keeps _ h
  split at e
  · obtain rfl := Option.some.inj e; exact State.finishWait_keeps _ h
  split at e
  · obtain rfl := Option.some.inj e; exact State.coreGo_keeps _ h
  split at e
  · obtain rfl := Option.some.inj e; exact State.slotRun_keeps _ h
  split at e
  · obtain rfl := Option.some.inj e; exact State.ingressResume_keeps h
  split at e
  · obtain rfl := Option.some.inj e; exact State.rxRun_keeps h
  split at e
  · obtain rfl := Option.some.inj e; exact State.runWaits_keeps h
  split at e
  · obtain rfl := Option.some.inj e; exact State.resyncEnd_keeps h
  split at e
  · obtain rfl := Option.some.inj e; exact State.goActive_keeps h
  split at e
  · obtain rfl := Option.some.inj e; exact State.wakeUp_keeps h
  split at e
  · obtain rfl := Option.some.inj e; exact State.drainHandover_keeps h
  split at e
  · obtain rfl := Option.some.inj e; exact State.settleClash_keeps h
  · obtain ⟨p, _, rfl⟩ := Option.map_eq_some_iff.1 e
    exact State.relocate_keeps _ h
theorem State.settleLoop_keeps {a s : State} (k : Nat) (h : Keeps a s) : Keeps a (s.settleLoop k) := by
  induction k generalizing s with
  | zero => exact h
  | succ k ih =>
    unfold State.settleLoop
    split
    · exact h
    · exact ih (State.settleStep_keeps h ‹_›)

theorem State.settle_keeps {a s : State} (h : Keeps a s) : Keeps a (State.settle s) := by
  unfold State.settle
  extract_lets +onlyGivenNames v1
  have h2 : Keeps a v1 := by
    unfold v1
    exact State.stretchExit_keeps (State.settleAcks_keeps (State.leave_keeps (State.issueDue_keeps (by assumption))))
  clear_value v1
  exact State.leave_keeps (State.settleLoop_keeps _ (by assumption))
/-! ### RegFx.lean -/

theorem State.setAgent_keeps {a s : State} (x2 : _) (x3 : _) (h : Keeps a s) : Keeps a (State.setAgent s x2 x3) := by
  unfold State.setAgent
  exact keeps_upd (by assumption)
theorem State.ignoreWrite_keeps {a s : State} (x2 : _) (x3 : _) (x4 : _) (h : Keeps a s) : Keeps a (State.ignoreWrite s x2 x3 x4) := by
  unfold State.ignoreWrite
  extract_lets +onlyGivenNames v1
  have h2 : Keeps a v1 := by
    unfold v1
    exact State.bump_keeps _ _ _ (by assumption)
  clear_value v1
  refine keeps_ite ?_ ?_
  · assumption
  · extract_lets +onlyGivenNames v3
    have h4 : Keeps a v3 := by
      unfold v3
      exact State.fset_keeps _ _ (State.fset_keeps _ _ (State.fset_keeps _ _ (by assumption)))
    clear_value v3
    exact State.raise_keeps _ (State.setBit_keeps _ _ (by assumption))
theorem State.setHdm_keeps {a s : State} (x2 : _) (x3 : _) (x4 : _) (h : Keeps a s) : Keeps a (State.setHdm s x2 x3 x4) := by
  unfold State.setHdm
  exact keeps_upd (by assumption)
theorem State.hdmControl_keeps {a s : State} (x2 : _) (x3 : _) (x4 : _) (h : Keeps a s) : Keeps a (State.hdmControl s x2 x3 x4) := by
  unfold State.hdmControl
  extract_lets +onlyGivenNames v1
  clear_value v1
  extract_lets +onlyGivenNames v2
  have hf3 : ∀ y0 y1, Keeps a y0 → Keeps a (v2 y0 y1) := by
    intro u4 u5 u6
    unfold v2
    exact keeps_upd (by assumption)
  clear_value v2
  extract_lets +onlyGivenNames v7
  clear_value v7
  split
  · refine keeps_ite ?_ ?_
    · assumption
    · refine State.setHdm_keeps _ _ _ ?_
      apply hf3
      assumption
  · refine keeps_ite ?_ ?_
    · exact State.setHdm_keeps _ _ _ (by assumption)
    · refine keeps_ite ?_ ?_
      · refine State.setHdm_keeps _ _ _ ?_
        apply hf3
        assumption
      · exact State.setHdm_keeps _ _ _ (by assumption)
theorem State.cxlWrite_keeps {a s : State} (x2 : _) (x3 : _) (x4 : _) (h : Keeps a s) : Keeps a (State.cxlWrite s x2 x3 x4) := by
  unfold State.cxlWrite
  refine keeps_ite ?_ ?_
  · exact keeps_upd (by assumption)
  · refine keeps_ite ?_ ?_
    · assumption
    · extract_lets +onlyGivenNames v1
      clear_value v1
      extract_lets +onlyGivenNames v2
      clear_value v2
      refine keeps_ite ?_ ?_
      · exact State.hdmControl_keeps _ _ _ (by assumption)
      · refine keeps_ite ?_ ?_
        · assumption
        · exact State.setHdm_keeps _ _ _ (by assumption)
theorem State.cxlRead_keeps {a s : State} (x2 : _) (x3 : _) (h : Keeps a s) : Keeps a (State.cxlRead s x2 x3).2 := by
  unfold State.cxlRead
  refine keeps_ite2 ?_ ?_
  · assumption
  · refine keeps_ite2 ?_ ?_
    · assumption
    · exact State.free_keeps _ (by assumption)
theorem State.readLive_keeps {a s : State} (x2 : _) (x3 : _) (x4 : _) (h : Keeps a s) : Keeps a (State.readLive s x2 x3 x4).2 := by
  unfold State.readLive
  split
  · refine keeps_ite2 ?_ ?_
    · exact State.icuClaim_keeps _ (by assumption)
    · assumption
  · extract_lets +onlyGivenNames v1
    have h2 : Keeps a v1 := by
      unfold v1
      exact State.lbRun_keeps _ (by assumption)
    clear_value v1
    assumption
  · assumption
theorem State.readWord_keeps {a s : State} (x2 : _) (x3 : _) (h : Keeps a s) : Keeps a (State.readWord s x2 x3).2 := by
  unfold State.readWord
  extract_lets +onlyGivenNames v1
  clear_value v1
  extract_lets +onlyGivenNames v2
  have h3 : Keeps a v2 := by
    unfold v2
    exact State.setAgent_keeps _ _ (by assumption)
  clear_value v2
  refine keeps_ite2 ?_ ?_
  · assumption
  · refine keeps_ite2 ?_ ?_
    · assumption
    · split
      · split
        · exact State.cxlRead_keeps _ _ (by assumption)
        · refine keeps_ite2 ?_ ?_
          · exact State.free_keeps _ (by assumption)
          · assumption
      · extract_lets +onlyGivenNames v4
        clear_value v4
        extract_lets +onlyGivenNames v5
        have h6 : Keeps a v5.2 := by
          unfold v5
          exact State.readLive_keeps _ _ _ (by assumption)
        clear_value v5
        extract_lets +onlyGivenNames v7
        clear_value v7
        extract_lets +onlyGivenNames v8
        have h9 : Keeps a v8 := by
          unfold v8
          assumption
        extract_lets +onlyGivenNames v10
        clear_value v10
        extract_lets +onlyGivenNames v11
        have hf12 : ∀ y0, Keeps a (v11 y0) := by
          intro u13
          unfold v11
          exact State.setAgent_keeps _ _ (by assumption)
        clear_value v11
        refine keeps_ite2 ?_ ?_
        · dsimp only
          apply hf12
        · refine keeps_ite2 ?_ ?_
          · dsimp only
            apply hf12
          · split
            · refine keeps_ite2 ?_ ?_
              · extract_lets +onlyGivenNames v14
                clear_value v14
                dsimp only
                apply hf12
              · dsimp only
                apply hf12
            · dsimp only
              apply hf12
theorem State.readNarrow_keeps {a s : State} (x2 : _) (x3 : _) (x4 : _) (h : Keeps a s) : Keeps a (State.readNarrow s x2 x3 x4).2 := by
  unfold State.readNarrow
  extract_lets +onlyGivenNames v1
  clear_value v1
  extract_lets +onlyGivenNames v2
  have h3 : Keeps a v2.2 := by
    unfold v2
    exact State.readWord_keeps _ _ (State.setAgent_keeps _ _ (by assumption))
  clear_value v2
  extract_lets +onlyGivenNames v4
  clear_value v4
  extract_lets +onlyGivenNames v5
  have h6 : Keeps a v5 := by
    unfold v5
    exact State.setAgent_keeps _ _ (by assumption)
  clear_value v5
  assumption
theorem State.readWords_keeps {a s : State} (x2 : _) (x3 : _) (x4 : _) (h : Keeps a s) : Keeps a (State.readWords s x2 x3 x4).2 := by
  unfold State.readWords
  split
  · assumption
  · extract_lets +onlyGivenNames v1
    have h2 : Keeps a v1.2 := by
      unfold v1
      exact State.readWord_keeps _ _ (by assumption)
    clear_value v1
    extract_lets +onlyGivenNames v3
    have h4 : Keeps a v3.2 := by
      unfold v3
      exact State.readWords_keeps _ _ _ (by assumption)
    clear_value v3
    assumption
theorem State.mapRead_keeps {a s : State} (x2 : _) (x3 : _) (x4 : _) (h : Keeps a s) : Keeps a (State.mapRead s x2 x3 x4).2 := by
  unfold State.mapRead
  refine keeps_ite2 ?_ ?_
  · assumption
  · refine keeps_ite2 ?_ ?_
    · exact State.readNarrow_keeps _ _ _ (by assumption)
    · exact State.readWords_keeps _ _ _ (by assumption)
theorem State.writeField_keeps {a s : State} (x2 : _) (x3 : _) (x4 : _) (h : Keeps a s) : Keeps a (State.writeField s x2 x3 x4) := by
  unfold State.writeField
  extract_lets +onlyGivenNames v1
  clear_value v1
  split
  · exact State.fset_keeps _ _ (by assumption)
  · exact State.fset_keeps _ _ (by assumption)
  · assumption
theorem State.writeWordsOf_keeps {a s : State} (x2 : _) (x3 : _) (x4 : _) (h : Keeps a s) : Keeps a (State.writeWordsOf s x2 x3 x4) := by
  unfold State.writeWordsOf
  split
  · assumption
  · refine keeps_ite ?_ ?_
    · exact State.softWord_keeps _ _ (by assumption)
    · exact State.groupWrite_keeps _ _ _ (by assumption)
theorem State.cacheCtrl_keeps {a s : State} (x2 : _) (x3 : _) (h : Keeps a s) : Keeps a (State.cacheCtrl s x2 x3) := by
  unfold State.cacheCtrl
  extract_lets +onlyGivenNames v1
  have h2 : Keeps a v1 := by
    unfold v1
    exact State.setBit_keeps _ _ (by assumption)
  clear_value v1
  refine keeps_ite ?_ ?_
  · exact State.setBit_keeps _ _ (by assumption)
  · refine keeps_ite ?_ ?_
    · exact State.cacheDisable_keeps _ (by assumption)
    · assumption
theorem State.cacheOp_keeps {a s : State} (x2 : _) (x3 : _) (h : Keeps a s) : Keeps a (State.cacheOp s x2 x3) := by
  unfold State.cacheOp
  split
  · exact State.opPrefetch_keeps _ (by assumption)
  · exact State.opZero_keeps _ (by assumption)
  · exact State.opLock_keeps _ (by assumption)
  · exact State.opUnlock_keeps _ (by assumption)
  · exact State.opWriteOut_keeps _ (by assumption)
  · exact State.opInval_keeps _ (by assumption)
  · assumption
theorem State.chkCtrl_keeps {a s : State} (x2 : _) (x3 : _) (h : Keeps a s) : Keeps a (State.chkCtrl s x2 x3) := by
  unfold State.chkCtrl
  extract_lets +onlyGivenNames v1
  have h2 : Keeps a v1 := by
    unfold v1
    exact State.fset_keeps _ _ (by assumption)
  clear_value v1
  extract_lets +onlyGivenNames v3
  have h4 : Keeps a v3 := by
    unfold v3
    refine keeps_ite ?_ ?_
    · exact State.chkStart_keeps _ (by assumption)
    · assumption
  clear_value v3
  refine keeps_ite ?_ ?_
  · exact State.chkStop_keeps _ (by assumption)
  · assumption
theorem State.writeProd_keeps {a s : State} (x2 : _) (x3 : _) (h : Keeps a s) : Keeps a (State.writeProd s x2 x3) := by
  unfold State.writeProd
  refine keeps_ite ?_ ?_
  · exact State.recArm_keeps (by assumption)
  · assumption
theorem State.commit_keeps {a s : State} (x2 : _) (x3 : _) (x4 : _) (x5 : _) (x6 : _) (h : Keeps a s) : Keeps a (State.commit s x2 x3 x4 x5 x6) := by
  unfold State.commit
  extract_lets +onlyGivenNames v1
  clear_value v1
  split
  · exact State.setAgent_keeps _ _ (by assumption)
  · refine keeps_ite ?_ ?_
    · assumption
    · exact State.fset_keeps _ _ (by assumption)
  · exact State.setTable_keeps _ _ (by assumption)
  · refine keeps_ite ?_ ?_
    · exact State.setTable_keeps _ _ (by assumption)
    · assumption
  · exact State.setTable_keeps _ _ (by assumption)
  · split
    · refine keeps_ite ?_ ?_
      · exact State.setCtx_keeps _ _ (by assumption)
      · assumption
    · assumption
  · exact State.chkCtrl_keeps _ _ (by assumption)
  · exact State.setChkValue_keeps _ _ (by assumption)
  · extract_lets +onlyGivenNames v2
    have h3 : Keeps a v2 := by
      unfold v2
      exact State.writeWordsOf_keeps _ _ _ (by assumption)
    clear_value v2
    refine keeps_ite ?_ ?_
    · exact State.requestReh_keeps (by assumption)
    · assumption
  · exact State.saveCostWrite_keeps (by assumption)
  · exact State.saveCostWrite_keeps (by assumption)
  · exact State.icuPendSet_keeps _ (by assumption)
  · exact State.icuPendClr_keeps _ (by assumption)
  · exact State.icuTgtCtrl_keeps _ _ (by assumption)
  · refine keeps_ite ?_ ?_
    · exact State.icuComplete_keeps _ _ (by assumption)
    · assumption
  · exact State.icuSrcCfg_keeps _ _ (by assumption)
  · exact State.laneInject_keeps _ (State.writeWordsOf_keeps _ _ _ (by assumption))
  · refine keeps_ite ?_ ?_
    · exact State.cacheCtrl_keeps _ _ (by assumption)
    · assumption
  · refine keeps_ite ?_ ?_
    · exact State.cacheOp_keeps _ _ (by assumption)
    · assumption
  · refine keeps_ite ?_ ?_
    · exact State.fset_keeps _ _ (by assumption)
    · assumption
  · refine keeps_ite ?_ ?_
    · exact State.fset_keeps _ _ (by assumption)
    · assumption
  · exact State.fset_keeps _ _ (State.putCore_keeps _ _ (by assumption))
  · exact State.fset_keeps _ _ (State.putCore_keeps _ _ (by assumption))
  · exact State.wdogKick_keeps _ _ (by assumption)
  · exact State.softWord_keeps _ _ (by assumption)
  · extract_lets +onlyGivenNames v4
    have h5 : Keeps a v4 := by
      unfold v4
      refine keeps_foldl ?_ ?_
      · assumption
      · intro u6 u7 u8
        beta_reduce
        exact State.writeField_keeps _ _ _ (by assumption)
    clear_value v4
    refine keeps_ite ?_ ?_
    · exact State.lbGo_keeps _ (by assumption)
    · assumption
  · exact State.writeProd_keeps _ _ (by assumption)
  · refine keeps_ite ?_ ?_
    · exact State.writeWordsOf_keeps _ _ _ (by assumption)
    · refine keeps_foldl ?_ ?_
      · assumption
      · intro u9 u10 u11
        beta_reduce
        exact State.writeField_keeps _ _ _ (by assumption)
theorem State.writeLb_keeps {a s : State} (x2 : _) (x3 : _) (x4 : _) (h : Keeps a s) : Keeps a (State.writeLb s x2 x3 x4) := by
  unfold State.writeLb
  extract_lets +onlyGivenNames v1
  have h2 : Keeps a v1 := by
    unfold v1
    exact State.lbRun_keeps _ (by assumption)
  clear_value v1
  extract_lets +onlyGivenNames v3
  clear_value v3
  refine keeps_ite ?_ ?_
  · refine keeps_ite ?_ ?_
    · exact State.setLb_keeps _ _ (by assumption)
    · assumption
  · refine keeps_ite ?_ ?_
    · exact State.setLb_keeps _ _ (by assumption)
    · assumption
theorem State.writeWord_keeps {a s : State} (x2 : _) (x3 : _) (x4 : _) (x5 : _) (h : Keeps a s) : Keeps a (State.writeWord s x2 x3 x4 x5) := by
  unfold State.writeWord
  extract_lets +onlyGivenNames v1
  clear_value v1
  extract_lets +onlyGivenNames v2
  have h3 : Keeps a v2 := by
    unfold v2
    exact State.setAgent_keeps _ _ (by assumption)
  clear_value v2
  extract_lets +onlyGivenNames v4
  have hf5 : ∀ y0, Keeps a (v4 y0) := by
    intro u6
    unfold v4
    exact State.setAgent_keeps _ _ (by assumption)
  clear_value v4
  refine keeps_ite ?_ ?_
  · exact State.doorbellWrite_keeps _ _ _ _ (by assumption)
  · split
    · split
      · exact State.cxlWrite_keeps _ _ _ (by assumption)
      · refine keeps_ite ?_ ?_
        · assumption
        · exact State.ignoreWrite_keeps _ _ _ (by assumption)
    · extract_lets +onlyGivenNames v7
      clear_value v7
      refine keeps_ite ?_ ?_
      · exact State.writeLb_keeps _ _ _ (by assumption)
      · refine keeps_ite ?_ ?_
        · refine keeps_ite ?_ ?_
          · exact State.commit_keeps _ _ _ _ _ (by assumption)
          · assumption
        · extract_lets +onlyGivenNames v8
          clear_value v8
          extract_lets +onlyGivenNames v9
          clear_value v9
          refine keeps_ite ?_ ?_
          · refine State.setAgent_keeps _ _ ?_
            apply hf5
          · extract_lets +onlyGivenNames v10
            clear_value v10
            exact State.commit_keeps _ _ _ _ _ (by assumption)
theorem State.writePair_keeps {a s : State} (x2 : _) (x3 : _) (x4 : _) (x5 : _) (h : Keeps a s) : Keeps a (State.writePair s x2 x3 x4 x5) := by
  unfold State.writePair
  split
  · refine keeps_ite ?_ ?_
    · exact State.commit_keeps _ _ _ _ _ (State.setAgent_keeps _ _ (by assumption))
    · exact State.writeWord_keeps _ _ _ _ (State.writeWord_keeps _ _ _ _ (by assumption))
  · exact State.writeWord_keeps _ _ _ _ (State.writeWord_keeps _ _ _ _ (by assumption))
theorem State.mapWrite_keeps {a s : State} (x2 : _) (x3 : _) (x4 : _) (x5 : _) (h : Keeps a s) : Keeps a (State.mapWrite s x2 x3 x4 x5) := by
  unfold State.mapWrite
  extract_lets +onlyGivenNames v1
  clear_value v1
  extract_lets +onlyGivenNames v2
  have h3 : Keeps a v2 := by
    unfold v2
    exact State.setAgent_keeps _ _ (by assumption)
  clear_value v2
  refine keeps_ite ?_ ?_
  · exact State.ignoreWrite_keeps _ _ _ (by assumption)
  · refine keeps_ite ?_ ?_
    · exact State.ignoreWrite_keeps _ _ _ (by assumption)
    · refine keeps_ite ?_ ?_
      · exact State.writeWord_keeps _ _ _ _ (by assumption)
      · exact State.writePair_keeps _ _ _ _ (by assumption)
theorem State.ldWakes_keeps {a s : State} (x2 : _) (h : Keeps a s) : Keeps a (State.ldWakes s x2) := by
  unfold State.ldWakes
  refine keeps_ite ?_ ?_
  · exact State.exitTrigger_keeps (by assumption)
  · assumption
theorem State.regRead_keeps {a s : State} (x2 : _) (x3 : _) (x4 : _) (h : Keeps a s) : Keeps a (State.regRead s x2 x3 x4) := by
  unfold State.regRead
  refine keeps_ite ?_ ?_
  · assumption
  · extract_lets +onlyGivenNames v1
    have h2 : Keeps a v1.2 := by
      unfold v1
      exact State.mapRead_keeps _ _ _ (State.ldWakes_keeps _ (by assumption))
    clear_value v1
    exact State.emit_keeps _ (by assumption)
theorem State.regWrite_keeps {a s : State} (x2 : _) (x3 : _) (x4 : _) (h : Keeps a s) : Keeps a (State.regWrite s x2 x3 x4) := by
  unfold State.regWrite
  refine keeps_ite ?_ ?_
  · assumption
  · exact State.mapWrite_keeps _ _ _ _ (State.ldWakes_keeps _ (by assumption))
theorem State.dbgWord_keeps {a s : State} (x2 : _) (x3 : _) (h : Keeps a s) : Keeps a (State.dbgWord s x2 x3) := by
  unfold State.dbgWord
  refine keeps_ite ?_ ?_
  · exact State.denied_keeps (by assumption)
  · exact State.arriveWord_keeps _ _ _ (by assumption)
theorem State.dbgMark_keeps {a s : State} (h : Keeps a s) : Keeps a (State.dbgMark s) := by
  unfold State.dbgMark
  refine keeps_ite ?_ ?_
  · assumption
  · exact State.raise_keeps _ (State.setBit_keeps _ _ (State.setTest_keeps _ (by assumption)))
theorem State.dbgAccess_keeps {a s : State} (x2 : _) (x3 : _) (x4 : _) (x5 : _) (h : Keeps a s) : Keeps a (State.dbgAccess s x2 x3 x4 x5) := by
  unfold State.dbgAccess
  extract_lets +onlyGivenNames v1
  have h2 : Keeps a v1 := by
    unfold v1
    exact State.dbgMark_keeps (State.tapLoad_keeps _ (by assumption))
  clear_value v1
  refine keeps_ite ?_ ?_
  · assumption
  · refine keeps_ite ?_ ?_
    · extract_lets +onlyGivenNames v3
      clear_value v3
      refine keeps_ite ?_ ?_
      · exact State.dbgWord_keeps _ _ (by assumption)
      · exact State.emit_keeps _ (State.setTest_keeps _ (by assumption))
    · refine keeps_ite ?_ ?_
      · exact State.mapWrite_keeps _ _ _ _ (by assumption)
      · extract_lets +onlyGivenNames v4
        have h5 : Keeps a v4.2 := by
          unfold v4
          exact State.mapRead_keeps _ _ _ (by assumption)
        clear_value v4
        exact State.emit_keeps _ (State.setTest_keeps _ (by assumption))
/-! ### CoreFx.lean -/

theorem State.localPut_keeps {a s : State} (x2 : _) (x3 : _) (x4 : _) (h : Keeps a s) : Keeps a (State.localPut s x2 x3 x4) := by
  unfold State.localPut
  exact State.putCore_keeps _ _ (by assumption)
theorem State.issued_keeps {a s : State} (x2 : _) (x3 : _) (x4 : _) (h : Keeps a s) (h4 : ∀ y0, Keeps a y0 → Keeps a (x4 y0)) : Keeps a (State.issued s x2 x3 x4) := by
  unfold State.issued
  refine keeps_ite ?_ ?_
  · apply h4
    assumption
  · extract_lets +onlyGivenNames v1
    have h2 : Keeps a v1.2 := by
      unfold v1
      exact State.voted_keeps (by assumption)
    clear_value v1
    refine keeps_ite ?_ ?_
    · apply h4
      assumption
    · assumption
theorem State.coreReg_keeps {a s : State} (x2 : _) (x3 : _) (x4 : _) (h : Keeps a s) : Keeps a (State.coreReg s x2 x3 x4) := by
  unfold State.coreReg
  extract_lets +onlyGivenNames v1
  have h2 : Keeps a v1.2 := by
    unfold v1
    exact State.mapRead_keeps _ _ _ (by assumption)
  clear_value v1
  exact State.emit_keeps _ (by assumption)
theorem State.regBusy_keeps {a s : State} (x2 : _) (x3 : _) (h : Keeps a s) : Keeps a (State.regBusy s x2 x3) := by
  unfold State.regBusy
  split
  · exact State.coreBusy_keeps _ _ (by assumption)
  · assumption
theorem State.coreLoad_keeps {a s : State} (x2 : _) (x3 : _) (x4 : _) (h : Keeps a s) : Keeps a (State.coreLoad s x2 x3 x4) := by
  unfold State.coreLoad
  refine keeps_ite ?_ ?_
  · assumption
  · split
    · exact State.emit_keeps _ (by assumption)
    · refine State.issued_keeps _ _ _ ?_ ?_
      · assumption
      · intro u1 u2
        beta_reduce
        exact State.coreReg_keeps _ _ _ (by assumption)
    · refine State.issued_keeps _ _ _ ?_ ?_
      · assumption
      · intro u3 u4
        beta_reduce
        exact State.coreReg_keeps _ _ _ (by assumption)
    · refine State.issued_keeps _ _ _ ?_ ?_
      · assumption
      · intro u5 u6
        beta_reduce
        exact State.emit_keeps _ (State.emit_keeps _ (by assumption))
    · refine State.issued_keeps _ _ _ ?_ ?_
      · assumption
      · intro u7 u8
        beta_reduce
        exact State.cachedLoad_keeps _ _ _ (by assumption)
    · refine State.issued_keeps _ _ _ ?_ ?_
      · assumption
      · intro u9 u10
        beta_reduce
        exact State.cachedLoad_keeps _ _ _ (by assumption)
    · refine State.issued_keeps _ _ _ ?_ ?_
      · assumption
      · intro u11 u12
        beta_reduce
        exact State.cachedLoad_keeps _ _ _ (by assumption)
    · refine State.issued_keeps _ _ _ ?_ ?_
      · assumption
      · intro u13 u14
        beta_reduce
        exact State.cachedLoad_keeps _ _ _ (by assumption)
    · refine State.issued_keeps _ _ _ ?_ ?_
      · assumption
      · intro u15 u16
        beta_reduce
        exact State.cachedLoad_keeps _ _ _ (by assumption)
theorem State.coreStore_keeps {a s : State} (x2 : _) (x3 : _) (x4 : _) (h : Keeps a s) : Keeps a (State.coreStore s x2 x3 x4) := by
  unfold State.coreStore
  refine keeps_ite ?_ ?_
  · assumption
  · split
    · exact State.coreBusy_keeps _ _ (State.localPut_keeps _ _ _ (by assumption))
    · refine State.issued_keeps _ _ _ ?_ ?_
      · assumption
      · intro u1 u2
        beta_reduce
        exact State.regBusy_keeps _ _ (State.mapWrite_keeps _ _ _ _ (by assumption))
    · refine State.issued_keeps _ _ _ ?_ ?_
      · assumption
      · intro u3 u4
        beta_reduce
        exact State.regBusy_keeps _ _ (State.mapWrite_keeps _ _ _ _ (by assumption))
    · refine State.issued_keeps _ _ _ ?_ ?_
      · assumption
      · intro u5 u6
        beta_reduce
        exact State.emit_keeps _ (by assumption)
    · refine State.issued_keeps _ _ _ ?_ ?_
      · assumption
      · intro u7 u8
        beta_reduce
        exact State.cachedStore_keeps _ _ _ (by assumption)
    · refine State.issued_keeps _ _ _ ?_ ?_
      · assumption
      · intro u9 u10
        beta_reduce
        exact State.cachedStore_keeps _ _ _ (by assumption)
    · refine State.issued_keeps _ _ _ ?_ ?_
      · assumption
      · intro u11 u12
        beta_reduce
        exact State.cachedStore_keeps _ _ _ (by assumption)
    · refine State.issued_keeps _ _ _ ?_ ?_
      · assumption
      · intro u13 u14
        beta_reduce
        exact State.cachedStore_keeps _ _ _ (by assumption)
    · refine State.issued_keeps _ _ _ ?_ ?_
      · assumption
      · intro u15 u16
        beta_reduce
        exact State.cachedStore_keeps _ _ _ (by assumption)
theorem State.storeOut_keeps {a s : State} (x2 : _) (h : Keeps a s) : Keeps a (State.storeOut s x2) := by
  unfold State.storeOut
  refine keeps_ite ?_ ?_
  · assumption
  · refine State.issued_keeps _ _ _ ?_ ?_
    · assumption
    · intro u1 u2
      beta_reduce
      exact State.issueStore_keeps _ (by assumption)
theorem State.prefetchIn_keeps {a s : State} (x2 : _) (h : Keeps a s) : Keeps a (State.prefetchIn s x2) := by
  unfold State.prefetchIn
  refine keeps_ite ?_ ?_
  · assumption
  · exact State.prefetchFill_keeps _ (by assumption)
theorem State.cacheStop_keeps {a s : State} (x2 : _) (h : Keeps a s) : Keeps a (State.cacheStop s x2) := by
  unfold State.cacheStop
  refine keeps_ite ?_ ?_
  · assumption
  · refine State.issued_keeps _ _ _ ?_ ?_
    · assumption
    · intro u1 u2
      beta_reduce
      exact State.cacheDisable_keeps _ (by assumption)
theorem State.coreOp_keeps {a s : State} (x2 : _) (x3 : _) (h : Keeps a s) (h3 : ∀ y0, Keeps a y0 → Keeps a (x3 y0)) : Keeps a (State.coreOp s x2 x3) := by
  unfold State.coreOp
  refine keeps_ite ?_ ?_
  · refine State.issued_keeps _ _ _ ?_ ?_
    · assumption
    · intro u1 u2
      beta_reduce
      apply h3
      assumption
  · assumption
/-! ### Reports.lean -/

theorem State.mboxOk_keeps {a s : State} (x2 : _) (x3 : _) (h : Keeps a s) : Keeps a (State.mboxOk s x2 x3) := by
  unfold State.mboxOk
  exact State.emit_keeps _ (by assumption)
theorem State.getLog_keeps {a s : State} (x2 : _) (x3 : _) (h : Keeps a s) : Keeps a (State.getLog s x2 x3) := by
  unfold State.getLog
  extract_lets +onlyGivenNames v1
  clear_value v1
  extract_lets +onlyGivenNames v2
  clear_value v2
  refine keeps_ite ?_ ?_
  · exact State.mbox_keeps _ _ (by assumption)
  · exact State.mboxOk_keeps _ _ (by assumption)
theorem State.identify_keeps {a s : State} (x2 : _) (h : Keeps a s) : Keeps a (State.identify s x2) := by
  unfold State.identify
  extract_lets +onlyGivenNames v1
  have h2 : Keeps a v1.2 := by
    unfold v1
    exact State.free_keeps _ (by assumption)
  clear_value v1
  extract_lets +onlyGivenNames v3
  have h4 : Keeps a v3.2 := by
    unfold v3
    exact State.free_keeps _ (by assumption)
  clear_value v3
  exact State.mboxOk_keeps _ _ (by assumption)
theorem State.getAlerts_keeps {a s : State} (x2 : _) (h : Keeps a s) : Keeps a (State.getAlerts s x2) := by
  unfold State.getAlerts
  extract_lets +onlyGivenNames v1
  have h2 : Keeps a v1.2 := by
    unfold v1
    exact State.free_keeps _ (by assumption)
  clear_value v1
  extract_lets +onlyGivenNames v3
  have h4 : Keeps a v3.2 := by
    unfold v3
    exact State.free_keeps _ (by assumption)
  clear_value v3
  extract_lets +onlyGivenNames v5
  clear_value v5
  extract_lets +onlyGivenNames v6
  clear_value v6
  exact State.mboxOk_keeps _ _ (by assumption)
theorem State.setAlerts_keeps {a s : State} (x2 : _) (x3 : _) (h : Keeps a s) : Keeps a (State.setAlerts s x2 x3) := by
  unfold State.setAlerts
  refine keeps_ite ?_ ?_
  · exact State.mbox_keeps _ _ (by assumption)
  · extract_lets +onlyGivenNames v1
    clear_value v1
    extract_lets +onlyGivenNames v2
    clear_value v2
    extract_lets +onlyGivenNames v3
    clear_value v3
    extract_lets +onlyGivenNames v4
    clear_value v4
    exact State.mbox_keeps _ _ (keeps_upd (by assumption))
theorem State.getPolicy_keeps {a s : State} (x2 : _) (h : Keeps a s) : Keeps a (State.getPolicy s x2) := by
  unfold State.getPolicy
  exact State.mboxOk_keeps _ _ (by assumption)
theorem State.mboxStd_keeps {a s : State} (x2 : _) (x3 : _) (x4 : _) (h : Keeps a s) : Keeps a (State.mboxStd s x2 x3 x4) := by
  unfold State.mboxStd
  refine keeps_ite ?_ ?_
  · assumption
  · refine State.onMbox_keeps _ ?_ ?_
    · assumption
    · split
      · exact State.getPolicy_keeps _ (by assumption)
      · exact State.mboxOk_keeps _ _ (by assumption)
      · refine keeps_ite ?_ ?_
        · exact State.mbox_keeps _ _ (by assumption)
        · exact State.mbox_keeps _ _ (keeps_upd (by assumption))
      · exact State.mboxOk_keeps _ _ (by assumption)
      · exact State.getLog_keeps _ _ (by assumption)
      · exact State.identify_keeps _ (by assumption)
      · exact State.getAlerts_keeps _ (by assumption)
      · exact State.setAlerts_keeps _ _ (by assumption)
      · exact State.emit_keeps _ (by assumption)
      · exact State.emit_keeps _ (by assumption)
      · refine keeps_ite ?_ ?_
        · exact State.emit_keeps _ (by assumption)
        · exact State.mbox_keeps _ _ (by assumption)
      · refine keeps_ite ?_ ?_
        · exact State.emit_keeps _ (by assumption)
        · exact State.mbox_keeps _ _ (by assumption)
      · exact State.mbox_keeps _ _ (by assumption)

end Sys2Proof.Machine
end

