-- ==== Sys2Proof/Laws/KeepsExec.lean ====
section
/-! SUPPORT. Every operation of ExecCore, ExecDram, ExecHost, ExecPersist, ExecReg keeps what `Keeps` says. -/
namespace Sys2Proof.Machine
set_option Elab.async false

/-! ### ExecCore.lean -/

theorem State.earlyRestart_keeps {a s : State} (x2 : _) (h : Keeps a s) : Keeps a (State.earlyRestart s x2) :=
  keeps_ite (State.restartEarly_keeps h) h

theorem State.claimBy_keeps {a s : State} (x2 : _) (h : Keeps a s) : Keeps a (State.claimBy s x2) := by
  unfold State.claimBy
  refine keeps_ite ?_ ?_
  · assumption
  · refine State.issued_keeps _ _ _ ?_ ?_
    · assumption
    · intro u1 u2
      beta_reduce
      exact State.coreReg_keeps _ _ _ (by assumption)
theorem State.completeBy_keeps {a s : State} (x2 : _) (x3 : _) (h : Keeps a s) : Keeps a (State.completeBy s x2 x3) := by
  unfold State.completeBy
  refine keeps_ite ?_ ?_
  · assumption
  · refine State.issued_keeps _ _ _ ?_ ?_
    · assumption
    · intro u1 u2
      beta_reduce
      exact State.mapWrite_keeps _ _ _ _ (by assumption)
theorem State.whenOn_keeps {a s : State} (x2 : _) (h : Keeps a s) (h2 : ∀ y0, Keeps a y0 → Keeps a (x2 y0)) : Keeps a (State.whenOn s x2) := by
  unfold State.whenOn
  refine keeps_ite ?_ ?_
  · apply h2
    assumption
  · assumption
/-! ### ExecDram.lean -/

theorem State.quayChannelLost_keeps {a s : State} (x2 : _) (h : Keeps a s) : Keeps a (State.quayChannelLost s x2) := by
  unfold State.quayChannelLost
  refine keeps_ite ?_ ?_
  · assumption
  · exact State.resetUncached_keeps (State.quayLoss_keeps _ (by assumption))
/-! ### ExecHost.lean -/

theorem State.storeIn_keeps {a s : State} (x2 : _) (x3 : _) (h : Keeps a s) : Keeps a (State.storeIn s x2 x3) := by
  unfold State.storeIn
  refine keeps_ite ?_ ?_
  · exact State.hostStore_keeps _ (by assumption)
  · assumption
theorem State.flrLd_keeps {a s : State} (x2 : _) (h : Keeps a s) : Keeps a (State.flrLd s x2) := by
  unfold State.flrLd
  refine keeps_ite ?_ ?_
  · assumption
  · refine keeps_ite ?_ ?_
    · refine keeps_ite ?_ ?_
      · exact State.setAgent_keeps _ _ (State.resetLdRegs_keeps _ (by assumption))
      · assumption
    · refine keeps_ite ?_ ?_
      · assumption
      · exact State.setAgent_keeps _ _ (State.closeOwned_keeps _ (State.flr_keeps _ (by assumption)))
theorem State.perstRise_keeps {a s : State} (x2 : _) (h : Keeps a s) : Keeps a (State.perstRise s x2) := by
  unfold State.perstRise
  refine keeps_ite ?_ ?_
  · assumption
  · extract_lets +onlyGivenNames v1
    clear_value v1
    extract_lets +onlyGivenNames v2
    have h3 : Keeps a v2 := by
      unfold v2
      exact keeps_upd (by assumption)
    clear_value v2
    refine keeps_ite ?_ ?_
    · assumption
    · refine keeps_foldl ?_ ?_
      · assumption
      · intro u4 u5 u6
        beta_reduce
        extract_lets +onlyGivenNames v7
        clear_value v7
        refine keeps_ite ?_ ?_
        · exact State.fset_keeps _ _ (by assumption)
        · assumption
/-! ### ExecPersist.lean -/

theorem State.limitUpdate_keeps {a s : State} (h : Keeps a s) : Keeps a (State.limitUpdate s) := by
  unfold State.limitUpdate
  refine keeps_ite ?_ ?_
  · assumption
  · exact State.applyLimit_keeps _ (by assumption)
/-! ### ExecReg.lean -/

theorem State.goBy_keeps {a s : State} (x2 : _) (h : Keeps a s) : Keeps a (State.goBy s x2) := by
  unfold State.goBy
  exact State.regWrite_keeps _ _ _ (by assumption)
theorem State.transferIn_keeps {a s : State} (x2 : _) (h : Keeps a s) : Keeps a (State.transferIn s x2) := by
  unfold State.transferIn
  refine keeps_ite ?_ ?_
  · assumption
  · exact State.recTransfer_keeps _ (State.setClk_keeps _ (by assumption))

end Sys2Proof.Machine
end

