-- ==== Sys2Proof/Laws/State.lean ====
section
/-! SUPPORT. What the named updates of the state leave alone, field by field; reads of register fields after them; when nothing more is
due, settling changes nothing. -/
namespace Sys2Proof.Machine

variable (s : State)

@[simp] theorem State.fset_now (f : Fld) (v : Nat) : (s.fset f v).now = s.now := rfl
@[simp] theorem State.fset_fresh (f : Fld) (v : Nat) : (s.fset f v).fresh = s.fresh := rfl
@[simp] theorem State.fset_icu (f : Fld) (v : Nat) : (s.fset f v).icu = s.icu := rfl
@[simp] theorem State.fset_out (f : Fld) (v : Nat) : (s.fset f v).out = s.out := rfl
@[simp] theorem State.fset_pers (f : Fld) (v : Nat) : (s.fset f v).pers = s.pers := rfl
@[simp] theorem State.fset_rgn (f : Fld) (v : Nat) : (s.fset f v).rgn = s.rgn := rfl
@[simp] theorem State.fset_cxl (f : Fld) (v : Nat) : (s.fset f v).cxl = s.cxl := rfl
@[simp] theorem State.fset_tide (f : Fld) (v : Nat) : (s.fset f v).tide = s.tide := rfl
@[simp] theorem State.fset_entries (f : Fld) (v : Nat) : (s.fset f v).entries = s.entries := rfl
@[simp] theorem State.fset_sharers (f : Fld) (v : Nat) : (s.fset f v).sharers = s.sharers := rfl
@[simp] theorem State.fset_copies (f : Fld) (v : Nat) : (s.fset f v).copies = s.copies := rfl
@[simp] theorem State.fset_flash (f : Fld) (v : Nat) : (s.fset f v).flash = s.flash := rfl
@[simp] theorem State.fset_dram (f : Fld) (v : Nat) : (s.fset f v).dram = s.dram := rfl
@[simp] theorem State.fset_quay (f : Fld) (v : Nat) : (s.fset f v).quay = s.quay := rfl
@[simp] theorem State.fset_integ (f : Fld) (v : Nat) : (s.fset f v).integ = s.integ := rfl
@[simp] theorem State.fset_epc (f : Fld) (v : Nat) : (s.fset f v).epc = s.epc := rfl
@[simp] theorem State.fset_twin (f : Fld) (v : Nat) : (s.fset f v).twin = s.twin := rfl
@[simp] theorem State.fset_ute (f : Fld) (v : Nat) : (s.fset f v).ute = s.ute := rfl
@[simp] theorem State.fset_cmd (f : Fld) (v : Nat) : (s.fset f v).cmd = s.cmd := rfl
@[simp] theorem State.fset_ccx (f : Fld) (v : Nat) : (s.fset f v).ccx = s.ccx := rfl
@[simp] theorem State.fset_clk (f : Fld) (v : Nat) : (s.fset f v).clk = s.clk := rfl
@[simp] theorem State.fset_agents (f : Fld) (v : Nat) : (s.fset f v).agents = s.agents := rfl
@[simp] theorem State.fset_test (f : Fld) (v : Nat) : (s.fset f v).test = s.test := rfl
@[simp] theorem State.fset_sets (f : Fld) (v : Nat) : (s.fset f v).sets = s.sets := rfl
@[simp] theorem State.fset_recd (f : Fld) (v : Nat) : (s.fset f v).recd = s.recd := rfl
@[simp] theorem State.fset_pending (f : Fld) (v : Nat) : (s.fset f v).pending = s.pending := rfl
@[simp] theorem State.setBit_now (f : Fld) (b : Bool) : (s.setBit f b).now = s.now := rfl
@[simp] theorem State.setBit_fresh (f : Fld) (b : Bool) : (s.setBit f b).fresh = s.fresh := rfl
@[simp] theorem State.setBit_icu (f : Fld) (b : Bool) : (s.setBit f b).icu = s.icu := rfl
@[simp] theorem State.setBit_out (f : Fld) (b : Bool) : (s.setBit f b).out = s.out := rfl
@[simp] theorem State.setBit_pers (f : Fld) (b : Bool) : (s.setBit f b).pers = s.pers := rfl
@[simp] theorem State.setBit_rgn (f : Fld) (b : Bool) : (s.setBit f b).rgn = s.rgn := rfl
@[simp] theorem State.setBit_cxl (f : Fld) (b : Bool) : (s.setBit f b).cxl = s.cxl := rfl
@[simp] theorem State.setBit_tide (f : Fld) (b : Bool) : (s.setBit f b).tide = s.tide := rfl
@[simp] theorem State.setBit_entries (f : Fld) (b : Bool) : (s.setBit f b).entries = s.entries := rfl
@[simp] theorem State.setBit_sharers (f : Fld) (b : Bool) : (s.setBit f b).sharers = s.sharers := rfl
@[simp] theorem State.setBit_copies (f : Fld) (b : Bool) : (s.setBit f b).copies = s.copies := rfl
@[simp] theorem State.setBit_flash (f : Fld) (b : Bool) : (s.setBit f b).flash = s.flash := rfl
@[simp] theorem State.setBit_dram (f : Fld) (b : Bool) : (s.setBit f b).dram = s.dram := rfl
@[simp] theorem State.setBit_quay (f : Fld) (b : Bool) : (s.setBit f b).quay = s.quay := rfl
@[simp] theorem State.setBit_integ (f : Fld) (b : Bool) : (s.setBit f b).integ = s.integ := rfl
@[simp] theorem State.setBit_epc (f : Fld) (b : Bool) : (s.setBit f b).epc = s.epc := rfl
@[simp] theorem State.setBit_twin (f : Fld) (b : Bool) : (s.setBit f b).twin = s.twin := rfl
@[simp] theorem State.setBit_ute (f : Fld) (b : Bool) : (s.setBit f b).ute = s.ute := rfl
@[simp] theorem State.setBit_cmd (f : Fld) (b : Bool) : (s.setBit f b).cmd = s.cmd := rfl
@[simp] theorem State.setBit_ccx (f : Fld) (b : Bool) : (s.setBit f b).ccx = s.ccx := rfl
@[simp] theorem State.setBit_clk (f : Fld) (b : Bool) : (s.setBit f b).clk = s.clk := rfl
@[simp] theorem State.setBit_agents (f : Fld) (b : Bool) : (s.setBit f b).agents = s.agents := rfl
@[simp] theorem State.setBit_test (f : Fld) (b : Bool) : (s.setBit f b).test = s.test := rfl
@[simp] theorem State.setBit_sets (f : Fld) (b : Bool) : (s.setBit f b).sets = s.sets := rfl
@[simp] theorem State.setBit_recd (f : Fld) (b : Bool) : (s.setBit f b).recd = s.recd := rfl
@[simp] theorem State.setBit_pending (f : Fld) (b : Bool) : (s.setBit f b).pending = s.pending := rfl
@[simp] theorem State.setFbit_now (f : Fld) (i : Nat) (b : Bool) : (s.setFbit f i b).now = s.now := rfl
@[simp] theorem State.setFbit_fresh (f : Fld) (i : Nat) (b : Bool) : (s.setFbit f i b).fresh = s.fresh := rfl
@[simp] theorem State.setFbit_icu (f : Fld) (i : Nat) (b : Bool) : (s.setFbit f i b).icu = s.icu := rfl
@[simp] theorem State.setFbit_out (f : Fld) (i : Nat) (b : Bool) : (s.setFbit f i b).out = s.out := rfl
@[simp] theorem State.setFbit_pers (f : Fld) (i : Nat) (b : Bool) : (s.setFbit f i b).pers = s.pers := rfl
@[simp] theorem State.setFbit_rgn (f : Fld) (i : Nat) (b : Bool) : (s.setFbit f i b).rgn = s.rgn := rfl
@[simp] theorem State.setFbit_cxl (f : Fld) (i : Nat) (b : Bool) : (s.setFbit f i b).cxl = s.cxl := rfl
@[simp] theorem State.setFbit_tide (f : Fld) (i : Nat) (b : Bool) : (s.setFbit f i b).tide = s.tide := rfl
@[simp] theorem State.setFbit_entries (f : Fld) (i : Nat) (b : Bool) : (s.setFbit f i b).entries = s.entries := rfl
@[simp] theorem State.setFbit_sharers (f : Fld) (i : Nat) (b : Bool) : (s.setFbit f i b).sharers = s.sharers := rfl
@[simp] theorem State.setFbit_copies (f : Fld) (i : Nat) (b : Bool) : (s.setFbit f i b).copies = s.copies := rfl
@[simp] theorem State.setFbit_flash (f : Fld) (i : Nat) (b : Bool) : (s.setFbit f i b).flash = s.flash := rfl
@[simp] theorem State.setFbit_dram (f : Fld) (i : Nat) (b : Bool) : (s.setFbit f i b).dram = s.dram := rfl
@[simp] theorem State.setFbit_quay (f : Fld) (i : Nat) (b : Bool) : (s.setFbit f i b).quay = s.quay := rfl
@[simp] theorem State.setFbit_integ (f : Fld) (i : Nat) (b : Bool) : (s.setFbit f i b).integ = s.integ := rfl
@[simp] theorem State.setFbit_epc (f : Fld) (i : Nat) (b : Bool) : (s.setFbit f i b).epc = s.epc := rfl
@[simp] theorem State.setFbit_twin (f : Fld) (i : Nat) (b : Bool) : (s.setFbit f i b).twin = s.twin := rfl
@[simp] theorem State.setFbit_ute (f : Fld) (i : Nat) (b : Bool) : (s.setFbit f i b).ute = s.ute := rfl
@[simp] theorem State.setFbit_cmd (f : Fld) (i : Nat) (b : Bool) : (s.setFbit f i b).cmd = s.cmd := rfl
@[simp] theorem State.setFbit_ccx (f : Fld) (i : Nat) (b : Bool) : (s.setFbit f i b).ccx = s.ccx := rfl
@[simp] theorem State.setFbit_clk (f : Fld) (i : Nat) (b : Bool) : (s.setFbit f i b).clk = s.clk := rfl
@[simp] theorem State.setFbit_agents (f : Fld) (i : Nat) (b : Bool) : (s.setFbit f i b).agents = s.agents := rfl
@[simp] theorem State.setFbit_test (f : Fld) (i : Nat) (b : Bool) : (s.setFbit f i b).test = s.test := rfl
@[simp] theorem State.setFbit_sets (f : Fld) (i : Nat) (b : Bool) : (s.setFbit f i b).sets = s.sets := rfl
@[simp] theorem State.setFbit_recd (f : Fld) (i : Nat) (b : Bool) : (s.setFbit f i b).recd = s.recd := rfl
@[simp] theorem State.setFbit_pending (f : Fld) (i : Nat) (b : Bool) : (s.setFbit f i b).pending = s.pending := rfl
@[simp] theorem State.emit_now (o : Out) : (s.emit o).now = s.now := rfl
@[simp] theorem State.emit_fresh (o : Out) : (s.emit o).fresh = s.fresh := rfl
@[simp] theorem State.emit_regs (o : Out) : (s.emit o).regs = s.regs := rfl
@[simp] theorem State.emit_icu (o : Out) : (s.emit o).icu = s.icu := rfl
@[simp] theorem State.emit_pers (o : Out) : (s.emit o).pers = s.pers := rfl
@[simp] theorem State.emit_rgn (o : Out) : (s.emit o).rgn = s.rgn := rfl
@[simp] theorem State.emit_cxl (o : Out) : (s.emit o).cxl = s.cxl := rfl
@[simp] theorem State.emit_tide (o : Out) : (s.emit o).tide = s.tide := rfl
@[simp] theorem State.emit_entries (o : Out) : (s.emit o).entries = s.entries := rfl
@[simp] theorem State.emit_sharers (o : Out) : (s.emit o).sharers = s.sharers := rfl
@[simp] theorem State.emit_copies (o : Out) : (s.emit o).copies = s.copies := rfl
@[simp] theorem State.emit_flash (o : Out) : (s.emit o).flash = s.flash := rfl
@[simp] theorem State.emit_dram (o : Out) : (s.emit o).dram = s.dram := rfl
@[simp] theorem State.emit_quay (o : Out) : (s.emit o).quay = s.quay := rfl
@[simp] theorem State.emit_integ (o : Out) : (s.emit o).integ = s.integ := rfl
@[simp] theorem State.emit_epc (o : Out) : (s.emit o).epc = s.epc := rfl
@[simp] theorem State.emit_twin (o : Out) : (s.emit o).twin = s.twin := rfl
@[simp] theorem State.emit_ute (o : Out) : (s.emit o).ute = s.ute := rfl
@[simp] theorem State.emit_cmd (o : Out) : (s.emit o).cmd = s.cmd := rfl
@[simp] theorem State.emit_ccx (o : Out) : (s.emit o).ccx = s.ccx := rfl
@[simp] theorem State.emit_clk (o : Out) : (s.emit o).clk = s.clk := rfl
@[simp] theorem State.emit_agents (o : Out) : (s.emit o).agents = s.agents := rfl
@[simp] theorem State.emit_test (o : Out) : (s.emit o).test = s.test := rfl
@[simp] theorem State.emit_sets (o : Out) : (s.emit o).sets = s.sets := rfl
@[simp] theorem State.emit_recd (o : Out) : (s.emit o).recd = s.recd := rfl
@[simp] theorem State.emit_pending (o : Out) : (s.emit o).pending = s.pending := rfl
@[simp] theorem State.fget_emit (g : Fld) (o : Out) : (s.emit o).fget g = s.fget g := rfl
@[simp] theorem State.bit_emit (g : Fld) (o : Out) : (s.emit o).bit g = s.bit g := rfl
@[simp] theorem State.raise_now (n : Nat) : (s.raise n).now = s.now := rfl
@[simp] theorem State.raise_fresh (n : Nat) : (s.raise n).fresh = s.fresh := rfl
@[simp] theorem State.raise_regs (n : Nat) : (s.raise n).regs = s.regs := rfl
@[simp] theorem State.raise_out (n : Nat) : (s.raise n).out = s.out := rfl
@[simp] theorem State.raise_pers (n : Nat) : (s.raise n).pers = s.pers := rfl
@[simp] theorem State.raise_rgn (n : Nat) : (s.raise n).rgn = s.rgn := rfl
@[simp] theorem State.raise_cxl (n : Nat) : (s.raise n).cxl = s.cxl := rfl
@[simp] theorem State.raise_tide (n : Nat) : (s.raise n).tide = s.tide := rfl
@[simp] theorem State.raise_entries (n : Nat) : (s.raise n).entries = s.entries := rfl
@[simp] theorem State.raise_sharers (n : Nat) : (s.raise n).sharers = s.sharers := rfl
@[simp] theorem State.raise_copies (n : Nat) : (s.raise n).copies = s.copies := rfl
@[simp] theorem State.raise_flash (n : Nat) : (s.raise n).flash = s.flash := rfl
@[simp] theorem State.raise_dram (n : Nat) : (s.raise n).dram = s.dram := rfl
@[simp] theorem State.raise_quay (n : Nat) : (s.raise n).quay = s.quay := rfl
@[simp] theorem State.raise_integ (n : Nat) : (s.raise n).integ = s.integ := rfl
@[simp] theorem State.raise_epc (n : Nat) : (s.raise n).epc = s.epc := rfl
@[simp] theorem State.raise_twin (n : Nat) : (s.raise n).twin = s.twin := rfl
@[simp] theorem State.raise_ute (n : Nat) : (s.raise n).ute = s.ute := rfl
@[simp] theorem State.raise_cmd (n : Nat) : (s.raise n).cmd = s.cmd := rfl
@[simp] theorem State.raise_ccx (n : Nat) : (s.raise n).ccx = s.ccx := rfl
@[simp] theorem State.raise_clk (n : Nat) : (s.raise n).clk = s.clk := rfl
@[simp] theorem State.raise_agents (n : Nat) : (s.raise n).agents = s.agents := rfl
@[simp] theorem State.raise_test (n : Nat) : (s.raise n).test = s.test := rfl
@[simp] theorem State.raise_sets (n : Nat) : (s.raise n).sets = s.sets := rfl
@[simp] theorem State.raise_recd (n : Nat) : (s.raise n).recd = s.recd := rfl
@[simp] theorem State.raise_pending (n : Nat) : (s.raise n).pending = s.pending := rfl
@[simp] theorem State.fget_raise (g : Fld) (n : Nat) : (s.raise n).fget g = s.fget g := rfl
@[simp] theorem State.bit_raise (g : Fld) (n : Nat) : (s.raise n).bit g = s.bit g := rfl
@[simp] theorem State.setClk_now (x : Clk) : (s.setClk x).now = s.now := rfl
@[simp] theorem State.setClk_fresh (x : Clk) : (s.setClk x).fresh = s.fresh := rfl
@[simp] theorem State.setClk_regs (x : Clk) : (s.setClk x).regs = s.regs := rfl
@[simp] theorem State.setClk_icu (x : Clk) : (s.setClk x).icu = s.icu := rfl
@[simp] theorem State.setClk_out (x : Clk) : (s.setClk x).out = s.out := rfl
@[simp] theorem State.setClk_pers (x : Clk) : (s.setClk x).pers = s.pers := rfl
@[simp] theorem State.setClk_rgn (x : Clk) : (s.setClk x).rgn = s.rgn := rfl
@[simp] theorem State.setClk_cxl (x : Clk) : (s.setClk x).cxl = s.cxl := rfl
@[simp] theorem State.setClk_tide (x : Clk) : (s.setClk x).tide = s.tide := rfl
@[simp] theorem State.setClk_entries (x : Clk) : (s.setClk x).entries = s.entries := rfl
@[simp] theorem State.setClk_sharers (x : Clk) : (s.setClk x).sharers = s.sharers := rfl
@[simp] theorem State.setClk_copies (x : Clk) : (s.setClk x).copies = s.copies := rfl
@[simp] theorem State.setClk_flash (x : Clk) : (s.setClk x).flash = s.flash := rfl
@[simp] theorem State.setClk_dram (x : Clk) : (s.setClk x).dram = s.dram := rfl
@[simp] theorem State.setClk_quay (x : Clk) : (s.setClk x).quay = s.quay := rfl
@[simp] theorem State.setClk_integ (x : Clk) : (s.setClk x).integ = s.integ := rfl
@[simp] theorem State.setClk_epc (x : Clk) : (s.setClk x).epc = s.epc := rfl
@[simp] theorem State.setClk_twin (x : Clk) : (s.setClk x).twin = s.twin := rfl
@[simp] theorem State.setClk_ute (x : Clk) : (s.setClk x).ute = s.ute := rfl
@[simp] theorem State.setClk_cmd (x : Clk) : (s.setClk x).cmd = s.cmd := rfl
@[simp] theorem State.setClk_ccx (x : Clk) : (s.setClk x).ccx = s.ccx := rfl
@[simp] theorem State.setClk_agents (x : Clk) : (s.setClk x).agents = s.agents := rfl
@[simp] theorem State.setClk_test (x : Clk) : (s.setClk x).test = s.test := rfl
@[simp] theorem State.setClk_sets (x : Clk) : (s.setClk x).sets = s.sets := rfl
@[simp] theorem State.setClk_recd (x : Clk) : (s.setClk x).recd = s.recd := rfl
@[simp] theorem State.setClk_pending (x : Clk) : (s.setClk x).pending = s.pending := rfl
@[simp] theorem State.setClk_clk (x : Clk) : (s.setClk x).clk = x := rfl
@[simp] theorem State.fget_setClk (g : Fld) (x : Clk) : (s.setClk x).fget g = s.fget g := rfl
@[simp] theorem State.bit_setClk (g : Fld) (x : Clk) : (s.setClk x).bit g = s.bit g := rfl
@[simp] theorem State.setTwin_now (x : Twin) : (s.setTwin x).now = s.now := rfl
@[simp] theorem State.setTwin_fresh (x : Twin) : (s.setTwin x).fresh = s.fresh := rfl
@[simp] theorem State.setTwin_regs (x : Twin) : (s.setTwin x).regs = s.regs := rfl
@[simp] theorem State.setTwin_icu (x : Twin) : (s.setTwin x).icu = s.icu := rfl
@[simp] theorem State.setTwin_out (x : Twin) : (s.setTwin x).out = s.out := rfl
@[simp] theorem State.setTwin_pers (x : Twin) : (s.setTwin x).pers = s.pers := rfl
@[simp] theorem State.setTwin_rgn (x : Twin) : (s.setTwin x).rgn = s.rgn := rfl
@[simp] theorem State.setTwin_cxl (x : Twin) : (s.setTwin x).cxl = s.cxl := rfl
@[simp] theorem State.setTwin_tide (x : Twin) : (s.setTwin x).tide = s.tide := rfl
@[simp] theorem State.setTwin_entries (x : Twin) : (s.setTwin x).entries = s.entries := rfl
@[simp] theorem State.setTwin_sharers (x : Twin) : (s.setTwin x).sharers = s.sharers := rfl
@[simp] theorem State.setTwin_copies (x : Twin) : (s.setTwin x).copies = s.copies := rfl
@[simp] theorem State.setTwin_flash (x : Twin) : (s.setTwin x).flash = s.flash := rfl
@[simp] theorem State.setTwin_dram (x : Twin) : (s.setTwin x).dram = s.dram := rfl
@[simp] theorem State.setTwin_quay (x : Twin) : (s.setTwin x).quay = s.quay := rfl
@[simp] theorem State.setTwin_integ (x : Twin) : (s.setTwin x).integ = s.integ := rfl
@[simp] theorem State.setTwin_epc (x : Twin) : (s.setTwin x).epc = s.epc := rfl
@[simp] theorem State.setTwin_ute (x : Twin) : (s.setTwin x).ute = s.ute := rfl
@[simp] theorem State.setTwin_cmd (x : Twin) : (s.setTwin x).cmd = s.cmd := rfl
@[simp] theorem State.setTwin_ccx (x : Twin) : (s.setTwin x).ccx = s.ccx := rfl
@[simp] theorem State.setTwin_clk (x : Twin) : (s.setTwin x).clk = s.clk := rfl
@[simp] theorem State.setTwin_agents (x : Twin) : (s.setTwin x).agents = s.agents := rfl
@[simp] theorem State.setTwin_test (x : Twin) : (s.setTwin x).test = s.test := rfl
@[simp] theorem State.setTwin_sets (x : Twin) : (s.setTwin x).sets = s.sets := rfl
@[simp] theorem State.setTwin_recd (x : Twin) : (s.setTwin x).recd = s.recd := rfl
@[simp] theorem State.setTwin_pending (x : Twin) : (s.setTwin x).pending = s.pending := rfl
@[simp] theorem State.setTwin_twin (x : Twin) : (s.setTwin x).twin = x := rfl
@[simp] theorem State.fget_setTwin (g : Fld) (x : Twin) : (s.setTwin x).fget g = s.fget g := rfl
@[simp] theorem State.bit_setTwin (g : Fld) (x : Twin) : (s.setTwin x).bit g = s.bit g := rfl
@[simp] theorem State.setUte_now (x : Ute) : (s.setUte x).now = s.now := rfl
@[simp] theorem State.setUte_fresh (x : Ute) : (s.setUte x).fresh = s.fresh := rfl
@[simp] theorem State.setUte_regs (x : Ute) : (s.setUte x).regs = s.regs := rfl
@[simp] theorem State.setUte_icu (x : Ute) : (s.setUte x).icu = s.icu := rfl
@[simp] theorem State.setUte_out (x : Ute) : (s.setUte x).out = s.out := rfl
@[simp] theorem State.setUte_pers (x : Ute) : (s.setUte x).pers = s.pers := rfl
@[simp] theorem State.setUte_rgn (x : Ute) : (s.setUte x).rgn = s.rgn := rfl
@[simp] theorem State.setUte_cxl (x : Ute) : (s.setUte x).cxl = s.cxl := rfl
@[simp] theorem State.setUte_tide (x : Ute) : (s.setUte x).tide = s.tide := rfl
@[simp] theorem State.setUte_entries (x : Ute) : (s.setUte x).entries = s.entries := rfl
@[simp] theorem State.setUte_sharers (x : Ute) : (s.setUte x).sharers = s.sharers := rfl
@[simp] theorem State.setUte_copies (x : Ute) : (s.setUte x).copies = s.copies := rfl
@[simp] theorem State.setUte_flash (x : Ute) : (s.setUte x).flash = s.flash := rfl
@[simp] theorem State.setUte_dram (x : Ute) : (s.setUte x).dram = s.dram := rfl
@[simp] theorem State.setUte_quay (x : Ute) : (s.setUte x).quay = s.quay := rfl
@[simp] theorem State.setUte_integ (x : Ute) : (s.setUte x).integ = s.integ := rfl
@[simp] theorem State.setUte_epc (x : Ute) : (s.setUte x).epc = s.epc := rfl
@[simp] theorem State.setUte_twin (x : Ute) : (s.setUte x).twin = s.twin := rfl
@[simp] theorem State.setUte_cmd (x : Ute) : (s.setUte x).cmd = s.cmd := rfl
@[simp] theorem State.setUte_ccx (x : Ute) : (s.setUte x).ccx = s.ccx := rfl
@[simp] theorem State.setUte_clk (x : Ute) : (s.setUte x).clk = s.clk := rfl
@[simp] theorem State.setUte_agents (x : Ute) : (s.setUte x).agents = s.agents := rfl
@[simp] theorem State.setUte_test (x : Ute) : (s.setUte x).test = s.test := rfl
@[simp] theorem State.setUte_sets (x : Ute) : (s.setUte x).sets = s.sets := rfl
@[simp] theorem State.setUte_recd (x : Ute) : (s.setUte x).recd = s.recd := rfl
@[simp] theorem State.setUte_pending (x : Ute) : (s.setUte x).pending = s.pending := rfl
@[simp] theorem State.setUte_ute (x : Ute) : (s.setUte x).ute = x := rfl
@[simp] theorem State.fget_setUte (g : Fld) (x : Ute) : (s.setUte x).fget g = s.fget g := rfl
@[simp] theorem State.bit_setUte (g : Fld) (x : Ute) : (s.setUte x).bit g = s.bit g := rfl
@[simp] theorem State.setIcu_now (x : Icu) : (s.setIcu x).now = s.now := rfl
@[simp] theorem State.setIcu_fresh (x : Icu) : (s.setIcu x).fresh = s.fresh := rfl
@[simp] theorem State.setIcu_regs (x : Icu) : (s.setIcu x).regs = s.regs := rfl
@[simp] theorem State.setIcu_out (x : Icu) : (s.setIcu x).out = s.out := rfl
@[simp] theorem State.setIcu_pers (x : Icu) : (s.setIcu x).pers = s.pers := rfl
@[simp] theorem State.setIcu_rgn (x : Icu) : (s.setIcu x).rgn = s.rgn := rfl
@[simp] theorem State.setIcu_cxl (x : Icu) : (s.setIcu x).cxl = s.cxl := rfl
@[simp] theorem State.setIcu_tide (x : Icu) : (s.setIcu x).tide = s.tide := rfl
@[simp] theorem State.setIcu_entries (x : Icu) : (s.setIcu x).entries = s.entries := rfl
@[simp] theorem State.setIcu_sharers (x : Icu) : (s.setIcu x).sharers = s.sharers := rfl
@[simp] theorem State.setIcu_copies (x : Icu) : (s.setIcu x).copies = s.copies := rfl
@[simp] theorem State.setIcu_flash (x : Icu) : (s.setIcu x).flash = s.flash := rfl
@[simp] theorem State.setIcu_dram (x : Icu) : (s.setIcu x).dram = s.dram := rfl
@[simp] theorem State.setIcu_quay (x : Icu) : (s.setIcu x).quay = s.quay := rfl
@[simp] theorem State.setIcu_integ (x : Icu) : (s.setIcu x).integ = s.integ := rfl
@[simp] theorem State.setIcu_epc (x : Icu) : (s.setIcu x).epc = s.epc := rfl
@[simp] theorem State.setIcu_twin (x : Icu) : (s.setIcu x).twin = s.twin := rfl
@[simp] theorem State.setIcu_ute (x : Icu) : (s.setIcu x).ute = s.ute := rfl
@[simp] theorem State.setIcu_cmd (x : Icu) : (s.setIcu x).cmd = s.cmd := rfl
@[simp] theorem State.setIcu_ccx (x : Icu) : (s.setIcu x).ccx = s.ccx := rfl
@[simp] theorem State.setIcu_clk (x : Icu) : (s.setIcu x).clk = s.clk := rfl
@[simp] theorem State.setIcu_agents (x : Icu) : (s.setIcu x).agents = s.agents := rfl
@[simp] theorem State.setIcu_test (x : Icu) : (s.setIcu x).test = s.test := rfl
@[simp] theorem State.setIcu_sets (x : Icu) : (s.setIcu x).sets = s.sets := rfl
@[simp] theorem State.setIcu_recd (x : Icu) : (s.setIcu x).recd = s.recd := rfl
@[simp] theorem State.setIcu_pending (x : Icu) : (s.setIcu x).pending = s.pending := rfl
@[simp] theorem State.setIcu_icu (x : Icu) : (s.setIcu x).icu = x := rfl
@[simp] theorem State.fget_setIcu (g : Fld) (x : Icu) : (s.setIcu x).fget g = s.fget g := rfl
@[simp] theorem State.bit_setIcu (g : Fld) (x : Icu) : (s.setIcu x).bit g = s.bit g := rfl
@[simp] theorem State.setCcx_now (x : Ccx) : (s.setCcx x).now = s.now := rfl
@[simp] theorem State.setCcx_fresh (x : Ccx) : (s.setCcx x).fresh = s.fresh := rfl
@[simp] theorem State.setCcx_regs (x : Ccx) : (s.setCcx x).regs = s.regs := rfl
@[simp] theorem State.setCcx_icu (x : Ccx) : (s.setCcx x).icu = s.icu := rfl
@[simp] theorem State.setCcx_out (x : Ccx) : (s.setCcx x).out = s.out := rfl
@[simp] theorem State.setCcx_pers (x : Ccx) : (s.setCcx x).pers = s.pers := rfl
@[simp] theorem State.setCcx_rgn (x : Ccx) : (s.setCcx x).rgn = s.rgn := rfl
@[simp] theorem State.setCcx_cxl (x : Ccx) : (s.setCcx x).cxl = s.cxl := rfl
@[simp] theorem State.setCcx_tide (x : Ccx) : (s.setCcx x).tide = s.tide := rfl
@[simp] theorem State.setCcx_entries (x : Ccx) : (s.setCcx x).entries = s.entries := rfl
@[simp] theorem State.setCcx_sharers (x : Ccx) : (s.setCcx x).sharers = s.sharers := rfl
@[simp] theorem State.setCcx_copies (x : Ccx) : (s.setCcx x).copies = s.copies := rfl
@[simp] theorem State.setCcx_flash (x : Ccx) : (s.setCcx x).flash = s.flash := rfl
@[simp] theorem State.setCcx_dram (x : Ccx) : (s.setCcx x).dram = s.dram := rfl
@[simp] theorem State.setCcx_quay (x : Ccx) : (s.setCcx x).quay = s.quay := rfl
@[simp] theorem State.setCcx_integ (x : Ccx) : (s.setCcx x).integ = s.integ := rfl
@[simp] theorem State.setCcx_epc (x : Ccx) : (s.setCcx x).epc = s.epc := rfl
@[simp] theorem State.setCcx_twin (x : Ccx) : (s.setCcx x).twin = s.twin := rfl
@[simp] theorem State.setCcx_ute (x : Ccx) : (s.setCcx x).ute = s.ute := rfl
@[simp] theorem State.setCcx_cmd (x : Ccx) : (s.setCcx x).cmd = s.cmd := rfl
@[simp] theorem State.setCcx_clk (x : Ccx) : (s.setCcx x).clk = s.clk := rfl
@[simp] theorem State.setCcx_agents (x : Ccx) : (s.setCcx x).agents = s.agents := rfl
@[simp] theorem State.setCcx_test (x : Ccx) : (s.setCcx x).test = s.test := rfl
@[simp] theorem State.setCcx_sets (x : Ccx) : (s.setCcx x).sets = s.sets := rfl
@[simp] theorem State.setCcx_recd (x : Ccx) : (s.setCcx x).recd = s.recd := rfl
@[simp] theorem State.setCcx_pending (x : Ccx) : (s.setCcx x).pending = s.pending := rfl
@[simp] theorem State.setCcx_ccx (x : Ccx) : (s.setCcx x).ccx = x := rfl
@[simp] theorem State.fget_setCcx (g : Fld) (x : Ccx) : (s.setCcx x).fget g = s.fget g := rfl
@[simp] theorem State.bit_setCcx (g : Fld) (x : Ccx) : (s.setCcx x).bit g = s.bit g := rfl
@[simp] theorem State.setTest_now (x : Test) : (s.setTest x).now = s.now := rfl
@[simp] theorem State.setTest_fresh (x : Test) : (s.setTest x).fresh = s.fresh := rfl
@[simp] theorem State.setTest_regs (x : Test) : (s.setTest x).regs = s.regs := rfl
@[simp] theorem State.setTest_icu (x : Test) : (s.setTest x).icu = s.icu := rfl
@[simp] theorem State.setTest_out (x : Test) : (s.setTest x).out = s.out := rfl
@[simp] theorem State.setTest_pers (x : Test) : (s.setTest x).pers = s.pers := rfl
@[simp] theorem State.setTest_rgn (x : Test) : (s.setTest x).rgn = s.rgn := rfl
@[simp] theorem State.setTest_cxl (x : Test) : (s.setTest x).cxl = s.cxl := rfl
@[simp] theorem State.setTest_tide (x : Test) : (s.setTest x).tide = s.tide := rfl
@[simp] theorem State.setTest_entries (x : Test) : (s.setTest x).entries = s.entries := rfl
@[simp] theorem State.setTest_sharers (x : Test) : (s.setTest x).sharers = s.sharers := rfl
@[simp] theorem State.setTest_copies (x : Test) : (s.setTest x).copies = s.copies := rfl
@[simp] theorem State.setTest_flash (x : Test) : (s.setTest x).flash = s.flash := rfl
@[simp] theorem State.setTest_dram (x : Test) : (s.setTest x).dram = s.dram := rfl
@[simp] theorem State.setTest_quay (x : Test) : (s.setTest x).quay = s.quay := rfl
@[simp] theorem State.setTest_integ (x : Test) : (s.setTest x).integ = s.integ := rfl
@[simp] theorem State.setTest_epc (x : Test) : (s.setTest x).epc = s.epc := rfl
@[simp] theorem State.setTest_twin (x : Test) : (s.setTest x).twin = s.twin := rfl
@[simp] theorem State.setTest_ute (x : Test) : (s.setTest x).ute = s.ute := rfl
@[simp] theorem State.setTest_cmd (x : Test) : (s.setTest x).cmd = s.cmd := rfl
@[simp] theorem State.setTest_ccx (x : Test) : (s.setTest x).ccx = s.ccx := rfl
@[simp] theorem State.setTest_clk (x : Test) : (s.setTest x).clk = s.clk := rfl
@[simp] theorem State.setTest_agents (x : Test) : (s.setTest x).agents = s.agents := rfl
@[simp] theorem State.setTest_sets (x : Test) : (s.setTest x).sets = s.sets := rfl
@[simp] theorem State.setTest_recd (x : Test) : (s.setTest x).recd = s.recd := rfl
@[simp] theorem State.setTest_pending (x : Test) : (s.setTest x).pending = s.pending := rfl
@[simp] theorem State.setTest_test (x : Test) : (s.setTest x).test = x := rfl
@[simp] theorem State.fget_setTest (g : Fld) (x : Test) : (s.setTest x).fget g = s.fget g := rfl
@[simp] theorem State.bit_setTest (g : Fld) (x : Test) : (s.setTest x).bit g = s.bit g := rfl
@[simp] theorem State.setEpc_now (x : Epc) : (s.setEpc x).now = s.now := rfl
@[simp] theorem State.setEpc_fresh (x : Epc) : (s.setEpc x).fresh = s.fresh := rfl
@[simp] theorem State.setEpc_regs (x : Epc) : (s.setEpc x).regs = s.regs := rfl
@[simp] theorem State.setEpc_icu (x : Epc) : (s.setEpc x).icu = s.icu := rfl
@[simp] theorem State.setEpc_out (x : Epc) : (s.setEpc x).out = s.out := rfl
@[simp] theorem State.setEpc_pers (x : Epc) : (s.setEpc x).pers = s.pers := rfl
@[simp] theorem State.setEpc_rgn (x : Epc) : (s.setEpc x).rgn = s.rgn := rfl
@[simp] theorem State.setEpc_cxl (x : Epc) : (s.setEpc x).cxl = s.cxl := rfl
@[simp] theorem State.setEpc_tide (x : Epc) : (s.setEpc x).tide = s.tide := rfl
@[simp] theorem State.setEpc_entries (x : Epc) : (s.setEpc x).entries = s.entries := rfl
@[simp] theorem State.setEpc_sharers (x : Epc) : (s.setEpc x).sharers = s.sharers := rfl
@[simp] theorem State.setEpc_copies (x : Epc) : (s.setEpc x).copies = s.copies := rfl
@[simp] theorem State.setEpc_flash (x : Epc) : (s.setEpc x).flash = s.flash := rfl
@[simp] theorem State.setEpc_dram (x : Epc) : (s.setEpc x).dram = s.dram := rfl
@[simp] theorem State.setEpc_quay (x : Epc) : (s.setEpc x).quay = s.quay := rfl
@[simp] theorem State.setEpc_integ (x : Epc) : (s.setEpc x).integ = s.integ := rfl
@[simp] theorem State.setEpc_twin (x : Epc) : (s.setEpc x).twin = s.twin := rfl
@[simp] theorem State.setEpc_ute (x : Epc) : (s.setEpc x).ute = s.ute := rfl
@[simp] theorem State.setEpc_cmd (x : Epc) : (s.setEpc x).cmd = s.cmd := rfl
@[simp] theorem State.setEpc_ccx (x : Epc) : (s.setEpc x).ccx = s.ccx := rfl
@[simp] theorem State.setEpc_clk (x : Epc) : (s.setEpc x).clk = s.clk := rfl
@[simp] theorem State.setEpc_agents (x : Epc) : (s.setEpc x).agents = s.agents := rfl
@[simp] theorem State.setEpc_test (x : Epc) : (s.setEpc x).test = s.test := rfl
@[simp] theorem State.setEpc_sets (x : Epc) : (s.setEpc x).sets = s.sets := rfl
@[simp] theorem State.setEpc_recd (x : Epc) : (s.setEpc x).recd = s.recd := rfl
@[simp] theorem State.setEpc_pending (x : Epc) : (s.setEpc x).pending = s.pending := rfl
@[simp] theorem State.setEpc_epc (x : Epc) : (s.setEpc x).epc = x := rfl
@[simp] theorem State.fget_setEpc (g : Fld) (x : Epc) : (s.setEpc x).fget g = s.fget g := rfl
@[simp] theorem State.bit_setEpc (g : Fld) (x : Epc) : (s.setEpc x).bit g = s.bit g := rfl
@[simp] theorem State.setCmd_now (x : CmdState) : (s.setCmd x).now = s.now := rfl
@[simp] theorem State.setCmd_fresh (x : CmdState) : (s.setCmd x).fresh = s.fresh := rfl
@[simp] theorem State.setCmd_regs (x : CmdState) : (s.setCmd x).regs = s.regs := rfl
@[simp] theorem State.setCmd_icu (x : CmdState) : (s.setCmd x).icu = s.icu := rfl
@[simp] theorem State.setCmd_out (x : CmdState) : (s.setCmd x).out = s.out := rfl
@[simp] theorem State.setCmd_pers (x : CmdState) : (s.setCmd x).pers = s.pers := rfl
@[simp] theorem State.setCmd_rgn (x : CmdState) : (s.setCmd x).rgn = s.rgn := rfl
@[simp] theorem State.setCmd_cxl (x : CmdState) : (s.setCmd x).cxl = s.cxl := rfl
@[simp] theorem State.setCmd_tide (x : CmdState) : (s.setCmd x).tide = s.tide := rfl
@[simp] theorem State.setCmd_entries (x : CmdState) : (s.setCmd x).entries = s.entries := rfl
@[simp] theorem State.setCmd_sharers (x : CmdState) : (s.setCmd x).sharers = s.sharers := rfl
@[simp] theorem State.setCmd_copies (x : CmdState) : (s.setCmd x).copies = s.copies := rfl
@[simp] theorem State.setCmd_flash (x : CmdState) : (s.setCmd x).flash = s.flash := rfl
@[simp] theorem State.setCmd_dram (x : CmdState) : (s.setCmd x).dram = s.dram := rfl
@[simp] theorem State.setCmd_quay (x : CmdState) : (s.setCmd x).quay = s.quay := rfl
@[simp] theorem State.setCmd_integ (x : CmdState) : (s.setCmd x).integ = s.integ := rfl
@[simp] theorem State.setCmd_epc (x : CmdState) : (s.setCmd x).epc = s.epc := rfl
@[simp] theorem State.setCmd_twin (x : CmdState) : (s.setCmd x).twin = s.twin := rfl
@[simp] theorem State.setCmd_ute (x : CmdState) : (s.setCmd x).ute = s.ute := rfl
@[simp] theorem State.setCmd_ccx (x : CmdState) : (s.setCmd x).ccx = s.ccx := rfl
@[simp] theorem State.setCmd_clk (x : CmdState) : (s.setCmd x).clk = s.clk := rfl
@[simp] theorem State.setCmd_agents (x : CmdState) : (s.setCmd x).agents = s.agents := rfl
@[simp] theorem State.setCmd_test (x : CmdState) : (s.setCmd x).test = s.test := rfl
@[simp] theorem State.setCmd_sets (x : CmdState) : (s.setCmd x).sets = s.sets := rfl
@[simp] theorem State.setCmd_recd (x : CmdState) : (s.setCmd x).recd = s.recd := rfl
@[simp] theorem State.setCmd_pending (x : CmdState) : (s.setCmd x).pending = s.pending := rfl
@[simp] theorem State.setCmd_cmd (x : CmdState) : (s.setCmd x).cmd = x := rfl
@[simp] theorem State.fget_setCmd (g : Fld) (x : CmdState) : (s.setCmd x).fget g = s.fget g := rfl
@[simp] theorem State.bit_setCmd (g : Fld) (x : CmdState) : (s.setCmd x).bit g = s.bit g := rfl
@[simp] theorem State.setPage_now (p : Nat) (w : PageWord) : (s.setPage p w).now = s.now := rfl
@[simp] theorem State.setPage_fresh (p : Nat) (w : PageWord) : (s.setPage p w).fresh = s.fresh := rfl
@[simp] theorem State.setPage_regs (p : Nat) (w : PageWord) : (s.setPage p w).regs = s.regs := rfl
@[simp] theorem State.setPage_icu (p : Nat) (w : PageWord) : (s.setPage p w).icu = s.icu := rfl
@[simp] theorem State.setPage_out (p : Nat) (w : PageWord) : (s.setPage p w).out = s.out := rfl
@[simp] theorem State.setPage_pers (p : Nat) (w : PageWord) : (s.setPage p w).pers = s.pers := rfl
@[simp] theorem State.setPage_cxl (p : Nat) (w : PageWord) : (s.setPage p w).cxl = s.cxl := rfl
@[simp] theorem State.setPage_tide (p : Nat) (w : PageWord) : (s.setPage p w).tide = s.tide := rfl
@[simp] theorem State.setPage_entries (p : Nat) (w : PageWord) : (s.setPage p w).entries = s.entries := rfl
@[simp] theorem State.setPage_sharers (p : Nat) (w : PageWord) : (s.setPage p w).sharers = s.sharers := rfl
@[simp] theorem State.setPage_copies (p : Nat) (w : PageWord) : (s.setPage p w).copies = s.copies := rfl
@[simp] theorem State.setPage_flash (p : Nat) (w : PageWord) : (s.setPage p w).flash = s.flash := rfl
@[simp] theorem State.setPage_dram (p : Nat) (w : PageWord) : (s.setPage p w).dram = s.dram := rfl
@[simp] theorem State.setPage_quay (p : Nat) (w : PageWord) : (s.setPage p w).quay = s.quay := rfl
@[simp] theorem State.setPage_integ (p : Nat) (w : PageWord) : (s.setPage p w).integ = s.integ := rfl
@[simp] theorem State.setPage_epc (p : Nat) (w : PageWord) : (s.setPage p w).epc = s.epc := rfl
@[simp] theorem State.setPage_twin (p : Nat) (w : PageWord) : (s.setPage p w).twin = s.twin := rfl
@[simp] theorem State.setPage_ute (p : Nat) (w : PageWord) : (s.setPage p w).ute = s.ute := rfl
@[simp] theorem State.setPage_cmd (p : Nat) (w : PageWord) : (s.setPage p w).cmd = s.cmd := rfl
@[simp] theorem State.setPage_ccx (p : Nat) (w : PageWord) : (s.setPage p w).ccx = s.ccx := rfl
@[simp] theorem State.setPage_clk (p : Nat) (w : PageWord) : (s.setPage p w).clk = s.clk := rfl
@[simp] theorem State.setPage_agents (p : Nat) (w : PageWord) : (s.setPage p w).agents = s.agents := rfl
@[simp] theorem State.setPage_test (p : Nat) (w : PageWord) : (s.setPage p w).test = s.test := rfl
@[simp] theorem State.setPage_sets (p : Nat) (w : PageWord) : (s.setPage p w).sets = s.sets := rfl
@[simp] theorem State.setPage_recd (p : Nat) (w : PageWord) : (s.setPage p w).recd = s.recd := rfl
@[simp] theorem State.setPage_pending (p : Nat) (w : PageWord) : (s.setPage p w).pending = s.pending := rfl
@[simp] theorem State.fget_setPage (g : Fld) (p : Nat) (w : PageWord) : (s.setPage p w).fget g = s.fget g := rfl
@[simp] theorem State.bit_setPage (g : Fld) (p : Nat) (w : PageWord) : (s.setPage p w).bit g = s.bit g := rfl
@[simp] theorem State.setAgent_now (g : Nat) (x : Agent) : (s.setAgent g x).now = s.now := rfl
@[simp] theorem State.setAgent_fresh (g : Nat) (x : Agent) : (s.setAgent g x).fresh = s.fresh := rfl
@[simp] theorem State.setAgent_regs (g : Nat) (x : Agent) : (s.setAgent g x).regs = s.regs := rfl
@[simp] theorem State.setAgent_icu (g : Nat) (x : Agent) : (s.setAgent g x).icu = s.icu := rfl
@[simp] theorem State.setAgent_out (g : Nat) (x : Agent) : (s.setAgent g x).out = s.out := rfl
@[simp] theorem State.setAgent_pers (g : Nat) (x : Agent) : (s.setAgent g x).pers = s.pers := rfl
@[simp] theorem State.setAgent_rgn (g : Nat) (x : Agent) : (s.setAgent g x).rgn = s.rgn := rfl
@[simp] theorem State.setAgent_cxl (g : Nat) (x : Agent) : (s.setAgent g x).cxl = s.cxl := rfl
@[simp] theorem State.setAgent_tide (g : Nat) (x : Agent) : (s.setAgent g x).tide = s.tide := rfl
@[simp] theorem State.setAgent_entries (g : Nat) (x : Agent) : (s.setAgent g x).entries = s.entries := rfl
@[simp] theorem State.setAgent_sharers (g : Nat) (x : Agent) : (s.setAgent g x).sharers = s.sharers := rfl
@[simp] theorem State.setAgent_copies (g : Nat) (x : Agent) : (s.setAgent g x).copies = s.copies := rfl
@[simp] theorem State.setAgent_flash (g : Nat) (x : Agent) : (s.setAgent g x).flash = s.flash := rfl
@[simp] theorem State.setAgent_dram (g : Nat) (x : Agent) : (s.setAgent g x).dram = s.dram := rfl
@[simp] theorem State.setAgent_quay (g : Nat) (x : Agent) : (s.setAgent g x).quay = s.quay := rfl
@[simp] theorem State.setAgent_integ (g : Nat) (x : Agent) : (s.setAgent g x).integ = s.integ := rfl
@[simp] theorem State.setAgent_epc (g : Nat) (x : Agent) : (s.setAgent g x).epc = s.epc := rfl
@[simp] theorem State.setAgent_twin (g : Nat) (x : Agent) : (s.setAgent g x).twin = s.twin := rfl
@[simp] theorem State.setAgent_ute (g : Nat) (x : Agent) : (s.setAgent g x).ute = s.ute := rfl
@[simp] theorem State.setAgent_cmd (g : Nat) (x : Agent) : (s.setAgent g x).cmd = s.cmd := rfl
@[simp] theorem State.setAgent_ccx (g : Nat) (x : Agent) : (s.setAgent g x).ccx = s.ccx := rfl
@[simp] theorem State.setAgent_clk (g : Nat) (x : Agent) : (s.setAgent g x).clk = s.clk := rfl
@[simp] theorem State.setAgent_test (g : Nat) (x : Agent) : (s.setAgent g x).test = s.test := rfl
@[simp] theorem State.setAgent_sets (g : Nat) (x : Agent) : (s.setAgent g x).sets = s.sets := rfl
@[simp] theorem State.setAgent_recd (g : Nat) (x : Agent) : (s.setAgent g x).recd = s.recd := rfl
@[simp] theorem State.setAgent_pending (g : Nat) (x : Agent) : (s.setAgent g x).pending = s.pending := rfl
@[simp] theorem State.fget_setAgent (g : Fld) (n : Nat) (x : Agent) : (s.setAgent n x).fget g = s.fget g := rfl
@[simp] theorem State.bit_setAgent (g : Fld) (n : Nat) (x : Agent) : (s.setAgent n x).bit g = s.bit g := rfl
@[simp] theorem State.putCore_now (k : Nat) (x : Core) : (s.putCore k x).now = s.now := rfl
@[simp] theorem State.putCore_fresh (k : Nat) (x : Core) : (s.putCore k x).fresh = s.fresh := rfl
@[simp] theorem State.putCore_icu (k : Nat) (x : Core) : (s.putCore k x).icu = s.icu := rfl
@[simp] theorem State.putCore_out (k : Nat) (x : Core) : (s.putCore k x).out = s.out := rfl
@[simp] theorem State.putCore_pers (k : Nat) (x : Core) : (s.putCore k x).pers = s.pers := rfl
@[simp] theorem State.putCore_rgn (k : Nat) (x : Core) : (s.putCore k x).rgn = s.rgn := rfl
@[simp] theorem State.putCore_cxl (k : Nat) (x : Core) : (s.putCore k x).cxl = s.cxl := rfl
@[simp] theorem State.putCore_tide (k : Nat) (x : Core) : (s.putCore k x).tide = s.tide := rfl
@[simp] theorem State.putCore_entries (k : Nat) (x : Core) : (s.putCore k x).entries = s.entries := rfl
@[simp] theorem State.putCore_sharers (k : Nat) (x : Core) : (s.putCore k x).sharers = s.sharers := rfl
@[simp] theorem State.putCore_copies (k : Nat) (x : Core) : (s.putCore k x).copies = s.copies := rfl
@[simp] theorem State.putCore_flash (k : Nat) (x : Core) : (s.putCore k x).flash = s.flash := rfl
@[simp] theorem State.putCore_dram (k : Nat) (x : Core) : (s.putCore k x).dram = s.dram := rfl
@[simp] theorem State.putCore_quay (k : Nat) (x : Core) : (s.putCore k x).quay = s.quay := rfl
@[simp] theorem State.putCore_integ (k : Nat) (x : Core) : (s.putCore k x).integ = s.integ := rfl
@[simp] theorem State.putCore_epc (k : Nat) (x : Core) : (s.putCore k x).epc = s.epc := rfl
@[simp] theorem State.putCore_twin (k : Nat) (x : Core) : (s.putCore k x).twin = s.twin := rfl
@[simp] theorem State.putCore_ute (k : Nat) (x : Core) : (s.putCore k x).ute = s.ute := rfl
@[simp] theorem State.putCore_cmd (k : Nat) (x : Core) : (s.putCore k x).cmd = s.cmd := rfl
@[simp] theorem State.putCore_clk (k : Nat) (x : Core) : (s.putCore k x).clk = s.clk := rfl
@[simp] theorem State.putCore_agents (k : Nat) (x : Core) : (s.putCore k x).agents = s.agents := rfl
@[simp] theorem State.putCore_test (k : Nat) (x : Core) : (s.putCore k x).test = s.test := rfl
@[simp] theorem State.putCore_sets (k : Nat) (x : Core) : (s.putCore k x).sets = s.sets := rfl
@[simp] theorem State.putCore_recd (k : Nat) (x : Core) : (s.putCore k x).recd = s.recd := rfl
@[simp] theorem State.putCore_pending (k : Nat) (x : Core) : (s.putCore k x).pending = s.pending := rfl
@[simp] theorem State.emit_out (o : Out) : (s.emit o).out = o :: s.out := rfl
@[simp] theorem State.raise_icu (n : Nat) : (s.raise n).icu = s.icu.edge n := rfl

/-! ### Register fields -/

theorem State.fget_fset_ne {f g : Fld} (v : Nat) (h : g.key ≠ f.key) : (s.fset f v).fget g = s.fget g := sget_sput_ne h _ _
theorem State.fget_fset (f : Fld) (v : Nat) (h : swf 0 s.regs = true) : (s.fset f v).fget f = v % 2 ^ f.width := sget_sput _ _ _ h
theorem State.bit_setBit_ne {f g : Fld} (b : Bool) (h : g.key ≠ f.key) : (s.setBit f b).bit g = s.bit g := by
  unfold State.bit State.setBit; rw [State.fget_fset_ne s _ h]
theorem State.fget_setBit_ne {f g : Fld} (b : Bool) (h : g.key ≠ f.key) : (s.setBit f b).fget g = s.fget g := by
  unfold State.setBit; rw [State.fget_fset_ne s _ h]
theorem State.bit_setBit (f : Fld) (b : Bool) (h : swf 0 s.regs = true) (w : f.width = 1) : (s.setBit f b).bit f = b := by
  unfold State.bit State.setBit
  rw [State.fget_fset s _ _ h, w]
  cases b <;> rfl
theorem State.fset_wf (f : Fld) (v : Nat) (h : swf 0 s.regs = true) : swf 0 (s.fset f v).regs = true := swf_sput _ _ _ h
theorem State.setBit_wf (f : Fld) (b : Bool) (h : swf 0 s.regs = true) : swf 0 (s.setBit f b).regs = true := swf_sput _ _ _ h

@[simp] theorem State.bump_now (c t : Fld) (n : Nat) : (s.bump c t n).now = s.now := by
  unfold State.bump; dsimp only; split <;> first | rfl | (split <;> rfl)
@[simp] theorem State.bump_fresh (c t : Fld) (n : Nat) : (s.bump c t n).fresh = s.fresh := by
  unfold State.bump; dsimp only; split <;> first | rfl | (split <;> rfl)
@[simp] theorem State.bump_out (c t : Fld) (n : Nat) : (s.bump c t n).out = s.out := by
  unfold State.bump; dsimp only; split <;> first | rfl | (split <;> rfl)
@[simp] theorem State.bump_pers (c t : Fld) (n : Nat) : (s.bump c t n).pers = s.pers := by
  unfold State.bump; dsimp only; split <;> first | rfl | (split <;> rfl)
@[simp] theorem State.bump_rgn (c t : Fld) (n : Nat) : (s.bump c t n).rgn = s.rgn := by
  unfold State.bump; dsimp only; split <;> first | rfl | (split <;> rfl)
@[simp] theorem State.bump_cxl (c t : Fld) (n : Nat) : (s.bump c t n).cxl = s.cxl := by
  unfold State.bump; dsimp only; split <;> first | rfl | (split <;> rfl)
@[simp] theorem State.bump_tide (c t : Fld) (n : Nat) : (s.bump c t n).tide = s.tide := by
  unfold State.bump; dsimp only; split <;> first | rfl | (split <;> rfl)
@[simp] theorem State.bump_entries (c t : Fld) (n : Nat) : (s.bump c t n).entries = s.entries := by
  unfold State.bump; dsimp only; split <;> first | rfl | (split <;> rfl)
@[simp] theorem State.bump_sharers (c t : Fld) (n : Nat) : (s.bump c t n).sharers = s.sharers := by
  unfold State.bump; dsimp only; split <;> first | rfl | (split <;> rfl)
@[simp] theorem State.bump_copies (c t : Fld) (n : Nat) : (s.bump c t n).copies = s.copies := by
  unfold State.bump; dsimp only; split <;> first | rfl | (split <;> rfl)
@[simp] theorem State.bump_flash (c t : Fld) (n : Nat) : (s.bump c t n).flash = s.flash := by
  unfold State.bump; dsimp only; split <;> first | rfl | (split <;> rfl)
@[simp] theorem State.bump_dram (c t : Fld) (n : Nat) : (s.bump c t n).dram = s.dram := by
  unfold State.bump; dsimp only; split <;> first | rfl | (split <;> rfl)
@[simp] theorem State.bump_quay (c t : Fld) (n : Nat) : (s.bump c t n).quay = s.quay := by
  unfold State.bump; dsimp only; split <;> first | rfl | (split <;> rfl)
@[simp] theorem State.bump_integ (c t : Fld) (n : Nat) : (s.bump c t n).integ = s.integ := by
  unfold State.bump; dsimp only; split <;> first | rfl | (split <;> rfl)
@[simp] theorem State.bump_epc (c t : Fld) (n : Nat) : (s.bump c t n).epc = s.epc := by
  unfold State.bump; dsimp only; split <;> first | rfl | (split <;> rfl)
@[simp] theorem State.bump_twin (c t : Fld) (n : Nat) : (s.bump c t n).twin = s.twin := by
  unfold State.bump; dsimp only; split <;> first | rfl | (split <;> rfl)
@[simp] theorem State.bump_ute (c t : Fld) (n : Nat) : (s.bump c t n).ute = s.ute := by
  unfold State.bump; dsimp only; split <;> first | rfl | (split <;> rfl)
@[simp] theorem State.bump_cmd (c t : Fld) (n : Nat) : (s.bump c t n).cmd = s.cmd := by
  unfold State.bump; dsimp only; split <;> first | rfl | (split <;> rfl)
@[simp] theorem State.bump_ccx (c t : Fld) (n : Nat) : (s.bump c t n).ccx = s.ccx := by
  unfold State.bump; dsimp only; split <;> first | rfl | (split <;> rfl)
@[simp] theorem State.bump_clk (c t : Fld) (n : Nat) : (s.bump c t n).clk = s.clk := by
  unfold State.bump; dsimp only; split <;> first | rfl | (split <;> rfl)
@[simp] theorem State.bump_agents (c t : Fld) (n : Nat) : (s.bump c t n).agents = s.agents := by
  unfold State.bump; dsimp only; split <;> first | rfl | (split <;> rfl)
@[simp] theorem State.bump_test (c t : Fld) (n : Nat) : (s.bump c t n).test = s.test := by
  unfold State.bump; dsimp only; split <;> first | rfl | (split <;> rfl)
@[simp] theorem State.bump_sets (c t : Fld) (n : Nat) : (s.bump c t n).sets = s.sets := by
  unfold State.bump; dsimp only; split <;> first | rfl | (split <;> rfl)
@[simp] theorem State.bump_recd (c t : Fld) (n : Nat) : (s.bump c t n).recd = s.recd := by
  unfold State.bump; dsimp only; split <;> first | rfl | (split <;> rfl)
@[simp] theorem State.bump_pending (c t : Fld) (n : Nat) : (s.bump c t n).pending = s.pending := by
  unfold State.bump; dsimp only; split <;> first | rfl | (split <;> rfl)
@[simp] theorem State.bumpQuiet_now (c : Fld) : (s.bumpQuiet c).now = s.now := by
  unfold State.bumpQuiet; dsimp only; split <;> rfl
@[simp] theorem State.bumpQuiet_fresh (c : Fld) : (s.bumpQuiet c).fresh = s.fresh := by
  unfold State.bumpQuiet; dsimp only; split <;> rfl
@[simp] theorem State.bumpQuiet_icu (c : Fld) : (s.bumpQuiet c).icu = s.icu := by
  unfold State.bumpQuiet; dsimp only; split <;> rfl
@[simp] theorem State.bumpQuiet_out (c : Fld) : (s.bumpQuiet c).out = s.out := by
  unfold State.bumpQuiet; dsimp only; split <;> rfl
@[simp] theorem State.bumpQuiet_pers (c : Fld) : (s.bumpQuiet c).pers = s.pers := by
  unfold State.bumpQuiet; dsimp only; split <;> rfl
@[simp] theorem State.bumpQuiet_rgn (c : Fld) : (s.bumpQuiet c).rgn = s.rgn := by
  unfold State.bumpQuiet; dsimp only; split <;> rfl
@[simp] theorem State.bumpQuiet_cxl (c : Fld) : (s.bumpQuiet c).cxl = s.cxl := by
  unfold State.bumpQuiet; dsimp only; split <;> rfl
@[simp] theorem State.bumpQuiet_tide (c : Fld) : (s.bumpQuiet c).tide = s.tide := by
  unfold State.bumpQuiet; dsimp only; split <;> rfl
@[simp] theorem State.bumpQuiet_entries (c : Fld) : (s.bumpQuiet c).entries = s.entries := by
  unfold State.bumpQuiet; dsimp only; split <;> rfl
@[simp] theorem State.bumpQuiet_sharers (c : Fld) : (s.bumpQuiet c).sharers = s.sharers := by
  unfold State.bumpQuiet; dsimp only; split <;> rfl
@[simp] theorem State.bumpQuiet_copies (c : Fld) : (s.bumpQuiet c).copies = s.copies := by
  unfold State.bumpQuiet; dsimp only; split <;> rfl
@[simp] theorem State.bumpQuiet_flash (c : Fld) : (s.bumpQuiet c).flash = s.flash := by
  unfold State.bumpQuiet; dsimp only; split <;> rfl
@[simp] theorem State.bumpQuiet_dram (c : Fld) : (s.bumpQuiet c).dram = s.dram := by
  unfold State.bumpQuiet; dsimp only; split <;> rfl
@[simp] theorem State.bumpQuiet_quay (c : Fld) : (s.bumpQuiet c).quay = s.quay := by
  unfold State.bumpQuiet; dsimp only; split <;> rfl
@[simp] theorem State.bumpQuiet_integ (c : Fld) : (s.bumpQuiet c).integ = s.integ := by
  unfold State.bumpQuiet; dsimp only; split <;> rfl
@[simp] theorem State.bumpQuiet_epc (c : Fld) : (s.bumpQuiet c).epc = s.epc := by
  unfold State.bumpQuiet; dsimp only; split <;> rfl
@[simp] theorem State.bumpQuiet_twin (c : Fld) : (s.bumpQuiet c).twin = s.twin := by
  unfold State.bumpQuiet; dsimp only; split <;> rfl
@[simp] theorem State.bumpQuiet_ute (c : Fld) : (s.bumpQuiet c).ute = s.ute := by
  unfold State.bumpQuiet; dsimp only; split <;> rfl
@[simp] theorem State.bumpQuiet_cmd (c : Fld) : (s.bumpQuiet c).cmd = s.cmd := by
  unfold State.bumpQuiet; dsimp only; split <;> rfl
@[simp] theorem State.bumpQuiet_ccx (c : Fld) : (s.bumpQuiet c).ccx = s.ccx := by
  unfold State.bumpQuiet; dsimp only; split <;> rfl
@[simp] theorem State.bumpQuiet_clk (c : Fld) : (s.bumpQuiet c).clk = s.clk := by
  unfold State.bumpQuiet; dsimp only; split <;> rfl
@[simp] theorem State.bumpQuiet_agents (c : Fld) : (s.bumpQuiet c).agents = s.agents := by
  unfold State.bumpQuiet; dsimp only; split <;> rfl
@[simp] theorem State.bumpQuiet_test (c : Fld) : (s.bumpQuiet c).test = s.test := by
  unfold State.bumpQuiet; dsimp only; split <;> rfl
@[simp] theorem State.bumpQuiet_sets (c : Fld) : (s.bumpQuiet c).sets = s.sets := by
  unfold State.bumpQuiet; dsimp only; split <;> rfl
@[simp] theorem State.bumpQuiet_recd (c : Fld) : (s.bumpQuiet c).recd = s.recd := by
  unfold State.bumpQuiet; dsimp only; split <;> rfl
@[simp] theorem State.bumpQuiet_pending (c : Fld) : (s.bumpQuiet c).pending = s.pending := by
  unfold State.bumpQuiet; dsimp only; split <;> rfl

/-! ### The arbiter changes presentations only (16 R605) -/

@[simp] theorem Icu.route_pend (c : Icu) : c.route.pend = c.pend := rfl
@[simp] theorem Icu.route_active (c : Icu) : c.route.active = c.active := rfl
@[simp] theorem Icu.route_cfg (c : Icu) : c.route.cfg = c.cfg := rfl
@[simp] theorem Icu.route_tgt (c : Icu) : c.route.tgt = c.tgt := rfl
@[simp] theorem Icu.route_running (c : Icu) : c.route.running = c.running := rfl
@[simp] theorem Icu.route_mainOff (c : Icu) : c.route.mainOff = c.mainOff := rfl

/-! ### Counters (00 R18) -/

theorem State.bump_at_top {c t : Fld} (n : Nat) (h : s.fget c = 2 ^ c.width - 1) : s.bump c t n = s := by
  unfold State.bump; dsimp only; rw [if_pos h]
theorem State.bump_below {c t : Fld} (n : Nat) (h : s.fget c ≠ 2 ^ c.width - 1) (k : s.fget c + 1 ≠ 2 ^ c.width - 1) :
    s.bump c t n = s.fset c (s.fget c + 1) := by
  unfold State.bump; dsimp only; rw [if_neg h, if_neg k]
theorem State.bump_reaches {c t : Fld} (n : Nat) (h : s.fget c ≠ 2 ^ c.width - 1) (k : s.fget c + 1 = 2 ^ c.width - 1) :
    s.bump c t n = ((s.fset c (s.fget c + 1)).setBit t true).raise n := by
  unfold State.bump; dsimp only; rw [if_neg h, if_pos k]

/-! ### Settling -/

/-- Nothing is due to leave, no write to its bank, no acknowledgement is due, and the regime stays. -/
def State.quiet (s : State) : Bool :=
  (s.cxl.leaving.all fun x => decide (s.now < x.due)) &&
    (s.sets.writes.all fun x => x.issued.isSome || decide (epcCycle s.now ≤ x.cycle)) &&
    (s.pers.landing.all fun e => (!s.mayAck || e.acked || !(e.localOk && e.twinOk)) && !(e.acked && e.drained)) && s.regime ≠ .stretch
theorem State.leave_of_quiet {s : State} (h : ∀ x ∈ s.cxl.leaving, s.now < x.due) : s.leave = s := by
  have h1 : (s.cxl.leaving.filter fun x => decide (x.due ≤ s.now)) = [] :=
    List.filter_eq_nil_iff.2 fun x hx => by have := h x hx; simp; omega
  have h2 : (s.cxl.leaving.filter fun x => decide (s.now < x.due)) = s.cxl.leaving :=
    List.filter_eq_self.2 fun x hx => by simpa using h x hx
  unfold State.leave
  dsimp only
  rw [h1, h2]
  rfl
theorem State.issueDue_of_quiet {s : State} (h : ∀ x ∈ s.sets.writes, x.issued.isSome = true ∨ epcCycle s.now ≤ x.cycle) : s.issueDue = s := by
  have h1 : (s.sets.writes.filter fun x => x.issued.isNone && decide (x.cycle < epcCycle s.now)) = [] :=
    List.filter_eq_nil_iff.2 fun x hx => by
      rcases h x hx with h | h
      · cases hi : x.issued <;> simp_all
      · simp; intro _; exact h
  unfold State.issueDue
  rw [h1]
  rfl
theorem State.ackLoop_of_quiet {s : State} : ∀ (l : List LandEntry) (b : List Nat),
    (∀ e ∈ l, (e.acked || !(e.localOk && e.twinOk)) = true) → s.ackLoop l b = (l, s)
  | [], _, _ => rfl
  | e :: t, b, h => by
    have he := h e List.mem_cons_self
    have ht := fun x => State.ackLoop_of_quiet (s := s) t x fun y hy => h y (List.mem_cons_of_mem _ hy)
    unfold State.ackLoop
    have hc : ¬((!e.acked && e.localOk && e.twinOk && !b.contains e.line) = true) := by
      revert he
      cases e.acked <;> cases e.localOk <;> cases e.twinOk <;> simp
    rw [if_neg hc]
    simp only [ht]
theorem State.settleAcks_of_quiet {s : State} (h : ∀ e ∈ s.pers.landing,
    ((!s.mayAck || e.acked || !(e.localOk && e.twinOk)) && !(e.acked && e.drained)) = true) : s.settleAcks = s := by
  have h1 : (if s.mayAck then s.ackLoop s.pers.landing [] else (s.pers.landing, s)) = (s.pers.landing, s) := by
    split
    · refine State.ackLoop_of_quiet _ _ fun e he => ?_
      have := h e he
      simp_all
    · rfl
  have h2 : (s.pers.landing.filter fun e => !(e.acked && e.drained && !s.draining e.id)) = s.pers.landing :=
    List.filter_eq_self.2 fun e he => by
      have h3 := (Bool.and_eq_true_iff.1 (h e he)).2
      revert h3
      cases e.acked && e.drained <;> simp
  unfold State.settleAcks
  simp only [h1, h2]
theorem State.stretchExit_of_quiet {s : State} (h : s.regime ≠ .stretch) : s.stretchExit = s := by
  unfold State.stretchExit
  rw [if_neg (by simp [h])]
theorem State.settleLoop_of_none {s : State} (h : s.settleStep = none) : ∀ n, s.settleLoop n = s
  | 0 => rfl
  | n + 1 => by unfold State.settleLoop; rw [h]
/-- Where nothing is due, settling is the identity. -/
theorem State.calm_of_none {s : State} (q : s.quiet = true) (h : s.settleStep = none) : s.Calm := by
  rw [State.quiet, Bool.and_eq_true, Bool.and_eq_true, Bool.and_eq_true] at q
  obtain ⟨⟨⟨ql, qw⟩, qa⟩, qr⟩ := q
  have hl := State.leave_of_quiet (s := s) (by simpa using ql)
  have hi := State.issueDue_of_quiet (s := s) (by simpa using qw)
  have ha := State.settleAcks_of_quiet (s := s) (List.all_eq_true.1 qa)
  have hs := State.stretchExit_of_quiet (s := s) (by simpa using qr)
  unfold State.Calm State.settle
  dsimp only
  rw [hi, hl, ha, hs, State.settleLoop_of_none h, hl]

end Sys2Proof.Machine
end

