-- ==== Sys2Proof/Machine/AtRest.lean ====
section
/-! DEFINITION. What the sectors of an extent hold: compression, padding and encryption at rest (08_flash_tier.md R280 to R283; 01 R33). -/
namespace Sys2Proof.Machine

/-- The device master key: eight settings words, the first the least significant (R283). -/
def State.masterKey (s : State) : Nat := ((List.range 8).map fun i => s.cell (0x300 + i) * 2 ^ (32 * i)).sum
/-- The tweak of an extent: DLA[47:12], RGEN and the region index (R282). -/
def xtsTweak (page rgen region : Nat) : Nat := page % 2 ^ 36 + rgen % 2 ^ 16 * 2 ^ 36 + region % 2 ^ 12 * 2 ^ 52
/-- Zero bytes up to a length. -/
def padTo (n : Nat) (bs : List Byte) : List Byte := bs ++ List.replicate (n - bs.length) 0
/-- The bytes of an extent before encryption: the page, or its LZ4 block padded with zeros to whole sectors (R280). -/
def State.extentPlain (s : State) (p : Nat) : List Byte :=
  let e := s.mapOf p
  let page := memBytes s.flash.data (4096 * p) 4096
  if e.toNat / 2 ^ 61 % 4 = 2 then padTo (1024 * (e.toNat / 2 ^ 53 % 4 + 1)) (Config.lz4Block page) else page
/-- What the sectors of a page's extent hold: with ENC its bytes encrypted as one data unit, under the key of its region (R282, R283). The
location plays no part, so relocation and folding move it unchanged. -/
def State.extentStored (s : State) (p : Nat) : List Byte :=
  let e := s.mapOf p
  let rgen := e.toNat / 2 ^ 37 % 2 ^ 16
  match s.regionAt p with
  | some i =>
    if e.getLsbD 60 then Config.xtsEncrypt (Config.xtsKey s.masterKey i rgen) (xtsTweak p rgen i) (s.extentPlain p) else s.extentPlain p
  | none => s.extentPlain p

end Sys2Proof.Machine
end

