-- ==== Sys2Proof/Machine/Noc.lean ====
section
/-! DEFINITION. Traffic classes of the queue entries, the reservations of each request, and the network's routes and arbitration (06_traffic_classes_and_credits.md R212 to R223). -/
namespace Sys2Proof.Machine

/-! ### The class of each queue entry (R212, R213); a request's is `BiReq.tclass`, a memory queue's entries hold theirs -/

def classOf : Nat → TClass
  | 0 => .c0 | 1 => .c1 | 2 => .c2 | 3 => .c3 | 4 => .c4 | _ => .c5
/-- A Landing entry's drain; a store that waits at ingress keeps the class of its request. -/
def LandEntry.tclass (_ : LandEntry) : TClass := .c0
def IngressStore.tclass (st : IngressStore) : TClass := st.origin.tclass
def FlushWrite.tclass (_ : FlushWrite) : TClass := .c0
def PageMove.tclass (_ : PageMove) : TClass := .c4
def BiWait.tclass (_ : BiWait) : TClass := .c3
/-- What waits for a page, its word or its line has its request's class, and so has the fetch that serves it (R214). -/
def PsWait.tclass (w : PsWait) : TClass := w.req.tclass
def WaitRead.tclass (w : WaitRead) : TClass := w.req.tclass
def PortWait.tclass (_ : PortWait) : TClass := .c3
def Leaving.tclass (_ : Leaving) : TClass := .c1
def MirrorLine.tclass (_ : MirrorLine) : TClass := .c0
def ResyncHalf.tclass (_ : ResyncHalf) : TClass := .c4
def UtPkt.tclass (p : UtPkt) : TClass := classOf (utClass p.hdr)
def Parked.tclass (x : Parked) : TClass := classOf (utClass x.pkt.hdr)
def PeerOp.tclass (_ : PeerOp) : TClass := .c3
def CmdSlot.tclass (_ : CmdSlot) : TClass := .c5
def SetWrite.tclass (_ : SetWrite) : TClass := .c5
def GroupWrite.tclass (_ : GroupWrite) : TClass := .c5

/-! ### Reservations made before issue (R221, R223) -/

/-- Requests of the table of R223. -/
inductive Reserve where
  | hostRead | hostStore | bisnp | pageStateFetch | contextFetch | peerRead (bytes : Nat) | landingDrain | flush | mirrorPacket
  | pageRead | parmos | coreFill
deriving DecidableEq, Repr
/-- Size of the reservation, in the unit of the table: slots, entries or flits. -/
def Reserve.size : Reserve → Nat
  | .contextFetch => 8
  | .peerRead n => (n + 63) / 64
  | .pageRead => 64
  | .parmos => 65
  | _ => 1
/-- Space held now for the completions of a kind: each item in flight holds its own until its completion is consumed (R225). The places with no
stated number of slots never fill (log 46). -/
def State.reserved (s : State) : Reserve → Nat
  | .hostRead => (List.range 4).foldl (fun n p => n + s.lineSlots p) 0
  | .hostStore => (List.range 4).foldl (fun n p => n + s.ndrSlots p) 0
  | .bisnp => (s.cxl.bi.map fun b => b.left.length + b.dirty.length).sum
  | .pageStateFetch => (s.rgn.psWait.filter fun w => !s.inYard w.page).length
  | .contextFetch => 8 * s.ute.fetching.length
  | .peerRead _ => (s.ute.ops.map fun o => (Reserve.peerRead o.hdr.len).size).sum
  | .landingDrain => (s.queues.flatMap fun c => c.writes.filter fun w => w.tc = .c0).length
  | .flush => s.pers.flushes.length
  | .mirrorPacket => s.ute.mirrorTx.length
  | .pageRead => 64 * (s.rgn.moves.length + s.flash.fetches.length + s.copies.length)
  | .parmos => 65 * s.cmd.slots.length
  | .coreFill => (s.ccx.cores.filter fun kv => match kv.2.wait with | some w => w.got.isNone | none => false).length

/-! ### The network (R216 to R218) -/

/-- Router of a mesh position: 8 columns by 6 rows. -/
structure Router where
  col : Nat
  row : Nat
deriving DecidableEq, Repr
/-- The next router on a route: along the row first, then along the column. -/
def nextHop (a b : Router) : Router :=
  if a.col < b.col then { a with col := a.col + 1 } else if b.col < a.col then { a with col := a.col - 1 }
  else if a.row < b.row then { a with row := a.row + 1 } else if b.row < a.row then { a with row := a.row - 1 } else a
/-- Routers of a route after the first, the last included. -/
def route (a b : Router) : Nat → List Router
  | 0 => []
  | n + 1 => if a = b then [] else nextHop a b :: route (nextHop a b) b n
/-- VC depth per router input, and least depth of an endpoint's input queue (R217). -/
def vcDepth : TClass → Nat
  | .c0 => 8 | .c1 => 16 | .c2 => 4 | .c3 => 16 | .c4 => 4 | .c5 => 2
def queueDepth : TClass → Nat
  | .c0 => 64 | .c1 => 0 | .c2 => 16 | .c3 => 128 | .c4 => 32 | .c5 => 8
/-- Weight of a class: 0 acts as 1 (R235); C1 has none. -/
def State.nocWeight (s : State) : TClass → Nat
  | .c0 => max 1 (s.fget F.GEN_NOC_WEIGHT_W0)
  | .c1 => 0
  | .c2 => max 1 (s.fget F.GEN_NOC_WEIGHT_W2)
  | .c3 => max 1 (s.fget F.GEN_NOC_WEIGHT_W3)
  | .c4 => max 1 (s.fget F.GEN_NOC_WEIGHT_W4)
  | .c5 => max 1 (s.fget F.GEN_NOC_WEIGHT_W5)
/-- The class that an output grants, of those with a ready flit: C1 first, in SAVE then C0, else the weighted round robin, of which `turn` holds
the class whose turn it is and the grants left to it (R218, R234). -/
def State.nocGrant (s : State) (turn : TClass × Nat) (ready : TClass → Bool) : Option TClass :=
  let order : List TClass := [.c0, .c2, .c3, .c4, .c5]
  if ready .c1 then some .c1
  else if s.power = 1 && ready .c0 then some .c0
  else if 0 < turn.2 && ready turn.1 then some turn.1
  else
    let after := (order.dropWhile (· ≠ turn.1)).drop 1 ++ order
    after.find? ready
/-- The turn after a grant: the granted class keeps it for the rest of its weight. -/
def State.nocTurn (s : State) (turn : TClass × Nat) (c : TClass) : TClass × Nat :=
  if c = .c1 then turn else if c = turn.1 && 0 < turn.2 then (c, turn.2 - 1) else (c, s.nocWeight c - 1)

end Sys2Proof.Machine
end

