-- ==== Sys2Proof/Machine/Pins.lean ====
section
/-! DEFINITION. What the pins of each interface show, as the state gives it (20_package_pins_and_electrical.md R710 to R722). The pins of the
AON bank are driven by the EPC in every state: their values are EPC_DRIVE's fields. -/
namespace Sys2Proof.Machine

/-- State of the pins of an interface. -/
inductive PinState where
  /-- electrical idle, or differential 0 -/
  | idle
  /-- the CXL L1 state -/
  | l1
  /-- Ethernet links up -/
  | linkUp
  | undriven
  | highZ
  /-- in operation -/
  | active
  /-- DDR5: RESET_N low and all others high impedance; ONFI: CE_N high and WP_N low -/
  | resetHeld
  /-- DDR5: ranks in self-refresh, CK stopped, RESET_N high -/
  | selfRefresh
deriving DecidableEq, Repr

/-- The column of R715's table that the state is in: AON-ONLY, main island in reset, SAVE, STANDBY, or none of them. -/
def State.pinColumn {α : Type} (s : State) (aonOnly reset save standby full : α) : α :=
  if s.power = 3 then aonOnly else if s.clk.inReset then reset else if s.power = 1 then save else if s.power = 2 then standby else full

/-- Transmitters of the CXL ports. In SAVE they are idle from step 4 of 11 R434, at most 100 µs after its entry; the model takes the steps
before the first program at once. -/
def State.cxlTxPins (s : State) : PinState := s.pinColumn .undriven .idle .idle .l1 .active
/-- Transmitters of the Ethernet ports. -/
def State.ethTxPins (s : State) : PinState := s.pinColumn .undriven .idle .idle .linkUp .active
/-- DDR5 channels. -/
def State.ddrPins (s : State) : PinState := s.pinColumn .highZ .resetHeld .active .selfRefresh .active
/-- DDR5 sideband. -/
def State.sidebandPins (s : State) : PinState := s.pinColumn .highZ .highZ .active .active .active
/-- ONFI channels. -/
def State.onfiPins (s : State) : PinState := s.pinColumn .highZ .resetHeld .active .active .active
/-- TWIN_HB transmitter: in SAVE the final heartbeat has been sent at its entry (12 R459). -/
def State.hbTxPins (s : State) : PinState := s.pinColumn .idle .idle .idle .active .active
/-- An actuator pin: high impedance, none, while the unit does not hold its gate (11 R422); else what EPC_DRIVE shows. -/
def State.drivePin (s : State) (gate : Nat) (f : Fld) : Option Nat := if s.fbit F.EPC_STATUS_GATES gate then some (s.fget f) else none
def State.chgEnPin (s : State) : Option Nat := s.drivePin 0 F.EPC_DRIVE_CHG
/-- Duty of CHG_ISET. -/
def State.chgIsetPin (s : State) : Option Nat := s.drivePin 0 F.EPC_DRIVE_ISET_DUTY
/-- Duty of HEAT_PWM. -/
def State.heatPwmPin (s : State) : Option Nat := s.drivePin 1 F.EPC_DRIVE_HEAT_DUTY
def State.holdSwPin (s : State) : Option Nat := s.drivePin 2 F.EPC_DRIVE_HOLD

/-! ### Balls and power (R710, R730) -/

/-- Letters of ball rows. -/
def ballLetters : List Char := ['A', 'B', 'C', 'D', 'E', 'F', 'G', 'H', 'J', 'K', 'L', 'M', 'N', 'P', 'T', 'U', 'V', 'W', 'Y']
/-- Name of ball row r, 0 to 71 (R710). -/
def ballRow (r : Nat) : List Char :=
  (if r / 19 = 0 then [] else [ballLetters.getD (r / 19 - 1) 'A']) ++ [ballLetters.getD (r % 19) 'A']
/-- The ball of a row and a column 1 to 72. -/
def ballName (r col : Nat) : String := String.ofList (ballRow r) ++ toString col
/-- Balls of each group in the order of R711's table, VSS and the rails after the signals (R712). -/
def ballGroups : List Nat := [256, 12, 68, 1872, 800, 31, 1191, 520, 60, 90, 40, 120, 40, 30, 40, 10, 4]
/-- Package power in mW that is not exceeded in a state (R730). SAVE counts from its step 4, which the model reaches at its entry. -/
def State.powerMax (s : State) : Nat :=
  if s.power ≠ 3 && s.clk.inReset && s.clk.starting then 108000 else s.pinColumn 40 9000 38000 6000 108000

/-! ### Rails (R716 to R722, R727) -/

/-- A main rail: nominal level in mV, DC tolerance in percent, currents in mA at full load, at the 20 µs peak, in SAVE and in STANDBY, and the
absolute maximum in mV. -/
structure Rail where
  name : String
  nominal : Nat
  tol : Nat
  full : Nat
  peak : Nat
  save : Nat
  standby : Nat
  most : Nat
deriving DecidableEq, Repr
/-- The main rails in the order of R716's table. -/
def rails : List Rail :=
  [⟨"VDD_CORE", 750, 3, 96000, 110000, 34000, 4800, 900⟩, ⟨"VDD_SRAM", 800, 3, 6000, 8000, 4000, 1500, 900⟩,
   ⟨"VDDA_SER 0.85 V", 850, 3, 9000, 10000, 0, 500, 1000⟩, ⟨"VDDA_SER 1.2 V", 1200, 3, 3000, 3500, 0, 100, 1400⟩,
   ⟨"VDDQ_DDR", 1100, 3, 7000, 9000, 4500, 50, 1300⟩, ⟨"HBM VDD", 1100, 3, 6000, 8000, 0, 200, 1300⟩,
   ⟨"HBM VDDQ", 400, 3, 5000, 6000, 0, 0, 550⟩, ⟨"VCCQ_NF", 1200, 3, 2500, 4500, 3500, 100, 1400⟩,
   ⟨"VDD_IO", 1800, 5, 300, 500, 50, 20, 2100⟩]
/-- What the rails draw in mW for a column of the table, VAON's 40 mW included. -/
def railPower (column : Rail → Nat) : Nat := (rails.map fun r => r.nominal * column r / 1000).sum + 40
/-- The continuous current of a rail that a power state does not exceed; none once the main rails may be removed (R722). -/
def State.railCurrent (s : State) (r : Rail) : Nat := s.pinColumn 0 r.full r.save r.standby r.full
/-- A rail at this level is within its DC tolerance. -/
def Rail.inTolerance (r : Rail) (mv : Nat) : Bool := r.nominal * (100 - r.tol) ≤ 100 * mv && 100 * mv ≤ r.nominal * (100 + r.tol)
/-- The monitor of a rail sees less than 90 % of its nominal (R719); 5 µs of it with PWR_GOOD high is RAIL_UNDERVOLTAGE. -/
def Rail.low (r : Rail) (mv : Nat) : Bool := 100 * mv < 90 * r.nominal
/-- Current of VAON in µA at 2.7 V that is not exceeded: a settings write draws the larger (R718). -/
def State.vaonCurrent (s : State) : Nat := if s.bit F.SET_STATUS_BUSY then 30000 else 14800
/-- The main rails in the order that they may rise; each waits for the one that the second entry names (R720). -/
def powerUpOrder : List (String × Option String) :=
  [("VDD_IO", none), ("VDD_CORE", some "VDD_IO"), ("VDD_SRAM", some "VDD_CORE"), ("VDDA_SER 0.85 V", some "VDD_SRAM"),
   ("HBM VDD", some "VDD_SRAM"), ("VDDQ_DDR", some "VDD_SRAM"), ("VCCQ_NF", some "VDD_SRAM"), ("VDDA_SER 1.2 V", some "VDDA_SER 0.85 V"),
   ("HBM VDDQ", some "HBM VDD")]
/-- May a rail rise while these are at 95 % of their nominal? -/
def mayRise (up : List String) (rail : String) : Bool :=
  powerUpOrder.any fun x => x.1 = rail && (match x.2 with | some y => up.contains y | none => true)
/-- May a rail fall below 10 % while these still stand: none that waited for it (R722)? -/
def mayFall (up : List String) (rail : String) : Bool := powerUpOrder.all fun x => x.2 ≠ some rail || !up.contains x.1
/-- May the main rails be removed (R722)? Once AON-ONLY is shown, or SAVED and the hold-up path released. -/
def State.mayRemoveRails (s : State) : Bool := s.power = 3 || (s.clk.inReset && s.fget F.EPC_DRIVE_HOLD = 0)
/-- The junction's range in units of 0.1 °C, by grade (R727). -/
def junctionRange (grade : Nat) : Int × Int := (if grade = 1 then -200 else 0, 1050)
/-- mW of each consumer at full load, in the order of 01 R39's table. -/
def fullLoad : List Nat := [19000, 14000, 19000, 16000, 13000, 10000, 4000, 13000]

end Sys2Proof.Machine
end

