-- ==== Sys2Proof/WellFormed.lean ====
section
/-! DEFINITION. Which commands are well formed: every operand is within the width or the numbering the spec gives it. The meanings do
not rest on it: they are total, and a command whose operand names nothing changes what its rule says. -/
namespace Sys2Proof

/-- A read of a head (04 R130, R137, R141): 16 heads, at most 4 LDs on a head, a 12-bit PBR ID, a 52-bit address. -/
def HostRead.fits (r : HostRead) : Bool := decide (r.head < 16) && decide (r.ld < 4) && decide (r.pbr < 4096) && decide (r.addr < 2 ^ 52)
/-- A store of a head, in the same ranges. -/
def HostStore.fits (r : HostStore) : Bool := decide (r.head < 16) && decide (r.ld < 4) && decide (r.pbr < 4096) && decide (r.addr < 2 ^ 52)
/-- An answer to a snoop: a line of the 48-bit DLA space (03 R90), a host ID or LD number. -/
def BiRsp.fits (b : BiRsp) : Bool := decide (b.holder < 1024) && decide (b.line < 2 ^ 42)
/-- A trained link (04 R131): a speed and a width of CXP_LNK_STATUS. -/
def LinkTrained.fits (t : LinkTrained) : Bool := decide (t.speed ≤ 4) && [0, 1, 2, 4, 8, 16].contains t.width
/-- A decoder (04 R144): power-of-two interleaving. -/
def DecoderCfg.fits (d : DecoderCfg) : Bool :=
  [1, 2, 4, 8, 16].contains d.ways && [256, 512, 1024, 2048, 4096, 8192, 16384].contains d.gran
/-- A UT header (13 R499): every field within its width. -/
def UtHdr.fits (h : UtHdr) : Bool :=
  decide (h.ver < 256) && decide (h.op < 256) && decide (h.cls < 8) && decide (h.path < 64) && decide (h.srcNode < 65536) &&
    decide (h.srcCtx < 65536) && decide (h.dstNode < 65536) && decide (h.dstCtx < 65536) && decide (h.msn < 2 ^ 32) &&
    decide (h.pkt < 64) && decide (h.npktM1 < 64) && decide (h.berth < 256) && decide (h.code < 256) && decide (h.gen < 2 ^ 32) &&
    decide (h.offset < 2 ^ 64) && decide (h.len < 2 ^ 32) && decide (h.ackFloor < 2 ^ 32) && decide (h.txTime < 2 ^ 32) &&
    decide (h.echoTime < 2 ^ 32) && decide (h.residence < 2 ^ 32)
/-- A UT packet (13 R493): one of four links, at most 8,192 B of payload. -/
def UtPkt.fits (p : UtPkt) : Bool := decide (p.link < 4) && p.hdr.fits && decide (p.payload.length ≤ 8192)
/-- A carrier (14 R543). -/
def Carrier.fits : Carrier → Bool
  | .mailbox ld => decide (ld < 64)
  | .mctp eid => decide (eid < 256)
  | .ut node ctx => decide (node < 65536) && decide (ctx < 65536)
/-- A command packet (14 R540): its header is 32 B, LEN is a 32-bit field. -/
def Cmd.fits (c : Cmd) : Bool := c.carrier.fits && decide (c.len < 2 ^ 32) && decide (c.byteCount < 2 ^ 32)
/-- A place in a Stevedore (15 R573): its cache has 48 entries. -/
def CoreUe.fits : CoreUe → Bool
  | .entry i => decide (i < 48)
  | .side line => decide (line < 2 ^ 58)
  | .localMem => true

/-- Is a command well formed? -/
def WellFormed : Instr → Bool
  | .hostRead r => r.fits
  | .hostStoreL st => st.fits
  | .hostStoreM st => st.fits
  | .hostStoreV st => st.fits
  | .heldStoreAdmit => true
  | .ingressStoreResume => true
  | .landingDrain line => decide (line < 2 ^ 42)
  | .birspReceived b => b.fits
  | .bisnpTimeout line holder => decide (line < 2 ^ 42) && decide (holder < 1024)
  | .hostWriteback st => st.fits
  | .gpfPhase2Request head => decide (head < 16)
  | .gpfPhase2Complete head => decide (head < 16)
  | .viralReceived head => decide (head < 16)
  | .ideMacFailure head => decide (head < 16)
  | .cxlLinkDown head => decide (head < 16)
  | .cxlLinkTrainAttempt head t => decide (head < 16) && t.fits
  | .perstAssert port => decide (port < 4)
  | .functionLevelReset ld => decide (ld < 64)
  | .gfamHostBind host pbr group => decide (host < 1024) && decide (pbr < 4096) && decide (group < 16)
  | .hostDcAddResponse ld region _ => decide (ld < 64) && decide (region < 4096)
  | .hostDcRelease ld region => decide (ld < 64) && decide (region < 4096)
  | .dcOfferTimeout region => decide (region < 4096)
  | .getPoisonList ld => decide (ld < 64)
  | .injectPoison ld dla => decide (ld < 64) && decide (dla < 2 ^ 48)
  | .clearPoison ld dla _ => decide (ld < 64) && decide (dla < 2 ^ 48)
  | .getEventRecords ld _ _ => decide (ld < 64)
  | .getHealthInfo ld => decide (ld < 64)
  | .getParmosReply ld => decide (ld < 64)
  | .mailboxUnsupportedOpcode ld opcode => decide (ld < 64) && decide (opcode.code < 65536) && decide (opcode.payload.length < 2 ^ 20)
  | .getFwInfo ld => decide (ld < 64)
  | .transferFw ld _ data _ => decide (ld < 64) && decide (data.length ≤ 4096)
  | .activateFw ld slot _ => decide (ld < 64) && decide (slot < 3)
  | .flusherTakePage => true
  | .flushDurable page _ => decide (page < 2 ^ 36)
  | .flashProgramFail page _ => decide (page < 2 ^ 36)
  | .writeThroughDurable page _ => decide (page < 2 ^ 36)
  | .paddockLimitUpdate => true
  | .regionCreate c => c.fits
  | .regionSetFlags c => c.fits
  | .regionDelete c => c.fits
  | .regionDcRelease c => c.fits
  | .regionQuery c => c.fits
  | .retypeDone region => decide (region < 4096)
  | .regionDrainDone region => decide (region < 4096)
  | .heatDecaySweep => true
  | .promotionSweep => true
  | .dramEviction => true
  | .vPageSpill page => decide (page < 2 ^ 36)
  | .pageMoveDone page => decide (page < 2 ^ 36)
  | .flashFetchDone page => decide (page < 2 ^ 36)
  | .pageStateFetchDone page _ => decide (page < 2 ^ 36)
  | .tideTableCreate c => c.fits
  | .tideEntryAdd c => c.fits
  | .tideTableOpen c => c.fits
  | .tideTableClose c => c.fits
  | .tideSharerJoin c => c.fits
  | .tideSharerLeave c => c.fits
  | .tideStepSet c => c.fits
  | .sharerIdleTimeout h => decide (h < 4096)
  | .stagingBegin => true
  | .stagingCopyDone page => decide (page < 2 ^ 36)
  | .stagedCopyFree page => decide (page < 2 ^ 36)
  | .stagedUeRecovery page line _ => decide (page < 2 ^ 36) && decide (line < 2 ^ 42)
  | .flashReadDone page _ => decide (page < 2 ^ 36)
  | .stripeCloseTimeout _ => true
  | .garbageCollect _ => true
  | .staticWearLevel _ => true
  | .readDisturbRelocate _ => true
  | .retentionScrub _ _ => true
  | .dieRetire ch _ => decide (ch < 32)
  | .flashChannelLoss ch => decide (ch < 32)
  | .backgroundRestore => true
  | .mapLoad => true
  | .foldExtent => true
  | .sameBankRefresh ch rank => decide (ch < 32) && decide (rank < 4)
  | .refreshManagement ch _ => decide (ch < 32)
  | .dimmThermalRead ch slot _ => decide (ch < 32) && decide (slot < 2)
  | .retrainPause ch => decide (ch < 32)
  | .rowIdleClose ch _ => decide (ch < 32)
  | .panicMaxExpiry ch port => decide (ch < 32) && decide (port < 8)
  | .dramAccessDone _ => true
  | .quayAccessDone _ => true
  | .dramFreqSet c => c.fits
  | .freqChangeDone => true
  | .dimmLoss ch slot => decide (ch < 32) && decide (slot < 2)
  | .dimmRehomePage page => decide (page < 2 ^ 36)
  | .quayChannelLoss ch => decide (ch < 32)
  | .quayRefresh => true
  | .hbmThermalRead _ => true
  | .dClearPass => true
  | .outsideMaskDimmReturn => true
  | .correctedWriteback line => decide (line < 2 ^ 42)
  | .ueRecovery r => decide (r.line < 2 ^ 42)
  | .ueRecoveryResolved line _ => decide (line < 2 ^ 42)
  | .mergeIdleDrain _ word => decide (word < 32768)
  | .patrolScrub tier => decide (tier.tier ≤ 4) && match tier.found with | .corrected d => decide (d < 10 ∨ d = 0xFF) | _ => true
  | .poisonListRebuild => true
  | .pageRetire c => c.fits
  | .rankSpare c => c.fits
  | .evacuationDone => true
  | .checkStart c => c.fits
  | .checkStatus c => c.fits
  | .checkStop c => c.fits
  | .chkCtrlStart unit => decide (unit < 4)
  | .chkCtrlStop unit => decide (unit < 4)
  | .checkScanLine unit => decide (unit < 4)
  | .frontEndFrameRead _ => true
  | .pkAlert _ => true
  | .energyModelUpdate => true
  | .restCorrection => true
  | .healthFade => true
  | .chargeCurrentLoop => true
  | .chargeVoltageLoop => true
  | .heaterLoop => true
  | .packProfileSet c => c.fits
  | .packRehearse c => c.fits
  | .rehearsalStart => true
  | .rehearsalPostpone => true
  | .rehearsalRetry => true
  | .rehTransferTimeout => true
  | .rehPhaseAEnd => true
  | .rehPhaseBEnd => true
  | .rehearsalBlockErase => true
  | .pfailQualified => true
  | .ridePowerReturn => true
  | .rideExpiry => true
  | .saveCommit => true
  | .vaonSample _ => true
  | .epcCSaveWrite _ => true
  | .epcPRunWrite _ => true
  | .rehStartWrite => true
  | .epochMarkTimer => true
  | .resyncPageSend => true
  | .heartbeatSend => true
  | .twinHbFrame _ => true
  | .hbPathLoss _ => true
  | .twinLost => true
  | .claimFrameRenew _ => true
  | .claimFrameClaim _ => true
  | .claimFrameRelease _ => true
  | .claimFrameSent _ => true
  | .epochWriteDone => true
  | .leaseRenewTimer => true
  | .leaseLapseHolder => true
  | .leaseLapseObserver => true
  | .laneStuckDominant lane => decide (lane < 3)
  | .joinWaitExpiry => true
  | .twinGrant c => c.fits
  | .twinHandover c => c.fits
  | .handoverRelease => true
  | .takeover => true
  | .fwdWaitExpiry _ => true
  | .sfSweepPage page => decide (page < 2 ^ 36)
  | .utWrite p => p.fits
  | .utRead p => p.fits
  | .utReadResp p => p.fits
  | .utFadd p => p.fits
  | .utCas p => p.fits
  | .utAtomicResp p => p.fits
  | .utFlush p => p.fits
  | .utFlushAnswer ctx => decide (ctx < 65536)
  | .utAck p => p.fits
  | .utNack p => p.fits
  | .utProbe p => p.fits
  | .utMirror p => p.fits
  | .mirrorAckSend => true
  | .utMirrorAck p => p.fits
  | .epochMark p => p.fits
  | .pageNotice p => p.fits
  | .regionNotice p => p.fits
  | .resyncPage p => p.fits
  | .keptList p => p.fits
  | .staleClear p => p.fits
  | .rehJoin p => p.fits
  | .rehResult p => p.fits
  | .utFwdReq p => p.fits
  | .utFwdResp p => p.fits
  | .utHeartbeat p => p.fits
  | .utCmd p => p.fits
  | .contextFetchDone ctx => decide (ctx < 65536)
  | .sqTailWrite agent ctx _ => decide (agent < 128) && decide (ctx < 65536)
  | .cqHeadWrite agent ctx _ => decide (agent < 128) && decide (ctx < 65536)
  | .leaseDoorbellWrite agent ctx _ => decide (agent < 128) && decide (ctx < 65536)
  | .doorbellApertureStore st => st.fits
  | .descWrite ctx => decide (ctx < 65536)
  | .descRead ctx => decide (ctx < 65536)
  | .descFadd ctx => decide (ctx < 65536)
  | .descCas ctx => decide (ctx < 65536)
  | .descFlush ctx => decide (ctx < 65536)
  | .descWait ctx => decide (ctx < 65536)
  | .waitSlotRetry => true
  | .packetSend ctx msn pkt => decide (ctx < 65536) && decide (msn < 2 ^ 32) && decide (pkt < 64)
  | .mirrorPacketSend => true
  | .retxTimeout ctx msn pkt => decide (ctx < 65536) && decide (msn < 2 ^ 32) && decide (pkt < 64)
  | .messageLifeExpiry ctx msn => decide (ctx < 65536) && decide (msn < 2 ^ 32)
  | .retryResend ctx msn pkt => decide (ctx < 65536) && decide (msn < 2 ^ 32) && decide (pkt < 64)
  | .pathProbeTimer => true
  | .ethLinkDown link => decide (link < 4)
  | .ethLinkUp link => decide (link < 4)
  | .mctHoldExpiry ctx node srcCtx msn => decide (ctx < 65536) && decide (node < 65536) && decide (srcCtx < 65536) && decide (msn < 2 ^ 32)
  | .berthLeaseSweep => true
  | .slowPathPacket link _ => decide (link < 4)
  | .utCtxOpen c => c.fits
  | .utCtxClose c => c.fits
  | .utBerthOpen c => c.fits
  | .utBerthClose c => c.fits
  | .utBerthRenew c => c.fits
  | .utDestSet c => c.fits
  | .commandUnknownOpcode op c => decide (op < 65536) && c.fits
  | .mctpSetEndpointId eid => decide (eid < 256)
  | .mctpGetEndpointId => true
  | .mctpGetVersionSupport => true
  | .mctpGetMessageTypeSupport => true
  | .errLogRead c => c.fits
  | .flashScrubNow c => c.fits
  | .memChannelSet c => c.fits
  | .settingsRead c => c.fits
  | .settingsWrite c => c.fits
  | .keySetAtRest c => c.fits
  | .recInfo c => c.fits
  | .recRead c => c.fits
  | .loopbackSet c => c.fits
  | .loopbackStatus c => c.fits
  | .fwInfo c => c.fits
  | .fwWrite c => c.fits
  | .fwVerify c => c.fits
  | .fwActivate c => c.fits
  | .powerStateSet c => c.fits
  | .standbyEntryDone => true
  | .hostL1Exit head => decide (head < 16)
  | .standbyExitDone => true
  | .aonDrainComplete => true
  | .coreLoad core _ size => decide (core < 9) && decide (size < 9)
  | .coreStore core _ data => decide (core < 9) && decide (data.length ≤ 4096)
  | .storeBufferIssue core => decide (core < 9)
  | .prefetchFill core => decide (core < 9)
  | .cachePrefetch core => decide (core < 9)
  | .cacheZeroLine core => decide (core < 9)
  | .cacheLock core => decide (core < 9)
  | .cacheUnlock core => decide (core < 9)
  | .cacheWriteout core => decide (core < 9)
  | .cacheInval core => decide (core < 9)
  | .cacheDisable core => decide (core < 9)
  | .interruptEntry core => decide (core < 9)
  | .interruptReturn core => decide (core < 9)
  | .laneDisagree lane => decide (lane < 3)
  | .resyncJoin => true
  | .laneInject _ => true
  | .noMajority => true
  | .hmRestartDone => true
  | .stevedoreUe core where_ => decide (core < 11) && where_.fits
  | .stevedoreReloadDone core => decide (core < 9)
  | .coreTimerFire core timer => decide (core < 9) && decide (timer < 2)
  | .watchdogKick core _ => decide (core < 9)
  | .watchdogFire core => decide (core < 9)
  | .sourceEdge src => decide (src < 1024)
  | .icuClaim core => decide (core < 9)
  | .icuComplete core src => decide (core < 9) && decide (src < 1024)
  | .icuPendSet src => decide (src < 1024)
  | .icuPendClr src => decide (src < 1024)
  | .icuSrcCfgWrite src _ => decide (src < 1024)
  | .aonWatchFire src => decide (src < 1024)
  | .refClockLoss => true
  | .refClockRestored => true
  | .refLossResetSave => true
  | .xtalStop => true
  | .xtalRecover => true
  | .vaonPowerOn => true
  | .aonRstAssert => true
  | .pwrGoodRise => true
  | .pwrGoodFall => true
  | .railUndervoltage => true
  | .sysRstQualified => true
  | .startUp _ => true
  | .startupStepTimeout => true
  | .setWordWrite agent word _ => decide (agent < 128) && decide (word < 4096)
  | .settingsWriteDone word => decide (word < 4096)
  | .groupWriteStageDone => true
  | .operatingHoursTick => true
  | .recorderTransfer _ => true
  | .recorderArm => true
  | .registerWrite agent off data => decide (agent < 128) && decide (off < 2 ^ 26) && decide (data.length ≤ 4096)
  | .loopbackGoWrite agent => decide (agent < 128)
  | .loopbackStart slot => decide (slot < 81)
  | .tapReset => true
  | .jtagIdcode => true
  | .jtagBypass => true
  | .jtagSamplePreload _ => true
  | .jtagExtest => true
  | .jtagExtestPulse => true
  | .jtagExtestTrain => true
  | .jtagHighz => true
  | .jtagClamp => true
  | .jtagScan => true
  | .jtagMbist => true
  | .jtagHbm1500 => true
  | .dbgAccess _ off size data => decide (off < 2 ^ 26) && decide (size < 65) && decide (data.length ≤ 4096)
  | .sysRstRelease => true
  | .pfailRise => true
  | .perstRelease port => decide (port < 4)
  | .aonRstRelease => true
  | .twinHbAlignmentAcquire => true
  | .twinHbAlignmentLoss => true
  | .readSnapshot agent off size => decide (agent < 128) && decide (off < 2 ^ 26) && decide (size < 65)
  | .setEventInterruptPolicy ld _ _ => decide (ld < 64)
  | .clearEventRecords ld _ _ => decide (ld < 64)
  | .ideKm head _ _ => decide (head < 16)
  | .gfdDecoderCommit head index d => decide (head < 16) && decide (index < 8) && d.fits
  | .gfamHostUnbind host => decide (host < 1024)
  | .mirrorFetchTimeout page => decide (page < 2 ^ 36)
  | .sharedRehearsalPhaseA => true
  | .onfiChannelTrained ch => decide (ch < 32)
  | .factoryBadBlockRead _ _ => true

end Sys2Proof
end

