-- ==== Sys2Proof/Tests/Slice0.lean ====
section
/-! SUPPORT. Ill-formed commands that WellFormed refuses, a state that meets the hypotheses of each statement, and single steps whose
results come from the spec. -/
set_option Elab.async false
namespace Sys2Proof.Machine.Tests
open Sys2Proof Sys2Proof.Machine

/-! ### WellFormed refuses -/

def hRead : HostRead := ⟨15, 3, 4095, 2 ^ 52 - 1, 0, false, false⟩
def hStore : HostStore := ⟨15, 3, 4095, 2 ^ 52 - 1, 0, 0, 0, false⟩
def hdr : UtHdr := ⟨255, 255, false, false, false, 7, 63, 65535, 65535, 65535, 65535, 2 ^ 32 - 1, 63, 63, 255, 255, 2 ^ 32 - 1, 2 ^ 64 - 1,
  2 ^ 32 - 1, 2 ^ 32 - 1, 2 ^ 32 - 1, 2 ^ 32 - 1, 2 ^ 32 - 1, 0⟩
def pkt : UtPkt := ⟨3, hdr, [], true, 0, false⟩
def cmd : Cmd := ⟨.mctp 255, 2 ^ 32 - 1, 1, 0, 0, 0, 2 ^ 32 - 1, 0, 0, []⟩

/-- 04 R130, R137, R141: 16 heads, 4 LDs on a head, 12-bit PBR IDs, 52-bit addresses. -/
theorem test_wf_hostRead : WellFormed (.hostRead hRead) = true ∧ WellFormed (.hostRead { hRead with head := 16 }) = false ∧
    WellFormed (.hostRead { hRead with ld := 4 }) = false ∧ WellFormed (.hostRead { hRead with pbr := 4096 }) = false ∧
    WellFormed (.hostRead { hRead with addr := 2 ^ 52 }) = false := by decide
theorem test_wf_hostStore : WellFormed (.hostStoreL hStore) = true ∧ WellFormed (.hostStoreL { hStore with head := 16 }) = false ∧
    WellFormed (.hostStoreM { hStore with ld := 4 }) = false ∧ WellFormed (.hostStoreV { hStore with pbr := 4096 }) = false ∧
    WellFormed (.hostWriteback { hStore with addr := 2 ^ 52 }) = false ∧ WellFormed (.doorbellApertureStore { hStore with head := 16 }) = false := by
  decide
theorem test_wf_head : WellFormed (.gpfPhase2Request 15) = true ∧ WellFormed (.gpfPhase2Request 16) = false ∧
    WellFormed (.gpfPhase2Complete 16) = false ∧ WellFormed (.viralReceived 16) = false ∧ WellFormed (.ideMacFailure 16) = false ∧
    WellFormed (.cxlLinkDown 16) = false ∧ WellFormed (.hostL1Exit 16) = false ∧ WellFormed (.ideKm 16 .off false) = false := by decide
/-- Speeds and widths of CXP_LNK_STATUS; interleaving of 04 R144. -/
theorem test_wf_link : WellFormed (.cxlLinkTrainAttempt 15 ⟨true, 4, 16⟩) = true ∧ WellFormed (.cxlLinkTrainAttempt 16 ⟨true, 4, 16⟩) = false ∧
    WellFormed (.cxlLinkTrainAttempt 15 ⟨true, 5, 16⟩) = false ∧ WellFormed (.cxlLinkTrainAttempt 15 ⟨true, 4, 3⟩) = false ∧
    WellFormed (.perstAssert 4) = false ∧ WellFormed (.perstRelease 4) = false := by decide
theorem test_wf_decoder : WellFormed (.gfdDecoderCommit 0 0 ⟨0, 0, 16, 16384, 0⟩) = true ∧
    WellFormed (.gfdDecoderCommit 16 0 ⟨0, 0, 16, 16384, 0⟩) = false ∧ WellFormed (.gfdDecoderCommit 0 8 ⟨0, 0, 16, 16384, 0⟩) = false ∧
    WellFormed (.gfdDecoderCommit 0 0 ⟨0, 0, 3, 16384, 0⟩) = false ∧ WellFormed (.gfdDecoderCommit 0 0 ⟨0, 0, 16, 512 + 1, 0⟩) = false := by decide
theorem test_wf_host : WellFormed (.gfamHostBind 1023 4095 15) = true ∧ WellFormed (.gfamHostBind 1024 0 0) = false ∧
    WellFormed (.gfamHostBind 0 4096 0) = false ∧ WellFormed (.gfamHostBind 0 0 16) = false ∧ WellFormed (.gfamHostUnbind 1024) = false := by
  decide
theorem test_wf_ld : WellFormed (.functionLevelReset 63) = true ∧ WellFormed (.functionLevelReset 64) = false ∧
    WellFormed (.getPoisonList 64) = false ∧ WellFormed (.injectPoison 64 0) = false ∧ WellFormed (.injectPoison 0 (2 ^ 48)) = false ∧
    WellFormed (.clearPoison 64 0 0) = false ∧ WellFormed (.clearPoison 0 (2 ^ 48) 0) = false ∧ WellFormed (.getHealthInfo 64) = false ∧
    WellFormed (.getParmosReply 64) = false ∧ WellFormed (.mailboxUnsupportedOpcode 64 ⟨0, []⟩) = false ∧
    WellFormed (.mailboxUnsupportedOpcode 0 ⟨65536, []⟩) = false ∧ WellFormed (.getFwInfo 64) = false := by decide
theorem test_wf_dc : WellFormed (.hostDcRelease 63 4095) = true ∧ WellFormed (.hostDcRelease 64 0) = false ∧
    WellFormed (.hostDcRelease 0 4096) = false ∧ WellFormed (.hostDcAddResponse 64 0 true) = false ∧
    WellFormed (.hostDcAddResponse 0 4096 true) = false ∧ WellFormed (.dcOfferTimeout 4096) = false ∧ WellFormed (.retypeDone 4096) = false ∧
    WellFormed (.regionDrainDone 4096) = false := by decide
theorem test_wf_page : WellFormed (.pageMoveDone (2 ^ 36 - 1)) = true ∧ WellFormed (.pageMoveDone (2 ^ 36)) = false ∧
    WellFormed (.vPageSpill (2 ^ 36)) = false ∧ WellFormed (.flashFetchDone (2 ^ 36)) = false ∧ WellFormed (.stagingCopyDone (2 ^ 36)) = false ∧
    WellFormed (.stagedCopyFree (2 ^ 36)) = false ∧ WellFormed (.dimmRehomePage (2 ^ 36)) = false ∧ WellFormed (.sfSweepPage (2 ^ 36)) = false ∧
    WellFormed (.mirrorFetchTimeout (2 ^ 36)) = false := by decide
theorem test_wf_line : WellFormed (.landingDrain (2 ^ 42 - 1)) = true ∧ WellFormed (.landingDrain (2 ^ 42)) = false ∧
    WellFormed (.birspReceived ⟨1024, 0, false, false⟩) = false ∧ WellFormed (.birspReceived ⟨0, 2 ^ 42, false, false⟩) = false ∧ WellFormed (.bisnpTimeout (2 ^ 42) 0) = false ∧
    WellFormed (.bisnpTimeout 0 1024) = false ∧ WellFormed (.correctedWriteback (2 ^ 42)) = false ∧ WellFormed (.ueRecovery ⟨2 ^ 42, .demand⟩) = false := by
  decide
theorem test_wf_channel : WellFormed (.flashChannelLoss 31) = true ∧ WellFormed (.flashChannelLoss 32) = false ∧
    WellFormed (.sameBankRefresh 32 0) = false ∧ WellFormed (.sameBankRefresh 0 4) = false ∧ WellFormed (.retrainPause 32) = false ∧
    WellFormed (.panicMaxExpiry 32 0) = false ∧ WellFormed (.panicMaxExpiry 0 8) = false ∧ WellFormed (.dimmLoss 32 0) = false ∧
    WellFormed (.dimmLoss 0 2) = false ∧ WellFormed (.quayChannelLoss 32) = false ∧ WellFormed (.rowIdleClose 32 0) = false ∧
    WellFormed (.onfiChannelTrained 32) = false := by decide
theorem test_wf_unit : WellFormed (.chkCtrlStart 3) = true ∧ WellFormed (.chkCtrlStart 4) = false ∧ WellFormed (.chkCtrlStop 4) = false ∧
    WellFormed (.checkScanLine 4) = false ∧ WellFormed (.laneStuckDominant 3) = false ∧ WellFormed (.laneDisagree 3) = false ∧
    WellFormed (.sharerIdleTimeout 4096) = false ∧ WellFormed (.mergeIdleDrain 0 32768) = false := by decide
/-- 13 R493, R499: each field of the header within its width, one of four links. -/
theorem test_wf_utHeader : WellFormed (.utWrite pkt) = true ∧ WellFormed (.utWrite { pkt with link := 4 }) = false ∧
    WellFormed (.utRead { pkt with hdr := { hdr with ver := 256 } }) = false ∧ WellFormed (.utFadd { pkt with hdr := { hdr with op := 256 } }) = false ∧
    WellFormed (.utCas { pkt with hdr := { hdr with cls := 8 } }) = false ∧ WellFormed (.utAck { pkt with hdr := { hdr with path := 64 } }) = false ∧
    WellFormed (.utNack { pkt with hdr := { hdr with srcNode := 65536 } }) = false ∧
    WellFormed (.utProbe { pkt with hdr := { hdr with srcCtx := 65536 } }) = false ∧
    WellFormed (.utMirror { pkt with hdr := { hdr with dstNode := 65536 } }) = false ∧
    WellFormed (.utMirrorAck { pkt with hdr := { hdr with dstCtx := 65536 } }) = false ∧
    WellFormed (.epochMark { pkt with hdr := { hdr with msn := 2 ^ 32 } }) = false ∧
    WellFormed (.pageNotice { pkt with hdr := { hdr with pkt := 64 } }) = false := by decide
theorem test_wf_utHeader2 : WellFormed (.regionNotice { pkt with hdr := { hdr with npktM1 := 64 } }) = false ∧
    WellFormed (.resyncPage { pkt with hdr := { hdr with berth := 256 } }) = false ∧
    WellFormed (.keptList { pkt with hdr := { hdr with code := 256 } }) = false ∧
    WellFormed (.staleClear { pkt with hdr := { hdr with gen := 2 ^ 32 } }) = false ∧
    WellFormed (.rehJoin { pkt with hdr := { hdr with offset := 2 ^ 64 } }) = false ∧
    WellFormed (.rehResult { pkt with hdr := { hdr with len := 2 ^ 32 } }) = false ∧
    WellFormed (.utFwdReq { pkt with hdr := { hdr with ackFloor := 2 ^ 32 } }) = false ∧
    WellFormed (.utFwdResp { pkt with hdr := { hdr with txTime := 2 ^ 32 } }) = false ∧
    WellFormed (.utHeartbeat { pkt with hdr := { hdr with echoTime := 2 ^ 32 } }) = false ∧
    WellFormed (.utCmd { pkt with hdr := { hdr with residence := 2 ^ 32 } }) = false := by decide
theorem test_wf_payload : WellFormed (.utReadResp { pkt with payload := List.replicate 8193 0 }) = false := by
  show (true && true && decide ((List.replicate 8193 (0 : Byte)).length ≤ 8192)) = false
  rw [List.length_replicate]; rfl
theorem test_wf_context : WellFormed (.descWrite 65535) = true ∧ WellFormed (.descWrite 65536) = false ∧ WellFormed (.utFlushAnswer 65536) = false ∧
    WellFormed (.contextFetchDone 65536) = false ∧ WellFormed (.sqTailWrite 128 0 0) = false ∧ WellFormed (.cqHeadWrite 0 65536 0) = false ∧
    WellFormed (.packetSend 0 (2 ^ 32) 0) = false ∧ WellFormed (.retxTimeout 0 0 64) = false ∧ WellFormed (.messageLifeExpiry 65536 0) = false ∧
    WellFormed (.mctHoldExpiry 0 65536 0 0) = false ∧ WellFormed (.ethLinkDown 4) = false ∧ WellFormed (.ethLinkUp 4) = false ∧
    WellFormed (.slowPathPacket 4 60) = false := by decide
theorem test_wf_command : WellFormed (.regionQuery cmd) = true ∧ WellFormed (.regionQuery { cmd with len := 2 ^ 32 }) = false ∧
    WellFormed (.fwInfo { cmd with byteCount := 2 ^ 32 }) = false ∧ WellFormed (.recInfo { cmd with carrier := .mailbox 64 }) = false ∧
    WellFormed (.recRead { cmd with carrier := .mctp 256 }) = false ∧ WellFormed (.fwVerify { cmd with carrier := .ut 65536 0 }) = false ∧
    WellFormed (.fwActivate { cmd with carrier := .ut 0 65536 }) = false ∧ WellFormed (.commandUnknownOpcode 65536 cmd) = false ∧
    WellFormed (.mctpSetEndpointId 256) = false := by decide
theorem test_wf_core : WellFormed (.coreLoad 8 0 8) = true ∧ WellFormed (.coreLoad 9 0 8) = false ∧ WellFormed (.coreLoad 0 0 9) = false ∧
    WellFormed (.cacheLock 9) = false ∧ WellFormed (.interruptEntry 9) = false ∧ WellFormed (.stevedoreUe 0 (.entry 48)) = false ∧
    WellFormed (.stevedoreUe 0 (.side (2 ^ 58))) = false ∧ WellFormed (.coreTimerFire 0 2) = false ∧ WellFormed (.watchdogKick 9 0) = false := by
  decide
theorem test_wf_source : WellFormed (.sourceEdge 1023) = true ∧ WellFormed (.sourceEdge 1024) = false ∧ WellFormed (.icuComplete 0 1024) = false ∧
    WellFormed (.icuClaim 9) = false ∧ WellFormed (.icuPendSet 1024) = false ∧ WellFormed (.icuPendClr 1024) = false ∧
    WellFormed (.icuSrcCfgWrite 1024 0) = false ∧ WellFormed (.aonWatchFire 1024) = false := by decide
theorem test_wf_register : WellFormed (.registerWrite 127 (2 ^ 26 - 4) [0, 0, 0, 0]) = true ∧ WellFormed (.registerWrite 128 0 []) = false ∧
    WellFormed (.registerWrite 0 (2 ^ 26) []) = false ∧ WellFormed (.readSnapshot 0 0 65) = false ∧ WellFormed (.setWordWrite 0 4096 0) = false ∧
    WellFormed (.settingsWriteDone 4096) = false ∧ WellFormed (.loopbackStart 81) = false ∧ WellFormed (.loopbackGoWrite 128) = false ∧
    WellFormed (.dbgAccess true (2 ^ 26) 4 []) = false := by decide

/-! ### States -/

/-- Out of reset with memory active in FULL; each source named by a statement enabled at its highest priority and sent to every target;
core 0 and its target run. -/
def up : State :=
  ({ State.reset with
      clk := { State.reset.clk with inReset := false },
      icu := { State.reset.icu with
        mainOff := false, tgt := [(0, 0x100)], running := [0],
        cfg := [(18, 0x81FF000F), (54, 0x80000000), (65, 0x80000000), (97, 0x80000000), (256, 0x80000000), (344, 0x80000000), (439, 0x80000000),
          (450, 0x80000000), (562, 0x80000000), (564, 0x80000000)] } } : State).fset F.CLK_STATUS_MEM_ACTIVE 1

/-- Nothing is due in a state. -/
def rests (s : State) : Bool := s.quiet && s.settleStep.isNone
theorem calm_of {s : State} (h : rests s = true) : s.Calm := by
  obtain ⟨q, n⟩ := Bool.and_eq_true_iff.1 h
  exact State.calm_of_none q (Option.isNone_iff_eq_none.1 n)
theorem icuWf_of {c : Icu} (h : (c.pend.all validSource && c.active.all (fun p => validSource p.1)) = true)
    (n : (c.active.map (·.1)).Nodup) : c.Wf := by
  simp only [Bool.and_eq_true, List.all_eq_true] at h
  exact ⟨fun x hx => h.1 x hx, fun p hp => h.2 p hp, n⟩
/-- What Canon asks but the interrupt controller. -/
def sorted (s : State) : Bool :=
  swf 0 s.regs && swf 0 s.sets.cells && swf 0 s.sets.counts && swf Block.empty s.flash.blocks && swf 0 s.dram.data && swf 0 s.quay.hot &&
    swf 0 s.quay.staged && swf 0 s.flash.data && swf 0 s.flash.loftData
theorem canon_of {s : State} (h : sorted s = true) (i : s.icu.Wf) : s.Canon := by
  simp only [sorted, Bool.and_eq_true] at h
  obtain ⟨⟨⟨⟨⟨⟨⟨⟨a, b⟩, c⟩, d⟩, e⟩, f⟩, g⟩, k⟩, l⟩ := h
  exact ⟨a, b, c, d, e, f, g, k, l, i⟩
theorem up_canon : up.Canon := canon_of (by decide +kernel) (icuWf_of (by decide +kernel) (by decide +kernel))
theorem up_calm : up.Calm := calm_of (by decide +kernel)
theorem up_regs : swf 0 up.regs = true := up_canon.regs

/-- A packet of an opcode with its CRC. -/
def sealed (op : Nat) (c : Cmd) : Cmd := { c with crc := BitVec.ofNat 32 (crcOf 0 (c.header op ++ c.payload)) }
/-- REGION_QUERY of index `i` from an MCTP endpoint. -/
def query (i : Nat) : Cmd := sealed 0x0105 ⟨.mctp 8, 36, 1, 0, 0, 0, 4, 0, 0, natBytes 4 i⟩

/-! ### Hypotheses that are met -/

theorem witness_StepRunsTheFrontCommand : ({ State.reset with pending := [.tapReset, .quayRefresh] } : State).pending = .tapReset :: [.quayRefresh] := rfl
theorem witness_EmptyQueuePassesACycle : State.reset.pending = [] := rfl
theorem witness_EveryStepKeeps : step State.reset = .next { State.reset with now := 1 } := by
  show Host.Outcome.next _ = _
  rfl
/-- Word 7 has been written 10,000,000 times. -/
def worn : State := { up with sets := { up.sets with cells := [(7, 5)], counts := [(7, 10000000)] } }
theorem worn_canon : worn.Canon := canon_of (by decide +kernel) (icuWf_of (by decide +kernel) (by decide +kernel))
theorem witness_FrozenWordIsNeverWrittenAgain : worn.Canon ∧ worn.Runs worn 0 ∧ worn.frozenWord 7 = true ∧ worn.cell 7 = 5 :=
  ⟨worn_canon, rfl, by decide +kernel, by decide +kernel⟩
def retired : State :=
  { up with dram := { up.dram with retired := [3], retiredRanks := [1] }, integ := { up.integ with quayRetired := [9] },
            flash := { up.flash with deadDies := [2], blocks := [(4, { Block.empty with bad := true, use := .reserved, wear := 12 })] } }
theorem witness_RetirementIsForGood : retired.Canon ∧ retired.Runs retired 0 ∧ (retired.block 4).bad = true :=
  ⟨canon_of (by decide +kernel) (icuWf_of (by decide +kernel) (by decide +kernel)), rfl, by decide +kernel⟩
theorem witness_ReservedSourcesNeverPend : up.Canon ∧ up.Runs up 0 ∧ up.Calm ∧ validSource 0 = false ∧ validSource 24 = false ∧
    validSource 627 = false ∧ validSource 1 = true ∧ validSource 626 = true :=
  ⟨up_canon, rfl, up_calm, by decide, by decide, by decide, by decide, by decide⟩
/-- A refusal that changes nothing, one of LOOPBACK_SET that is recorded and one of FW_VERIFY that fails the staged image. -/
theorem witness_RefusedCommandChangesNothing :
    (up.checkCmd 0x0105 (cmdTable 0x0105) { query 0 with len := 5 }).status ≠ St.success ∧
    (up.checkCmd 0x0A01 (cmdTable 0x0A01) (query 0)).status ≠ St.success ∧
    (up.checkCmd 0x0A01 (cmdTable 0x0A01) (sealed 0x0A01 ⟨.mctp 8, 40, 1, 0, 0, 0, 8, 0, 0, [0, 0, 0, 1, 0, 0, 0, 0]⟩)).status ≠ St.success ∧
    (up.checkCmd 0x0B03 (cmdTable 0x0B03) (query 0)).status ≠ St.success := by decide +kernel
theorem witness_CommandChecksInOrder_1 :
    let c := query 0
    c.byteCount = 32 + c.len ∧ c.len ≤ 4096 ∧ { c with len := 4097, byteCount := 4129 }.len > 4096 ∧ { c with byteCount := 35 }.byteCount ≠ 32 + c.len ∧
    c.crcOk 0x0105 = true ∧ { c with crc := c.crc + 1 }.crcOk 0x0105 = false ∧ (sealed 0x0105 { c with ver := 2 }).crcOk 0x0105 = true ∧
    c.ver = 1 ∧ (cmdTable 0xFFFF).isNone = true ∧ (sealed 0xFFFF c).crcOk 0xFFFF = true := by decide +kernel
theorem witness_CommandChecksInOrder_2 :
    let c := query 0
    (sealed 0x0105 { c with flags := 2 }).headerFault (c.len = 4) = some 0x8001 ∧ (sealed 0x0105 { c with flags := 2 }).crcOk 0x0105 = true ∧
    c.headerFault (c.len = 4) = none ∧ up.hostLd c = none ∧ up.hostLd { c with carrier := .mailbox 1 } = some 1 ∧
    defTwinGrant.host = false ∧ c.flags.getLsbD 0 = false ∧ up.memActive = true ∧ defRegionQuery.mode c up = 0 ∧
    State.reset.memActive = false ∧ earlyOp 0x0105 = false := by decide +kernel
theorem witness_CommandChecksInOrder_3 :
    let c := sealed 0x0105 { query 0 with flags := 1, token := 1 }
    c.crcOk 0x0105 = true ∧ c.flags.getLsbD 0 = true ∧ up.tokenOk c.token = false ∧ up.tokenOk 0 = true ∧
    defRegionQuery.mode c (up.fset F.CLK_STATUS_PWR_STATE 2) ≠ 0 ∧ (up.fset F.CLK_STATUS_PWR_STATE 2).memActive = true := by decide +kernel
/-- RGN_UNMAPPED_CNT at its largest value, one below, and at 0; the register store canonical at each. -/
theorem witness_CountersSaturate :
    let c := F.RGN_UNMAPPED_CNT_VALUE
    let d := F.RGN_TBL_STATUS_UNMAPPED_SAT
    c.key ≠ d.key ∧ d.width = 1 ∧ 1 < c.width ∧ validSource 54 = true ∧ up.icu.mainOff = false ∧ up.icu.en 54 = true ∧ up.icu.en 55 = false ∧
    (∀ v ∈ [0, 2 ^ 32 - 3, 2 ^ 32 - 2, 2 ^ 32 - 1], swf 0 (up.fset c v).regs = true ∧ (up.fset c v).fget c = v) := by decide +kernel
/-- d = 1, d = half the range, and a = b. -/
theorem witness_SerialNumberOrder : newer 8 0 255 = true ∧ (0x80 + 2 ^ 8 - 0) % 2 ^ 8 = 2 ^ (8 - 1) ∧ (7 + 2 ^ 8 - 7) % 2 ^ 8 = 0 := by decide
theorem witness_SourceEdgeLatches : 16 < 18 ∧ validSource 18 = true ∧ up.mainOn = true ∧ up.icu.mainOff = false ∧ up.icu.en 18 = true ∧
    up.icu.en 17 = false ∧ validSource 17 = true ∧ (up.raise 18).Calm ∧ (up.raise 17).Calm :=
  ⟨by decide, by decide, by decide +kernel, rfl, by decide, by decide, by decide, calm_of (by decide +kernel), calm_of (by decide +kernel)⟩
theorem witness_SourceConfigWrite : validSource 18 = true ∧ up.mainOn = true ∧ (up.icuSrcCfg 18 0).Calm ∧ (up.icuSrcCfg 18 0x80000000).Calm :=
  ⟨by decide, by decide +kernel, calm_of (by decide +kernel), calm_of (by decide +kernel)⟩
/-- Source 18 is presented to target 0 after its edge; to target 1 nothing is. -/
theorem witness_ClaimMakesSourceActive : swf 0 (up.raise 18).regs = true ∧ (up.raise 18).fget F.ICU_ZERO_CLAIM_CNT_VALUE + 1 < 2 ^ 32 - 1 ∧
    sget 0 (up.raise 18).icu.presented 0 = 18 ∧ 18 ∈ (up.raise 18).icu.cand ∧ (up.raise 18).icu.mayTake 0 18 = true ∧
    sget 0 (up.raise 18).icu.presented 1 = 0 := by decide +kernel
theorem witness_CompleteEndsSource :
    let s : State := { up with icu := { up.icu with active := [(18, 0)] } }
    swf 0 s.regs = true ∧ s.fget F.ICU_BAD_COMPLETE_CNT_VALUE + 1 < 2 ^ 32 - 1 ∧ (18, 0) ∈ s.icu.active ∧ (18, 1) ∉ s.icu.active := by
  decide +kernel
/-- Two bytes; four bytes at an odd word; eight bytes at an odd doubleword. -/
theorem witness_IllSizedWriteIsIgnored : up.mapReach 127 2 = true ∧ up.mapReach 127 4 = true ∧ swf 0 up.regs = true ∧
    up.fget F.GEN_IGN_WR_CNT_VALUE + 1 < 2 ^ 32 - 1 ∧ up.bit F.GEN_IGN_LAST_VALID = false ∧ 2 % 4 ≠ 0 ∧ 4 % 8 ≠ 0 ∧
    (up.regWrite 127 2 [1, 2]).Calm ∧ (up.regWrite 127 2 [1, 2, 3, 4]).Calm ∧ (up.regWrite 127 4 [1, 2, 3, 4, 5, 6, 7, 8]).Calm :=
  ⟨by decide +kernel, by decide +kernel, up_regs, by decide +kernel, by decide +kernel, by decide, by decide,
    calm_of (by decide +kernel), calm_of (by decide +kernel), calm_of (by decide +kernel)⟩
theorem witness_IllSizedReadReturnsZeros : up.mapReach 127 0 = true ∧ readOk 0 3 = false ∧ readOk 2 4 = false ∧
    (up.emit (.regData 127 (List.replicate 3 0) (regLat 127 0))).Calm :=
  ⟨by decide +kernel, by decide, by decide, calm_of (by decide +kernel)⟩
/-- Word 4095 holds 0; 40 CORE cycles on the next EPC cycle begins, one cycle earlier it has not. -/
theorem witness_EqualSettingsWriteIsNotIssued : up.frozenWord 4095 = false ∧ 0 < 2 ^ 32 ∧ 0 = up.cell 4095 ∧ 1 ≠ up.cell 4095 ∧
    (∀ x ∈ up.sets.writes, x.word % 16 ≠ 4095 % 16) ∧ epcCycle up.now < epcCycle 40 ∧ ¬ epcCycle up.now < epcCycle 39 :=
  ⟨by decide +kernel, by decide, by decide +kernel, by decide +kernel, by decide +kernel, by decide +kernel, by decide +kernel⟩
/-- A write to word 5 that issued exactly 2.1 µs ago. -/
def writing : State := { up with now := ns 2100, sets := { up.sets with writes := [⟨5, 7, 0, true, some 0⟩] } }
theorem witness_SettingsWriteDone : writing.Canon ∧ writing.sets.writes.find? (fun y => y.word = 5 && y.issued.isSome) = some ⟨5, 7, 0, true, some 0⟩ ∧
    0 + ns 2100 ≤ writing.now ∧ writing.frozenWord 5 = false ∧ (writing.setWriteDone 5).Calm :=
  ⟨canon_of (by decide +kernel) (icuWf_of (by decide +kernel) (by decide +kernel)), by decide +kernel, by decide +kernel, by decide +kernel,
    calm_of (by decide +kernel)⟩
theorem witness_RecorderArmsOnce : up.armed = false ∧ (up.setBit F.REC_STATUS_ARMED true).armed = true ∧
    (up.setBit F.REC_STATUS_ARMED true).Calm ∧ (({ up with recd := Recorder.reset } : State).setBit F.REC_STATUS_ARMED true).Calm :=
  ⟨by decide +kernel, by decide +kernel, calm_of (by decide +kernel), calm_of (by decide +kernel)⟩
theorem witness_ReferenceClockLoss : up.bit F.CLK_STATUS_REF_LOST = false ∧ up.clk.inReset = false ∧
    up.fget F.CLK_REF_LOSS_CNT_VALUE + 1 < 2 ^ 32 - 1 ∧ up.icu.en 562 = true ∧ up.refLoss.Calm ∧ (up.setBit F.CLK_STATUS_REF_LOST false).Calm :=
  ⟨by decide +kernel, rfl, by decide +kernel, by decide, calm_of (by decide +kernel), calm_of (by decide +kernel)⟩
theorem witness_CrystalStopAndReturn : up.clk.xtalAt = 0 ∧ up.icu.en 564 = true ∧ up.xtalStop.Calm ∧ up.xtalBack.Calm :=
  ⟨rfl, by decide, calm_of (by decide +kernel), calm_of (by decide +kernel)⟩
theorem witness_MainResetRestoresRegisters : F.RGN_PLACE_CTRL_PROMOTE.lo < 64 ∧ aonOff F.RGN_PLACE_CTRL_PROMOTE.off = false ∧
    F.RGN_PLACE_CTRL_PROMOTE.key ≠ F.TST_STATUS_TAP_ACTIVE.key := by decide
/-- One below the threshold of 2,800 mV, and at it. -/
theorem witness_VaonSampleReport : 2799 < 2 ^ 16 ∧ (up.vaonSample 2799).Calm ∧ (up.vaonSample 2800).Calm ∧ up.icu.en 439 = true :=
  ⟨by decide, calm_of (by decide +kernel), calm_of (by decide +kernel), by decide⟩
/-- One sixteenth of an hour before 24 hours, and at 24 hours. -/
theorem witness_HealthFadesDaily :
    let b := up.fset F.REC_HOURS_VALUE 383
    let t := up.fset F.REC_HOURS_VALUE 384
    b.fget F.REC_HOURS_VALUE < b.epc.fadeAt + 384 ∧ b.Calm ∧ t.epc.fadeAt + 384 ≤ t.fget F.REC_HOURS_VALUE ∧ t.healthFade.Calm :=
  ⟨by decide +kernel, calm_of (by decide +kernel), by decide +kernel, calm_of (by decide +kernel)⟩
theorem witness_RideEndsWithPowerBack :
    let r := up.fset F.EPC_STATUS_PF_STATE 1
    swf 0 r.regs = true ∧ r.clk.inReset = false ∧ r.fget F.EPC_STATUS_PF_STATE = 1 ∧ r.rideReturn.Calm ∧ up.fget F.EPC_STATUS_PF_STATE ≠ 1 ∧ up.Calm :=
  ⟨by decide +kernel, by decide +kernel, by decide +kernel, calm_of (by decide +kernel), by decide +kernel, up_calm⟩
/-- Bank 1027 of channel 1, its row unused for exactly IDLE cycles of the DRAM clock, and for none. -/
def rowOpen : State := { up.fset F.DMC_PAGE_CTRL_IDLE 8 with now := 20, dram := { up.dram with rows := [(1027, some ⟨5, 0⟩)] } }
def rowUsed : State := { rowOpen with dram := { up.dram with rows := [(1027, some ⟨5, 20⟩)] } }
theorem witness_IdleRowCloses : sget none rowOpen.dram.rows 1027 = some ⟨5, 0⟩ ∧ 1027 / 1024 = 1 ∧
    rowOpen.fget F.DMC_PAGE_CTRL_IDLE * 2000 ≤ (rowOpen.now - 0) * rowOpen.ddrMhz ∧ (rowOpen.rowIdle 1 1027).Calm ∧
    sget none rowUsed.dram.rows 1027 = some ⟨5, 20⟩ ∧ (rowUsed.now - 20) * rowUsed.ddrMhz < rowUsed.fget F.DMC_PAGE_CTRL_IDLE * 2000 ∧ rowUsed.Calm :=
  ⟨by decide +kernel, by decide, by decide +kernel, calm_of (by decide +kernel), by decide +kernel, by decide +kernel, calm_of (by decide +kernel)⟩
/-- The one DIMM of channel 0 and of channel 11. -/
theorem witness_DimmLossIsRecorded :
    let s : State := { up with dram := { up.dram with pop := { up.dram.pop with dpc := 1 } } }
    swf 0 s.regs = true ∧ 0 < s.dram.pop.dpc ∧ s.clk.inReset = false ∧ 0 * 2 + 0 ∉ s.dram.lost ∧ 11 * 2 + 0 ∉ s.dram.lost ∧
    (∀ d < s.dram.pop.dpc, d = 0 ∨ 0 * 2 + d ∈ s.dram.lost) ∧ s.icu.mainOff = false ∧ s.icu.en (256 + 8 * 0) = true ∧ s.icu.en (256 + 8 * 11) = true := by
  decide +kernel
/-- A link ACTIVE on head 0, whose LD 0 has no decoder. -/
def linked : State := up.fset (lnk F.CXP_LNK_STATUS_STATE 0) 4
theorem witness_UnmappedReadReturnsPoison :
    swf 0 linked.regs = true ∧ linked.aperture 0 0 0 0 = none ∧ linked.takes 0 = true ∧ linked.power ≠ 2 ∧ linked.clk.move = .none ∧
    linked.slotFree 0 true = true ∧ linked.cxl.ingress = [] ∧ linked.locate 0 0 0 0 = .unmapped none ∧
    linked.fget F.RGN_UNMAPPED_CNT_VALUE + 1 < 2 ^ 32 - 1 ∧ (Run.start linked.now).dead = false :=
  ⟨by decide +kernel, by decide +kernel, by decide +kernel, by decide +kernel, rfl, by decide +kernel, rfl, by decide +kernel, by decide +kernel, rfl⟩
theorem witness_MailboxRefusesOtherOpcodes : 0xFFFF ∉ ownRows ++ stdRows ++ fmRows ∧ up.mboxUp 0 = true ∧ up.mboxBusy 0 = false ∧
    (up.emit (.mbox 0 .unsupported [])).Calm :=
  ⟨by decide, by decide +kernel, by decide +kernel, calm_of (by decide +kernel)⟩
/-- An L store of bytes 0 and 63 of line 65, admitted and waiting to drain into its page in DRAM. -/
def entry : LandEntry :=
  { id := 1, line := 65, data := 0xAB, mask := 0x8000000000000001, region := 0, cls := .l, mseq := none, time := 0, origin := .internal .c5,
    poison := false, held := false, localOk := true, twinOk := true, wt := false, acked := true, drained := false, heldAt := 0, ready := 0, lat := none }
def landed : State := { up.setPage 1 { PageWord.fresh with zero := false, d := true } with pers := { up.pers with landing := [entry] } }
theorem witness_LandingDrainWritesOneLine : landed.Canon ∧ landed.pers.landing.find? (fun x => x.line = 65 && !x.drained) = some entry ∧
    landed.running = true ∧ landed.dramBusy = false ∧ entry.held = false ∧ landed.dValid (65 / 64) = true ∧
    landed.integ.recov = [] ∧ landed.frameOf (65 / 64) = 0 ∧ sget 0 landed.quay.hotQa (65 / 64) = 0 :=
  ⟨canon_of (by decide +kernel) (icuWf_of (by decide +kernel) (by decide +kernel)), by decide +kernel, by decide +kernel, by decide +kernel, rfl,
    by decide +kernel, rfl, by decide +kernel, by decide +kernel⟩
theorem witness_CrcRegisterFitsItsWidth : ∀ p < 4, 2 ^ (crcKind p).width - 1 < 2 ^ (crcKind p).width := by decide
/-- Entry 4095 is ACTIVE in `defined` and FREE in `up`; 4096 lies past the table. -/
def defined : State := { up with rgn := { up.rgn with regions := [(4095, { Region.empty with state := .active })] } }
theorem witness_RegionQueryAnswersTheEntry : (∀ i ∈ [4095, 4096], let c := query i
    c.byteCount = 32 + c.len ∧ c.len = 4 ∧ c.crcOk 0x0105 = true ∧ c.ver = 1 ∧ c.flags = 0 ∧ c.reserved = 0 ∧ defined.isMgmt c.carrier = true ∧
      c.fld 2 1 = 0 ∧ c.fld 3 1 = 0 ∧ c.fld 0 2 = i) ∧
    defined.memActive = true ∧ defined.power ≠ 2 ∧ (defined.region 4095).state ≠ .free ∧ (up.region 4095).state = .free := by decide +kernel
/-- IDLE 1: a sharer not heard for exactly 100 ms, and one for a cycle less. -/
def sharing (t : Nat) : State :=
  { up.fset F.TIDE_CTRL_IDLE 1 with now := t, sharers := [(0, { Sharer.empty with state := .active, step := 9 })] }
theorem witness_IdleSharerGoesDormant : ((sharing (ms 100)).sharer 0).state = .active ∧ (sharing (ms 100)).fget F.TIDE_CTRL_IDLE ≠ 0 ∧
    ms (100 * (sharing (ms 100)).fget F.TIDE_CTRL_IDLE) ≤ (sharing (ms 100)).now - ((sharing (ms 100)).sharer 0).seen ∧
    (sharing (ms 100 - 1)).now - ((sharing (ms 100 - 1)).sharer 0).seen < ms (100 * (sharing (ms 100 - 1)).fget F.TIDE_CTRL_IDLE) ∧
    (sharing (ms 100 - 1)).Calm ∧ up.icu.en 65 = true :=
  ⟨by decide +kernel, by decide +kernel, by decide +kernel, by decide +kernel, calm_of (by decide +kernel), by decide⟩
/-- Both heartbeat paths up, silent for exactly 1.0 ms. -/
def silent : State := { ((up.setBit F.TWN_STATUS_HB_SIDE true).setBit F.TWN_STATUS_HB_MIR true) with now := ms 1 }
theorem witness_HeartbeatPathLoss : swf 0 silent.regs = true ∧ silent.clk.inReset = false ∧ silent.bit F.TWN_STATUS_HB_SIDE = true ∧
    silent.bit F.TWN_STATUS_HB_MIR = true ∧ ms 1 ≤ silent.now - silent.twin.sideTime ∧ ms 1 ≤ silent.now - silent.twin.mirTime ∧
    silent.fget F.TWN_HB_LOSS_CNT_VALUE + 1 < 2 ^ 32 - 1 ∧ up.icu.en 450 = true ∧ (silent.hbPathLoss true).Calm ∧ (silent.hbPathLoss false).Calm :=
  ⟨by decide +kernel, by decide +kernel, by decide +kernel, by decide +kernel, by decide +kernel, by decide +kernel, by decide +kernel, by decide,
    calm_of (by decide +kernel), calm_of (by decide +kernel)⟩
def leased (t : Nat) : State := { up with now := t, twin := { up.twin with peerFree := false, peerSets := 3, peerRenew := 0 } }
theorem witness_ObserverLeaseLapses : (leased (ms 4)).twin.peerFree = false ∧ ms 4 ≤ (leased (ms 4)).now - (leased (ms 4)).twin.peerRenew ∧
    ({ leased (ms 4) with twin := { (leased (ms 4)).twin with peerFree := true, peerSets := 0, peerAct := 0 } } : State).Calm ∧
    (leased (ms 4 - 1)).now - (leased (ms 4 - 1)).twin.peerRenew < ms 4 ∧ (leased (ms 4 - 1)).Calm :=
  ⟨by decide +kernel, by decide +kernel, calm_of (by decide +kernel), by decide +kernel, calm_of (by decide +kernel)⟩
/-- Link 1 DOWN and link 3 TRAINING. -/
def cabled : State := (up.fset (F.UTE_LINK_STATUS_STATE 1) 1).fset (F.UTE_LINK_STATUS_STATE 3) 2
theorem witness_EthernetLinkComesUp : swf 0 cabled.regs = true ∧ cabled.clk.inReset = false ∧ cabled.power = 0 ∧
    cabled.fget (F.UTE_LINK_STATUS_STATE 1) = 1 ∧ cabled.fget (F.UTE_LINK_STATUS_STATE 3) = 2 ∧ cabled.icu.en (96 + 1) = true ∧
    (cabled.ethUp 1).Calm ∧ (cabled.ethUp 3).Calm :=
  ⟨by decide +kernel, by decide +kernel, by decide +kernel, by decide +kernel, by decide +kernel, by decide, calm_of (by decide +kernel),
    calm_of (by decide +kernel)⟩
theorem witness_MctpEndpointIsSet : up.mctpUp = true ∧ ∀ e ∈ [7, 8, 254, 255], rests (up.mctpSet e) = true := by decide +kernel
theorem witness_WatchdogWriteRestartsPeriod : up.Canon ∧ up.clk.inReset = false ∧ (up.wdogKick 0 0x80000001).Calm ∧ (up.wdogKick 8 0).Calm :=
  ⟨up_canon, rfl, calm_of (by decide +kernel), calm_of (by decide +kernel)⟩
theorem witness_InterruptEntryAndReturn :
    let s := (up.raise 18).putCore 0 { up.coreAt 0 with ie := true }
    s.coreRuns 0 = true ∧ s.inJoin 0 = false ∧ (s.coreAt 0).wait = none ∧ (s.coreAt 0).ie = true ∧ sget 0 s.icu.presented 0 ≠ 0 ∧
    rests (s.putCore 0 { s.coreAt 0 with ie := false }) = true ∧ rests (s.putCore 0 { s.coreAt 0 with ie := true }) = true := by
  decide +kernel
theorem witness_TestInstructionsAreHeld : (up.tapTest .extest).Calm ∧ (State.reset.tapTest .hbm1500).Calm ∧ up.clk.inReset = false ∧
    State.reset.clk.inReset = true :=
  ⟨calm_of (by decide +kernel), calm_of (by decide +kernel), rfl, rfl⟩
theorem witness_IdcodeIsShiftedOut : State.reset.tapIdcode.Calm := calm_of (by decide +kernel)
theorem witness_RetiredBlockIsBad : up.Canon ∧ (up.block 4).bad = false ∧ (retired.block 4).bad = true :=
  ⟨up_canon, by decide +kernel, by decide +kernel⟩

/-! ### Single commands, with results from the spec -/

/-- The state a command leaves. -/
def after (c : Instr) (s : State) : State := match exec c s with | .next t => t | _ => s
/-- Status and payload of the replies sent, newest first. -/
def replies (s : State) : List (Nat × List Byte) := s.out.filterMap fun o => match o with | .reply r => some (r.status, r.payload) | _ => none

/-- GEN_SCRATCH is the agent's own (19 R703): DBG writes it and reads it back, another agent's instance reads 0. -/
theorem test_scratch_write : ((after (.registerWrite 127 0x14 [0x78, 0x56, 0x34, 0x12]) up).agent 127).scratch = 0x12345678 ∧
    ((after (.registerWrite 127 0x14 [0x78, 0x56, 0x34, 0x12]) up).agent 64).scratch = 0 := by decide +kernel
theorem test_scratch_read : ((after (.readSnapshot 127 0x14 4) (after (.registerWrite 127 0x14 [0x78, 0x56, 0x34, 0x12]) up)).out.head?.map
    fun o => match o with | .regData a d _ => decide (a = 127 ∧ d = [0x78, 0x56, 0x34, 0x12]) | _ => false) = some true := by decide +kernel
/-- 16 R601, R605, R608: source 18, enabled, pends, is presented to a target and is claimed. -/
theorem test_sourceEdge_pends : (after (.sourceEdge 18) up).icu.pend = [18] ∧ sget 0 (after (.sourceEdge 18) up).icu.presented 0 = 18 := by
  decide +kernel
theorem test_icuClaim_activates : (after (.icuClaim 0) (up.raise 18)).icu.active = [(18, 0)] ∧ (after (.icuClaim 0) (up.raise 18)).icu.pend = [] := by
  decide +kernel
/-- 16 R601: a source whose EN is 0 does not latch. -/
theorem test_sourceEdge_disabled : (after (.sourceEdge 19) up).icu.pend = [] := by decide +kernel
/-- 17 R628. -/
theorem test_refClockLoss_counts : (after .refClockLoss up).bit F.CLK_STATUS_REF_LOST = true ∧ (after .refClockLoss up).fget F.CLK_REF_LOSS_CNT_VALUE = 1 := by
  decide +kernel
/-- 11 R437: VAON_LOW below 2,800 mV. -/
theorem test_vaonSample_low : (after (.vaonSample 2799) up).bit F.EPC_STATUS_VAON_LOW = true ∧
    (after (.vaonSample 2800) up).bit F.EPC_STATUS_VAON_LOW = false := by decide +kernel
/-- 02 R57, R58: bytes 0 and 63 of line 65 drain into DRAM, byte 1 does not change. -/
theorem test_landingDrain_bytes :
    let t := after (.landingDrain 65) { landed with pers := { landed.pers with landing := [{ entry with data := (0x5A : BitVec 512) <<< 504 ||| 0x77AB }] } }
    memByte t.dram.data 4160 = 0xAB ∧ memByte t.dram.data 4161 = 0 ∧ memByte t.dram.data 4223 = 0x5A := by decide +kernel
/-- 03 R101: poison for an unmapped read, which is counted; the response is on its way to head 0 with the request's tag. -/
theorem test_hostRead_unmapped :
    let t := linked.runRead (Run.start 0) ⟨0, 0, 0, 0, 3, false, false⟩
    t.fget F.RGN_UNMAPPED_CNT_VALUE = 1 ∧ (t.cxl.leaving.map fun x =>
      match x.out with | some (.drs h t _ p _) => decide (x.port = 0 ∧ h = 0 ∧ t = 3 ∧ p = true) | _ => false) = [true] := by decide +kernel
/-- 10 R382, R391: the DIMM of channel 0 is lost; one error entry is logged. -/
theorem test_dimmLoss_logged :
    let s : State := { up with dram := { up.dram with pop := { up.dram.pop with dpc := 1 } } }
    (after (.dimmLoss 0 0) s).dram.lost = [0] ∧ (after (.dimmLoss 0 0) s).fget F.INT_LOG_STATUS_COUNT = 1 := by decide +kernel
/-- 07 R243: a sharer goes DORMANT after IDLE x 100 ms. -/
theorem test_sharerIdle : ((after (.sharerIdleTimeout 0) (sharing (ms 100))).sharer 0).state = .dormant ∧
    ((after (.sharerIdleTimeout 0) (sharing (ms 100 - 1))).sharer 0).state = .active := by decide +kernel
/-- 12 R458. -/
theorem test_hbPathLoss : (after (.hbPathLoss true) silent).bit F.TWN_STATUS_HB_SIDE = false ∧
    (after (.hbPathLoss true) silent).bit F.TWN_STATUS_HB_MIR = true := by decide +kernel
/-- 13 R539, UTE_LINK_STATUS: 3 is UP. -/
theorem test_ethLinkUp : (after (.ethLinkUp 1) cabled).fget (F.UTE_LINK_STATUS_STATE 1) = 3 := by decide +kernel
/-- 14 R541: opcode 0xFFFF is not defined, status 0x0013; R564 counts it. -/
theorem test_unknownOpcode : (replies (after (.commandUnknownOpcode 0xFFFF (sealed 0xFFFF (query 0))) up)).map (·.1) = [0x0013] ∧
    (after (.commandUnknownOpcode 0xFFFF (sealed 0xFFFF (query 0))) up).fget F.CMD_REFUSED_CNT_VALUE = 1 := by decide +kernel
/-- 14, REGION_QUERY: the 16 bytes of an ACTIVE entry, SUCCESS; NOT_FOUND is not SUCCESS. -/
theorem test_regionQuery : (replies (after (.regionQuery (query 4095)) defined)).map (fun r => (r.1, r.2.length)) = [(0, 16)] ∧
    (replies (after (.regionQuery (query 4095)) up)).map (fun r => decide (r.1 = 0)) = [false] := by decide +kernel
/-- 21 R745, R746: BYPASS is held; Test-Logic-Reset ends it; EXTEST out of reset acts as BYPASS and sets JTAG_HELD. -/
theorem test_tap : (after .jtagBypass up).test.tap = .bypass ∧ (after .tapReset (after .jtagBypass up)).test.tap = .reset ∧
    (after .jtagExtest up).test.tap = .bypass ∧ (after .jtagExtest up).bit F.TST_STATUS_JTAG_HELD = true := by decide +kernel
/-- 08 R298: two grown bad blocks are two counts. -/
theorem test_retireBlock_counts : ((up.retireBlock 4 .demand).retireBlock 5 .demand).fget F.FTC_BADBLK_CNT_VALUE = 2 := by decide +kernel
/-- 00 R22 in 8 bits: 0x01 is newer than 0xFF, neither of 0x00 and 0x80 is newer. -/
theorem test_serial : newer 8 0x01 0xFF = true ∧ newer 8 0xFF 0x01 = false ∧ newer 8 0x80 0x00 = false ∧ newer 8 0x00 0x80 = false := by decide
/-- 20 R710, R711: the last ball of a package of 72 rows and columns, and the balls of all groups. -/
theorem test_balls : ballName 0 1 = "A1" ∧ ballName 71 72 = "CT72" ∧ ballGroups.sum = 5184 := by decide +kernel
/-- 20 R715: the main island in reset holds DDR5 RESET_N low and the transmitters idle; in STANDBY the ranks are in self-refresh. -/
theorem test_pins : State.reset.ddrPins = .resetHeld ∧ State.reset.cxlTxPins = .idle ∧ (up.fset F.CLK_STATUS_PWR_STATE 2).ddrPins = .selfRefresh ∧
    (up.fset F.CLK_STATUS_PWR_STATE 2).cxlTxPins = .l1 ∧ (up.fset F.CLK_STATUS_PWR_STATE 3).ethTxPins = .undriven ∧ up.holdSwPin = none := by
  decide +kernel

end Sys2Proof.Machine.Tests
end

section
/-! PROOF. Serial-number comparison (00_scope.md R22): the distance from `a` up to `b` on a circle of `N` values, and what `newer` makes of it. -/
namespace Sys2Proof.Machine

/-! ### The distance from `a` up to `b`, modulo `N` -/

theorem serialDist_of_le {N a b : Nat} (hb : b < N) (h : a ≤ b) : (b + N - a) % N = b - a := by
  rw [show b + N - a = b - a + N by omega, Nat.add_mod_right, Nat.mod_eq_of_lt (by omega)]

theorem serialDist_of_gt {N a b : Nat} (ha : a < N) (h : b < a) : (b + N - a) % N = b + N - a :=
  Nat.mod_eq_of_lt (by omega)

theorem serialDist_eq_zero_iff {N a b : Nat} (ha : a < N) (hb : b < N) : (b + N - a) % N = 0 ↔ a = b := by
  rcases Nat.lt_or_ge b a with h | h
  · rw [serialDist_of_gt ha h]; omega
  · rw [serialDist_of_le hb h]; omega

/-- The ways up from `a` to `b` and from `b` to `a` make one turn of the circle. -/
theorem serialDist_add_swap {N a b : Nat} (ha : a < N) (hb : b < N) (h : a ≠ b) : (b + N - a) % N + (a + N - b) % N = N := by
  rcases Nat.lt_or_gt_of_ne h with h | h
  · rw [serialDist_of_le hb h.le, serialDist_of_gt hb h]; omega
  · rw [serialDist_of_gt ha h, serialDist_of_le ha h.le]; omega

/-! ### `newer` -/

theorem newer_iff {w x y : Nat} (hy : y < 2 ^ w) :
    newer w x y = true ↔ 0 < (x + 2 ^ w - y) % 2 ^ w ∧ (x + 2 ^ w - y) % 2 ^ w < 2 ^ (w - 1) := by
  simp [newer, Nat.mod_eq_of_lt hy]

theorem newer_eq_false_of_half_le {w x y : Nat} (hy : y < 2 ^ w) (h : 2 ^ (w - 1) ≤ (x + 2 ^ w - y) % 2 ^ w) : newer w x y = false :=
  Bool.eq_false_iff.2 fun e => absurd ((newer_iff hy).1 e).2 h.not_gt

/-- What is at most half a turn above `a` has `a` at least half a turn above itself, so `a` is not newer. -/
theorem newer_swap_eq_false {n a b : Nat} (hn : 0 < n) (ha : a < 2 ^ n) (hb : b < 2 ^ n)
    (hpos : 0 < (b + 2 ^ n - a) % 2 ^ n) (hle : (b + 2 ^ n - a) % 2 ^ n ≤ 2 ^ (n - 1)) : newer n a b = false := by
  have hne : a ≠ b := mt (serialDist_eq_zero_iff ha hb).2 hpos.ne'
  have hturn := serialDist_add_swap ha hb hne
  have hhalf := Nat.two_pow_pred_add_two_pow_pred hn
  exact newer_eq_false_of_half_le hb (by omega)

/-- Settles O28: the two distances between different values sum to a whole turn, so both are half of it or one is above. -/
theorem serialNumberOrder : Obligations.SerialNumberOrder := by
  intro n a b hn ha hb
  refine ⟨newer_iff ha, serialDist_eq_zero_iff ha hb, fun hd => ⟨?_, ?_⟩, fun hnew => ?_⟩
  · exact newer_eq_false_of_half_le ha hd.ge
  · exact newer_swap_eq_false hn ha hb (hd ▸ Nat.two_pow_pos (n - 1)) hd.le
  · obtain ⟨hpos, hlt⟩ := (newer_iff ha).1 hnew
    exact newer_swap_eq_false hn ha hb hpos hlt.le

end Sys2Proof.Machine
end

section
/-! PROOF. Saturating counters (00_scope.md R18, R19): what one increment answers below the largest value, at the one below it, and at it. -/
namespace Sys2Proof.Machine

/-! ### An edge at the interrupt controller with the main island on (16 R601) -/

theorem Icu.pend_edge_of_en {c : Icu} {n : Nat} (hm : c.mainOff = false) (he : c.en n = true) (hv : validSource n = true) :
    (c.edge n).pend = insNat n c.pend := by
  simp [Icu.edge, hm, he, hv]

theorem Icu.edge_of_not_en {c : Icu} {n : Nat} (hm : c.mainOff = false) (he : c.en n = false) : c.edge n = c := by
  simp [Icu.edge, hm, he]

/-! ### The increment that reaches the largest value -/

section Reaches
variable {s : State} {cnt sat : Fld} (src : Nat)

theorem State.fget_bump_reaches (hw : swf 0 s.regs = true) (hk : cnt.key ≠ sat.key) (h : s.fget cnt + 1 = 2 ^ cnt.width - 1) :
    (s.bump cnt sat src).fget cnt = 2 ^ cnt.width - 1 := by
  rw [State.bump_reaches s src (by omega) h, State.fget_raise, State.fget_setBit_ne _ _ hk, State.fget_fset s _ _ hw, h]
  exact Nat.mod_eq_of_lt (by omega)

theorem State.bit_bump_reaches (hw : swf 0 s.regs = true) (h1 : sat.width = 1) (h : s.fget cnt + 1 = 2 ^ cnt.width - 1) :
    (s.bump cnt sat src).bit sat = true := by
  rw [State.bump_reaches s src (by omega) h, State.bit_raise]
  exact State.bit_setBit _ sat true (State.fset_wf s _ _ hw) h1

theorem State.icu_bump_reaches (h : s.fget cnt + 1 = 2 ^ cnt.width - 1) : (s.bump cnt sat src).icu = s.icu.edge src := by
  rw [State.bump_reaches s src (by omega) h, State.raise_icu, State.setBit_icu, State.fset_icu]

end Reaches

/-- Settles O27, by the three ranges of the counter's value: `State.bump` has a law for each. -/
theorem countersSaturate : Obligations.CountersSaturate := by
  intro s cnt sat src hw hk h1 _ _
  refine ⟨State.bump_at_top s src, fun hreach => ⟨?_, ?_, ?_, ?_⟩, fun hbelow => ?_⟩
  · exact State.fget_bump_reaches src hw hk hreach
  · exact State.bit_bump_reaches src hw h1 hreach
  · intro hm he hv
    rw [State.icu_bump_reaches src hreach, Icu.pend_edge_of_en hm he hv]
    exact mem_insNat (.inl rfl)
  · intro hm he
    rw [State.icu_bump_reaches src hreach, Icu.edge_of_not_en hm he]
  · have hbump := State.bump_below s (t := sat) src (by omega) hbelow.ne
    refine ⟨hbump, ?_⟩
    rw [hbump, State.fget_fset s _ _ hw, Nat.mod_eq_of_lt (by omega)]

end Sys2Proof.Machine
end

section
/-! PROOF. LANDING_DRAIN (02_persistence_contract.md R57, R58): the drain writes the entry's line into the copies of its page, and the
queue writes and acknowledgements that follow leave the bytes of every tier alone. -/
namespace Sys2Proof.Machine

/-! ### The bytes that the tiers hold -/

/-- The contents of DRAM, the Quay hot area, the staging area and flash. -/
structure TierBytes where
  dram : SMap Byte
  hot : SMap Byte
  staged : SMap Byte
  flash : SMap Byte

/-- What the tiers of a state hold. -/
def State.tierBytes (s : State) : TierBytes := ⟨s.dram.data, s.quay.hot, s.quay.staged, s.flash.data⟩

/-- Byte `a` is the same in every tier. -/
def TierBytes.SameAt (a : Nat) (b c : TierBytes) : Prop :=
  memByte c.dram a = memByte b.dram a ∧ memByte c.hot a = memByte b.hot a ∧
    memByte c.staged a = memByte b.staged a ∧ memByte c.flash a = memByte b.flash a

theorem State.tierBytes_ite {c : Prop} [Decidable c] {s t u : State} (ht : t.tierBytes = s.tierBytes) (hu : u.tierBytes = s.tierBytes) :
    (if c then t else u).tierBytes = s.tierBytes := by
  split
  · exact ht
  · exact hu

/-! ### The queues of the memory controllers hold addresses, no bytes (09 R321, R327, R354) -/

theorem State.tierBytes_setSub (s : State) (key : Nat) (c : SubChan) : (s.setSub key c).tierBytes = s.tierBytes :=
  State.tierBytes_ite rfl rfl

theorem State.tierBytes_queueWrite (s : State) (w : DmcWrite) : (s.queueWrite w).tierBytes = s.tierBytes :=
  State.tierBytes_setSub s _ _

theorem State.tierBytes_bump (s : State) (cnt sat : Fld) (src : Nat) : (s.bump cnt sat src).tierBytes = s.tierBytes := by
  simp [State.tierBytes]

theorem State.tierBytes_portFill (s : State) (ch port fill : Nat) : (s.portFill ch port fill).tierBytes = s.tierBytes :=
  State.tierBytes_ite (State.tierBytes_bump _ _ _ _) rfl

theorem State.tierBytes_drainWrite (s : State) (line : Nat) (port : DmcPort) (ack : Option (Origin × Nat × Nat × Option Lat))
    (land : Option Nat) : (s.drainWrite line port ack land).tierBytes = s.tierBytes := by
  refine State.tierBytes_ite rfl ?_
  cases port
  case host => exact State.tierBytes_queueWrite s _
  case saveFlush | mirrorIn => exact (State.tierBytes_portFill _ _ _ _).trans (State.tierBytes_queueWrite s _)

theorem State.tierBytes_quayWrite (s : State) (line : Nat) (tc : TClass) (ack : Option (Origin × Nat × Nat × Option Lat))
    (land : Option Nat) : (s.quayWrite line tc ack land).tierBytes = s.tierBytes := by
  have hqueued : ∀ {c : Prop} [Decidable c] (w : DmcWrite), (if c then s else s.queueWrite w).tierBytes = s.tierBytes :=
    fun w => State.tierBytes_ite rfl (State.tierBytes_queueWrite s w)
  exact State.tierBytes_ite (hqueued _) ((State.tierBytes_queueWrite _ _).trans (hqueued _))

/-! ### Acknowledgements change page-state words and what leaves, no bytes (02 R47, R50) -/

theorem State.tierBytes_noteAck (s : State) (p : Nat) : (s.noteAck p).tierBytes = s.tierBytes :=
  State.tierBytes_ite rfl rfl

theorem State.tierBytes_complete (s : State) (o : Origin) (id since ready : Nat) (mirrored : Bool) (lat : Option Lat) :
    (s.complete o id since ready mirrored lat).tierBytes = s.tierBytes := by
  cases o <;> rfl

theorem State.tierBytes_ackLoop (es : List LandEntry) : ∀ (s : State) (blocked : List Nat),
    (s.ackLoop es blocked).2.tierBytes = s.tierBytes := by
  induction es with
  | nil => intro s blocked; rfl
  | cons e es ih =>
    intro s blocked
    unfold State.ackLoop
    split
    · exact (ih _ blocked).trans ((State.tierBytes_complete _ _ _ _ _ _ _).trans (State.tierBytes_noteAck s _))
    · exact ih s _

theorem State.tierBytes_settleAcks (s : State) : s.settleAcks.tierBytes = s.tierBytes := by
  change (if s.mayAck then s.ackLoop s.pers.landing [] else (s.pers.landing, s)).2.tierBytes = s.tierBytes
  split
  · exact State.tierBytes_ackLoop _ _ _
  · rfl

/-! ### A line written into the copies of its page (R57) -/

/-- Where the page is in DRAM, its DRAM copy takes the bytes, and the Quay copies take them where they stand. -/
theorem State.tierBytes_writeCopies {s : State} {line : Nat} (l : Line) (mask : BitVec 64) (hd : (s.page (line / 64)).d = true) :
    ∃ hot staged : Bool, (s.writeCopies line l mask).tierBytes =
      { dram := memPutLine s.dram.data line l mask
        hot := if hot then memPutLine s.quay.hot line l mask else s.quay.hot
        staged := if staged then memPutLine s.quay.staged line l mask else s.quay.staged
        flash := s.flash.data } := by
  simp only [State.writeCopies, hd, Bool.true_or, if_true]
  split <;> split
  · exact ⟨true, true, rfl⟩
  · exact ⟨false, true, rfl⟩
  · exact ⟨true, false, rfl⟩
  · exact ⟨false, false, rfl⟩

theorem memByte_ite_memPutLine_ne {m : SMap Byte} {n a : Nat} (c : Bool) (l : Line) (mask : BitVec 64) (h : a / 64 ≠ n) :
    memByte (if c then memPutLine m n l mask else m) a = memByte m a := by
  split
  · exact memByte_memPutLine_ne l mask h
  · rfl

theorem State.sameAt_writeCopies {s : State} {line a : Nat} (l : Line) (mask : BitVec 64) (hd : (s.page (line / 64)).d = true)
    (ha : a / 64 ≠ line) : TierBytes.SameAt a s.tierBytes (s.writeCopies line l mask).tierBytes := by
  obtain ⟨hot, staged, hb⟩ := State.tierBytes_writeCopies l mask hd
  rw [hb]
  exact ⟨memByte_memPutLine_ne l mask ha, memByte_ite_memPutLine_ne hot l mask ha, memByte_ite_memPutLine_ne staged l mask ha, rfl⟩

theorem State.memByte_dram_writeCopies {s : State} {line i : Nat} (l : Line) (mask : BitVec 64) (hw : Memory.wf s.dram.data)
    (hd : (s.page (line / 64)).d = true) (hi : i < 64) :
    memByte (s.writeCopies line l mask).tierBytes.dram (64 * line + i) =
      if mask.getLsbD i then lineByte l i else memByte s.dram.data (64 * line + i) := by
  obtain ⟨hot, staged, hb⟩ := State.tierBytes_writeCopies l mask hd
  rw [hb]
  exact (memByte_memPutMasked line l mask s.dram.data hw i 64 le_rfl).trans (by simp only [hi, true_and])

/-! ### The drain (R58) -/

/-- Nothing holds an entry of a line back: the memories run, its page stands in DRAM and is not in recovery (R59), and the write queues of
its copies have room (06 R227). -/
structure State.CanDrain (s : State) (line : Nat) (e : LandEntry) : Prop where
  live : s.running = true ∨ s.power = 1
  idle : s.dramBusy = false
  free : e.held = false
  valid : s.dValid (line / 64) = true
  whole : ∀ r ∈ s.integ.recov, ¬ (r.whole = true ∧ r.page = line / 64) ∧ ¬ (r.tier = .sram ∧ r.line = line)
  room : s.frameOf (line / 64) = 0 ∨ s.writesFull ((s.frameOf (line / 64) - 1) * 4096 + line % 64 * 64) = false
  hotRoom : sget 0 s.quay.hotQa (line / 64) = 0 ∨ s.writesFull (hotAddr (sget 0 s.quay.hotQa (line / 64)) line) = false

theorem State.d_of_dValid {s : State} {p : Nat} (h : s.dValid p = true) : (s.page p).d = true := by
  simp only [State.dValid, Bool.and_eq_true] at h
  exact h.1.1

/-- Of a drain only the write into the copies of the line changes what the tiers hold. -/
theorem State.tierBytes_landingDrain {s : State} {line : Nat} {e : LandEntry}
    (he : s.pers.landing.find? (fun x => x.line = line && !x.drained) = some e) (hc : s.CanDrain line e) :
    (s.landingDrain line).tierBytes = (s.writeCopies line e.data e.mask).tierBytes := by
  obtain ⟨live, idle, free, valid, whole, room, hotRoom⟩ := hc
  have hrecov : (s.integ.recov.any fun r => (r.whole && r.page = line / 64) || (r.tier = .sram && r.line = line)) = false := by
    simpa using whole
  unfold State.landingDrain
  rw [he]
  dsimp only
  rw [if_neg]
  · rw [State.tierBytes_settleAcks, State.tierBytes_drainWrite]
    exact State.tierBytes_quayWrite _ _ _ _ _
  · have hlive : s.running = false → s.power = 1 := fun h => live.resolve_left (by simp [h])
    simpa [idle, free, valid, hrecov] using ⟨⟨hlive, room.resolve_left⟩, hotRoom.resolve_left⟩

/-- Settles O48: the tiers hold what the write into the copies of the line leaves, which is the masked line in DRAM and no byte outside it. -/
theorem landingDrainWritesOneLine : Obligations.LandingDrainWritesOneLine := by
  intro s line e hs he live idle free valid whole room hotRoom
  have hbytes := State.tierBytes_landingDrain he ⟨live, idle, free, valid, whole, room, hotRoom⟩
  have hd := State.d_of_dValid valid
  refine ⟨rfl, fun i hi => ?_, fun a ha => ?_⟩
  · change memByte (s.landingDrain line).tierBytes.dram _ = _
    rw [hbytes, State.memByte_dram_writeCopies _ _ hs.dram hd hi]
  · change TierBytes.SameAt a s.tierBytes (s.landingDrain line).tierBytes
    rw [hbytes]
    exact State.sameAt_writeCopies _ _ hd ha

end Sys2Proof.Machine
end

section
/-! PROOF. Host reads of an address that maps to no served region (03_regions_and_tiers.md R101): the read is counted and poison goes to the
requester; the access that its lookup cancels (05 R185) opens a row and writes nothing. -/
namespace Sys2Proof.Machine

/-! ### What only a write changes -/

/-- The registers, and what the unit stores: regions and pages, the Landing and the paddock, the bytes of the tiers, the flash tier. -/
structure Stored where
  regs : SMap Nat
  rgn : Rgn
  pers : Pers
  tiers : TierBytes
  flash : Flash

/-- What a state stores. -/
def State.stored (s : State) : Stored := ⟨s.regs, s.rgn, s.pers, s.tierBytes, s.flash⟩

theorem State.stored_ite {c : Prop} [Decidable c] {s t u : State} (ht : t.stored = s.stored) (hu : u.stored = s.stored) :
    (if c then t else u).stored = s.stored := by
  split
  · exact ht
  · exact hu

theorem State.stored_free (s : State) (n : Nat) : (s.free n).2.stored = s.stored := rfl

theorem State.stored_leaveAt (s : State) (x : Leaving) : (s.leaveAt x).stored = s.stored := rfl

theorem State.stored_bothPhases (s : State) : s.bothPhases.stored = s.stored := rfl

/-- A column access moves row buffers, ACT counts and busy times, no bytes (09 R321, R332). -/
theorem State.stored_dramAccess (s : State) (da : Nat) : (s.dramAccess da).2.stored = s.stored := rfl

theorem State.stored_quayAccess (s : State) (qa : Nat) : (s.quayAccess qa).2.stored = s.stored := rfl

/-! ### The access that the lookup cancels (05 R185) -/

theorem State.stored_cancelled_read (s : State) (run : Run) (r : HostRead) (line due : Nat) :
    (s.cancelled (.read run r) line due).stored = s.stored := by
  refine State.stored_ite rfl (State.stored_ite rfl ?_)
  split
  · exact State.stored_ite (State.stored_quayAccess s _) ((State.stored_leaveAt _ _).trans (State.stored_quayAccess s _))
  · exact State.stored_ite (State.stored_dramAccess s _) ((State.stored_leaveAt _ _).trans (State.stored_dramAccess s _))

/-! ### Poison on its way (05 R178, R207) -/

theorem mem_insLeaving_self (x : Leaving) (l : List Leaving) : x ∈ insLeaving x l := by
  induction l with
  | nil => exact List.mem_singleton_self x
  | cons y t ih =>
    unfold insLeaving
    split
    · exact List.mem_cons_self
    · exact List.mem_cons_of_mem y ih

/-- Poison is on its way to the requester of a read, under the read's tag. -/
def State.PoisonLeaves (s : State) (run : Run) (r : HostRead) : Prop :=
  ∃ holder data due lat,
    (⟨r.head / 4, true, false, r.head, holder, run.since, due, some (.drs r.head r.tag data true lat)⟩ : Leaving) ∈ s.cxl.leaving

theorem State.stored_sendDrs (s : State) (r : HostRead) (run : Run) (p : Lat) (data : Line) (poison : Bool) :
    (s.sendDrs r run p data poison).stored = s.stored :=
  State.stored_ite rfl ((State.stored_bothPhases _).trans (State.stored_leaveAt s _))

theorem State.poisonLeaves_sendDrs (s : State) (r : HostRead) {run : Run} (p : Lat) (data : Line) (hlive : run.dead = false) :
    (s.sendDrs r run p data true).PoisonLeaves run r := by
  unfold State.sendDrs
  rw [if_neg (by simp [hlive])]
  exact ⟨_, _, _, _, mem_insLeaving_self _ s.cxl.leaving⟩

theorem State.stored_sendPoison (s : State) (r : HostRead) (run : Run) (p : Lat) : (s.sendPoison r run p).stored = s.stored :=
  (State.stored_sendDrs _ r run p _ true).trans (State.stored_free s _)

theorem State.poisonLeaves_sendPoison (s : State) (r : HostRead) {run : Run} (p : Lat) (hlive : run.dead = false) :
    (s.sendPoison r run p).PoisonLeaves run r :=
  State.poisonLeaves_sendDrs _ r p _ hlive

/-! ### The count (R101) -/

theorem State.countUnmapped_below {s : State} (h : s.fget F.RGN_UNMAPPED_CNT_VALUE + 1 < 2 ^ 32 - 1) :
    s.countUnmapped = s.fset F.RGN_UNMAPPED_CNT_VALUE (s.fget F.RGN_UNMAPPED_CNT_VALUE + 1) :=
  have hwidth : F.RGN_UNMAPPED_CNT_VALUE.width = 32 := rfl
  State.bump_below s _ (by rw [hwidth]; omega) (by rw [hwidth]; omega)

theorem State.fget_countUnmapped {s : State} (hw : swf 0 s.regs = true) (h : s.fget F.RGN_UNMAPPED_CNT_VALUE + 1 < 2 ^ 32 - 1) :
    s.countUnmapped.fget F.RGN_UNMAPPED_CNT_VALUE = s.fget F.RGN_UNMAPPED_CNT_VALUE + 1 := by
  rw [State.countUnmapped_below h, State.fget_fset s _ _ hw]
  exact Nat.mod_eq_of_lt (lt_of_lt_of_le h (Nat.sub_le _ _))

theorem State.stored_countUnmapped {s : State} : s.countUnmapped.stored = { s.stored with regs := s.countUnmapped.regs } := by
  simp [State.stored, State.countUnmapped, State.tierBytes_bump]

/-! ### The read, from its lookup on and from its arrival -/

/-- An unmapped read ends in poison, and before that changes nothing stored but what the count does. -/
theorem State.runRead_unmapped {s : State} {r : HostRead} {at_ : Option Nat} (run : Run) (ha : s.aperture r.head r.ld r.pbr r.addr = none)
    (hl : s.locate r.head r.ld r.pbr r.addr = .unmapped at_) :
    ∃ (t : State) (p : Lat), s.runRead run r = t.sendPoison r run p ∧ t.stored = s.countUnmapped.stored := by
  unfold State.runRead
  rw [ha, hl]
  cases at_ with
  | none => exact ⟨s.countUnmapped, _, rfl, rfl⟩
  | some line => exact ⟨_, _, rfl, State.stored_cancelled_read s.countUnmapped run r line _⟩

/-- A request with a slot free for it does not wait where nothing of its link does (06 R224). -/
theorem State.offer_of_no_wait {s : State} {head : Nat} {req : BiReq} (hs : s.slotFree (head / 4) req.isRead = true)
    (hi : ∀ w ∈ s.cxl.ingress, w.head ≠ head) : s.offer head req = s.enter req := by
  have hnone : (s.cxl.ingress.any fun w => w.head = head && w.req.isRead = req.isRead) = false :=
    List.any_eq_false.2 fun w hw => by simp [hi w hw]
  unfold State.offer
  rw [hnone, hs]
  rfl

/-- Outside STANDBY and the ways into and out of it a request runs as it enters (05 R210). -/
theorem State.enter_of_no_move {s : State} (req : BiReq) (hp : s.power ≠ 2) (hm : s.clk.move = .none) : s.enter req = s.runReq req := by
  unfold State.enter
  exact if_neg (by simp [hp, hm])

theorem State.hostRead_of_takes {s : State} (r : HostRead) (ht : s.takes r.head = true) :
    s.hostRead r = s.offer r.head (.read (Run.start s.now) r) := by
  unfold State.hostRead
  exact if_neg (by simp [ht])

/-- Settles O46: an unmapped read is poison sent on top of the count, and neither the sending nor the cancelled access writes. -/
theorem unmappedReadReturnsPoison : Obligations.UnmappedReadReturnsPoison := by
  intro s r at_ hw ha hl hcount
  refine ⟨fun ht hp hm hs hi => ?_, fun run hlive => ?_⟩
  · have hread : s.hostRead r = s.runRead (Run.start s.now) r := by
      rw [State.hostRead_of_takes r ht, State.offer_of_no_wait hs hi, State.enter_of_no_move _ hp hm]
      rfl
    exact congrArg (fun t => Host.Outcome.next t.settle) hread
  · obtain ⟨t, p, hrun, ht⟩ := State.runRead_unmapped run ha hl
    rw [hrun]
    have hstored := (State.stored_sendPoison t r run p).trans ht
    have hregs := congrArg Stored.regs hstored
    obtain ⟨-, hrgn, hpers, htiers, hflash⟩ := Stored.mk.inj (hstored.trans State.stored_countUnmapped)
    obtain ⟨hdram, hhot, hstaged, -⟩ := TierBytes.mk.inj htiers
    refine ⟨State.poisonLeaves_sendPoison t r p hlive, ?_, hrgn, hpers, hdram, hhot, hstaged, hflash⟩
    exact (congrArg (sget 0 · F.RGN_UNMAPPED_CNT_VALUE.key) hregs).trans (State.fget_countUnmapped hw hcount)

end Sys2Proof.Machine
end

section
/-! PROOF. Standard mailbox commands (04_cxl_host_ports.md R134): a mailbox that serves runs the command at hand, and an opcode that it does
not implement is answered Unsupported. -/
namespace Sys2Proof.Machine

/-- A mailbox that is up and has no command in handling runs the next one (14 R546). -/
theorem State.onMbox_of_serves {s k : State} {ld : Nat} (hup : s.mboxUp ld = true) (hbusy : s.mboxBusy ld = false) : s.onMbox ld k = k := by
  simp [State.onMbox, hup, hbusy]

/-- An opcode of no implemented set is none of the cases of the command table, so its last case answers. -/
theorem State.mboxStd_of_not_implemented {s : State} {ld op : Nat} (pl : List Byte) (hop : op ∉ ownRows ++ stdRows ++ fmRows) :
    s.mboxStd ld op pl = s.onMbox ld (s.mbox ld .unsupported) := by
  have hown : op ∉ ownRows := fun h => hop (by simp [h])
  unfold State.mboxStd
  rw [if_neg (by simpa using hown)]
  congr 1
  split
  case h_13 => rfl
  all_goals exact absurd (by decide) hop

/-- Settles O47: the mailbox serves, no case of its command table is the opcode's, and the state after the answer has nothing due. -/
theorem mailboxRefusesOtherOpcodes : Obligations.MailboxRefusesOtherOpcodes := by
  intro s ld op hop hup hbusy hcalm
  have hanswer : s.mboxStd ld op.code op.payload = s.emit (.mbox ld .unsupported []) :=
    (State.mboxStd_of_not_implemented op.payload hop).trans (State.onMbox_of_serves hup hbusy)
  change Host.Outcome.next (s.mboxStd ld op.code op.payload).settle = _
  rw [hanswer, hcalm]

end Sys2Proof.Machine
end

section
/-! PROOF. The idle timer of the sharers (07_tide_tables.md R242, R243): a sharer that turns DORMANT takes its window off the table. The release
of the entries that no window covers then (R253) changes page-state words, entries and counts; it writes no sharer, no source and no memory. -/
namespace Sys2Proof.Machine

/-! ### What the release of entries leaves unchanged (R253) -/

/-- The sharers, the interrupt controller, the memories of the tiers, the Landing and the paddock. -/
structure OffWindow where
  sharers : SMap Sharer
  icu : Icu
  dram : Dram
  quay : Quay
  flash : Flash
  pers : Pers

/-- What of a state the release of entries leaves unchanged. -/
def State.offWindow (s : State) : OffWindow := ⟨s.sharers, s.icu, s.dram, s.quay, s.flash, s.pers⟩

theorem State.offWindow_ite {c : Prop} [Decidable c] {s t u : State} (ht : t.offWindow = s.offWindow) (hu : u.offWindow = s.offWindow) :
    (if c then t else u).offWindow = s.offWindow := by
  split
  · exact ht
  · exact hu

theorem State.offWindow_foldl {β : Type} {f : State → β → State} (hf : ∀ a x, (f a x).offWindow = a.offWindow) (l : List β) (s : State) :
    (l.foldl f s).offWindow = s.offWindow :=
  l.foldlRecOn f (motive := fun a => a.offWindow = s.offWindow) rfl fun a ha x _ => (hf a x).trans ha

theorem State.offWindow_tideCounts (s : State) : s.tideCounts.offWindow = s.offWindow := rfl

theorem State.offWindow_setEntry (s : State) (i : Nat) (x : TideEntry) : (s.setEntry i x).offWindow = s.offWindow := rfl

/-- A write that keeps the state of a table raises nothing (R242). -/
theorem State.offWindow_setTable_of_state_eq {s : State} {t : Nat} {x : TideTable} (h : (s.table t).state = x.state) :
    (s.setTable t x).offWindow = s.offWindow := by
  unfold State.setTable
  rw [if_pos h]
  exact State.offWindow_tideCounts _

theorem State.offWindow_unpin (s : State) (p : Nat) : (s.unpin p).offWindow = s.offWindow :=
  State.offWindow_ite rfl rfl

theorem State.offWindow_releaseEntry (s : State) (t slot : Nat) : (s.releaseEntry t slot).offWindow = s.offWindow := by
  refine State.offWindow_ite ?_ (State.offWindow_ite (State.offWindow_setEntry s _ _) rfl)
  refine (State.offWindow_foldl State.offWindow_unpin _ _).trans ?_
  refine (State.offWindow_setTable_of_state_eq ?_).trans (State.offWindow_setEntry s _ _)
  rfl

theorem State.offWindow_retune (s : State) (t : Nat) : (s.retune t).offWindow = s.offWindow :=
  State.offWindow_foldl (fun a _ => State.offWindow_ite rfl (State.offWindow_releaseEntry a _ _)) _ s

/-! ### The sharer (R243) -/

theorem State.offWindow_setSharer (s : State) (h : Nat) (x : Sharer) :
    (s.setSharer h x).offWindow = { s.offWindow with sharers := sput Sharer.empty s.sharers h x } := rfl

theorem State.offWindow_raise (s : State) (n : Nat) : (s.raise n).offWindow = { s.offWindow with icu := s.offWindow.icu.edge n } := rfl

/-- An ACTIVE sharer that turns DORMANT changes its state only, and TIDE_SHR_DORMANT (source 65) rises. -/
theorem State.offWindow_makeDormant {s : State} {h : Nat} (hactive : (s.sharer h).state = .active) :
    (s.makeDormant h).offWindow =
      { s.offWindow with
        sharers := sput Sharer.empty s.sharers h { s.sharer h with state := .dormant }
        icu := s.icu.edge 65 } := by
  have hretune := (State.offWindow_retune (s.setSharer h { s.sharer h with state := .dormant }) (s.sharer h).table).trans
    (State.offWindow_setSharer s h _)
  unfold State.makeDormant
  rw [if_pos hactive, State.offWindow_raise, hretune]
  rfl

/-! ### The idle timer -/

theorem State.sharerIdle_of_not_idle {s : State} {h : Nat}
    (hidle : s.fget F.TIDE_CTRL_IDLE = 0 ∨ s.now - (s.sharer h).seen < ms (100 * s.fget F.TIDE_CTRL_IDLE)) : s.sharerIdle h = s := by
  unfold State.sharerIdle
  exact if_pos (by simpa [or_assoc] using .inr hidle)

theorem State.sharerIdle_of_idle {s : State} {h : Nat} (hactive : (s.sharer h).state = .active) (hon : s.fget F.TIDE_CTRL_IDLE ≠ 0)
    (hidle : ms (100 * s.fget F.TIDE_CTRL_IDLE) ≤ s.now - (s.sharer h).seen) : s.sharerIdle h = s.makeDormant h := by
  unfold State.sharerIdle
  exact if_neg (by simp [hactive, hon, hidle])

/-- Settles O51: the timer either finds nothing to do or makes the sharer DORMANT, which outside the window changes its state and source 65. -/
theorem idleSharerGoesDormant : Obligations.IdleSharerGoesDormant := by
  intro s h
  refine ⟨fun hidle hcalm => ?_, fun hactive hon hidle => ?_⟩
  · change Host.Outcome.next (s.sharerIdle h).settle = _
    rw [State.sharerIdle_of_not_idle hidle, hcalm]
  · have hkept := State.offWindow_makeDormant hactive
    rw [← State.sharerIdle_of_idle hactive hon hidle] at hkept
    obtain ⟨hsharers, hicu, hdram, hquay, hflash, hpers⟩ := OffWindow.mk.inj hkept
    refine ⟨rfl, hsharers, fun hmain hen => ?_, hdram, hquay, hflash, hpers⟩
    rw [hicu, Icu.pend_edge_of_en hmain hen (by decide)]
    exact mem_insNat (.inl rfl)

end Sys2Proof.Machine
end

section
/-! PROOF. What lasts over any run (08_flash_tier.md R295, R298, R299; 10_integrity_and_check_units.md R385 to R387): every command answers
a next state and undoes nothing, so neither does a step, nor a run. -/
namespace Sys2Proof.Machine

/-! ### One command -/

/-- A packet whose opcode stands in the command table (14 R558). -/
theorem State.arrive_table_keeps {a s : State} {op : Nat} {c : Cmd} (h : Keeps a s) : Keeps a (s.arrive op (cmdTable op) c) :=
  State.arrive_keeps _ _ _ h fun _ hd _ ht => cmdTable_keeps c hd ht

/-- Every command answers a next state and undoes nothing: its meaning is an operation that keeps what `Keeps` says, and so is settling. -/
theorem exec_keeps (c : Instr) (s : State) : ∃ t, exec c s = .next t ∧ Keeps s t := by
  have h := Keeps.refl s
  cases c with refine ⟨_, rfl, State.settle_keeps ?_⟩
  | hostRead => exact State.hostRead_keeps _ h
  | hostStoreL | hostStoreM | hostStoreV => exact State.storeIn_keeps _ _ h
  | heldStoreAdmit => exact State.admitHeld_keeps h
  | ingressStoreResume => exact State.ingressResume_keeps h
  | landingDrain => exact State.landingDrain_keeps _ h
  | birspReceived => exact State.birsp_keeps _ h
  | bisnpTimeout => exact State.bisnpTimeout_keeps _ _ h
  | hostWriteback => exact State.hostWriteback_keeps _ h
  | gpfPhase2Request => exact State.gpfRequest_keeps _ h
  | gpfPhase2Complete => exact State.gpfComplete_keeps _ h
  | viralReceived => exact State.viral_keeps _ h
  | ideMacFailure => exact State.ideMacFail_keeps _ h
  | cxlLinkDown => exact State.linkDown_keeps _ h
  | cxlLinkTrainAttempt => exact State.linkTrain_keeps _ _ h
  | perstAssert => exact State.perstAssert_keeps _ h
  | functionLevelReset => exact State.flrLd_keeps _ h
  | gfamHostBind => exact State.hostBind_keeps _ _ _ h
  | hostDcAddResponse => exact State.dcResponse_keeps _ _ _ h
  | hostDcRelease => exact State.dcRelease_keeps _ _ h
  | dcOfferTimeout => exact State.dcTimeout_keeps _ h
  | getPoisonList => exact State.getPoison_keeps _ h
  | injectPoison | clearPoison => exact State.poisonStore_keeps _ _ _ _ _ h
  | getEventRecords => exact State.getEvents_keeps _ _ _ h
  | getHealthInfo => exact State.healthInfo_keeps _ h
  | getParmosReply => exact State.getParmosReply_keeps _ h
  | mailboxUnsupportedOpcode => exact State.mboxStd_keeps _ _ _ h
  | getFwInfo => exact State.getFwInfo_keeps _ h
  | transferFw => exact State.transferFw_keeps _ _ _ _ h
  | activateFw => exact State.activateFw_keeps _ _ _ h
  | flusherTakePage => exact State.flusherTake_keeps h
  | flushDurable | writeThroughDurable => exact State.durable_keeps _ _ _ h
  | flashProgramFail => exact State.programFail_keeps _ _ h
  | paddockLimitUpdate => exact State.limitUpdate_keeps h
  | regionCreate | regionSetFlags | regionDelete | regionDcRelease | regionQuery | tideTableCreate | tideEntryAdd | tideTableOpen |
    tideTableClose | tideSharerJoin | tideSharerLeave | tideStepSet | dramFreqSet | pageRetire | rankSpare | checkStart | checkStatus |
    checkStop | packProfileSet | packRehearse | twinGrant | twinHandover | utCtxOpen | utCtxClose | utBerthOpen | utBerthClose |
    utBerthRenew | utDestSet | errLogRead | flashScrubNow | memChannelSet | settingsRead | settingsWrite | keySetAtRest | recInfo |
    recRead | loopbackSet | loopbackStatus | fwInfo | fwWrite | fwVerify | fwActivate | powerStateSet =>
    exact State.arrive_table_keeps h
  | retypeDone => exact State.retypeDone_keeps _ h
  | regionDrainDone => exact State.drainDone_keeps _ h
  | heatDecaySweep => exact State.heatDecay_keeps h
  | promotionSweep => exact State.promotionSweep_keeps h
  | dramEviction => exact State.dramEvict_keeps h
  | vPageSpill => exact State.spill_keeps _ h
  | pageMoveDone => exact State.moveDone_keeps _ h
  | flashFetchDone => exact State.fetchDone_keeps _ h
  | pageStateFetchDone => exact State.wordDone_keeps _ _ h
  | sharerIdleTimeout => exact State.sharerIdle_keeps _ h
  | stagingBegin => exact State.stagingBegin_keeps h
  | stagingCopyDone => exact State.copyDone_keeps _ h
  | stagedCopyFree => exact State.copyFree_keeps _ h
  | stagedUeRecovery => exact State.stagedUe_keeps _ _ _ h
  | flashReadDone => exact State.flashRead_keeps _ _ h
  | stripeCloseTimeout => exact State.stripeClose_keeps _ h
  | garbageCollect => exact State.garbageCollect_keeps _ h
  | staticWearLevel => exact State.wearLevel_keeps _ h
  | readDisturbRelocate => exact State.disturbRelocate_keeps _ h
  | retentionScrub => exact State.retentionScrub_keeps _ _ h
  | dieRetire => exact State.dieRetire_keeps _ _ h
  | flashChannelLoss => exact State.channelLoss_keeps _ h
  | backgroundRestore => exact State.restoreNext_keeps h
  | mapLoad => exact State.mapLoad_keeps h
  | foldExtent => exact State.foldExtent_keeps h
  | sameBankRefresh => exact State.refresh_keeps _ _ h
  | refreshManagement => exact State.refreshManage_keeps _ _ h
  | dimmThermalRead => exact State.dimmThermal_keeps _ _ _ h
  | retrainPause => exact State.retrainPause_keeps _ h
  | rowIdleClose => exact State.rowIdle_keeps _ _ h
  | panicMaxExpiry => exact State.panicExpiry_keeps _ _ h
  | dramAccessDone => exact State.dramDone_keeps _ h
  | quayAccessDone => exact State.quayDone_keeps _ h
  | freqChangeDone => exact State.freqDone_keeps h
  | dimmLoss => exact State.dimmLoss_keeps _ _ h
  | dimmRehomePage => exact State.rehome_keeps _ h
  | quayChannelLoss => exact State.quayChannelLost_keeps _ h
  | quayRefresh => exact State.quayRefresh_keeps h
  | hbmThermalRead => exact State.hbmThermal_keeps _ h
  | dClearPass => exact State.dClearPass_keeps h
  | outsideMaskDimmReturn => exact State.outsideReturn_keeps h
  | correctedWriteback => exact State.correctedWriteback_keeps _ h
  | ueRecovery => exact State.ueRecovery_keeps _ h
  | ueRecoveryResolved => exact State.ueResolved_keeps _ _ h
  | mergeIdleDrain => exact State.mergeIdle_keeps _ _ h
  | patrolScrub => exact State.patrolScrub_keeps _ _ h
  | poisonListRebuild => exact State.poisonRebuild_keeps h
  | evacuationDone => exact State.evacDone_keeps h
  | chkCtrlStart => exact State.chkStart_keeps _ h
  | chkCtrlStop => exact State.chkStop_keeps _ h
  | checkScanLine => exact State.chkLine_keeps _ h
  | frontEndFrameRead | pkAlert => exact State.readFrame_keeps _ _ h
  | energyModelUpdate => exact State.modelUpdate_keeps h
  | restCorrection => exact State.restCorrection_keeps h
  | healthFade => exact State.healthFade_keeps h
  | chargeCurrentLoop => exact State.chargeCurrent_keeps h
  | chargeVoltageLoop => exact State.chargeVoltage_keeps h
  | heaterLoop => exact State.heaterLoop_keeps h
  | rehearsalStart => exact State.rehStart_keeps h
  | rehearsalPostpone => exact State.rehPostpone_keeps h
  | rehearsalRetry => exact State.rehRetry_keeps h
  | rehTransferTimeout => exact State.rehTimeout_keeps h
  | rehPhaseAEnd => exact State.phaseAEnd_keeps h
  | rehPhaseBEnd => exact State.phaseBEnd_keeps h
  | rehearsalBlockErase => exact State.rehErase_keeps h
  | pfailQualified => exact State.pfail_keeps h
  | ridePowerReturn => exact State.rideReturn_keeps h
  | rideExpiry => exact State.rideExpiry_keeps h
  | saveCommit => exact State.saveCommit_keeps h
  | vaonSample => exact State.vaonSample_keeps _ h
  | epcCSaveWrite | epcPRunWrite => exact State.saveCostWrite_keeps h
  | rehStartWrite => exact State.requestReh_keeps h
  | epochMarkTimer => exact State.epochMarkTick_keeps h
  | resyncPageSend => exact State.resyncSend_keeps h
  | heartbeatSend => exact State.heartbeatTick_keeps h
  | twinHbFrame => exact State.twinHbFrame_keeps _ h
  | hbPathLoss => exact State.hbPathLoss_keeps _ h
  | twinLost => exact State.twinLostEvent_keeps h
  | claimFrameRenew => exact State.renewIn_keeps _ h
  | claimFrameClaim => exact State.claimIn_keeps _ h
  | claimFrameRelease => exact State.releaseIn_keeps _ h
  | claimFrameSent => exact State.frameSent_keeps _ h
  | epochWriteDone => exact State.epochDone_keeps h
  | leaseRenewTimer => exact State.leaseRenew_keeps h
  | leaseLapseHolder => exact State.leaseLapse_keeps h
  | leaseLapseObserver => exact State.peerLapse_keeps h
  | laneStuckDominant => exact State.laneStuck_keeps _ h
  | joinWaitExpiry => exact State.joinExpiry_keeps h
  | handoverRelease => exact State.handoverRelease_keeps h
  | takeover => exact State.takeoverEvent_keeps h
  | fwdWaitExpiry => exact State.fwdExpiry_keeps _ h
  | sfSweepPage => exact State.sfSweep_keeps _ h
  | utWrite | utRead | utFadd | utCas | utFlush => exact State.utRequest_keeps _ _ h
  | utReadResp => exact State.utReadResp_keeps _ h
  | utAtomicResp => exact State.utAtomicResp_keeps _ h
  | utFlushAnswer => exact State.flushAnswer_keeps _ h
  | utAck => exact State.utAck_keeps _ h
  | utNack => exact State.utNack_keeps _ h
  | utProbe => exact State.utProbe_keeps _ h
  | utMirror => exact State.twinRx_keeps _ _ _ h fun _ hu => State.mirrorIn_keeps _ _ hu
  | utMirrorAck => exact State.twinRx_keeps _ _ _ h fun _ hu => State.mirrorAck_keeps _ (State.twinSample_keeps _ hu)
  | utFwdResp => exact State.twinRx_keeps _ _ _ h fun _ hu => State.fwdResp_keeps _ (State.twinSample_keeps _ hu)
  | mirrorAckSend => exact State.mirrorAckSend_keeps h
  | epochMark | pageNotice | regionNotice | resyncPage | keptList | staleClear | rehJoin | rehResult => exact State.utCtl_keeps _ _ h
  | utFwdReq => exact State.utFwdReq_keeps _ h
  | utHeartbeat => exact State.utRx_keeps _ _ _ h fun _ hu => State.heartbeatIn_keeps _ _ hu
  | utCmd => exact State.utCmd_keeps _ _ h fun _ _ _ hu => State.arrive_table_keeps hu
  | contextFetchDone => exact State.ctxFetched_keeps _ h
  | sqTailWrite | cqHeadWrite | leaseDoorbellWrite => exact State.doorbellWrite_keeps _ _ _ _ h
  | doorbellApertureStore => exact keeps_ite (State.hostStore_keeps _ h) h
  | descWrite | descRead | descFadd | descCas | descFlush | descWait => exact State.descStart_keeps _ _ h
  | waitSlotRetry => exact State.waitSlot_keeps h
  | packetSend => exact State.packetSend_keeps _ _ _ h
  | mirrorPacketSend => exact State.mirrorSend_keeps h
  | retxTimeout => exact State.retxTimeout_keeps _ _ _ h
  | messageLifeExpiry => exact State.lifeExpiry_keeps _ _ h
  | retryResend => exact State.retryResend_keeps _ _ _ h
  | pathProbeTimer => exact State.probeTick_keeps h
  | ethLinkDown => exact State.ethDown_keeps _ h
  | ethLinkUp => exact State.ethUp_keeps _ h
  | mctHoldExpiry => exact State.mctExpire_keeps _ _ _ _ h
  | berthLeaseSweep => exact State.leaseSweep_keeps h
  | slowPathPacket => exact State.slowPath_keeps _ h
  | commandUnknownOpcode => exact keeps_ite h (State.arrive_keeps _ _ _ h fun _ hd => absurd hd (by simp))
  | mctpSetEndpointId => exact State.mctpSet_keeps _ h
  | mctpGetEndpointId => exact State.mctpGet_keeps h
  | mctpGetVersionSupport => exact State.mctpVersions_keeps h
  | mctpGetMessageTypeSupport => exact State.mctpTypes_keeps h
  | standbyEntryDone => exact State.standbyDone_keeps h
  | hostL1Exit => exact State.l1Exit_keeps _ h
  | standbyExitDone => exact State.fullAgain_keeps h
  | aonDrainComplete => exact State.aonDrained_keeps h
  | coreLoad => exact State.coreLoad_keeps _ _ _ h
  | coreStore => exact State.coreStore_keeps _ _ _ h
  | storeBufferIssue => exact State.storeOut_keeps _ h
  | prefetchFill => exact State.prefetchIn_keeps _ h
  | cachePrefetch => exact State.coreOp_keeps _ _ h fun _ hu => State.opPrefetch_keeps _ hu
  | cacheZeroLine => exact State.coreOp_keeps _ _ h fun _ hu => State.opZero_keeps _ hu
  | cacheLock => exact State.coreOp_keeps _ _ h fun _ hu => State.opLock_keeps _ hu
  | cacheUnlock => exact State.coreOp_keeps _ _ h fun _ hu => State.opUnlock_keeps _ hu
  | cacheWriteout => exact State.coreOp_keeps _ _ h fun _ hu => State.opWriteOut_keeps _ hu
  | cacheInval => exact State.coreOp_keeps _ _ h fun _ hu => State.opInval_keeps _ hu
  | cacheDisable => exact State.cacheStop_keeps _ h
  | interruptEntry => exact State.interruptEntry_keeps _ h
  | interruptReturn => exact State.interruptReturn_keeps _ h
  | laneDisagree => exact State.earlyRestart_keeps _ (State.laneDisagree_keeps _ h)
  | resyncJoin => exact State.resyncJoin_keeps h
  | laneInject => exact State.laneInject_keeps _ h
  | noMajority => exact State.earlyRestart_keeps _ (State.noMajority_keeps h)
  | hmRestartDone => exact State.restartDone_keeps h
  | stevedoreUe => exact State.stevedoreUe_keeps _ _ h
  | stevedoreReloadDone => exact State.reloadDone_keeps _ h
  | coreTimerFire => exact State.timerFire_keeps _ _ h
  | watchdogKick => exact State.wdogKick_keeps _ _ h
  | watchdogFire => exact State.earlyRestart_keeps _ (State.wdogFire_keeps _ h)
  | sourceEdge => exact State.whenOn_keeps _ h fun _ hu => State.sourceEdge_keeps _ hu
  | icuPendSet => exact State.whenOn_keeps _ h fun _ hu => State.icuPendSet_keeps _ hu
  | icuPendClr => exact State.whenOn_keeps _ h fun _ hu => State.icuPendClr_keeps _ hu
  | icuSrcCfgWrite => exact State.whenOn_keeps _ h fun _ hu => State.icuSrcCfg_keeps _ _ hu
  | icuClaim => exact State.claimBy_keeps _ h
  | icuComplete => exact State.completeBy_keeps _ _ h
  | aonWatchFire => exact State.watchFire_keeps _ h
  | refClockLoss => exact State.refLoss_keeps h
  | refClockRestored => exact State.refBack_keeps h
  | refLossResetSave => exact State.refReset_keeps h
  | xtalStop => exact State.xtalStop_keeps h
  | xtalRecover => exact State.xtalBack_keeps h
  | vaonPowerOn => exact State.vaonRise_keeps h
  | aonRstAssert => exact State.aonRst_keeps h
  | pwrGoodRise => exact State.pwrGoodRise_keeps h
  | pwrGoodFall => exact State.pwrGoodFall_keeps h
  | railUndervoltage => exact State.railLow_keeps h
  | sysRstQualified => exact State.sysRst_keeps h
  | startUp => exact State.startUp_keeps _ h
  | startupStepTimeout => exact State.stepTimeout_keeps h
  | setWordWrite | registerWrite => exact State.regWrite_keeps _ _ _ h
  | settingsWriteDone => exact State.setWriteDone_keeps _ h
  | groupWriteStageDone => exact State.groupStageDone_keeps h
  | operatingHoursTick => exact State.operatingTick_keeps h
  | recorderTransfer => exact State.transferIn_keeps _ h
  | recorderArm => exact State.writeProd_keeps _ _ h
  | loopbackGoWrite => exact State.goBy_keeps _ h
  | loopbackStart => exact State.lbStart_keeps _ h
  | tapReset => exact State.tapReset_keeps h
  | jtagIdcode => exact State.tapIdcode_keeps h
  | jtagBypass => exact State.tapBypass_keeps h
  | jtagSamplePreload => exact State.tapSample_keeps _ h
  | jtagExtest | jtagExtestPulse | jtagExtestTrain | jtagHighz | jtagClamp | jtagScan | jtagMbist | jtagHbm1500 =>
    exact State.tapTest_keeps _ h
  | dbgAccess => exact State.dbgAccess_keeps _ _ _ _ h
  | sysRstRelease => exact State.sysRstRelease_keeps h
  | pfailRise => exact State.pfailRise_keeps h
  | perstRelease => exact State.perstRise_keeps _ h
  | aonRstRelease => exact State.aonRstRelease_keeps h
  | twinHbAlignmentAcquire | twinHbAlignmentLoss => exact State.hbAligned_keeps _ h
  | readSnapshot => exact State.regRead_keeps _ _ _ h
  | setEventInterruptPolicy => exact State.eventPolicy_keeps _ _ _ h
  | clearEventRecords => exact State.clearEvents_keeps _ _ _ h
  | ideKm => exact State.ideKm_keeps _ _ _ h
  | gfdDecoderCommit => exact State.gfdCommit_keeps _ _ h
  | gfamHostUnbind => exact State.hostUnbind_keeps _ h
  | mirrorFetchTimeout => exact State.mirrorTimeout_keeps _ h
  | sharedRehearsalPhaseA => exact State.sharedPhaseA_keeps h
  | onfiChannelTrained => exact State.onfiTrained_keeps _ h
  | factoryBadBlockRead => exact State.factoryMark_keeps _ _ h

/-! ### One step, and a run -/

theorem State.Canon.withPending {s : State} (hs : s.Canon) (q : List Instr) : { s with pending := q }.Canon :=
  ⟨hs.regs, hs.cells, hs.counts, hs.blocks, hs.dram, hs.hot, hs.staged, hs.flash, hs.loft, hs.icu⟩

/-- Taking the front off the queue touches nothing else, so what the command keeps of the rest it keeps of the whole state. -/
theorem stepKeeps_of_keeps_tail {s t : State} (h : Keeps { s with pending := s.pending.tail } t) : StepKeeps s t where
  pending := h.pending
  now := h.now
  fresh := h.fresh
  out := h.out
  canon hs := h.canon (hs.withPending _)
  lasts hs :=
    have l := h.lasts (hs.withPending _)
    ⟨l.counted, l.frozen, l.frames, l.ranks, l.quay, l.dies, l.worn⟩

theorem step_keeps {s t : State} (h : step s = .next t) : StepKeeps s t := by
  apply stepKeeps_of_keeps_tail
  unfold step at h
  split at h
  next hp =>
    have hs : { s with pending := s.pending.tail } = s := by rw [hp, List.tail_nil, ← hp]
    obtain rfl := Host.Outcome.next.inj h
    rw [hs]
    exact State.settle_keeps (keeps_updN (Keeps.refl s) (hn := Nat.le_succ _))
  next c rest hp =>
    obtain ⟨u, hu, hk⟩ := exec_keeps c { s with pending := rest }
    obtain rfl := Host.Outcome.next.inj (h.symm.trans hu)
    rwa [hp]

/-- A run keeps the canonical forms and what lasts, by induction on its steps. -/
theorem State.canon_lasts_of_runs {n : Nat} {s t : State} (h : s.Runs t n) (hs : s.Canon) : t.Canon ∧ Lasts s t := by
  induction n generalizing s with
  | zero =>
    obtain rfl : t = s := h
    exact ⟨hs, Lasts.refl t⟩
  | succ n ih =>
    obtain ⟨u, hstep, hrun⟩ := h
    have hkeeps := step_keeps hstep
    obtain ⟨hcanon, hlasts⟩ := ih hrun (hkeeps.canon hs)
    exact ⟨hcanon, (hkeeps.lasts hs).trans hlasts⟩

/-- Settles O23: every command keeps what lasts (`exec_keeps`), so every step and, by induction, every run does; this is the part of it about
frames, ranks, dies and blocks. -/
theorem retirementIsForGood : Obligations.RetirementIsForGood := by
  intro s t n hs hrun
  obtain ⟨-, hlasts⟩ := State.canon_lasts_of_runs hrun hs
  exact ⟨hlasts.frames, hlasts.ranks, hlasts.quay, hlasts.dies, fun b => (hlasts.worn b).symm⟩

end Sys2Proof.Machine
end

section
/-! PROOF. Retired blocks (08_flash_tier.md R298 to R300): of all that retiring a block does (free space, counts, the error log, its die),
only the write of the block itself changes the blocks. -/
namespace Sys2Proof.Machine

/-! ### What the blocks are after each part of a retirement -/

theorem State.block_setBlock_same {s : State} (b : Nat) (x : Block) (hw : swf Block.empty s.flash.blocks = true) :
    (s.setBlock b x).block b = x := sget_sput b x _ hw

theorem State.block_setBlock_ne (s : State) {b c : Nat} (x : Block) (h : c ≠ b) : (s.setBlock b x).block c = s.block c :=
  sget_sput_ne h x _

theorem State.block_ite {c : Prop} [Decidable c] {s t u : State} {b : Nat} (ht : t.block b = s.block b) (hu : u.block b = s.block b) :
    (if c then t else u).block b = s.block b := by
  split
  · exact ht
  · exact hu

theorem State.block_bump (s : State) (cnt sat : Fld) (src b : Nat) : (s.bump cnt sat src).block b = s.block b := by
  simp [State.block]

theorem State.block_pushErr (s : State) (e : ErrEntry) (b : Nat) : (s.pushErr e).block b = s.block b :=
  State.block_ite rfl rfl

theorem State.block_logErr (s : State) (dla : Option Nat) (loc : Nat) (tier : Tier) (type : ErrType) (src : ErrSource)
    (device recovery b : Nat) : (s.logErr dla loc tier type src device recovery).block b = s.block b := by
  unfold State.logErr
  extract_lets e t log
  have ht : t.block b = s.block b := State.block_ite rfl rfl
  refine State.block_ite ht ?_
  split
  · exact ht
  · refine State.block_ite ((State.block_pushErr t e b).trans ht) ?_
    split
    · exact ht
    · exact (State.block_bump _ _ _ _ _).trans ht

theorem State.block_retireDie (s : State) (ch die : Nat) (src : ErrSource) (b : Nat) : (s.retireDie ch die src).block b = s.block b :=
  State.block_ite rfl (State.block_logErr _ _ _ _ _ _ _ _ _)

/-! ### A retired block -/

theorem State.retireBlock_of_bad {s : State} {b : Nat} {src : ErrSource} (h : (s.block b).bad = true) : s.retireBlock b src = s :=
  if_pos h

/-- Of a block not bad yet the retirement marks that block, and no other (R298). -/
theorem State.block_retireBlock_of_not_bad {s : State} {b : Nat} (src : ErrSource) (hs : s.Canon) (h : (s.block b).bad = false) (c : Nat) :
    (s.retireBlock b src).block c = if c = b then { s.block b with bad := true, use := .reserved } else s.block c := by
  unfold State.retireBlock
  extract_lets x freed marked d counted logged bad
  have hfreed : freed.block c = s.block c := State.block_ite (State.setFree_block _ _ _) rfl
  have hcanon : freed.Canon := (keeps_ite (State.setFree_keeps _ (Keeps.refl s)) (Keeps.refl s)).canon hs
  have hlogged : logged.block c = marked.block c := (State.block_logErr _ _ _ _ _ _ _ _ _).trans (State.block_bump _ _ _ _ _)
  rw [if_neg (by simp [x, h]), State.block_ite (State.block_retireDie _ _ _ _ _) rfl, hlogged]
  split
  next hc => exact hc ▸ State.block_setBlock_same b _ hcanon.blocks
  next hc => exact (State.block_setBlock_ne freed _ hc).trans hfreed

/-- Settles O60: a block that is bad already stays as it is; of any other the retirement writes that block alone. -/
theorem retiredBlockIsBad : Obligations.RetiredBlockIsBad := by
  intro s b src hs
  cases h : (s.block b).bad
  case true =>
    rw [State.retireBlock_of_bad h]
    exact ⟨h, fun _ => rfl, fun _ _ => rfl⟩
  case false =>
    have hblock := State.block_retireBlock_of_not_bad src hs h
    refine ⟨?_, nofun, fun x hx => ?_⟩
    · rw [hblock b, if_pos rfl]
    · rw [hblock x, if_neg hx]

end Sys2Proof.Machine
end

section
/-! PROOF. The idle row of a bank (09_dram_and_stacked_memory.md R323): ROW_IDLE_CLOSE writes the entry of its own bank, and only when that
bank's row has gone IDLE cycles without an access. -/
namespace Sys2Proof.Machine

theorem exec_rowIdleClose (s : State) (ch bank : Nat) : exec (.rowIdleClose ch bank) s = .next (s.rowIdle ch bank).settle := rfl

/-! ### The two sides of the idle time -/

section
variable {s : State} {ch bank : Nat} {r : OpenRow} (hrow : sget none s.dram.rows bank = some r)
include hrow

theorem State.rowIdle_of_not_idle (hused : (s.now - r.used) * s.ddrMhz < s.fget F.DMC_PAGE_CTRL_IDLE * 2000) : s.rowIdle ch bank = s := by
  simp only [State.rowIdle, hrow]
  exact if_pos (by simp [hused])

theorem State.rowIdle_of_idle (hch : bank / 1024 = ch) (hidle : s.fget F.DMC_PAGE_CTRL_IDLE * 2000 ≤ (s.now - r.used) * s.ddrMhz) :
    s.rowIdle ch bank = { s with dram := { s.dram with rows := sput none s.dram.rows bank none } } := by
  simp only [State.rowIdle, hrow]
  exact if_neg (by simp [hch, hidle])

end

/-- Settles O44: past the idle time the command clears the bank's entry, which leaves the entries of the other banks; before it, it finds
nothing to do. -/
theorem idleRowCloses : Obligations.IdleRowCloses := by
  intro s ch bank r hrow hch
  refine ⟨fun hidle hcalm => ?_, fun hused hcalm => ?_⟩
  · have hclosed := State.rowIdle_of_idle hrow hch hidle
    refine ⟨?_, hclosed, fun b hb => ?_⟩
    · rw [exec_rowIdleClose, hcalm]
    · rw [hclosed]
      exact sget_sput_ne hb none _
  · rw [exec_rowIdleClose, State.rowIdle_of_not_idle hrow hused, hcalm]

end Sys2Proof.Machine
end

section
/-! PROOF. The cyclic redundancy checks (10_integrity_and_check_units.md R396, R397): a bit shifted in leaves a remainder below 2^width, and
the register is folded over the bytes. -/
namespace Sys2Proof.Machine

theorem crcKind_poly_lt (p : Nat) : (crcKind p).poly < 2 ^ (crcKind p).width := by
  match p with
  | 0 | 1 | 2 | _ + 3 => simp [crcKind]

/-! ### The width of the register -/

section Width
variable {k : CrcKind} (hpoly : k.poly < 2 ^ k.width)
include hpoly

theorem CrcKind.stepBit_lt (v : Nat) (b : Bool) : k.stepBit v b < 2 ^ k.width := by
  have hshift : 2 * v % 2 ^ k.width < 2 ^ k.width := Nat.mod_lt _ (Nat.two_pow_pos _)
  unfold CrcKind.stepBit
  split
  · exact Nat.xor_lt_two_pow hshift hpoly
  · exact hshift

theorem CrcKind.stepByte_lt {v : Nat} (b : Byte) (hv : v < 2 ^ k.width) : k.stepByte v b < 2 ^ k.width :=
  (List.range 8).foldlRecOn _ (motive := (· < 2 ^ k.width)) hv fun a _ _ _ => CrcKind.stepBit_lt hpoly a _

theorem CrcKind.run_lt {v : Nat} (bs : List Byte) (hv : v < 2 ^ k.width) : k.run v bs < 2 ^ k.width :=
  bs.foldlRecOn k.stepByte (motive := (· < 2 ^ k.width)) hv fun _ ha b _ => CrcKind.stepByte_lt hpoly b ha

end Width

/-- A scan that is resumed from its register ends where an unbroken one ends (R402). -/
theorem CrcKind.run_append (k : CrcKind) (v : Nat) (a b : List Byte) : k.run v (a ++ b) = k.run (k.run v a) b :=
  List.foldl_append

/-- Settles O49: each polynomial fits its width, so every bit leaves a register that does; a run is a fold over the bytes. -/
theorem crcRegisterFitsItsWidth : Obligations.CrcRegisterFitsItsWidth :=
  fun p v a b hv => ⟨CrcKind.run_lt (crcKind_poly_lt p) a hv, CrcKind.run_append (crcKind p) v a b⟩

/-- Settles O5, by running each of the four CRCs over the nine digits. -/
theorem checkValuesMatchTable : Obligations.CheckValuesMatchTable :=
  ⟨by decide +kernel, by decide +kernel, by decide +kernel, by decide +kernel⟩

end Sys2Proof.Machine
end

section
/-! PROOF. A lost DIMM (09_dram_and_stacked_memory.md R348, R359, R360; 10_integrity_and_check_units.md R382): the loss is recorded first; giving
the queued requests back and logging the error then leave that record, the memory and the masks of the sources alone, and the source is last. -/
namespace Sys2Proof.Machine

/-! ### What the loss of a DIMM records, and what follows it leaves unchanged -/

/-- The DIMMs that are lost, the bytes of memory and the frames, DIMM_PWR and STATE of one channel, and what decides whether the interrupt
controller takes an edge. -/
structure LossRecord where
  lost : List Nat
  data : SMap Byte
  frame : SMap Nat
  pwr : Nat
  state : Nat
  cfg : SMap (BitVec 32)
  mainOff : Bool

/-- The record of the losses on channel `ch`. -/
def State.lossRecord (s : State) (ch : Nat) : LossRecord :=
  ⟨s.dram.lost, s.dram.data, s.dram.frame, s.fget (F.DMC_STATUS_DIMM_PWR ch), s.fget (F.DMC_STATUS_STATE ch), s.icu.cfg, s.icu.mainOff⟩

/-- The field is neither DIMM_PWR nor STATE of channel `ch`. -/
def Fld.OffDimm (f : Fld) (ch : Nat) : Prop := (F.DMC_STATUS_DIMM_PWR ch).key ≠ f.key ∧ (F.DMC_STATUS_STATE ch).key ≠ f.key

theorem Fld.offDimm_panicFields (c ch : Nat) : (F.DMC_STATUS_PANIC c).OffDimm ch ∧ (F.DMC_PANIC_CNT_VALUE c).OffDimm ch ∧
    (F.DMC_CNT_STATUS_PANIC_SAT c).OffDimm ch := by
  simp only [Fld.OffDimm, Fld.key, F.DMC_STATUS_PANIC, F.DMC_PANIC_CNT_VALUE, F.DMC_CNT_STATUS_PANIC_SAT, F.DMC_STATUS_DIMM_PWR,
    F.DMC_STATUS_STATE]
  omega

/-- The registers of the error log lie above those of the memory controllers. -/
theorem Fld.offDimm_of_intLog {f : Fld} {ch : Nat} (hf : 0x400000 ≤ f.off) (hch : ch < 12) : f.OffDimm ch := by
  simp only [Fld.OffDimm, Fld.key, F.DMC_STATUS_DIMM_PWR, F.DMC_STATUS_STATE]; omega

theorem Icu.edge_cfg (c : Icu) (n : Nat) : (c.edge n).cfg = c.cfg := by
  unfold Icu.edge Icu.watch
  split_ifs <;> rfl

theorem Icu.edge_mainOff (c : Icu) (n : Nat) : (c.edge n).mainOff = c.mainOff := by
  unfold Icu.edge Icu.watch
  split_ifs <;> rfl

section Record
variable {ch : Nat}

theorem State.lossRecord_ite {c : Prop} [Decidable c] {s t u : State} (ht : t.lossRecord ch = s.lossRecord ch)
    (hu : u.lossRecord ch = s.lossRecord ch) : (if c then t else u).lossRecord ch = s.lossRecord ch := by
  split
  · exact ht
  · exact hu

theorem State.lossRecord_foldl {β : Type} {f : State → β → State} (hf : ∀ a x, (f a x).lossRecord ch = a.lossRecord ch) (l : List β)
    (s : State) : (l.foldl f s).lossRecord ch = s.lossRecord ch :=
  l.foldlRecOn f (motive := fun a => a.lossRecord ch = s.lossRecord ch) rfl fun a ha x _ => (hf a x).trans ha

theorem State.lossRecord_raise (s : State) (n : Nat) : (s.raise n).lossRecord ch = s.lossRecord ch := by
  simp only [State.lossRecord, State.raise_icu, Icu.edge_cfg, Icu.edge_mainOff]
  rfl

theorem State.lossRecord_fset (s : State) {f : Fld} (v : Nat) (hf : f.OffDimm ch) : (s.fset f v).lossRecord ch = s.lossRecord ch := by
  simp only [State.lossRecord, State.fget_fset_ne s v hf.1, State.fget_fset_ne s v hf.2, State.fset_dram, State.fset_icu]

theorem State.lossRecord_setBit (s : State) {f : Fld} (b : Bool) (hf : f.OffDimm ch) : (s.setBit f b).lossRecord ch = s.lossRecord ch :=
  State.lossRecord_fset s _ hf

theorem State.lossRecord_bump (s : State) {cnt sat : Fld} (src : Nat) (hcnt : cnt.OffDimm ch) (hsat : sat.OffDimm ch) :
    (s.bump cnt sat src).lossRecord ch = s.lossRecord ch := by
  have hset : (s.fset cnt (s.fget cnt + 1)).lossRecord ch = s.lossRecord ch := State.lossRecord_fset s _ hcnt
  refine State.lossRecord_ite rfl (State.lossRecord_ite ?_ hset)
  exact (State.lossRecord_raise _ _).trans ((State.lossRecord_setBit _ _ hsat).trans hset)

/-! ### Queued requests that go back to recovery (R348) -/

theorem State.lossRecord_setSub (s : State) (key : Nat) (c : SubChan) : (s.setSub key c).lossRecord ch = s.lossRecord ch :=
  State.lossRecord_ite rfl rfl

theorem State.lossRecord_portFill (s : State) (c port fill : Nat) : (s.portFill c port fill).lossRecord ch = s.lossRecord ch := by
  obtain ⟨hpanic, hcnt, hsat⟩ := Fld.offDimm_panicFields c ch
  exact (State.lossRecord_setBit _ _ hpanic).trans (State.lossRecord_ite (State.lossRecord_bump _ _ hcnt hsat) rfl)

theorem State.lossRecord_portLess (s : State) (c : Nat) (p : DmcPort) : (s.portLess c p).lossRecord ch = s.lossRecord ch := by
  cases p
  case host => rfl
  case saveFlush | mirrorIn => exact State.lossRecord_portFill s _ _ _

theorem State.lossRecord_complete (s : State) (o : Origin) (id since ready : Nat) (mirrored : Bool) (lat : Option Lat) :
    (s.complete o id since ready mirrored lat).lossRecord ch = s.lossRecord ch := by
  cases o <;> rfl

theorem State.lossRecord_dropQueued (s : State) (keys : List Nat) (lost : Nat → Bool) :
    (s.dropQueued keys lost).lossRecord ch = s.lossRecord ch := by
  refine State.lossRecord_foldl (fun a key => ?_) keys s
  refine (State.lossRecord_foldl (fun b w => ?_) _ _).trans (State.lossRecord_setSub a key _)
  extract_lets freed
  have hport : freed.lossRecord ch = b.lossRecord ch := State.lossRecord_ite (State.lossRecord_portLess b _ _) rfl
  split
  · exact (State.lossRecord_complete _ _ _ _ _ _ _).trans hport
  · exact hport

/-! ### The entry in the error log (10 R391) -/

section Log
variable (hch : ch < 12)
include hch

theorem State.lossRecord_pushErr (s : State) (e : ErrEntry) : (s.pushErr e).lossRecord ch = s.lossRecord ch := by
  have hoff {f : Fld} (hf : 0x400000 ≤ f.off) : f.OffDimm ch := Fld.offDimm_of_intLog hf hch
  unfold State.pushErr
  extract_lets l _ logged counted
  have hcounted : counted.lossRecord ch = s.lossRecord ch :=
    (State.lossRecord_fset _ _ (hoff (by decide))).trans (State.lossRecord_fset logged _ (hoff (by decide)))
  refine State.lossRecord_ite ((State.lossRecord_raise _ _).trans ?_) hcounted
  exact (State.lossRecord_setBit _ _ (hoff (by decide))).trans hcounted

theorem State.lossRecord_logErr (s : State) (dla : Option Nat) (loc : Nat) (tier : Tier) (type : ErrType) (src : ErrSource)
    (device recovery : Nat) : (s.logErr dla loc tier type src device recovery).lossRecord ch = s.lossRecord ch := by
  have hoff {f : Fld} (hf : 0x400000 ≤ f.off) : f.OffDimm ch := Fld.offDimm_of_intLog hf hch
  unfold State.logErr
  extract_lets e t log
  have ht : t.lossRecord ch = s.lossRecord ch := State.lossRecord_ite (State.lossRecord_raise s _) rfl
  refine State.lossRecord_ite ht ?_
  split
  · exact ht
  · refine State.lossRecord_ite ((State.lossRecord_pushErr hch t e).trans ht) ?_
    split
    · exact (State.lossRecord_fset _ _ (hoff (by decide))).trans ht
    · exact (State.lossRecord_bump _ _ (hoff (by decide)) (hoff (by decide))).trans ht

end Log
end Record

/-! ### The record of a loss -/

theorem mem_insNat_iff {n x : Nat} {l : List Nat} : x ∈ insNat n l ↔ x = n ∨ x ∈ l := ⟨mem_insNat_inv, mem_insNat⟩

theorem testBit_sub_two_pow_same {v i : Nat} (h : v.testBit i = true) : (v - 2 ^ i).testBit i = false := by
  have hflip := Nat.testBit_two_pow_add_eq (v - 2 ^ i) i
  rw [Nat.add_sub_cancel' (Nat.ge_two_pow_of_testBit h), h] at hflip
  simpa using hflip

theorem State.fbit_setFbit_false {s : State} (f : Fld) (i : Nat) (hw : swf 0 s.regs = true) : (s.setFbit f i false).fbit f i = false := by
  have hcleared : (s.fget f - if s.fbit f i then 2 ^ i else 0).testBit i = false := by
    cases hbit : s.fbit f i
    case false => exact hbit
    case true => exact testBit_sub_two_pow_same hbit
  unfold State.fbit State.setFbit
  rw [State.fget_fset s _ _ hw, Nat.testBit_mod_two_pow, if_neg Bool.false_ne_true]
  exact (congrArg _ hcleared).trans (Bool.and_false _)

/-- DIMM `slot` of channel `ch` is lost and without power. -/
def State.dimmOff (s : State) (ch slot : Nat) : State :=
  { s with dram := { s.dram with lost := insNat (ch * 2 + slot) s.dram.lost } }.setFbit (F.DMC_STATUS_DIMM_PWR ch) slot false

/-- `State.dimmOff`, with the channel out of service when that leaves it no DIMM (R348). -/
def State.withoutDimm (s : State) (ch slot : Nat) : State :=
  if (s.dimmOff ch slot).chanLost ch then (s.dimmOff ch slot).fset (F.DMC_STATUS_STATE ch) 4 else s.dimmOff ch slot

section Loss
variable {s : State} {ch slot : Nat}

theorem State.withoutDimm_dram (s : State) (ch slot : Nat) :
    (s.withoutDimm ch slot).dram = { s.dram with lost := insNat (ch * 2 + slot) s.dram.lost } := by
  unfold State.withoutDimm
  split <;> rfl

theorem State.withoutDimm_icu (s : State) (ch slot : Nat) : (s.withoutDimm ch slot).icu = s.icu := by
  unfold State.withoutDimm
  split <;> rfl

theorem State.fbit_pwr_withoutDimm (hw : swf 0 s.regs = true) : (s.withoutDimm ch slot).fbit (F.DMC_STATUS_DIMM_PWR ch) slot = false := by
  have hkey : (F.DMC_STATUS_DIMM_PWR ch).key ≠ (F.DMC_STATUS_STATE ch).key := by
    simp [Fld.key, F.DMC_STATUS_DIMM_PWR, F.DMC_STATUS_STATE]
  have hpwr : (s.dimmOff ch slot).fbit (F.DMC_STATUS_DIMM_PWR ch) slot = false := State.fbit_setFbit_false _ _ hw
  unfold State.withoutDimm
  split
  · rw [State.fbit, State.fget_fset_ne _ _ hkey]
    exact hpwr
  · exact hpwr

theorem State.fget_state_withoutDimm (hw : swf 0 s.regs = true) (hlast : ∀ d < s.dram.pop.dpc, d = slot ∨ ch * 2 + d ∈ s.dram.lost) :
    (s.withoutDimm ch slot).fget (F.DMC_STATUS_STATE ch) = 4 := by
  have hempty : (s.dimmOff ch slot).chanLost ch = true := by
    simp only [State.chanLost, List.all_eq_true, List.mem_range, List.contains_iff_mem]
    exact fun d hd => mem_insNat ((hlast d hd).imp_left (congrArg _))
  rw [State.withoutDimm, if_pos hempty]
  exact State.fget_fset _ _ _ (State.fset_wf _ _ _ hw)

/-- In service, and the main island out of reset, the loss is recorded and raises DMC_CH_DOWN; the steps between leave the record. -/
theorem State.dimmLoss_of_in_service (hch : ch < 12) (hslot : slot < s.dram.pop.dpc) (hreset : s.clk.inReset = false)
    (hin : ch * 2 + slot ∉ s.dram.lost) :
    ∃ t : State, s.dimmLoss ch slot = t.raise (256 + 8 * ch) ∧ t.lossRecord ch = (s.withoutDimm ch slot).lossRecord ch := by
  refine ⟨_, if_neg ?_, (State.lossRecord_logErr hch _ _ _ _ _ _ _ _).trans (State.lossRecord_dropQueued _ _ _)⟩
  simpa [hreset, hin] using ⟨hch, hslot⟩

end Loss

theorem validSource_dmcChDown {ch : Nat} (hch : ch < 12) : validSource (256 + 8 * ch) = true := by
  simp only [validSource, Bool.or_eq_true, Bool.and_eq_true, decide_eq_true_eq]
  omega

/-- Settles O45: the loss ends in the edge of DMC_CH_DOWN on a state with the record of `State.withoutDimm`. -/
theorem dimmLossIsRecorded : Obligations.DimmLossIsRecorded := by
  intro s ch slot hw hch hslot _ hreset hin
  obtain ⟨t, hloss, hrecord⟩ := State.dimmLoss_of_in_service hch hslot hreset hin
  obtain ⟨hlost, hdata, hframe, hpwr, hstate, hcfg, hmain⟩ := LossRecord.mk.inj hrecord
  rw [State.withoutDimm_dram] at hlost hdata hframe
  rw [State.withoutDimm_icu] at hcfg hmain
  rw [hloss]
  refine ⟨hloss ▸ rfl, fun d => ?_, hdata, hframe, ?_, fun hlast => ?_, fun hon hen => ?_⟩
  · rw [State.raise_dram, hlost]
    exact mem_insNat_iff
  · exact (congrArg (Nat.testBit · slot) hpwr).trans (State.fbit_pwr_withoutDimm hw)
  · exact hstate.trans (State.fget_state_withoutDimm hw hlast)
  · have hent : t.icu.en (256 + 8 * ch) = true := by rwa [Icu.en, hcfg]
    rw [State.raise_icu, Icu.pend_edge_of_en (hmain.trans hon) hent (validSource_dmcChDown hch)]
    exact mem_insNat (.inl rfl)

end Sys2Proof.Machine
end

section
/-! PROOF. VAON samples, the daily fade of the pack and the end of a ride (11_energy_pack_and_power_loss.md R414, R430, R437): each command is
a few register writes beside one field of the energy-pack controller, so what it leaves unchanged follows write by write. -/
namespace Sys2Proof.Machine

/-- A command whose effect leaves nothing due answers that effect. -/
theorem exec_of_calm {c : Instr} {s t : State} (hexec : exec c s = .next t.settle) (hcalm : t.Calm) : exec c s = .next t :=
  hexec.trans (congrArg Host.Outcome.next hcalm)

/-! ### Writes to the listed fields only -/

theorem SameFieldsBut.refl (fs : List Fld) (s : State) : SameFieldsBut fs s s := fun _ _ => rfl

theorem SameFieldsBut.fset {fs : List Fld} {s t : State} {f : Fld} (h : SameFieldsBut fs s t) (v : Nat) (hf : f ∈ fs) :
    SameFieldsBut fs s (t.fset f v) :=
  fun g hg => (State.fget_fset_ne t v (hg f hf)).trans (h g hg)

theorem SameFieldsBut.setBit {fs : List Fld} {s t : State} {f : Fld} (h : SameFieldsBut fs s t) (b : Bool) (hf : f ∈ fs) :
    SameFieldsBut fs s (t.setBit f b) :=
  h.fset _ hf

/-! ### Power that returns during RIDE (R430) -/

theorem exec_ridePowerReturn (s : State) : exec .ridePowerReturn s = .next s.rideReturn.settle := rfl

theorem State.rideReturn_of_not_ride {s : State} (hpf : s.fget F.EPC_STATUS_PF_STATE ≠ 1) : s.rideReturn = s :=
  if_pos (by simp [hpf])

theorem State.rideReturn_of_ride {s : State} (hreset : s.clk.inReset = false) (hpf : s.fget F.EPC_STATUS_PF_STATE = 1) :
    s.rideReturn =
      (((s.setClk { s.clk with pfailN := true }).setBit F.EPC_DRIVE_HOLD false).fset F.EPC_STATUS_PF_STATE 0).setEpc
        { s.epc with frozen := false } :=
  if_neg (by simp [hreset, hpf])

/-- Settles O43: outside RIDE the command finds nothing to do; in RIDE it writes HOLD, then PF_STATE, which are different fields. -/
theorem rideEndsWithPowerBack : Obligations.RideEndsWithPowerBack := by
  intro s hw hreset
  refine ⟨fun hpf hcalm => ?_, fun hpf hcalm => ?_⟩
  · have hsame := State.rideReturn_of_not_ride hpf
    rw [exec_ridePowerReturn, hsame, hcalm]
  · refine ⟨exec_of_calm (exec_ridePowerReturn s) hcalm, ?_⟩
    rw [State.rideReturn_of_ride hreset hpf]
    refine ⟨?_, ?_, ?_, rfl⟩
    · rw [State.fget_setEpc]
      exact State.fget_fset _ _ _ (State.setBit_wf _ _ _ hw)
    · rw [State.bit_setEpc, State.bit, State.fget_fset_ne _ _ (by decide)]
      exact State.bit_setBit _ _ _ hw rfl
    · exact ((SameFieldsBut.refl _ s).setBit false (by simp)).fset 0 (by simp)

/-! ### The daily fade (R414) -/

theorem exec_healthFade (s : State) : exec .healthFade s = .next s.healthFade.settle := rfl

theorem State.epc_loadReg (s : State) (sp : RegSpec) (off v : Nat) : (s.loadReg sp off v).epc = s.epc :=
  sp.held.foldlRecOn _ (motive := fun a : State => a.epc = s.epc) rfl fun _ ha _ _ => ha

/-- The words between the links' and the watcher's have no effect but on their register (18 R659). -/
theorem State.wordHook_of_between {w : Nat} (s : State) (hlink : 0xAF < w) (hwatch : w < 0x2A1) : s.wordHook w = s := by
  unfold State.wordHook
  simp only [Bool.and_eq_true, decide_eq_true_eq]
  rw [if_neg (by omega), if_neg (by omega), if_neg (by omega)]

theorem State.epc_setLive {w : Nat} (s : State) (v : Nat) (hlink : 0xAF < w) (hwatch : w < 0x2A1) : (s.setLive w v).epc = s.epc := by
  unfold State.setLive
  rw [State.wordHook_of_between _ hlink hwatch]
  split
  · exact State.epc_loadReg s _ _ _
  · rfl

theorem State.epc_arriveWord {w : Nat} (s : State) (v : Nat) (main : Bool) (hlink : 0xAF < w) (hwatch : w < 0x2A1) :
    (s.arriveWord w v main).epc = s.epc := by
  have hlive := State.epc_setLive s v hlink hwatch
  unfold State.arriveWord
  split
  · exact (State.bump_epc _ _ _ _).trans hlive
  · exact hlive

/-- H, its register and its settings word are all that a change of the health writes. -/
theorem State.epc_setHealth (s : State) (h : Frac) : (s.setHealth h).epc = { s.epc with soh := h } := by
  unfold State.setHealth
  dsimp only
  split
  · rfl
  · exact State.epc_arriveWord (w := 0x224) _ _ _ (by decide) (by decide)

/-- Settles O42: before the day is over the command finds nothing to do; after it the controller holds the faded H and the next day. -/
theorem healthFadesDaily : Obligations.HealthFadesDaily := by
  intro s
  refine ⟨fun hbefore hcalm => ?_, fun hday hcalm => ⟨exec_of_calm (exec_healthFade s) hcalm, ?_⟩⟩
  · have hsame : s.healthFade = s := if_pos hbefore
    rw [exec_healthFade, hsame, hcalm]
  · unfold State.healthFade
    rw [if_neg (by omega)]
    exact State.epc_setHealth _ _

/-! ### A sample of VAON (R437) -/

theorem exec_vaonSample (s : State) (mv : Nat) : exec (.vaonSample mv) s = .next (s.vaonSample mv).settle := rfl

/-- The recorder counts the sample in its epoch or leaves it out; nothing else changes. -/
theorem State.recVaon_eq (s : State) (mv : Int) : s.recVaon mv = { s with recd := (s.recVaon mv).recd } := by
  unfold State.recVaon
  split <;> rfl

/-- NOW and MIN after a sample of `mv`. -/
def State.vaonNoted (s : State) (mv : Nat) : State :=
  (s.fset F.EPC_VAON_NOW mv).fset F.EPC_VAON_MIN (min mv (s.fget F.EPC_VAON_MIN))

/-- NOW, MIN and the recorder after a sample of `mv`: what the sample changes whatever its value. -/
def State.vaonStored (s : State) (mv : Nat) : State := (s.vaonNoted mv).recVaon mv

theorem State.regs_vaonStored (s : State) (mv : Nat) : (s.vaonStored mv).regs = (s.vaonNoted mv).regs := by
  rw [State.vaonStored, State.recVaon_eq]

theorem State.fget_vaonStored (s : State) (mv : Nat) (g : Fld) : (s.vaonStored mv).fget g = (s.vaonNoted mv).fget g :=
  congrArg (sget 0 · g.key) (State.regs_vaonStored s mv)

theorem State.vaonStored_eq (s : State) (mv : Nat) :
    s.vaonStored mv = { s with regs := (s.vaonStored mv).regs, recd := (s.vaonStored mv).recd } := by
  rw [State.regs_vaonStored]
  exact State.recVaon_eq _ _

theorem State.icu_vaonStored (s : State) (mv : Nat) : (s.vaonStored mv).icu = s.icu := by rw [State.vaonStored_eq]

section Sample
variable {s : State} {mv : Nat}

theorem State.sameFieldsBut_vaonStored {fs : List Fld} (hnow : F.EPC_VAON_NOW ∈ fs) (hmin : F.EPC_VAON_MIN ∈ fs) :
    SameFieldsBut fs s (s.vaonStored mv) :=
  fun g hg => (State.fget_vaonStored s mv g).trans ((((SameFieldsBut.refl fs s).fset mv hnow).fset _ hmin) g hg)

theorem State.fget_now_vaonStored (hw : swf 0 s.regs = true) (hmv : mv < 2 ^ 16) : (s.vaonStored mv).fget F.EPC_VAON_NOW = mv := by
  rw [State.fget_vaonStored, State.vaonNoted, State.fget_fset_ne _ _ (by decide), State.fget_fset _ _ _ hw]
  exact Nat.mod_eq_of_lt hmv

theorem State.fget_min_vaonStored (hw : swf 0 s.regs = true) (hmv : mv < 2 ^ 16) :
    (s.vaonStored mv).fget F.EPC_VAON_MIN = min mv (s.fget F.EPC_VAON_MIN) := by
  rw [State.fget_vaonStored, State.vaonNoted, State.fget_fset _ _ _ (State.fset_wf _ _ _ hw)]
  exact Nat.mod_eq_of_lt (lt_of_le_of_lt (min_le_left _ _) hmv)

theorem State.vaonSample_of_low (hlow : mv < 2800) :
    s.vaonSample mv = ((s.vaonStored mv).setBit F.EPC_STATUS_VAON_LOW true).raise 439 := by
  unfold State.vaonSample
  rw [Nat.mod_eq_of_lt (hlow.trans (by decide))]
  exact if_pos hlow

theorem State.vaonSample_of_not_low (hmv : mv < 2 ^ 16) (hok : 2800 ≤ mv) : s.vaonSample mv = s.vaonStored mv := by
  unfold State.vaonSample
  rw [Nat.mod_eq_of_lt (by omega)]
  exact if_neg hok.not_gt

/-- A low sample writes VAON_LOW, and it only, beside what every sample writes. -/
theorem State.fget_vaonSample {g : Fld} (hmv : mv < 2 ^ 16) (hg : g.key ≠ F.EPC_STATUS_VAON_LOW.key) :
    (s.vaonSample mv).fget g = (s.vaonStored mv).fget g := by
  rcases Nat.lt_or_ge mv 2800 with hlow | hok
  · rw [State.vaonSample_of_low hlow, State.fget_raise, State.fget_setBit_ne _ _ hg]
  · rw [State.vaonSample_of_not_low hmv hok]

theorem State.sameFieldsBut_vaonSample (hmv : mv < 2 ^ 16) :
    SameFieldsBut [F.EPC_VAON_NOW, F.EPC_VAON_MIN, F.EPC_STATUS_VAON_LOW] s (s.vaonSample mv) :=
  fun g hg => (State.fget_vaonSample hmv (hg _ (by simp))).trans (State.sameFieldsBut_vaonStored (by simp) (by simp) g hg)

theorem State.vaonSample_eq (hmv : mv < 2 ^ 16) :
    s.vaonSample mv = { s with regs := (s.vaonSample mv).regs, icu := (s.vaonSample mv).icu, recd := (s.vaonSample mv).recd } := by
  rcases Nat.lt_or_ge mv 2800 with hlow | hok
  · rw [State.vaonSample_of_low hlow, State.vaonStored_eq]
    rfl
  · rw [State.vaonSample_of_not_low hmv hok, State.vaonStored_eq]

theorem State.bit_low_vaonSample (hw : swf 0 s.regs = true) (hlow : mv < 2800) :
    (s.vaonSample mv).bit F.EPC_STATUS_VAON_LOW = true := by
  have hstored : swf 0 (s.vaonStored mv).regs = true := State.regs_vaonStored s mv ▸ State.fset_wf _ _ _ (State.fset_wf _ _ _ hw)
  rw [State.vaonSample_of_low hlow]
  exact State.bit_setBit _ _ _ hstored rfl

theorem State.mem_pend_vaonSample (hlow : mv < 2800) (hon : s.icu.mainOff = false) (hen : s.icu.en 439 = true) :
    439 ∈ (s.vaonSample mv).icu.pend := by
  rw [State.vaonSample_of_low hlow, State.raise_icu, State.setBit_icu, State.icu_vaonStored, Icu.pend_edge_of_en hon hen (by decide)]
  exact mem_insNat (.inl rfl)

end Sample

/-- Settles O41: every sample writes NOW, MIN and the recorder; only one below 2,800 mV goes on to VAON_LOW and its source. -/
theorem vaonSampleReport : Obligations.VaonSampleReport := by
  intro s mv hw hmv hcalm
  refine ⟨exec_of_calm (exec_vaonSample s mv) hcalm, ?_, ?_, fun hlow => ?_, fun hok => ?_, State.sameFieldsBut_vaonSample hmv,
    State.vaonSample_eq hmv⟩
  · rw [State.fget_vaonSample hmv (by decide), State.fget_now_vaonStored hw hmv]
  · rw [State.fget_vaonSample hmv (by decide), State.fget_min_vaonStored hw hmv]
  · exact ⟨State.bit_low_vaonSample hw hlow, State.mem_pend_vaonSample hlow⟩
  · rw [State.vaonSample_of_not_low hmv hok]
    refine ⟨?_, State.icu_vaonStored s mv⟩
    have hlow := State.sameFieldsBut_vaonStored (s := s) (mv := mv) (fs := [F.EPC_VAON_NOW, F.EPC_VAON_MIN]) (by simp) (by simp)
      F.EPC_STATUS_VAON_LOW (by decide)
    rw [State.bit, State.bit, hlow]

end Sys2Proof.Machine
end

section
/-! PROOF. Heartbeat paths and the lease of the twin (12_twin_operation_and_claims.md R458, R470): a path that falls silent writes its status
bit and the count of losses, and raises TWN_HB_PATH; a lease that lapses frees what the twin held. -/
namespace Sys2Proof.Machine

/-! ### A heartbeat path (R458) -/

/-- The bit of TWN_STATUS that reads 1 while the path is up. -/
def hbPathFld (side : Bool) : Fld := if side then F.TWN_STATUS_HB_SIDE else F.TWN_STATUS_HB_MIR

/-- The time of the last heartbeat that the path carried and that counted. -/
def State.hbPathTime (s : State) (side : Bool) : Nat := if side then s.twin.sideTime else s.twin.mirTime

theorem hbPathFld_width (side : Bool) : (hbPathFld side).width = 1 := by cases side <;> rfl

theorem hbLossCnt_key_ne_hbPathFld (side : Bool) : F.TWN_HB_LOSS_CNT_VALUE.key ≠ (hbPathFld side).key := by cases side <;> decide

theorem exec_hbPathLoss (s : State) (side : Bool) : exec (.hbPathLoss side) s = .next (s.hbPathLoss side).settle := rfl

theorem State.hbPathLoss_eq (s : State) (side : Bool) :
    s.hbPathLoss side =
      if s.clk.inReset || !s.bit (hbPathFld side) || s.now - s.hbPathTime side < ms 1 then s
      else ((s.setBit (hbPathFld side) false).bump F.TWN_HB_LOSS_CNT_VALUE F.TWN_CNT_STATUS_HB_LOSS_SAT 459).raise 450 := rfl

/-- A loss that does not saturate the count clears the bit of the path, counts one and raises TWN_HB_PATH (source 450). -/
theorem State.hbPathLoss_of_silent {s : State} {side : Bool} (hreset : s.clk.inReset = false) (hup : s.bit (hbPathFld side) = true)
    (hsilent : ms 1 ≤ s.now - s.hbPathTime side) (hcnt : s.fget F.TWN_HB_LOSS_CNT_VALUE + 1 < 2 ^ 32 - 1) :
    s.hbPathLoss side =
      ((s.setBit (hbPathFld side) false).fset F.TWN_HB_LOSS_CNT_VALUE (s.fget F.TWN_HB_LOSS_CNT_VALUE + 1)).raise 450 := by
  have hkept : (s.setBit (hbPathFld side) false).fget F.TWN_HB_LOSS_CNT_VALUE = s.fget F.TWN_HB_LOSS_CNT_VALUE :=
    State.fget_setBit_ne _ _ (hbLossCnt_key_ne_hbPathFld side)
  have hwidth : F.TWN_HB_LOSS_CNT_VALUE.width = 32 := rfl
  rw [State.hbPathLoss_eq, if_neg (by simp [hreset, hup, hsilent]),
    State.bump_below _ _ (by rw [hkept, hwidth]; omega) (by rw [hkept, hwidth]; omega), hkept]

/-- Settles O52: the loss writes the bit of the path, then the count, which is another field, and ends in the edge of source 450. -/
theorem heartbeatPathLoss : Obligations.HeartbeatPathLoss := by
  intro s side hw hreset hup hsilent hcnt hcalm
  refine ⟨exec_of_calm (exec_hbPathLoss s side) hcalm, ?_⟩
  rw [State.hbPathLoss_of_silent hreset hup hsilent hcnt]
  refine ⟨?_, ?_, fun hon hen => ?_, ?_, rfl⟩
  · change State.bit _ (hbPathFld side) = false
    rw [State.bit_raise, State.bit, State.fget_fset_ne _ _ (hbLossCnt_key_ne_hbPathFld side).symm]
    exact State.bit_setBit _ _ _ hw (hbPathFld_width side)
  · rw [State.fget_raise, State.fget_fset _ _ _ (State.setBit_wf _ _ _ hw)]
    exact Nat.mod_eq_of_lt (lt_of_lt_of_le hcnt (Nat.sub_le _ _))
  · rw [State.raise_icu, State.fset_icu, State.setBit_icu, Icu.pend_edge_of_en hon hen (by decide)]
    exact mem_insNat (.inl rfl)
  · exact ((SameFieldsBut.refl _ s).setBit false (.head _)).fset _ (.tail _ (.head _))

/-! ### The lease of the twin (R470) -/

theorem exec_leaseLapseObserver (s : State) : exec .leaseLapseObserver s = .next s.peerLapse.settle := rfl

theorem State.peerLapse_of_not_due {s : State} (hkept : s.twin.peerFree = true ∨ s.now - s.twin.peerRenew < ms 4) : s.peerLapse = s :=
  if_pos (by simpa using hkept)

theorem State.peerLapse_of_due {s : State} (hheld : s.twin.peerFree = false) (hdue : ms 4 ≤ s.now - s.twin.peerRenew) :
    s.peerLapse = { s with twin := { s.twin with peerFree := true, peerSets := 0, peerAct := 0 } } :=
  if_neg (by simp [hheld, hdue])

/-- Settles O53: the lapse is due from 4.0 ms on while the twin holds gates, and else the command finds nothing to do. -/
theorem observerLeaseLapses : Obligations.ObserverLeaseLapses := by
  refine fun s => ⟨fun hkept hcalm => ?_, fun hheld hdue hcalm => ?_⟩
  · rw [exec_leaseLapseObserver, State.peerLapse_of_not_due hkept, hcalm]
  · rw [exec_leaseLapseObserver, State.peerLapse_of_due hheld hdue, hcalm]

end Sys2Proof.Machine
end

section
/-! PROOF. An Ethernet link that comes up (13_umond_transport.md R539): the command writes STATE 3 and ends in the edge of the link's source. -/
namespace Sys2Proof.Machine

theorem exec_ethLinkUp (s : State) (l : Nat) : exec (.ethLinkUp l) s = .next (s.ethUp l).settle := rfl

/-- UTE_LINK_UP of each of the four links is one of the sources of R599 and R600. -/
theorem validSource_uteLinkUp {l : Nat} (hl : l < 4) : validSource (96 + l) = true := by
  have hall : ∀ k < 4, validSource (96 + k) = true := by decide
  exact hall l hl

/-- A link that is DOWN or TRAINING becomes UP, and raises UTE_LINK_UP of its number (source 96 + l). -/
theorem State.ethUp_of_trains {s : State} {l : Nat} (hl : l < 4) (hreset : s.clk.inReset = false) (hpower : s.power = 0 ∨ s.power = 2)
    (htrains : s.fget (F.UTE_LINK_STATUS_STATE l) = 1 ∨ s.fget (F.UTE_LINK_STATUS_STATE l) = 2) :
    s.ethUp l = (s.fset (F.UTE_LINK_STATUS_STATE l) 3).raise (96 + l) :=
  if_neg (by simpa [hl, hreset] using ⟨or_iff_not_imp_left.mp hpower, or_iff_not_imp_left.mp htrains⟩)

/-- Settles O54: the effect is one register write and one edge, so the field written, the pending source and the frame are read off it. -/
theorem ethernetLinkComesUp : Obligations.EthernetLinkComesUp := by
  intro s l hw hl hreset hpower htrains hcalm
  refine ⟨exec_of_calm (exec_ethLinkUp s l) hcalm, ?_⟩
  rw [State.ethUp_of_trains hl hreset hpower htrains]
  refine ⟨?_, fun hon hen => ?_, ?_, rfl⟩
  · rw [State.fget_raise, State.fget_fset _ _ _ hw]
    rfl
  · rw [State.raise_icu, State.fset_icu, Icu.pend_edge_of_en hon hen (validSource_uteLinkUp hl)]
    exact mem_insNat (.inl rfl)
  · exact (SameFieldsBut.refl _ s).fset 3 (.head _)

end Sys2Proof.Machine
end

section
/-! PROOF. Runs: every step undoes nothing (18 R664, R665), a frozen settings word stays frozen over any run, and the commands that wait are
all taken, since none of them stops the machine. -/
namespace Sys2Proof.Machine

/-- Settles O20: a step runs the front command, which undoes nothing, or lets one cycle pass (`step_keeps`). -/
theorem everyStepKeeps : Obligations.EveryStepKeeps := fun _ _ hstep => step_keeps hstep

/-- Settles O22: what lasts over a run holds the frozen words at their value and their counters at 10,000,000 or above. -/
theorem frozenWordIsNeverWrittenAgain : Obligations.FrozenWordIsNeverWrittenAgain := by
  intro s t n w hs hrun hfrozen
  obtain ⟨-, hlasts⟩ := State.canon_lasts_of_runs hrun hs
  exact ⟨hlasts.frozenWord hfrozen, hlasts.frozen w hfrozen⟩

/-- Settles O1, by the definition of a step. -/
theorem stepRunsTheFrontCommand : Obligations.StepRunsTheFrontCommand := by
  intro c rest s hpending
  rw [step, hpending]

/-- Settles O2, by the definition of a step. -/
theorem emptyQueuePassesACycle : Obligations.EmptyQueuePassesACycle := by
  intro s hempty
  have hstep : step s = .next ({ s with now := s.now + 1 } : State).settle := by rw [step, hempty]
  exact ⟨hstep, fun hcalm => hstep.trans (congrArg Host.Outcome.next hcalm)⟩

/-! ### A queue that runs dry -/

/-- A step answers a next state whatever waits, because every command does (`exec_keeps`). -/
theorem exists_step_next (s : State) : ∃ t, step s = .next t := by
  cases hpending : s.pending with
  | nil => exact ⟨_, (emptyQueuePassesACycle s hpending).1⟩
  | cons c rest =>
    obtain ⟨t, hexec, -⟩ := exec_keeps c { s with pending := rest }
    exact ⟨t, (stepRunsTheFrontCommand c rest s hpending).trans hexec⟩

/-- Any number of steps is a run. -/
theorem exists_runs (n : Nat) (s : State) : ∃ t, s.Runs t n := by
  induction n generalizing s with
  | zero => exact ⟨s, rfl⟩
  | succ n ih =>
    obtain ⟨u, hstep⟩ := exists_step_next s
    obtain ⟨t, hrun⟩ := ih u
    exact ⟨t, u, hstep, hrun⟩

/-- A run of `n` steps takes the first `n` commands off the queue; time does not run back and what was sent stays sent. -/
theorem State.pending_now_out_of_runs {n : Nat} {s t : State} (h : s.Runs t n) :
    t.pending = s.pending.drop n ∧ s.now ≤ t.now ∧ s.out <:+ t.out := by
  induction n generalizing s with
  | zero =>
    obtain rfl : t = s := h
    exact ⟨rfl, le_rfl, List.suffix_rfl⟩
  | succ n ih =>
    obtain ⟨u, hstep, hrun⟩ := h
    have hkeeps := step_keeps hstep
    obtain ⟨hpending, hnow, hout⟩ := ih hrun
    refine ⟨?_, hkeeps.now.trans hnow, hkeeps.out.trans hout⟩
    rw [hpending, hkeeps.pending, List.drop_tail]

/-- Settles O21: a run of as many steps as commands wait exists, drops them all, and undoes nothing. -/
theorem queueRunsDry : Obligations.QueueRunsDry := by
  intro s
  obtain ⟨t, hrun⟩ := exists_runs s.pending.length s
  obtain ⟨hpending, hnow, hout⟩ := State.pending_now_out_of_runs hrun
  exact ⟨t, hrun, hpending.trans List.drop_length, hnow, hout, State.canon_lasts_of_runs hrun⟩

end Sys2Proof.Machine
end

section
/-! PROOF. Completion of the commands, family by family: every command undoes nothing (`exec_keeps`), so a command completes with an effect
as soon as `exec` answers that effect, settled. -/
namespace Sys2Proof.Machine

/-- A command that answers its effect, settled, completes: what `exec_keeps` says of its answer holds of that state. -/
theorem completes_of_exec {c : Instr} {eff : State → State} (hexec : ∀ s, exec c s = .next (eff s).settle) : Completes c eff := by
  intro s
  obtain ⟨t, ht, hkeeps⟩ := exec_keeps c s
  have heff : t = (eff s).settle := Host.Outcome.next.inj (ht.symm.trans (hexec s))
  exact ⟨hexec s, heff ▸ hkeeps⟩

/-- Settles O6: each row of the statement is the command's own row of `exec`. -/
theorem registerAndTestCommandsComplete : Obligations.RegisterAndTestCommandsComplete := by
  and_intros <;> intros <;> exact completes_of_exec fun _ => rfl

/-- Settles O7: each row of the statement is the command's own row of `exec`. -/
theorem clockAndResetCommandsComplete : Obligations.ClockAndResetCommandsComplete := by
  and_intros <;> intros <;> exact completes_of_exec fun _ => rfl

/-- Settles O8: each row of the statement is the command's own row of `exec`. -/
theorem coreAndInterruptCommandsComplete : Obligations.CoreAndInterruptCommandsComplete := by
  and_intros <;> intros <;> exact completes_of_exec fun _ => rfl

/-- Settles O9: each row of the statement is the command's own row of `exec`. -/
theorem dramAndQuayCommandsComplete : Obligations.DramAndQuayCommandsComplete := by
  and_intros <;> intros <;> exact completes_of_exec fun _ => rfl

/-- Settles O10: each row of the statement is the command's own row of `exec`. -/
theorem flashCommandsComplete : Obligations.FlashCommandsComplete := by
  and_intros <;> intros <;> exact completes_of_exec fun _ => rfl

/-- Settles O11: each row of the statement is the command's own row of `exec`. -/
theorem energyPackCommandsComplete : Obligations.EnergyPackCommandsComplete := by
  and_intros <;> intros <;> exact completes_of_exec fun _ => rfl

/-- Settles O12: each row of the statement is the command's own row of `exec`. -/
theorem integrityCommandsComplete : Obligations.IntegrityCommandsComplete := by
  and_intros <;> intros <;> exact completes_of_exec fun _ => rfl

/-- Settles O13: each row of the statement is the command's own row of `exec`. -/
theorem persistenceCommandsComplete : Obligations.PersistenceCommandsComplete := by
  and_intros <;> intros <;> exact completes_of_exec fun _ => rfl

/-- Settles O14: each row of the statement is the command's own row of `exec`. -/
theorem hostPortCommandsComplete : Obligations.HostPortCommandsComplete := by
  and_intros <;> intros <;> exact completes_of_exec fun _ => rfl

/-- Settles O15: each row of the statement is the command's own row of `exec`. -/
theorem regionCommandsComplete : Obligations.RegionCommandsComplete := by
  and_intros <;> intros <;> exact completes_of_exec fun _ => rfl

/-- Settles O16: each row of the statement is the command's own row of `exec`. -/
theorem tideCommandsComplete : Obligations.TideCommandsComplete := by
  and_intros <;> intros <;> exact completes_of_exec fun _ => rfl

/-- Settles O17: each row of the statement is the command's own row of `exec`. -/
theorem twinCommandsComplete : Obligations.TwinCommandsComplete := by
  and_intros <;> intros <;> exact completes_of_exec fun _ => rfl

/-- Settles O18: each row of the statement is the command's own row of `exec`. -/
theorem transportCommandsComplete : Obligations.TransportCommandsComplete := by
  and_intros <;> intros <;> exact completes_of_exec fun _ => rfl

/-- Settles O19: each row of the statement is the command's own row of `exec`. -/
theorem packetAndMctpCommandsComplete : Obligations.PacketAndMctpCommandsComplete := by
  and_intros <;> intros <;> exact completes_of_exec fun _ => rfl

end Sys2Proof.Machine
end

section
/-! PROOF. Command packets (14_command_packets.md R541, R551): the checks in their order, and what a refusal leaves; REGION_QUERY and the MCTP
endpoint. -/
namespace Sys2Proof.Machine

/-! ### The checks in their order (R541) -/

section Sound
variable {op : Nat} {c : Cmd} (s : State) (d : CmdDef) (hcount : c.byteCount = 32 + c.len) (hlen : c.len ≤ 4096) (hcrc : c.crcOk op = true)
  (hver : c.ver = 1)
include hcount hlen hcrc hver

/-- A packet that is sound, of an opcode that is defined, with a fault in its header. -/
theorem State.checkCmd_of_headerFault {off : Nat} (hfault : c.headerFault (d.size c) = some off) :
    s.checkCmd op (some d) c = refuse St.badParam off s := by
  unfold State.checkCmd
  rw [if_neg (by simp [hcount, hlen]), if_neg (by simp [hcrc]), if_neg (by simp [hver])]
  simp only [hfault]

/-- A packet that is sound, of an opcode that a host carrier may not issue, from one. -/
theorem State.checkCmd_of_host {ld : Nat} (hheader : c.headerFault (d.size c) = none) (hld : s.hostLd c = some ld) (hhost : d.host = false) :
    s.checkCmd op (some d) c = refuse St.notPermitted 0 s := by
  unfold State.checkCmd
  rw [if_neg (by simp [hcount, hlen]), if_neg (by simp [hcrc]), if_neg (by simp [hver])]
  simp only [hheader, hld, hhost, Bool.false_eq_true, if_false]
  exact if_pos (by decide)

/-- A packet that is sound, of an opcode that is defined, from a management carrier: the token, the mode and the opcode's own part decide. -/
theorem State.checkCmd_of_mgmt (hheader : c.headerFault (d.size c) = none) (hmgmt : s.hostLd c = none) :
    s.checkCmd op (some d) c =
      if c.flags.getLsbD 0 && op ≠ 0x0601 && !s.tokenOk c.token then refuse St.claimStale 0 s
      else if (if !s.memActive && !earlyOp op then St.mode else d.mode c s) ≠ 0 then
        refuse (if !s.memActive && !earlyOp op then St.mode else d.mode c s) 0 s
      else d.run c s := by
  unfold State.checkCmd
  rw [if_neg (by simp [hcount, hlen]), if_neg (by simp [hcrc]), if_neg (by simp [hver])]
  simp only [hheader, hmgmt]
  exact if_neg (by decide)

end Sound

/-- Settles O26: each line of the statement is a branch of `State.checkCmd`. -/
theorem commandChecksInOrder : Obligations.CommandChecksInOrder := by
  intro op c s
  refine ⟨fun hbad => if_pos (by simpa using hbad), fun hcount hlen => ⟨fun hcrc => ?_, fun hcrc => ⟨fun hver => ?_, fun hver =>
    ⟨fun hnone => ?_, fun d hd => ⟨fun off hfault => ?_, fun hheader => ⟨fun ld hld hhost => ?_, fun hmgmt => ?_⟩⟩⟩⟩⟩⟩
  · unfold State.checkCmd
    rw [if_neg (by simp [hcount, hlen]), if_pos (by simp [hcrc])]
  · unfold State.checkCmd
    rw [if_neg (by simp [hcount, hlen]), if_neg (by simp [hcrc]), if_pos hver]
  · unfold State.checkCmd
    rw [if_neg (by simp [hcount, hlen]), if_neg (by simp [hcrc]), if_neg (by simp [hver]), hnone]
  · rw [hd, s.checkCmd_of_headerFault d hcount hlen hcrc hver hfault]
  · rw [hd, s.checkCmd_of_host d hcount hlen hcrc hver hheader hld hhost]
  · rw [hd, s.checkCmd_of_mgmt d hcount hlen hcrc hver hheader hmgmt]
    refine ⟨fun hflag hop htoken => if_pos (by rw [hflag, htoken]; simp [hop]), fun htoken => ?_⟩
    have hclaim : ¬ (c.flags.getLsbD 0 && op ≠ 0x0601 && !s.tokenOk c.token) = true := by
      rcases htoken with h | h | h <;> rw [h] <;> simp
    rw [if_neg hclaim]
    refine ⟨fun hmem hearly => ?_, fun hmem hmode => ?_, fun hmem hmode => ?_⟩
    · rw [hmem, hearly]
      rfl
    · rw [hmem]
      exact if_pos hmode
    · rw [hmem]
      exact if_neg (not_not.2 hmode)

/-! ### What a refusal leaves (R551) -/

/-- An answer is a refusal of the shared checks, or what the opcode's own part answers. -/
def State.RefusesOrRuns (s : State) (def_ : Option CmdDef) (c : Cmd) (r : CmdRes) : Prop :=
  (∃ st detail, r = refuse st detail s) ∨ ∃ d, def_ = some d ∧ r = d.run c s

theorem State.refusesOrRuns_check {s : State} {def_ : Option CmdDef} {c : Cmd} {p : Prop} [Decidable p] {st detail : Nat} {r : CmdRes}
    (hr : s.RefusesOrRuns def_ c r) : s.RefusesOrRuns def_ c (if p then refuse st detail s else r) := by
  split
  · exact .inl ⟨st, detail, rfl⟩
  · exact hr

theorem State.refusesOrRuns_checkCmd (s : State) (op : Nat) (def_ : Option CmdDef) (c : Cmd) :
    s.RefusesOrRuns def_ c (s.checkCmd op def_ c) := by
  unfold State.checkCmd
  refine refusesOrRuns_check (refusesOrRuns_check (refusesOrRuns_check ?_))
  cases def_ with
  | none => exact .inl ⟨_, _, rfl⟩
  | some d =>
    dsimp only
    split
    · exact .inl ⟨_, _, rfl⟩
    · exact refusesOrRuns_check (refusesOrRuns_check (refusesOrRuns_check (.inr ⟨d, rfl, rfl⟩)))

/-- Where the status is not SUCCESS the state is still `s`. -/
def CmdRes.Unchanged (s : State) (r : CmdRes) : Prop := r.status ≠ St.success → r.s = s

section Unchanged
variable {s t : State} {reply : List Byte}

theorem unchanged_refuse {st detail : Nat} : (refuse st detail s).Unchanged s := fun _ => rfl

theorem unchanged_done : (done t reply).Unchanged s := fun h => absurd rfl h

theorem unchanged_later {w : CmdWait} : (later t reply w).Unchanged s := fun h => absurd rfl h

theorem unchanged_ite {p : Prop} [Decidable p] {a b : CmdRes} (ha : a.Unchanged s) (hb : b.Unchanged s) :
    (if p then a else b).Unchanged s := by
  split
  · exact ha
  · exact hb

/-- The opcode's own checks refuse with the state at hand, so only what follows them matters. -/
theorem unchanged_guarded {cs : List (Bool × Nat × Nat)} {k : CmdRes} (hk : k.Unchanged s) : (guarded cs s k).Unchanged s := by
  unfold guarded
  split
  · exact unchanged_refuse
  · exact hk

theorem unchanged_regionDone {set : Nat} : (t.regionDone set reply).Unchanged s := unchanged_ite unchanged_later unchanged_done

end Unchanged

/-! ### The opcodes whose part splits on what it finds -/

section Opcodes
variable (c : Cmd) (s : State)

theorem unchanged_cmdRegionCreate : (cmdRegionCreate c s).Unchanged s := by
  refine unchanged_guarded ?_
  split
  · exact unchanged_regionDone
  · exact unchanged_refuse

theorem unchanged_cmdTableCreate : (cmdTableCreate c s).Unchanged s := by
  refine unchanged_guarded ?_
  split
  · exact unchanged_done
  · exact unchanged_refuse

theorem unchanged_cmdTableClose : (cmdTableClose c s).Unchanged s := by
  refine unchanged_guarded ?_
  split <;> exact unchanged_done

theorem unchanged_cmdSharerJoin : (cmdSharerJoin c s).Unchanged s := by
  refine unchanged_guarded ?_
  split
  · exact unchanged_done
  · exact unchanged_refuse

theorem unchanged_cmdCtxOpen : (cmdCtxOpen c s).Unchanged s := by
  refine unchanged_guarded ?_
  split
  · exact unchanged_refuse
  · exact unchanged_done

theorem unchanged_cmdCtxClose : (cmdCtxClose c s).Unchanged s := by
  unfold cmdCtxClose
  dsimp only
  split
  · exact unchanged_guarded unchanged_refuse
  · exact unchanged_guarded unchanged_later

theorem unchanged_cmdBerthOpen : (cmdBerthOpen c s).Unchanged s := by
  unfold cmdBerthOpen
  dsimp only
  split
  · exact unchanged_refuse
  · exact unchanged_guarded unchanged_done

theorem unchanged_cmdCheckStart : (cmdCheckStart c s).Unchanged s := by
  refine unchanged_guarded ?_
  split
  · exact unchanged_refuse
  · exact unchanged_done

theorem unchanged_cmdLoopStatus : (cmdLoopStatus c s).Unchanged s := by
  unfold cmdLoopStatus
  split
  · exact unchanged_refuse
  · exact unchanged_guarded unchanged_done

/-- LOOPBACK_SET changes nothing in a refusal but TST_LB_CTRL.LAST (21 R735, R749). -/
theorem cmdLoopSet_s (h : (cmdLoopSet c s).status ≠ St.success) : ∃ v, (cmdLoopSet c s).s = s.fset F.TST_LB_CTRL_LAST v := by
  unfold cmdLoopSet at h ⊢
  split
  · exact ⟨_, rfl⟩
  · next hfault =>
    rw [hfault] at h
    exact ⟨St.badParam, unchanged_guarded unchanged_done h⟩

/-- FW_VERIFY changes nothing in a refusal but the state of the staged image (R560). -/
theorem cmdFwVerify_s (h : (cmdFwVerify c s).status ≠ St.success) :
    (cmdFwVerify c s).s = (s.setCmd { s.cmd with staged := .failed }).setBit F.CMD_STATUS_FW_VERIFIED false := by
  unfold cmdFwVerify State.fwVerify at h ⊢
  dsimp only at h ⊢
  split at h
  · exact absurd rfl h
  · next himage => simp [himage, refuse]

end Opcodes

/-- Of the opcode's own parts only those of LOOPBACK_SET and FW_VERIFY change something in a refusal. -/
theorem unchanged_run_of_cmdTable {op : Nat} {d : CmdDef} (c : Cmd) (s : State) (hd : cmdTable op = some d) (hloop : op ≠ 0x0A01)
    (hverify : op ≠ 0x0B03) : (d.run c s).Unchanged s := by
  unfold cmdTable at hd
  split at hd <;> cases hd
  · exact unchanged_cmdRegionCreate c s
  · exact unchanged_guarded unchanged_regionDone -- REGION_SET_FLAGS
  · exact unchanged_guarded unchanged_regionDone -- REGION_DELETE
  · exact unchanged_guarded unchanged_regionDone -- REGION_DC_RELEASE
  · exact unchanged_guarded unchanged_done -- REGION_QUERY
  · exact unchanged_cmdTableCreate c s
  · exact unchanged_guarded unchanged_done -- TIDE_ENTRY_ADD
  · exact unchanged_guarded unchanged_done -- TIDE_TABLE_OPEN
  · exact unchanged_cmdTableClose c s
  · exact unchanged_cmdSharerJoin c s
  · exact unchanged_guarded unchanged_done -- TIDE_SHARER_LEAVE
  · exact unchanged_guarded unchanged_done -- TIDE_STEP_SET
  · exact unchanged_cmdCtxOpen c s
  · exact unchanged_cmdCtxClose c s
  · exact unchanged_cmdBerthOpen c s
  · exact unchanged_guarded unchanged_done -- UT_BERTH_CLOSE
  · exact unchanged_guarded unchanged_done -- UT_BERTH_RENEW
  · exact unchanged_guarded unchanged_done -- UT_DEST_SET
  · exact unchanged_cmdCheckStart c s
  · exact unchanged_guarded unchanged_done -- CHECK_STATUS
  · exact unchanged_guarded (unchanged_ite unchanged_later unchanged_done) -- CHECK_STOP
  · exact unchanged_guarded unchanged_later -- PACK_PROFILE_SET
  · exact unchanged_done -- PACK_REHEARSE
  · exact unchanged_guarded unchanged_later -- TWIN_GRANT
  · exact unchanged_guarded (unchanged_ite unchanged_done unchanged_later) -- TWIN_HANDOVER
  · exact unchanged_guarded unchanged_done -- ERR_LOG_READ
  · exact unchanged_guarded unchanged_done -- PAGE_RETIRE
  · exact unchanged_guarded unchanged_done -- RANK_SPARE
  · exact unchanged_done -- FLASH_SCRUB_NOW
  · exact unchanged_guarded unchanged_done -- MEM_CHANNEL_SET
  · exact unchanged_guarded unchanged_done -- SETTINGS_READ
  · exact unchanged_guarded unchanged_later -- SETTINGS_WRITE
  · exact unchanged_guarded unchanged_later -- KEY_SET_AT_REST
  · exact unchanged_done -- REC_INFO
  · exact unchanged_guarded unchanged_done -- REC_READ
  · exact absurd rfl hloop
  · exact unchanged_cmdLoopStatus c s
  · exact unchanged_done -- FW_INFO
  · exact unchanged_guarded unchanged_later -- FW_WRITE
  · exact absurd rfl hverify
  · exact unchanged_guarded unchanged_done -- FW_ACTIVATE
  · exact unchanged_guarded unchanged_later -- DRAM_FREQ_SET
  · exact unchanged_guarded unchanged_done -- POWER_STATE_SET

/-- Settles O25: a refusal by the checks changes nothing, and one by the opcode's own part only what the two opcodes record. -/
theorem refusedCommandChangesNothing : Obligations.RefusedCommandChangesNothing := by
  intro op c s
  obtain ⟨st, detail, hrefuse⟩ | ⟨d, hd, hrun⟩ := s.refusesOrRuns_checkCmd op (cmdTable op) c
  · rw [hrefuse]
    exact fun _ => ⟨fun _ _ => rfl, fun _ => .inl rfl, fun _ => .inl rfl⟩
  · rw [hrun]
    refine fun hstatus => ⟨fun hloop hverify => ?_, fun hloop => ?_, fun hverify => ?_⟩
    · exact unchanged_run_of_cmdTable c s hd hloop hverify hstatus
    · subst hloop
      cases hd
      exact .inr (cmdLoopSet_s c s hstatus)
    · subst hverify
      cases hd
      exact .inr (cmdFwVerify_s c s hstatus)

/-! ### REGION_QUERY -/

theorem State.hostLd_of_isMgmt {s : State} {c : Cmd} (h : s.isMgmt c.carrier = true) : s.hostLd c = none := by
  unfold State.hostLd
  split
  · exact if_pos h
  · rfl

theorem Cmd.headerFault_of_zero {c : Cmd} {size : Bool} (hsize : size = true) (hflags : c.flags = 0) (hreserved : c.reserved = 0) :
    c.headerFault size = none := by
  simp [Cmd.headerFault, hsize, hflags, hreserved]

/-- The part of REGION_QUERY: reserved bytes that are 0, then the entry or NOT_FOUND. -/
theorem cmdRegionQuery_of_mgmt {c : Cmd} {s : State} (hmgmt : s.hostLd c = none) (h2 : c.fld 2 1 = 0) (h3 : c.fld 3 1 = 0) :
    cmdRegionQuery c s =
      if 4096 ≤ c.fld 0 2 ∨ (s.region (c.fld 0 2)).state = .free then refuse St.notFound 0 s
      else done s (s.region (c.fld 0 2)).bytes16 := by
  have hzeros : c.zeros 2 2 = [param false 2, param false 3] := by simp [Cmd.zeros, List.range_succ, h2, h3]
  unfold cmdRegionQuery
  dsimp only
  rw [hmgmt, hzeros]
  split_ifs with hnone
  · simp [guarded, param, check, hnone]
  · simp [guarded, param, check, hnone]

/-- Settles O50: by O26 the opcode's own part decides. -/
theorem regionQueryAnswersTheEntry : Obligations.RegionQueryAnswersTheEntry := by
  intro s c hcount hlen hcrc hver hflags hreserved hcarrier hmem hpower h2 h3
  have hmgmt := State.hostLd_of_isMgmt hcarrier
  have hheader : c.headerFault (defRegionQuery.size c) = none :=
    Cmd.headerFault_of_zero (by simp [defRegionQuery, hlen]) hflags hreserved
  have hmode : defRegionQuery.mode c s = 0 := if_neg hpower
  obtain ⟨-, hsized⟩ := commandChecksInOrder 0x0105 c s
  obtain ⟨-, hsound⟩ := hsized hcount (by omega)
  obtain ⟨-, hversion⟩ := hsound hcrc
  obtain ⟨-, hknown⟩ := hversion hver
  obtain ⟨-, hfaultless⟩ := hknown defRegionQuery rfl
  obtain ⟨-, hpermitted⟩ := hfaultless hheader
  obtain ⟨-, hclaimed⟩ := hpermitted hmgmt
  obtain ⟨-, -, hdecides⟩ := hclaimed (.inl (by simp [hflags]))
  have hanswer := (hdecides hmem hmode).trans (cmdRegionQuery_of_mgmt hmgmt h2 h3)
  rw [hanswer]
  exact ⟨fun hin hused => if_neg (by simp [hin, hused]), fun hnone => if_pos hnone⟩

/-! ### The MCTP endpoint (R543) -/

theorem exec_mctpSetEndpointId (s : State) (eid : Nat) : exec (.mctpSetEndpointId eid) s = .next (s.mctpSet eid).settle := rfl

/-- Settles O55: an identifier in range is stored and answered, another is answered with the one that stands. -/
theorem mctpEndpointIsSet : Obligations.MctpEndpointIsSet := by
  intro s eid hup
  refine ⟨fun hlow hhigh hcalm => ⟨exec_of_calm (exec_mctpSetEndpointId s eid) hcalm, ?_⟩,
    fun hout hcalm => ⟨exec_of_calm (exec_mctpSetEndpointId s eid) hcalm, ?_⟩⟩
  · have hset : s.mctpSet eid = (s.setCmd { s.cmd with eid := eid }).emit (.mctp [0x01#8, 0x00#8, BitVec.ofNat 8 eid]) := by
      simp [State.mctpSet, hup, hlow, hhigh]
    rw [hset]
    exact ⟨rfl, rfl⟩
  · have hkept : s.mctpSet eid = s.emit (.mctp [0x01#8, 0x02#8, BitVec.ofNat 8 s.cmd.eid]) := by
      unfold State.mctpSet
      rw [if_neg (by simp [hup]), if_neg (by simp; omega)]
    rw [hkept]
    rfl

end Sys2Proof.Machine
end

section
/-! PROOF. The interrupt controller (16_interrupts_and_events.md R598, R601, R608, R609, R612): edges, configuration writes, claims and completes,
and the enable of a core. -/
namespace Sys2Proof.Machine

theorem State.whenOn_of_mainOn {s : State} {f : State → State} (hon : s.mainOn = true) : s.whenOn f = f s := if_pos hon

/-! ### Reserved sources (R598) -/

theorem validSource_lt {n : Nat} (h : validSource n = true) : n < 1024 := by
  simp only [validSource, Bool.or_eq_true, Bool.and_eq_true, decide_eq_true_eq] at h
  omega

theorem Icu.Wf.not_mem_pend {c : Icu} {n : Nat} (hc : c.Wf) (hn : validSource n = false) : n ∉ c.pend :=
  fun hmem => by simp [hc.pend n hmem] at hn

theorem Icu.Wf.isActive_eq_false {c : Icu} {n : Nat} (hc : c.Wf) (hn : validSource n = false) : c.isActive n = false := by
  refine List.any_eq_false.2 fun p hp => ?_
  have hvalid := hc.active p hp
  rintro h
  simp [← of_decide_eq_true h, hvalid] at hn

theorem State.icuPendSet_of_reserved {s : State} {n : Nat} (hn : validSource n = false) : s.icuPendSet n = s :=
  if_pos (by simp [hn])

theorem State.whenOn_icuPendSet_of_reserved {s : State} {n : Nat} (hn : validSource n = false) : s.whenOn (·.icuPendSet n) = s := by
  unfold State.whenOn
  split
  · exact State.icuPendSet_of_reserved hn
  · rfl

theorem exec_icuPendSet (s : State) (n : Nat) : exec (.icuPendSet n) s = .next (s.whenOn (·.icuPendSet n)).settle := rfl

/-- Settles O24: a run keeps the controller well formed, and a write of a reserved number finds nothing to do. -/
theorem reservedSourcesNeverPend : Obligations.ReservedSourcesNeverPend := by
  refine ⟨fun s t n src hs hrun hsrc => ?_, fun s src hcalm hsrc => ?_, by decide, fun _ => validSource_lt⟩
  · obtain ⟨hcanon, -⟩ := State.canon_lasts_of_runs hrun hs
    exact ⟨hcanon.icu.not_mem_pend hsrc, hcanon.icu.isActive_eq_false hsrc⟩
  · rw [exec_icuPendSet, State.whenOn_icuPendSet_of_reserved hsrc, hcalm]

/-! ### Edges (R601) -/

theorem Icu.edge_of_on {c : Icu} {n : Nat} (hon : c.mainOff = false) (hn : validSource n = true) :
    c.edge n = if c.en n then { c with pend := insNat n c.pend }.route else c := by
  simp [Icu.edge, hon, hn]

theorem State.sourceEdge_of_hardware {s : State} {n : Nat} (h : 16 < n) : s.sourceEdge n = s.raise n := if_neg (by omega)

theorem exec_sourceEdge (s : State) (n : Nat) : exec (.sourceEdge n) s = .next (s.whenOn (·.sourceEdge n)).settle := rfl

/-- Settles O29: with the island on the edge is one insertion into the pending sources, or nothing. -/
theorem sourceEdgeLatches : Obligations.SourceEdgeLatches := by
  intro s n hn hvalid hmain hon hcalm
  have heffect : s.whenOn (·.sourceEdge n) = s.raise n := by
    rw [State.whenOn_of_mainOn hmain, State.sourceEdge_of_hardware hn]
  have hexec : exec (.sourceEdge n) s = .next (s.raise n).settle := by rw [exec_sourceEdge, heffect]
  refine ⟨exec_of_calm hexec hcalm, rfl, ?_⟩
  rw [State.raise_icu, Icu.edge_of_on hon hvalid]
  cases s.icu.en n
  case false => exact ⟨rfl, nofun, rfl, rfl, rfl⟩
  case true => exact ⟨rfl, fun _ => mem_insNat (.inl rfl), rfl, rfl, rfl⟩

/-! ### Configuration writes (R601) -/

theorem State.icuSrcCfg_of_valid {s : State} {n : Nat} (v : Word32) (hn : validSource n = true) :
    s.icuSrcCfg n v = s.setIcu { s.icu with
      cfg := sput 0 s.icu.cfg n (v &&& 0x81FF000F)
      pend := if v.getLsbD 31 then s.icu.pend else s.icu.pend.filter (· ≠ n) }.route :=
  if_neg (by simp [hn])

theorem exec_icuSrcCfgWrite (s : State) (n : Nat) (v : Word32) :
    exec (.icuSrcCfgWrite n v) s = .next (s.whenOn (·.icuSrcCfg n v)).settle := rfl

theorem mem_filter_ne {α : Type} [DecidableEq α] {a b : α} {l : List α} : b ∈ l.filter (· ≠ a) ↔ b ∈ l ∧ b ≠ a := by simp

/-- Settles O30: the write stores the configuration, and with EN 0 takes the source out of the pending ones. -/
theorem sourceConfigWrite : Obligations.SourceConfigWrite := by
  intro s n v hn hmain hcalm
  have hexec : exec (.icuSrcCfgWrite n v) s = .next (s.icuSrcCfg n v).settle := by
    rw [exec_icuSrcCfgWrite, State.whenOn_of_mainOn hmain]
  refine ⟨exec_of_calm hexec hcalm, ?_⟩
  rw [State.icuSrcCfg_of_valid v hn]
  refine ⟨rfl, fun hoff => ?_, fun hen => ?_, rfl, rfl⟩
  · rw [State.setIcu_icu, Icu.route_pend, hoff]
    exact ⟨fun hmem => (mem_filter_ne.1 hmem).2 rfl, fun m hm => mem_filter_ne.trans (and_iff_left hm)⟩
  · rw [State.setIcu_icu, Icu.route_pend, hen]
    rfl

/-! ### Claims (R608) -/

section Claim
variable {s : State} {t : Nat}

/-- The source presented to target `t` can be claimed. -/
def State.Claimable (s : State) (t : Nat) : Prop :=
  sget 0 s.icu.presented t ≠ 0 ∧ sget 0 s.icu.presented t ∈ s.icu.cand ∧ s.icu.mayTake t (sget 0 s.icu.presented t) = true

theorem State.icuClaim_of_claimable (h : s.Claimable t) :
    s.icuClaim t = (sget 0 s.icu.presented t, s.setIcu { s.icu with
      pend := s.icu.pend.filter (· ≠ sget 0 s.icu.presented t)
      active := s.icu.active ++ [(sget 0 s.icu.presented t, t)]
      presented := sput 0 s.icu.presented t 0 }.route) := by
  obtain ⟨hne, hcand, hmay⟩ := h
  exact if_pos (by simp [hne, hcand, hmay])

theorem State.icuClaim_of_not_claimable (h : ¬ s.Claimable t) :
    s.icuClaim t = (0, s.bump F.ICU_ZERO_CLAIM_CNT_VALUE F.ICU_CNT_STATUS_ZERO_SAT 545) :=
  if_neg fun hc => h (by simpa [and_assoc, State.Claimable] using hc)

end Claim

/-- A 32-bit counter that is not about to reach its largest value goes up by one, and nothing else changes. -/
theorem State.bump_of_below {s : State} {cnt sat : Fld} (src : Nat) (hwidth : cnt.width = 32) (h : s.fget cnt + 1 < 2 ^ 32 - 1) :
    s.bump cnt sat src = s.fset cnt (s.fget cnt + 1) :=
  State.bump_below s src (by rw [hwidth]; omega) (by rw [hwidth]; omega)

theorem State.fget_bump_of_below {s : State} {cnt sat : Fld} (src : Nat) (hw : swf 0 s.regs = true) (hwidth : cnt.width = 32)
    (h : s.fget cnt + 1 < 2 ^ 32 - 1) : (s.bump cnt sat src).fget cnt = s.fget cnt + 1 := by
  rw [State.bump_of_below src hwidth h, State.fget_fset s _ _ hw, hwidth]
  exact Nat.mod_eq_of_lt (by omega)

/-- Settles O31: the claim moves the presented source from the pending to the active ones, or only counts. -/
theorem claimMakesSourceActive : Obligations.ClaimMakesSourceActive := by
  intro s t hw hcnt
  refine ⟨fun hne hcand hmay => ?_, fun hnot => ?_⟩
  · rw [State.icuClaim_of_claimable ⟨hne, hcand, hmay⟩]
    exact ⟨rfl, rfl, fun hmem => (mem_filter_ne.1 hmem).2 rfl, rfl, fun m hm => mem_filter_ne.trans (and_iff_left hm)⟩
  · have hnot : ¬ s.Claimable t := by
      rintro ⟨hne, hcand, hmay⟩
      simp [hne, hcand, hmay] at hnot
    rw [State.icuClaim_of_not_claimable hnot]
    exact ⟨rfl, State.bump_of_below _ rfl hcnt, State.fget_bump_of_below _ hw rfl hcnt⟩

/-! ### Completes (R609) -/

theorem State.icuComplete_of_active {s : State} {t n : Nat} (hn : n ≠ 0) (h : (n, t) ∈ s.icu.active) :
    s.icuComplete t n = s.setIcu { s.icu with active := s.icu.active.filter (· ≠ (n, t)) }.route := by
  unfold State.icuComplete
  rw [if_neg hn, if_pos (by simpa using h)]

theorem State.icuComplete_of_not_active {s : State} {t n : Nat} (hn : n ≠ 0) (h : (n, t) ∉ s.icu.active) :
    s.icuComplete t n = s.bump F.ICU_BAD_COMPLETE_CNT_VALUE F.ICU_CNT_STATUS_BADC_SAT 546 := by
  unfold State.icuComplete
  rw [if_neg hn, if_neg (by simpa using h)]

/-- Settles O32: a complete takes the pair of source and target out of the active ones, or only counts. -/
theorem completeEndsSource : Obligations.CompleteEndsSource := by
  intro s t n hw hcnt
  refine ⟨rfl, fun hn hactive => ?_, fun hn hnot => ?_⟩
  · rw [State.icuComplete_of_active hn hactive]
    exact ⟨rfl, fun hmem => (mem_filter_ne.1 hmem).2 rfl, rfl, fun p hp => mem_filter_ne.trans (and_iff_left hp)⟩
  · rw [State.icuComplete_of_not_active hn hnot]
    exact ⟨State.bump_of_below _ rfl hcnt, State.fget_bump_of_below _ hw rfl hcnt⟩

/-! ### Interrupts at a core (R612) -/

theorem exec_interruptEntry (s : State) (k : Nat) : exec (.interruptEntry k) s = .next (s.interruptEntry k).settle := rfl

theorem exec_interruptReturn (s : State) (k : Nat) : exec (.interruptReturn k) s = .next (s.interruptReturn k).settle := rfl

section Core
variable {s : State} {k : Nat} (hruns : s.coreRuns k = true) (hjoin : s.inJoin k = false) (hwait : (s.coreAt k).wait = none)
include hruns hjoin hwait

theorem State.interruptEntry_of_presented (hie : (s.coreAt k).ie = true) (hpresented : sget 0 s.icu.presented k ≠ 0) :
    s.interruptEntry k = s.putCore k { s.coreAt k with ie := false } :=
  if_pos (by simp [hruns, hjoin, hwait, hie, hpresented])

theorem State.interruptReturn_of_runs : s.interruptReturn k = s.putCore k { s.coreAt k with ie := true } :=
  if_pos (by simp [hruns, hjoin, hwait])

end Core

/-- Settles O57: the conditions of both commands hold, so each writes the enable of the core. -/
theorem interruptEntryAndReturn : Obligations.InterruptEntryAndReturn := by
  refine fun s k hruns hjoin hwait => ⟨fun hie hpresented hcalm => ?_, fun hcalm => ?_, fun b => ⟨rfl, rfl⟩⟩
  · rw [exec_interruptEntry, State.interruptEntry_of_presented hruns hjoin hwait hie hpresented, hcalm]
  · rw [exec_interruptReturn, State.interruptReturn_of_runs hruns hjoin hwait, hcalm]

end Sys2Proof.Machine
end

section
/-! PROOF. Resets, the reference clock and the crystal (17_clocks_reset_and_startup.md R628, R629, R635, R636): the state after reset, what a
main-island reset restores, and the three status bits of the clocks. -/
namespace Sys2Proof.Machine

/-! ### The state after reset (R636) -/

/-- Settles O3, by evaluating the state after reset. -/
theorem resetIsCanonical : Obligations.ResetIsCanonical := by
  refine ⟨⟨by decide +kernel, by decide +kernel, rfl, rfl, rfl, rfl, rfl, rfl, rfl, Icu.wf_nil rfl rfl⟩, rfl, rfl, ?_⟩
  exact State.calm_of_none (by decide +kernel) (Option.isNone_iff_eq_none.1 (by decide +kernel))

/-- Settles O4, by reading each field from the state after reset. -/
theorem resetGivesTableValues : Obligations.ResetGivesTableValues :=
  ⟨by decide +kernel, by decide +kernel, by decide +kernel, by decide +kernel, by decide +kernel, by decide +kernel, by decide +kernel,
    by decide +kernel, by decide +kernel, by decide +kernel⟩

/-! ### The register store after a main-island reset (R635) -/

theorem sget_sputAll_of_ne {α : Type} [DecidableEq α] {d : α} {k : Nat} (kvs m : SMap α) (h : ∀ kv ∈ kvs, k ≠ kv.1) :
    sget d (sputAll d m kvs) k = sget d m k :=
  kvs.foldlRecOn _ (motive := fun a : SMap α => sget d a k = sget d m k) rfl fun a ha kv hkv => (sget_sput_ne (h kv hkv) kv.2 a).trans ha

/-- Only keys of the AON island are carried over a reset, so any other reads its power-on value. -/
theorem sget_resetRegs {k : Nat} (regs : SMap Nat) (hk : aonOff (k / 64) = false) : sget 0 (resetRegs regs) k = sget 0 mainResets k := by
  refine sget_sputAll_of_ne _ _ fun kv hkv hkey => ?_
  have haon : aonOff (kv.1 / 64) = true := (List.mem_filter.1 hkv).2
  rw [← hkey, hk] at haon
  cases haon

theorem Fld.key_div {f : Fld} (hlo : f.lo < 64) : f.key / 64 = f.off := by
  unfold Fld.key
  omega

/-- A field of the main island is none of the AON island. -/
theorem Fld.key_ne_of_aonOff {f g : Fld} (hlo : f.lo < 64) (hglo : g.lo < 64) (hoff : aonOff f.off = false) (hgoff : aonOff g.off = true) :
    f.key ≠ g.key := by
  intro hkey
  have hsame : f.off = g.off := by rw [← Fld.key_div hlo, ← Fld.key_div hglo, hkey]
  rw [hsame, hgoff] at hoff
  cases hoff

/-! ### The end of an epoch and of a rehearsal -/

/-- What a main-island reset keeps wholly or in part: the test block, the settings and the flash tier. -/
def State.resetKept (s : State) : Test × Settings × Flash := (s.test, s.sets, s.flash)

theorem State.resetKept_ite {c : Prop} [Decidable c] {s t u : State} (ht : t.resetKept = s.resetKept) (hu : u.resetKept = s.resetKept) :
    (if c then t else u).resetKept = s.resetKept := by
  split
  · exact ht
  · exact hu

theorem State.resetKept_writeRecord (s : State) (reasons : Nat) : (s.writeRecord reasons).resetKept = s.resetKept :=
  State.resetKept_ite rfl rfl

theorem State.resetKept_openEpoch (s : State) : s.openEpoch.resetKept = s.resetKept := by
  have hpeak : (s.setBit F.REC_STATUS_OPEN true).recPeak.resetKept = s.resetKept := State.resetKept_ite rfl rfl
  exact State.resetKept_ite rfl (State.resetKept_ite hpeak hpeak)

/-- Closing an epoch of the recorder touches the recorder, its registers and its sources. -/
theorem State.resetKept_closeEpoch (s : State) (why : Nat) : (s.closeEpoch why).resetKept = s.resetKept := by
  refine State.resetKept_ite rfl (State.resetKept_ite (State.resetKept_ite rfl rfl) ?_)
  have hrecord := State.resetKept_writeRecord (s.setBit F.REC_STATUS_OPEN false) (s.recd.epoch.reasons ||| 2 ^ why)
  exact State.resetKept_ite ((State.resetKept_openEpoch _).trans hrecord) hrecord

theorem State.endReh_eq (s : State) : s.endReh = { s with regs := s.endReh.regs, epc := s.endReh.epc } := by
  unfold State.endReh
  split <;> rfl

/-- The end of a rehearsal writes fields of the AON island only. -/
theorem State.fget_endReh {s : State} {f : Fld} (hlo : f.lo < 64) (hoff : aonOff f.off = false) : s.endReh.fget f = s.fget f := by
  unfold State.endReh
  split
  · rfl
  · rw [State.fget_setBit_ne _ _ (Fld.key_ne_of_aonOff hlo (by decide) hoff rfl), State.setHold,
      State.fget_setBit_ne _ _ (Fld.key_ne_of_aonOff hlo (by decide) hoff rfl)]
    rfl

theorem State.endReh_wf {s : State} (hw : swf 0 s.regs = true) : swf 0 s.endReh.regs = true := by
  unfold State.endReh
  split
  · exact hw
  · exact State.setBit_wf _ _ _ (State.setBit_wf _ _ _ hw)

/-! ### A main-island reset -/

/-- What a main-island reset clears and what it keeps, before the last register writes. -/
structure State.Cleared (s t : State) : Prop where
  regs : ∃ old, t.regs = resetRegs old
  tide : t.tide = []
  sharers : t.sharers = []
  copies : t.copies = []
  ute : t.ute = Ute.reset
  test : t.test = { s.test with slots := [] }
  sets : t.sets = s.sets
  data : t.flash.data = s.flash.data

/-- A main-island reset ends a rehearsal on the cleared state, then writes TAP_ACTIVE and CAUSE. -/
theorem State.mainReset_eq (s : State) (cause : Nat) : ∃ t active,
    s.mainReset cause = (t.endReh.setBit F.TST_STATUS_TAP_ACTIVE active).fset F.CLK_RESET_CAUSE_CAUSE cause ∧ s.Cleared t := by
  obtain ⟨htest, hrest⟩ := Prod.mk.inj ((s.setIcu s.icu.main).resetKept_closeEpoch 2)
  obtain ⟨hsets, hflash⟩ := Prod.mk.inj hrest
  have hdata := congrArg Flash.data hflash
  refine ⟨_, _, rfl, ⟨_, rfl⟩, rfl, rfl, rfl, rfl, ?_, hsets, hdata⟩
  exact congrArg (fun x : Test => { x with slots := [] }) htest

/-- Settles O40: the store is reset, and the writes that follow it go to fields of the AON island and to TAP_ACTIVE. -/
theorem mainResetRestoresRegisters : Obligations.MainResetRestoresRegisters := by
  intro s cause
  obtain ⟨t, active, hreset, ⟨old, hregs⟩, htide, hsharers, hcopies, hute, htest, hsets, hdata⟩ := s.mainReset_eq cause
  have hw : swf 0 t.regs = true := hregs ▸ swf_resetRegs old
  have hframe : s.mainReset cause = { t with regs := (s.mainReset cause).regs, epc := t.endReh.epc } := by
    rw [hreset, State.endReh_eq]
    rfl
  refine ⟨fun f hlo hoff htap => ?_, ?_⟩
  · have hcause : f.key ≠ F.CLK_RESET_CAUSE_CAUSE.key := Fld.key_ne_of_aonOff hlo (by decide) hoff rfl
    rw [hreset, State.fget_fset_ne _ _ hcause, State.fget_setBit_ne _ _ htap, State.fget_endReh hlo hoff, State.fget, hregs]
    exact sget_resetRegs old (by rwa [Fld.key_div hlo])
  · have hcause : (s.mainReset cause).fget F.CLK_RESET_CAUSE_CAUSE = cause % 2 ^ F.CLK_RESET_CAUSE_CAUSE.width := by
      rw [hreset]
      exact State.fget_fset _ _ _ (State.setBit_wf _ _ _ (State.endReh_wf hw))
    have hslots : t.test.slots = [] := by rw [htest]
    have htap : t.test.tap = s.test.tap := by rw [htest]
    rw [hframe]
    exact ⟨htide, hsharers, hcopies, hute, hslots, htap, hsets, hdata, hcause⟩

/-! ### The reference clock (R628) -/

theorem exec_refClockLoss (s : State) : exec .refClockLoss s = .next s.refLoss.settle := rfl

theorem exec_refClockRestored (s : State) : exec .refClockRestored s = .next (s.setBit F.CLK_STATUS_REF_LOST false).settle := rfl

theorem State.refLoss_eq (s : State) :
    s.refLoss =
      if s.clk.inReset || s.bit F.CLK_STATUS_REF_LOST then s
      else (((s.setClk { s.clk with refLostAt := s.now }).setBit F.CLK_STATUS_REF_LOST true).bump F.CLK_REF_LOSS_CNT_VALUE
        F.CLK_CNT_STATUS_REF_LOSS_SAT 565).raise 562 := rfl

/-- A loss that does not saturate the count sets REF_LOST, counts one and raises CLK_REF_LOST (source 562). -/
theorem State.refLoss_of_present {s : State} (hreset : s.clk.inReset = false) (hlost : s.bit F.CLK_STATUS_REF_LOST = false)
    (hcnt : s.fget F.CLK_REF_LOSS_CNT_VALUE + 1 < 2 ^ 32 - 1) :
    s.refLoss = (((s.setClk { s.clk with refLostAt := s.now }).setBit F.CLK_STATUS_REF_LOST true).fset F.CLK_REF_LOSS_CNT_VALUE
      (s.fget F.CLK_REF_LOSS_CNT_VALUE + 1)).raise 562 := by
  have hkept : ((s.setClk { s.clk with refLostAt := s.now }).setBit F.CLK_STATUS_REF_LOST true).fget F.CLK_REF_LOSS_CNT_VALUE =
      s.fget F.CLK_REF_LOSS_CNT_VALUE := State.fget_setBit_ne _ _ (by decide)
  rw [State.refLoss_eq, if_neg (by simp [hreset, hlost]), State.bump_of_below _ rfl (by rwa [hkept]), hkept]

/-- Settles O38: the loss writes REF_LOST, then the count, which is another field, and ends in the edge of its source. -/
theorem referenceClockLoss : Obligations.ReferenceClockLoss := by
  intro s hw
  refine ⟨fun hreset hlost hcnt hcalm => ⟨exec_of_calm (exec_refClockLoss s) hcalm, ?_⟩,
    fun hcalm => ⟨exec_of_calm (exec_refClockRestored s) hcalm, State.bit_setBit _ _ _ hw rfl⟩⟩
  rw [State.refLoss_of_present hreset hlost hcnt]
  refine ⟨?_, ?_, fun hon hen => ?_, ?_, rfl⟩
  · rw [State.bit_raise, State.bit, State.fget_fset_ne _ _ (by decide)]
    exact State.bit_setBit _ _ _ hw rfl
  · refine (State.fget_fset _ _ _ (State.setBit_wf _ _ _ hw)).trans ?_
    exact Nat.mod_eq_of_lt (lt_of_lt_of_le hcnt (Nat.sub_le _ _))
  · rw [State.raise_icu, State.fset_icu, State.setBit_icu, State.setClk_icu, Icu.pend_edge_of_en hon hen (by decide)]
    exact mem_insNat (.inl rfl)
  · exact ((SameFieldsBut.refl _ s).setBit true (.head _)).fset _ (.tail _ (.head _))

/-! ### The crystal (R629) -/

theorem exec_xtalStop (s : State) : exec .xtalStop s = .next s.xtalStop.settle := rfl

theorem exec_xtalRecover (s : State) : exec .xtalRecover s = .next s.xtalBack.settle := rfl

theorem State.xtalStop_of_runs {s : State} (hruns : s.clk.xtalAt = 0) :
    s.xtalStop = ((s.setClk { s.clk with xtalAt := s.now + 1 }).setBit F.CLK_STATUS_XTAL_FAIL true).raise 564 :=
  if_neg (not_not.2 hruns)

/-- Settles O39: a stop writes XTAL_FAIL and ends in the edge of its source; the return writes XTAL_FAIL alone. -/
theorem crystalStopAndReturn : Obligations.CrystalStopAndReturn := by
  intro s hw
  refine ⟨fun hruns hcalm => ⟨exec_of_calm (exec_xtalStop s) hcalm, ?_⟩, fun hcalm => ⟨exec_of_calm (exec_xtalRecover s) hcalm, ?_⟩⟩
  · rw [State.xtalStop_of_runs hruns]
    refine ⟨State.bit_setBit _ _ _ hw rfl, fun hon hen => ?_, (SameFieldsBut.refl _ s).setBit true (.head _), rfl⟩
    rw [State.raise_icu, State.setBit_icu, State.setClk_icu, Icu.pend_edge_of_en hon hen (by decide)]
    exact mem_insNat (.inl rfl)
  · exact ⟨State.bit_setBit _ _ _ hw rfl, (SameFieldsBut.refl _ s).setBit false (.head _), rfl⟩

end Sys2Proof.Machine
end

section
/-! PROOF. Settings writes and the recorder (18_settings_cells_and_recorder.md R658, R660, R664, R671): the queue of a bank, a write that
completes, and the one arming of the recorder. -/
namespace Sys2Proof.Machine

/-! ### The queue of a bank (R658, R660) -/

/-- A write that arrives is put between the writes that wait, whose order stays. -/
theorem placeWrite_eq_append (x : SetWrite) (l : List SetWrite) : ∃ before after, placeWrite x l = before ++ x :: after ∧ l = before ++ after := by
  induction l with
  | nil => exact ⟨[], [], rfl, rfl⟩
  | cons y t ih =>
    unfold placeWrite
    split
    · exact ⟨[], y :: t, rfl, rfl⟩
    · obtain ⟨before, after, hplaced, hrest⟩ := ih
      exact ⟨y :: before, after, congrArg _ hplaced, congrArg _ hrest⟩

section Bank
variable {cell : Nat → Nat} {now bank : Nat}

/-- A bank passes the writes of the others by. -/
theorem issueFrom_append {before : List SetWrite} (l : List SetWrite) (hother : ∀ x ∈ before, x.word % 16 ≠ bank) :
    issueFrom cell now bank (before ++ l) = before ++ issueFrom cell now bank l := by
  induction before with
  | nil => rfl
  | cons y t ih =>
    rw [List.forall_mem_cons] at hother
    rw [List.cons_append, issueFrom, if_pos hother.1, ih hother.2, List.cons_append]

theorem issueFrom_of_other_banks {l : List SetWrite} (hother : ∀ x ∈ l, x.word % 16 ≠ bank) : issueFrom cell now bank l = l := by
  have hpassed := issueFrom_append (cell := cell) (now := now) [] hother
  simpa [issueFrom] using hpassed

section Placed
variable {x : SetWrite} {l : List SetWrite} (hbank : x.word % 16 = bank) (hwaits : x.issued = none) (hcycle : x.cycle < epcCycle now)
  (hother : ∀ y ∈ l, y.word % 16 ≠ bank)
include hbank hwaits hcycle hother

/-- The only write of a bank, once the EPC cycle of its arrival has ended: one of the stored value is dropped. -/
theorem issueFrom_placeWrite_of_eq (hvalue : x.value.toNat = cell x.word) : issueFrom cell now bank (placeWrite x l) = l := by
  obtain ⟨before, after, hplaced, rfl⟩ := placeWrite_eq_append x l
  rw [List.forall_mem_append] at hother
  rw [hplaced, issueFrom_append _ hother.1, issueFrom, if_neg (not_not.2 hbank), if_neg (by simp [hwaits, hcycle]), if_pos hvalue,
    issueFrom_of_other_banks hother.2]

/-- One of another value issues. -/
theorem mem_issueFrom_placeWrite_of_ne (hvalue : x.value.toNat ≠ cell x.word) :
    { x with issued := some now } ∈ issueFrom cell now bank (placeWrite x l) := by
  obtain ⟨before, after, hplaced, rfl⟩ := placeWrite_eq_append x l
  rw [List.forall_mem_append] at hother
  rw [hplaced, issueFrom_append _ hother.1, issueFrom, if_neg (not_not.2 hbank), if_neg (by simp [hwaits, hcycle]), if_neg hvalue]
  exact List.mem_append_right _ List.mem_cons_self

end Placed
end Bank

/-- A bank without a frozen word in its queue loses no write. -/
theorem State.sets_dropFrozen {s : State} {bank : Nat} (hopen : ∀ x ∈ s.sets.writes, x.word % 16 = bank → s.frozenWord x.word = false) :
    (s.dropFrozen bank).sets = s.sets := by
  have hgone : (s.sets.writes.filter fun x => x.word % 16 = bank && x.issued.isNone && s.frozenWord x.word) = [] :=
    List.filter_eq_nil_iff.2 fun x hx => by
      by_cases hbank : x.word % 16 = bank
      · simp [hopen x hx hbank]
      · simp [hbank]
  have hkept : (s.sets.writes.filter fun x => !([] : List SetWrite).contains x) = s.sets.writes := by simp
  unfold State.dropFrozen
  dsimp only
  rw [hgone, hkept]
  rfl

theorem State.dropFrozen_now (s : State) (bank : Nat) : (s.dropFrozen bank).now = s.now :=
  List.foldlRecOn _ _ (motive := fun a : State => a.now = s.now) rfl fun _ ha _ _ => (State.bump_now _ _ _ _).trans ha

/-- Serving a bank without a frozen word in its queue is `issueFrom` on the queue. -/
theorem State.sets_issueBank {s : State} {bank : Nat} (hopen : ∀ x ∈ s.sets.writes, x.word % 16 = bank → s.frozenWord x.word = false) :
    (s.issueBank bank).sets = { s.sets with writes := issueFrom s.cell s.now bank s.sets.writes } := by
  have hsets := State.sets_dropFrozen hopen
  have hcell : (s.dropFrozen bank).cell = s.cell := by
    unfold State.cell
    rw [hsets]
  change { (s.dropFrozen bank).sets with
    writes := issueFrom (s.dropFrozen bank).cell (s.dropFrozen bank).now bank (s.dropFrozen bank).sets.writes } = _
  rw [hcell, State.dropFrozen_now, hsets]

/-- The state in which the bank of a write that was queued at `s` is served, at time `n`. -/
def State.servedAt (s : State) (w v n : Nat) (main : Bool) : State := { s.queueWord w v main with now := n }

theorem State.sets_servedAt (s : State) (w v n : Nat) (main : Bool) : (s.servedAt w v n main).sets =
    { s.sets with writes := placeWrite ⟨w, BitVec.ofNat 32 v, epcCycle s.now, main, none⟩ s.sets.writes } := rfl

/-- Of the queue of its bank a word that is not frozen is the only one. -/
theorem State.not_frozen_servedAt {s : State} {w v n : Nat} {main : Bool} (hw : s.frozenWord w = false)
    (hother : ∀ x ∈ s.sets.writes, x.word % 16 ≠ w % 16) {x : SetWrite} (hx : x ∈ (s.servedAt w v n main).sets.writes)
    (hbank : x.word % 16 = w % 16) : (s.servedAt w v n main).frozenWord x.word = false := by
  change s.frozenWord x.word = false
  obtain ⟨before, after, hplaced, hrest⟩ := placeWrite_eq_append ⟨w, BitVec.ofNat 32 v, epcCycle s.now, main, none⟩ s.sets.writes
  rw [State.sets_servedAt] at hx
  dsimp only at hx
  rw [hplaced, List.mem_append, List.mem_cons] at hx
  rcases hx with hx | rfl | hx
  · exact absurd hbank (hother x (hrest ▸ List.mem_append_left _ hx))
  · exact hw
  · exact absurd hbank (hother x (hrest ▸ List.mem_append_right _ hx))

/-- Settles O35: the write is the only one of its bank, so serving the bank drops it or issues it and leaves the other writes. -/
theorem equalSettingsWriteIsNotIssued : Obligations.EqualSettingsWriteIsNotIssued := by
  intro s w v n main hw hv hother hcycle
  have hserved := State.sets_issueBank (s := s.servedAt w v n main) (bank := w % 16) fun x hx hbank =>
    State.not_frozen_servedAt hw hother hx hbank
  have hvalue : (BitVec.ofNat 32 v).toNat = v := (BitVec.toNat_ofNat v 32).trans (Nat.mod_eq_of_lt hv)
  refine ⟨fun heq => ?_, fun hne => ?_⟩
  · refine hserved.trans ?_
    have hdropped := issueFrom_placeWrite_of_eq (cell := s.cell) (now := n) (x := ⟨w, BitVec.ofNat 32 v, epcCycle s.now, main, none⟩) rfl rfl
      hcycle hother (hvalue.trans heq)
    exact congrArg (fun l => { s.sets with writes := l }) hdropped
  · change _ ∈ ((s.servedAt w v n main).issueBank (w % 16)).sets.writes
    rw [hserved]
    exact mem_issueFrom_placeWrite_of_ne (cell := s.cell) (now := n) (x := ⟨w, BitVec.ofNat 32 v, epcCycle s.now, main, none⟩) rfl rfl hcycle
      hother fun h => hne (hvalue.symm.trans h)

/-! ### A write that completes (R658, R664) -/

/-- Only settings, registers and sources differ. -/
def State.SettingsOnly (s t : State) : Prop := t = { s with sets := t.sets, regs := t.regs, icu := t.icu }

theorem State.SettingsOnly.trans {s t u : State} (hst : s.SettingsOnly t) (htu : t.SettingsOnly u) : s.SettingsOnly u := by
  unfold State.SettingsOnly at *
  rw [htu, hst]

theorem State.settingsOnly_ite {s t u : State} {c : Prop} [Decidable c] (ht : s.SettingsOnly t) (hu : s.SettingsOnly u) :
    s.SettingsOnly (if c then t else u) := by
  split
  · exact ht
  · exact hu

theorem State.settingsOnly_bump (s : State) (cnt sat : Fld) (src : Nat) : s.SettingsOnly (s.bump cnt sat src) :=
  State.settingsOnly_ite rfl (State.settingsOnly_ite rfl rfl)

theorem State.settingsOnly_setWrites (s : State) (l : List SetWrite) (g : List GroupWrite) : s.SettingsOnly (s.setWrites l g) := rfl

/-- What the array holds: the stored words and their counters. -/
def State.array (s : State) : SMap Nat × SMap Nat := (s.sets.cells, s.sets.counts)

theorem State.dropFrozen_keeps_array (s : State) (bank : Nat) : s.SettingsOnly (s.dropFrozen bank) ∧ (s.dropFrozen bank).array = s.array := by
  refine List.foldlRecOn _ _ (motive := fun a : State => s.SettingsOnly a ∧ a.array = s.array) ⟨rfl, rfl⟩ fun a ha _ _ => ?_
  obtain ⟨honly, harray⟩ := ha
  refine ⟨honly.trans (a.settingsOnly_bump _ _ _), Eq.trans ?_ harray⟩
  simp [State.array, State.denied]

theorem State.issueBank_keeps_array (s : State) (bank : Nat) : s.SettingsOnly (s.issueBank bank) ∧ (s.issueBank bank).array = s.array := by
  obtain ⟨honly, harray⟩ := s.dropFrozen_keeps_array bank
  exact ⟨honly.trans (State.settingsOnly_setWrites _ _ _), harray⟩

/-- A word that is not frozen is stored together with its counter. -/
theorem State.storeCell_of_open {s : State} {w : Nat} (v : Nat) (hw : s.frozenWord w = false) :
    s.SettingsOnly (s.storeCell w v) ∧
      (s.storeCell w v).array = (sput 0 s.sets.cells w v, sput 0 s.sets.counts w (s.wcount w + 1)) := by
  unfold State.storeCell
  rw [if_neg (by simp [hw])]
  dsimp only
  split_ifs <;> exact ⟨rfl, rfl⟩

theorem exec_settingsWriteDone (s : State) (w : Nat) : exec (.settingsWriteDone w) s = .next (s.setWriteDone w).settle := rfl

section Done
variable {s : State} {w t0 : Nat} {x : SetWrite} (hx : s.sets.writes.find? (fun y => y.word = w && y.issued.isSome) = some x)
  (ht0 : x.issued = some t0) (hdue : t0 + ns 2100 ≤ s.now)
include hx ht0 hdue

theorem State.setWriteDone_of_due :
    s.setWriteDone w = ((s.storeCell w x.value.toNat).setWrites (s.sets.writes.erase x) s.sets.groups).issueBank (w % 16) := by
  unfold State.setWriteDone
  rw [hx]
  dsimp only
  rw [ht0]
  exact if_neg (by omega)

theorem State.setWriteDone_stores (hw : s.frozenWord w = false) :
    s.SettingsOnly (s.setWriteDone w) ∧
      (s.setWriteDone w).array = (sput 0 s.sets.cells w x.value.toNat, sput 0 s.sets.counts w (s.wcount w + 1)) := by
  obtain ⟨hstored, harray⟩ := State.storeCell_of_open x.value.toNat hw
  have hissued := ((s.storeCell w x.value.toNat).setWrites (s.sets.writes.erase x) s.sets.groups).issueBank_keeps_array (w % 16)
  rw [State.setWriteDone_of_due hx ht0 hdue]
  exact ⟨(hstored.trans (State.settingsOnly_setWrites _ _ _)).trans hissued.1, hissued.2.trans harray⟩

end Done

/-- Settles O36: the completion stores the word and its counter, and serving the bank afterwards leaves the array. -/
theorem settingsWriteDone : Obligations.SettingsWriteDone := by
  intro s w t0 x hs hx ht0 hdue hw hcalm
  obtain ⟨honly, harray⟩ := State.setWriteDone_stores hx ht0 hdue hw
  obtain ⟨hcells, hcounts⟩ := Prod.mk.inj harray
  have hcell u : (s.setWriteDone w).cell u = sget 0 (sput 0 s.sets.cells w x.value.toNat) u := congrArg (sget 0 · u) hcells
  have hcount u : (s.setWriteDone w).wcount u = sget 0 (sput 0 s.sets.counts w (s.wcount w + 1)) u := congrArg (sget 0 · u) hcounts
  refine ⟨exec_of_calm (exec_settingsWriteDone s w) hcalm, ?_, ?_, fun u hu => ⟨?_, ?_⟩, honly⟩
  · rw [hcell, sget_sput w _ _ hs.cells]
  · rw [hcount, sget_sput w _ _ hs.counts]
  · exact (hcell u).trans (sget_sput_ne hu _ _)
  · exact (hcount u).trans (sget_sput_ne hu _ _)

/-! ### The recorder (R671) -/

theorem exec_recorderArm (s : State) : exec .recorderArm s = .next (s.writeProd 127 (2 ^ 31)).settle := rfl

theorem State.writeProd_of_armed {s : State} (harmed : s.armed = true) : s.writeProd 127 (2 ^ 31) = s := if_neg (by simp [harmed])

theorem State.writeProd_of_not_armed {s : State} (harmed : s.armed = false) :
    s.writeProd 127 (2 ^ 31) = ({ s with recd := Recorder.reset } : State).setBit F.REC_STATUS_ARMED true := by
  unfold State.writeProd
  rw [if_pos (by rw [harmed]; decide)]
  exact if_neg (by simp [harmed])

/-- Settles O37: an armed recorder stays as it is, another is started empty. -/
theorem recorderArmsOnce : Obligations.RecorderArmsOnce := by
  refine fun s hw => ⟨fun harmed hcalm => ?_, fun harmed hcalm => ⟨?_, ?_⟩⟩
  · rw [exec_recorderArm, State.writeProd_of_armed harmed, hcalm]
  · rw [exec_recorderArm, State.writeProd_of_not_armed harmed, hcalm]
  · exact State.bit_setBit _ _ _ hw rfl

end Sys2Proof.Machine
end

section
/-! PROOF. The register map, the watchdogs and the TAP (15_control_complex.md R594; 19_register_space.md R689, R696; 21_test_loopback_and_debug.md
R745, R746): accesses of another width or alignment, a write to CCX_WDOG, and instructions of the TAP. -/
namespace Sys2Proof.Machine

/-! ### Accesses of another width or alignment (R689, R696) -/

theorem exec_registerWrite (s : State) (ag off : Nat) (bs : List Byte) :
    exec (.registerWrite ag off bs) s = .next (s.regWrite ag off bs).settle := rfl

theorem exec_readSnapshot (s : State) (ag off size : Nat) : exec (.readSnapshot ag off size) s = .next (s.regRead ag off size).settle := rfl

/-- Only an LD wakes the device by its access (R708). -/
theorem State.ldWakes_of_not_ld {s : State} {ag : Nat} (hag : 64 ≤ ag) : s.ldWakes ag = s :=
  if_neg (by simp [Nat.not_lt.2 hag])

/-- Settles O34: the read of the map answers zeros and the state at hand. -/
theorem illSizedReadReturnsZeros : Obligations.IllSizedReadReturnsZeros := by
  intro s ag off size hreach hag hsize hcalm
  have hread : s.regRead ag off size = s.emit (.regData ag (List.replicate size 0) (regLat ag off)) := by
    unfold State.regRead State.mapRead
    rw [if_neg (by simp [hreach]), State.ldWakes_of_not_ld hag, if_pos (by simp [hsize])]
  rw [exec_readSnapshot, hread, hcalm]

/-- The agent's snapshot and stage emptied, as every access leaves them. -/
def State.quietAgent (s : State) (ag : Nat) : State := s.setAgent ag { s.agent ag with snap := none, stage := none }

theorem State.regWrite_of_ill_sized {s : State} {ag off : Nat} {bs : List Byte} (hreach : s.mapReach ag off = true) (hag : 64 ≤ ag)
    (hsize : ¬ ((bs.length = 4 ∨ bs.length = 8) ∧ off % bs.length = 0)) : s.regWrite ag off bs = (s.quietAgent ag).ignoreWrite ag off 2 := by
  unfold State.regWrite State.mapWrite
  rw [if_neg (by simp [hreach]), State.ldWakes_of_not_ld hag]
  exact if_pos (by simpa [← not_or, ← not_and_or] using hsize)

/-- An ignored write is counted. -/
def State.ignoredCounted (s : State) : State := s.fset F.GEN_IGN_WR_CNT_VALUE (s.fget F.GEN_IGN_WR_CNT_VALUE + 1)

/-- The first ignored write is recorded in GEN_IGN_LAST besides. -/
def State.ignoredFirst (s : State) (ag off cause : Nat) : State :=
  ((((s.ignoredCounted.fset F.GEN_IGN_LAST_CAUSE cause).fset F.GEN_IGN_LAST_AGENT ag).fset F.GEN_IGN_LAST_OFFSET off).setBit
    F.GEN_IGN_LAST_VALID true).raise 22

/-- The fields that an ignored write may change while its count is not about to saturate. -/
def ignoredFields : List Fld :=
  [F.GEN_IGN_WR_CNT_VALUE, F.GEN_IGN_LAST_VALID, F.GEN_IGN_LAST_CAUSE, F.GEN_IGN_LAST_AGENT, F.GEN_IGN_LAST_OFFSET]

section Ignored
variable {s : State} {ag off cause : Nat}

theorem State.bit_valid_ignoredCounted (s : State) : s.ignoredCounted.bit F.GEN_IGN_LAST_VALID = s.bit F.GEN_IGN_LAST_VALID := by
  rw [State.ignoredCounted, State.bit, State.bit, State.fget_fset_ne _ _ (by decide)]

section Below
variable (hcnt : s.fget F.GEN_IGN_WR_CNT_VALUE + 1 < 2 ^ 32 - 1)
include hcnt

theorem State.ignoreWrite_of_recorded (hvalid : s.bit F.GEN_IGN_LAST_VALID = true) : s.ignoreWrite ag off cause = s.ignoredCounted := by
  unfold State.ignoreWrite
  rw [State.bump_of_below _ rfl hcnt]
  exact if_pos (s.bit_valid_ignoredCounted.trans hvalid)

theorem State.ignoreWrite_of_first (hvalid : s.bit F.GEN_IGN_LAST_VALID = false) :
    s.ignoreWrite ag off cause = s.ignoredFirst ag off cause := by
  unfold State.ignoreWrite
  rw [State.bump_of_below _ rfl hcnt]
  exact if_neg (Bool.not_eq_true _ ▸ s.bit_valid_ignoredCounted.trans hvalid)

end Below

section Fields
variable (hw : swf 0 s.regs = true)
include hw

theorem State.ignoredCounted_wf : swf 0 s.ignoredCounted.regs = true := State.fset_wf _ _ _ hw

theorem State.fget_count_ignoredCounted (hcnt : s.fget F.GEN_IGN_WR_CNT_VALUE + 1 < 2 ^ 32 - 1) :
    s.ignoredCounted.fget F.GEN_IGN_WR_CNT_VALUE = s.fget F.GEN_IGN_WR_CNT_VALUE + 1 :=
  (State.fget_fset _ _ _ hw).trans (Nat.mod_eq_of_lt (lt_of_lt_of_le hcnt (Nat.sub_le _ _)))

theorem State.bit_valid_ignoredFirst : (s.ignoredFirst ag off cause).bit F.GEN_IGN_LAST_VALID = true :=
  State.bit_setBit _ _ _ (State.fset_wf _ _ _ (State.fset_wf _ _ _ (State.fset_wf _ _ _ (State.ignoredCounted_wf hw)))) rfl

theorem State.fget_cause_ignoredFirst : (s.ignoredFirst ag off cause).fget F.GEN_IGN_LAST_CAUSE = cause % 4 := by
  unfold State.ignoredFirst
  rw [State.fget_raise, State.fget_setBit_ne _ _ (by decide), State.fget_fset_ne _ _ (by decide), State.fget_fset_ne _ _ (by decide)]
  exact State.fget_fset _ _ _ (State.ignoredCounted_wf hw)

theorem State.fget_offset_ignoredFirst : (s.ignoredFirst ag off cause).fget F.GEN_IGN_LAST_OFFSET = off % 2 ^ 26 := by
  unfold State.ignoredFirst
  rw [State.fget_raise, State.fget_setBit_ne _ _ (by decide)]
  exact State.fget_fset _ _ _ (State.fset_wf _ _ _ (State.fset_wf _ _ _ (State.ignoredCounted_wf hw)))

end Fields

theorem State.fget_count_ignoredFirst (s : State) (ag off cause : Nat) :
    (s.ignoredFirst ag off cause).fget F.GEN_IGN_WR_CNT_VALUE = s.ignoredCounted.fget F.GEN_IGN_WR_CNT_VALUE := by
  unfold State.ignoredFirst
  rw [State.fget_raise, State.fget_setBit_ne _ _ (by decide), State.fget_fset_ne _ _ (by decide), State.fget_fset_ne _ _ (by decide),
    State.fget_fset_ne _ _ (by decide)]

theorem State.sameFieldsBut_ignoredCounted (s : State) : SameFieldsBut ignoredFields s s.ignoredCounted :=
  (SameFieldsBut.refl ignoredFields s).fset _ (.head _)

theorem State.sameFieldsBut_ignoredFirst (s : State) (ag off cause : Nat) : SameFieldsBut ignoredFields s (s.ignoredFirst ag off cause) :=
  (((s.sameFieldsBut_ignoredCounted.fset cause (by simp [ignoredFields])).fset ag (by simp [ignoredFields])).fset off
    (by simp [ignoredFields])).setBit true (by simp [ignoredFields])

/-- What a register access may change: the registers, the interrupt controller and the agents. -/
def State.RegistersOnly (s t : State) : Prop := t = { s with regs := t.regs, icu := t.icu, agents := t.agents }

theorem State.RegistersOnly.trans {s t u : State} (hst : s.RegistersOnly t) (htu : t.RegistersOnly u) : s.RegistersOnly u := by
  unfold State.RegistersOnly at *
  rw [htu, hst]

theorem State.registersOnly_fset (s : State) (f : Fld) (v : Nat) : s.RegistersOnly (s.fset f v) := rfl

theorem State.registersOnly_raise (s : State) (n : Nat) : s.RegistersOnly (s.raise n) := rfl

theorem State.registersOnly_quietAgent (s : State) (ag : Nat) : s.RegistersOnly (s.quietAgent ag) := rfl

theorem State.registersOnly_ignoredCounted (s : State) : s.RegistersOnly s.ignoredCounted := State.registersOnly_fset _ _ _

theorem State.registersOnly_ignoredFirst (s : State) (ag off cause : Nat) : s.RegistersOnly (s.ignoredFirst ag off cause) :=
  ((((s.registersOnly_ignoredCounted.trans (State.registersOnly_fset _ _ _)).trans (State.registersOnly_fset _ _ _)).trans
    (State.registersOnly_fset _ _ _)).trans (State.registersOnly_fset _ _ _)).trans (State.registersOnly_raise _ _)

end Ignored

/-- Settles O33: the agent is made quiet, the count rises, and the first ignored write is recorded. -/
theorem illSizedWriteIsIgnored : Obligations.IllSizedWriteIsIgnored := by
  intro s ag off bs hw hreach hag hsize hoff hcnt hcalm
  refine ⟨exec_of_calm (exec_registerWrite s ag off bs) hcalm, ?_⟩
  rw [State.regWrite_of_ill_sized hreach hag hsize]
  have hquiet : swf 0 (s.quietAgent ag).regs = true := hw
  have hcount := State.fget_count_ignoredCounted hquiet hcnt
  cases hvalid : s.bit F.GEN_IGN_LAST_VALID
  case true =>
    rw [State.ignoreWrite_of_recorded (s := s.quietAgent ag) hcnt hvalid]
    exact ⟨(s.registersOnly_quietAgent ag).trans (State.registersOnly_ignoredCounted _), hcount, nofun, (s.quietAgent ag).sameFieldsBut_ignoredCounted⟩
  case false =>
    rw [State.ignoreWrite_of_first (s := s.quietAgent ag) hcnt hvalid]
    exact ⟨(s.registersOnly_quietAgent ag).trans (State.registersOnly_ignoredFirst _ _ _ _),
      ((s.quietAgent ag).fget_count_ignoredFirst ag off 2).trans hcount,
      fun _ => ⟨State.bit_valid_ignoredFirst hquiet, State.fget_cause_ignoredFirst hquiet,
        (State.fget_offset_ignoredFirst hquiet).trans (Nat.mod_eq_of_lt hoff)⟩,
      (s.quietAgent ag).sameFieldsBut_ignoredFirst ag off 2⟩

/-! ### A write to CCX_WDOG (R594) -/

theorem exec_watchdogKick (s : State) (k : Nat) (v : Word32) : exec (.watchdogKick k v) s = .next (s.wdogKick k v).settle := rfl

theorem State.wdogKick_of_core {s : State} {k : Nat} (v : Word32) (hk : k ≤ 8) (hreset : s.clk.inReset = false) :
    s.wdogKick k v =
      ((s.setBit (F.CCX_WDOG_EN k) (v.getLsbD 31)).fset (F.CCX_WDOG_PERIOD k) (v.toNat % 2 ^ 24)).putCore k { s.coreAt k with kick := s.now } :=
  if_neg (by simp [hreset, Nat.not_lt.2 hk])

/-- Writing a core writes two fields of its CCX_CACHE_STATUS. -/
theorem State.fget_putCore (s : State) {k : Nat} (c : Core) {g : Fld} (hzp : g.key ≠ (F.CCX_CACHE_STATUS_ZP k).key)
    (hlocked : g.key ≠ (F.CCX_CACHE_STATUS_LOCKED k).key) : (s.putCore k c).fget g = s.fget g := by
  unfold State.putCore
  rw [State.fget_fset_ne _ _ hlocked, State.fget_fset_ne _ _ hzp]
  rfl

/-- The fields of CCX_WDOG are none of CCX_CACHE_STATUS, of whatever core. -/
theorem State.fget_wdog_putCore (s : State) (j k : Nat) (c : Core) :
    (s.putCore k c).fget (F.CCX_WDOG_EN j) = s.fget (F.CCX_WDOG_EN j) ∧
      (s.putCore k c).fget (F.CCX_WDOG_PERIOD j) = s.fget (F.CCX_WDOG_PERIOD j) := by
  constructor <;> refine State.fget_putCore s c ?_ ?_ <;>
    simp only [Fld.key, F.CCX_WDOG_EN, F.CCX_WDOG_PERIOD, F.CCX_CACHE_STATUS_ZP, F.CCX_CACHE_STATUS_LOCKED] <;> omega

theorem Fld.key_wdogPeriod_ne_wdogEn (j k : Nat) : (F.CCX_WDOG_PERIOD j).key ≠ (F.CCX_WDOG_EN k).key := by
  simp only [Fld.key, F.CCX_WDOG_PERIOD, F.CCX_WDOG_EN]
  omega

theorem Fld.key_wdogPeriod_ne {j k : Nat} (h : j ≠ k) : (F.CCX_WDOG_PERIOD j).key ≠ (F.CCX_WDOG_PERIOD k).key := by
  simp only [Fld.key, F.CCX_WDOG_PERIOD]
  omega

/-- Settles O56: the write stores EN and PERIOD of the core, then the core with its period begun now. -/
theorem watchdogWriteRestartsPeriod : Obligations.WatchdogWriteRestartsPeriod := by
  intro s k v hs hk hreset hcalm
  refine ⟨exec_of_calm (exec_watchdogKick s k v) hcalm, ?_⟩
  rw [State.wdogKick_of_core v hk hreset]
  refine ⟨?_, ?_, rfl, fun j _ hj => ⟨sget_sput_ne hj _ _, ?_⟩, rfl⟩
  · rw [State.bit, (State.fget_wdog_putCore _ _ _ _).1, State.fget_fset_ne _ _ (Fld.key_wdogPeriod_ne_wdogEn k k).symm]
    exact State.bit_setBit _ _ _ hs.regs rfl
  · rw [(State.fget_wdog_putCore _ _ _ _).2, State.fget_fset _ _ _ (State.setBit_wf _ _ _ hs.regs)]
    exact Nat.mod_mod _ _
  · rw [(State.fget_wdog_putCore _ _ _ _).2, State.fget_fset_ne _ _ (Fld.key_wdogPeriod_ne hj),
      State.fget_setBit_ne _ _ (Fld.key_wdogPeriod_ne_wdogEn j k)]

/-! ### Instructions of the TAP (R745, R746) -/

theorem State.tapTest_of_inReset {s : State} (i : TapInstr) (hreset : s.clk.inReset = true) : s.tapTest i = s.tapLoad i := if_pos hreset

theorem State.tapTest_of_not_inReset {s : State} (i : TapInstr) (hreset : s.clk.inReset = false) :
    s.tapTest i = (s.tapLoad .bypass).setBit F.TST_STATUS_JTAG_HELD true :=
  if_neg (by simp [hreset])

theorem State.tapLoad_wf {s : State} (i : TapInstr) (hw : swf 0 s.regs = true) : swf 0 (s.tapLoad i).regs = true :=
  State.setBit_wf _ _ _ (State.setBit_wf _ _ _ hw)

theorem State.bit_held_tapLoad {s : State} (i : TapInstr) (hw : swf 0 s.regs = true) : (s.tapLoad i).bit F.TST_STATUS_JTAG_HELD = false :=
  State.bit_setBit _ _ _ (State.setBit_wf _ _ _ hw) rfl

theorem State.sameFieldsBut_tapLoad (s : State) (i : TapInstr) :
    SameFieldsBut [F.TST_STATUS_TAP_ACTIVE, F.TST_STATUS_JTAG_HELD] s (s.tapLoad i) :=
  ((SameFieldsBut.refl _ s).setBit true (.head _)).setBit false (.tail _ (.head _))

/-- Each of the eight commands loads its instruction. -/
theorem exec_of_mem_testInstructions {c : Sys2Proof.Instr} {i : TapInstr} (s : State)
    (h : (c, i) ∈ [(Sys2Proof.Instr.jtagExtest, TapInstr.extest), (.jtagExtestPulse, .extestPulse), (.jtagExtestTrain, .extestTrain),
      (.jtagHighz, .highz), (.jtagClamp, .clamp), (.jtagScan, .scan), (.jtagMbist, .mbist), (.jtagHbm1500, .hbm1500)]) :
    exec c s = .next (s.tapTest i).settle := by
  simp only [List.mem_cons, List.not_mem_nil, or_false, Prod.mk.injEq] at h
  rcases h with ⟨rfl, rfl⟩ | ⟨rfl, rfl⟩ | ⟨rfl, rfl⟩ | ⟨rfl, rfl⟩ | ⟨rfl, rfl⟩ | ⟨rfl, rfl⟩ | ⟨rfl, rfl⟩ | ⟨rfl, rfl⟩ <;> rfl

/-- Settles O58: the island in reset decides whether the instruction is loaded, or BYPASS in its place with JTAG_HELD set. -/
theorem testInstructionsAreHeld : Obligations.TestInstructionsAreHeld := by
  intro s c i hc hw hcalm
  refine ⟨exec_of_calm (exec_of_mem_testInstructions s hc) hcalm, ?_⟩
  cases hreset : s.clk.inReset
  case false =>
    rw [State.tapTest_of_not_inReset i hreset]
    exact ⟨fun _ => ⟨rfl, State.bit_setBit _ _ _ (State.tapLoad_wf _ hw) rfl⟩, nofun,
      (s.sameFieldsBut_tapLoad .bypass).setBit true (.tail _ (.head _)), rfl⟩
  case true =>
    rw [State.tapTest_of_inReset i hreset]
    exact ⟨nofun, fun _ => ⟨rfl, State.bit_held_tapLoad i hw⟩, s.sameFieldsBut_tapLoad i, rfl⟩

theorem exec_jtagIdcode (s : State) : exec .jtagIdcode s = .next s.tapIdcode.settle := rfl

/-- The fields of the IDCODE word. -/
theorem idcode_fields : idcode / 2 ^ 28 = 0xB ∧ idcode / 2 ^ 12 % 2 ^ 16 = 0x6400 ∧ idcode / 2 % 2 ^ 11 = Config.obdonCode.toNat % 2 ^ 11 := by
  have hcode : Config.obdonCode.toNat < 2 ^ 11 := Config.obdonCode.isLt
  unfold idcode
  omega

/-- Settles O59: the TAP loads IDCODE and sends the word. -/
theorem idcodeIsShiftedOut : Obligations.IdcodeIsShiftedOut :=
  fun s hcalm => ⟨exec_of_calm (exec_jtagIdcode s) hcalm, rfl, ⟨idcode, rfl, idcode_fields⟩, rfl⟩

end Sys2Proof.Machine
end
